-- ==== Sys2Proof/Word.lean ====
section
/-! DEFINITION. The word types of the machine (R2, R21, R22, R25, R36): plain bit vectors of the spec's widths. -/

namespace Sys2Proof

/-- A scalar register, a pointer, a control register: 64 bits (R21, R23, R26). -/
abbrev Word := BitVec 64
/-- A byte of memory. -/
abbrev Byte := BitVec 8
/-- An instruction word (R36). -/
abbrev IWord := BitVec 32
/-- A vector register: 512 bytes (R22). -/
abbrev VWord := BitVec 4096
/-- A mask register: 1,024 bits (R25). -/
abbrev MWord := BitVec 1024

/-- Number of an x register (R44). -/
abbrev XReg := BitVec 5
/-- Number of a v register (R44). -/
abbrev VReg := BitVec 5
/-- Number of an address register (R44). -/
abbrev AReg := BitVec 4
/-- Number of a mask register (R44). -/
abbrev MReg := BitVec 3

end Sys2Proof
end

