-- ==== Sys2Proof/Syntax.lean ====
section
/-! DEFINITION. The instructions and steps of the part: one constructor per row of the opcode table.
Instruction words carry the fields their format gives them (R43 to R53). Steps of the part that have no
word (95_what_each_step_holds.md) carry the place they happen at, and, where they come from outside the
package, the input itself. -/

namespace Sys2Proof

/-- Element types, TY 0 to 6 (R47). -/
inductive Ty where
  | i8 | i16 | i32 | i4 | f16 | bf16 | f32
  deriving DecidableEq, Repr, Inhabited

/-- Conditions of FCMP and VCMP, 0 to 7 (R47). -/
inductive Cond where
  | eq | ne | lt | le | gt | ge | unord | ord
  deriving DecidableEq, Repr, Inhabited

/-- Scopes, 0 to 11 (R289). -/
inductive Scope where
  | thread | core | team | group | die | package | host | job | tenant | pod | io | system
  deriving DecidableEq, Repr, Inhabited

/-- Kinds of FENCE, 1 to 3 (R51, R293). -/
inductive FenceKind where
  | acq | rel | full
  deriving DecidableEq, Repr, Inhabited

/-- Kinds of an invocation, 0 to 3 (R218). -/
inductive InvKind where
  | g | m | h | p
  deriving DecidableEq, Repr, Inhabited

/-- A flit of the Stawit link as it stands on the wire (R344): its 256 bytes, byte 0 in the low bits. -/
abbrev LinkFlit := BitVec 2048

/-- A training sequence received on a lane (R341): the sender's node, EN and DIR. -/
structure TrainSeq where
  node : BitVec 11
  en : BitVec 8
  dir : BitVec 8
  deriving DecidableEq, Repr, Inhabited

/-- One constructor per row of the opcode table. `site` is a site code (R11), `thr` a thread slot, `msg` the
position of a message among those in flight, `k` the position of an entry in the queue the step serves. -/
inductive Instr where
  -- SYS (R115 to R117, R293, R366, R380)
  | nop
  | trap (code : BitVec 10)
  | eret
  | idle
  | fence (sc : Scope) (kind : FenceKind)
  | drainnt (sc : Scope)
  | rgn
  | rgnend
  | brk (code : BitVec 10)
  | tmark (s : XReg) (code : BitVec 10)
  -- control registers (R106, R107)
  | crr (x : XReg) (cr : BitVec 12)
  | crw (x : XReg) (cr : BitVec 12)
  | crset (x : XReg) (cr : BitVec 12)
  | crclr (x : XReg) (cr : BitVec 12)
  -- YIELD, REP (R109, R111)
  | yield (dl : BitVec 8) (xm : XReg)
  | rep (xc : XReg) (imm : BitVec 6) (ds s1s s2s : BitVec 3)
  -- control transfer (R104)
  | j (off : BitVec 24)
  | jal (off : BitVec 24)
  | jalr (d s : XReg) (imm : BitVec 10)
  | beq (s t : XReg) (off : BitVec 14)
  | bne (s t : XReg) (off : BitVec 14)
  | blt (s t : XReg) (off : BitVec 14)
  | bge (s t : XReg) (off : BitVec 14)
  | bltu (s t : XReg) (off : BitVec 14)
  | bgeu (s t : XReg) (off : BitVec 14)
  | bany (m : MReg) (off : BitVec 14)
  | bnone (m : MReg) (off : BitVec 14)
  -- loads and stores (R158)
  | lds (d : XReg) (a : AReg) (xi : XReg) (la : BitVec 4) (sz mode : BitVec 3)
  | sts (s : XReg) (a : AReg) (xi : XReg) (sz mode : BitVec 3)
  | ldv (d : VReg) (a : AReg) (xi : BitVec 5) (la : BitVec 4) (sz mode : BitVec 3)
  | stv (s : VReg) (a : AReg) (xi : BitVec 5) (sz mode : BitVec 3)
  | stnt (s : VReg) (a : AReg) (xi : BitVec 5) (sz mode : BitVec 3)
  -- full-empty (R164)
  | ldfe (d : XReg) (a : AReg) (la : BitVec 4) (mode : BitVec 2)
  | stfe (s : XReg) (a : AReg) (mode : BitVec 2)
  -- atomics (R167 to R169)
  | atomAdd (d : XReg) (a : AReg) (x : XReg) (sc : Scope) (ord : BitVec 2)
  | atomAnd (d : XReg) (a : AReg) (x : XReg) (sc : Scope) (ord : BitVec 2)
  | atomOr (d : XReg) (a : AReg) (x : XReg) (sc : Scope) (ord : BitVec 2)
  | atomXor (d : XReg) (a : AReg) (x : XReg) (sc : Scope) (ord : BitVec 2)
  | atomMin (d : XReg) (a : AReg) (x : XReg) (sc : Scope) (ord : BitVec 2)
  | atomMax (d : XReg) (a : AReg) (x : XReg) (sc : Scope) (ord : BitVec 2)
  | atomMinu (d : XReg) (a : AReg) (x : XReg) (sc : Scope) (ord : BitVec 2)
  | atomMaxu (d : XReg) (a : AReg) (x : XReg) (sc : Scope) (ord : BitVec 2)
  | atomSwap (d : XReg) (a : AReg) (x : XReg) (sc : Scope) (ord : BitVec 2)
  | atomCas (d : XReg) (a : AReg) (x : XReg) (sc : Scope) (ord : BitVec 2)
  | atomMaxrst (d : XReg) (a : AReg) (x : XReg) (sc : Scope) (ord : BitVec 2)
  | atomFadd (d : XReg) (a : AReg) (x : XReg) (sc : Scope) (ord : BitVec 2)
  | atomFmax (d : XReg) (a : AReg) (x : XReg) (sc : Scope) (ord : BitVec 2)
  | atomFmaxrst (d : XReg) (a : AReg) (x : XReg) (sc : Scope) (ord : BitVec 2)
  -- address registers (R98)
  | amov (ad asrc : AReg)
  | anarrow (ad asrc : AReg) (xb xr : XReg)
  | aadd (ad asrc : AReg) (xo : XReg)
  | asetp (ad asrc : AReg) (xp : XReg)
  | agetp (asrc : AReg) (x : XReg)
  | agetb (asrc : AReg) (x : XReg)
  | agetl (asrc : AReg) (x : XReg)
  | aperm (asrc : AReg) (x : XReg)
  | amake (ad : AReg) (xb xr : XReg)
  | aaddi (ad asrc : AReg) (imm : BitVec 16)
  -- copies and tags (R174, R183)
  | copy (ad asrc : AReg) (xl : XReg) (tag : BitVec 6) (cpa : BitVec 2)
  | copy2d (ad asrc : AReg) (xl : XReg) (tag : BitVec 6) (cpa : BitVec 2)
  | copymc (ad asrc : AReg) (xl : XReg) (tag : BitVec 6) (cpa : BitVec 2)
  | copygt (ad asrc : AReg) (xl : XReg) (tag : BitVec 6) (cpa : BitVec 2)
  | waitany (d s : XReg)
  | waitall (s : XReg)
  | tfirst (d s : XReg)
  | tclr (s : XReg)
  | tget (d s : XReg)
  -- matrix engine (R192, R197, R200, R203)
  | mjob (d s : XReg)
  | mtile (xc : XReg) (opA opB : BitVec 6) (tb ta : Bool) (mode : BitVec 2)
  | mwait (d s : XReg) (la : BitVec 4)
  | mstat (d s : XReg)
  | mcancel (s : XReg)
  | acst (xp xc xl : XReg) (la : BitVec 4)
  | acstb (xp xc xl : XReg) (la : BitVec 4)
  | acld (xp xc xl : XReg) (la : BitVec 4)
  | aczero (xc : XReg)
  | acstsc (xp xc xl : XReg) (la : BitVec 4)
  -- invocations, handles (R218, R272)
  | inv (d xt : XReg) (va : VReg) (tag : BitVec 6) (kind : InvKind) (sticky : Bool)
  | invx (d xt : XReg) (va : VReg) (tag : BitVec 6) (kind : InvKind) (sticky : Bool)
  | hwait (d xh xf : XReg) (la : BitVec 4)
  | hwaitv (d : VReg) (xh xf : XReg) (la : BitVec 4)
  | htest (d xh : XReg)
  | hfree (xh : XReg)
  | hreply (xt xv : XReg)
  | hreplyv (xt : XReg) (vs : VReg)
  | hbreak (xt xc : XReg)
  -- activations, readiness (R216, R256)
  | done
  | tgon (s : XReg)
  | tgoff (s : XReg)
  | tgset (s : XReg)
  | tgclr (s : XReg)
  | ready (xc xn : XReg)
  | unready (xc xn : XReg)
  | rdyq (d xc : XReg) (la : BitVec 4)
  -- register stores and holds (R241, R242)
  | rstv (vs : VReg) (xt : XReg) (tag : BitVec 6) (n : VReg) (release : Bool)
  | vhold (n : VReg)
  | vhclr (n : VReg)
  | vhtest (d : XReg)
  -- barriers (R282)
  | barr (s : XReg)
  | barw (s : XReg)
  | barrw (s : XReg)
  | barwd (s : XReg)
  | barq (d s : XReg)
  -- launch, multicast (R302, R171)
  | kickTeam (d s a : XReg)
  | kickGroup (d s a : XReg)
  | mcast (vs : VReg) (a : AReg) (xset : XReg) (tag : BitVec 6) (size : BitVec 2) (ordered : Bool)
  -- groups (R243), privileged
  | gnew (d s : XReg)
  | gplace (d s t : XReg)
  | gadd (d s t : XReg)
  | gdrop (d s t : XReg)
  | gpark (d s : XReg)
  | grun (d s : XReg)
  | gmove (d s t : XReg)
  | gend (d s t : XReg)
  | barcfg (d s t : XReg)
  -- system (R317, R330, R335, R357, R365, R371), privileged
  | tlbinv (s t : XReg)
  | ckpt (d s : XReg)
  | errclr (d s : XReg)
  | coreret (d s t : XReg)
  | mapsetStat (d s t : XReg)
  | mapsetLoad (d s t : XReg)
  | mapsetSwitch (d s t : XReg)
  | mapsetOpen (d s t : XReg)
  | keyslotStat (d s : XReg)
  | keyslotGen (d s : XReg)
  | keyslotErase (d s : XReg)
  | icinv (s t : XReg)
  -- scalar integer (R94, R96)
  | add (d s t : XReg)
  | sub (d s t : XReg)
  | and (d s t : XReg)
  | or (d s t : XReg)
  | xor (d s t : XReg)
  | sll (d s t : XReg)
  | srl (d s t : XReg)
  | sra (d s t : XReg)
  | slt (d s t : XReg)
  | sltu (d s t : XReg)
  | mul (d s t : XReg)
  | mulh (d s t : XReg)
  | mulhu (d s t : XReg)
  | div (d s t : XReg)
  | divu (d s t : XReg)
  | rem (d s t : XReg)
  | remu (d s t : XReg)
  | min (d s t : XReg)
  | max (d s t : XReg)
  | minu (d s t : XReg)
  | maxu (d s t : XReg)
  | clz (d s : XReg)
  | ctz (d s : XReg)
  | popc (d s : XReg)
  | addi (d s : XReg) (imm : BitVec 13)
  | andi (d s : XReg) (imm : BitVec 13)
  | ori (d s : XReg) (imm : BitVec 13)
  | xori (d s : XReg) (imm : BitVec 13)
  | slli (d s : XReg) (sh : BitVec 6)
  | srli (d s : XReg) (sh : BitVec 6)
  | srai (d s : XReg) (sh : BitVec 6)
  | slti (d s : XReg) (imm : BitVec 13)
  | lui (d : XReg) (imm : BitVec 13)
  | lcat (d : XReg) (imm : BitVec 13)
  -- scalar F32 (R97)
  | fadd (d s t : XReg) (fl : BitVec 2)
  | fsub (d s t : XReg) (fl : BitVec 2)
  | fmul (d s t : XReg) (fl : BitVec 2)
  | fma (d s t u : XReg)
  | fdiv (d s t : XReg) (fl : BitVec 2)
  | fsqrt (d s : XReg) (fl : BitVec 2)
  | fmin (d s t : XReg)
  | fmax (d s t : XReg)
  | fcmp (d s t : XReg) (cond : Cond)
  | fcvti (d s : XReg) (fl : BitVec 2)
  | fcvtf (d s : XReg) (fl : BitVec 2)
  -- vector (R120 to R134)
  | vadd (d s t : VReg) (ty : Ty) (mk : MReg) (fl : BitVec 2)
  | vsub (d s t : VReg) (ty : Ty) (mk : MReg) (fl : BitVec 2)
  | vmul (d s t : VReg) (ty : Ty) (mk : MReg) (fl : BitVec 2)
  | vma (d s t u : VReg) (ty : Ty)
  | vmin (d s t : VReg) (ty : Ty) (mk : MReg) (fl : BitVec 2)
  | vmax (d s t : VReg) (ty : Ty) (mk : MReg) (fl : BitVec 2)
  | vand (d s t : VReg) (ty : Ty) (mk : MReg) (fl : BitVec 2)
  | vor (d s t : VReg) (ty : Ty) (mk : MReg) (fl : BitVec 2)
  | vxor (d s t : VReg) (ty : Ty) (mk : MReg) (fl : BitVec 2)
  | vsll (d s t : VReg) (ty : Ty) (mk : MReg) (fl : BitVec 2)
  | vsrl (d s t : VReg) (ty : Ty) (mk : MReg) (fl : BitVec 2)
  | vsra (d s t : VReg) (ty : Ty) (mk : MReg) (fl : BitVec 2)
  | vabs (d s : VReg) (ty : Ty) (mk : MReg) (fl : BitVec 2)
  | vneg (d s : VReg) (ty : Ty) (mk : MReg) (fl : BitVec 2)
  | vcmp (md : MReg) (s t : VReg) (cond : Cond) (ty : Ty) (u : Bool)
  | vsel (d s t : VReg) (ty : Ty) (mk : MReg)
  | vmov (d s : VReg) (ty : Ty) (mk : MReg)
  | vbcast (d : VReg) (s : XReg) (ty : Ty) (mk : MReg)
  | vins (d : VReg) (s t : XReg) (ty : Ty)
  | vext (d : XReg) (s : VReg) (t : XReg) (ty : Ty) (u : Bool)
  | vwadd (d s t : VReg) (ty : Ty) (mk : MReg) (fl : BitVec 2)
  | vwmul (d s t : VReg) (ty : Ty) (mk : MReg) (fl : BitVec 2)
  | vwma (d s t : VReg) (ty : Ty) (mk : MReg) (fl : BitVec 2)
  | vnarrow (d s : VReg) (ty : Ty) (mk : MReg) (fl : BitVec 2)
  | vcvt (d s : VReg) (st : Ty) (fl : BitVec 2) (dt : Ty) (du ds : Bool) (mk : MReg)
  | vplane (d s : VReg)
  | vunplane (d s : VReg) (p : BitVec 4) (cent : Bool) (mk : MReg)
  | vquant (d s : VReg) (x : XReg) (ty : Ty) (mk : MReg) (u : Bool)
  | vrsum (d : XReg) (s : VReg) (ty : Ty) (mk : MReg) (fl : BitVec 2)
  | vrmax (d : XReg) (s : VReg) (ty : Ty) (mk : MReg) (fl : BitVec 2)
  | vperm (d s t : VReg) (ty : Ty) (mk : MReg)
  | vslide (d s : VReg) (t : XReg) (ty : Ty) (mk : MReg)
  | vrand (d : VReg) (s t : XReg)
  | vexp2 (d s : VReg) (ty : Ty) (mk : MReg)
  | vlog2 (d s : VReg) (ty : Ty) (mk : MReg)
  | vrcp (d s : VReg) (ty : Ty) (mk : MReg)
  | vrsq (d s : VReg) (ty : Ty) (mk : MReg)
  | vsig (d s : VReg) (ty : Ty) (mk : MReg)
  | vdot4 (d s t : VReg) (mk : MReg) (fl : BitVec 2)
  -- masks (R137)
  | mand (d s t : MReg)
  | mor (d s t : MReg)
  | mxor (d s t : MReg)
  | mnot (d s : MReg)
  | mpop (d : XReg) (s : MReg) (ty : Ty)
  | mfirst (d : XReg) (s : MReg) (ty : Ty)
  | mfromx (d : MReg) (s : XReg) (ty : Ty)
  -- memory to memory (R138)
  | mmadd (ad s t : AReg) (ty : Ty) (fl : BitVec 2)
  | mmsub (ad s t : AReg) (ty : Ty) (fl : BitVec 2)
  | mmmul (ad s t : AReg) (ty : Ty) (fl : BitVec 2)
  | mmma (ad s t : AReg) (ty : Ty) (fl : BitVec 2)
  | mmmax (ad s t : AReg) (ty : Ty) (fl : BitVec 2)
  | mmcvt (ad s t : AReg) (ty : Ty) (fl : BitVec 2)
  | anop
  -- steps of threads (R359, R367, R33, R161)
  | trapEntry (site thr : Nat)
  | regionRestart (site thr : Nat)
  | watchdog (site thr : Nat)
  | accessComplete (site thr k : Nat)
  -- messages at a home and answers (R146, R153, R155, R157, R161, R165, R168)
  | load (msg : Nat)
  | store (msg : Nat)
  | atomic (msg : Nat)
  | loadfe (msg : Nat)
  | storefe (msg : Nat)
  | loadResponse (msg : Nat)
  | ack (msg : Nat)
  | nack (msg : Nat)
  | retry (msg : Nat)
  | retryResend (k : Nat)
  | retryListReoffer (site k : Nat)
  -- engines of a core (R328, R135, R140, R194, R201)
  | translationWalk (site k : Nat)
  | sfuStart (site : Nat)
  | sfuComplete (site : Nat)
  | mmComplete (site k : Nat)
  | matrixDispatch (site : Nat)
  | kstepEnd (site : Nat)
  | matrixCommandComplete (site : Nat)
  | matrixAgeing (site k : Nat)
  -- copies (R172, R179, R181)
  | copyLine (site k : Nat)
  | copydata (msg : Nat)
  | mcastMsg (msg : Nat)
  | copyComplete (site k : Nat)
  -- arrivals and activations (R209 to R225, R305)
  | invMsg (msg : Nat)
  | invxMsg (msg : Nat)
  | activationStart (site thr : Nat)
  | rawArrivalStart (site thr : Nat)
  | kickStart (site thr : Nat)
  | arrivalAgeing (site k : Nat)
  -- passes (R247 to R252, R258)
  | pass (msg : Nat)
  | passForward (msg : Nat)
  | passAtSlot (msg : Nat)
  | bounce (msg : Nat)
  | readydelta (msg : Nat)
  | rdyquery (msg : Nat)
  | rdyanswer (msg : Nat)
  -- the Relay (R261 to R270)
  | reply (msg : Nat)
  | break_ (msg : Nat)
  | fetch (msg : Nat)
  | value (msg : Nat)
  | hrelease (msg : Nat)
  | relayForward (site slot : Nat)
  -- groups (R230 to R241, R393)
  | rstvMsg (msg : Nat)
  | redirectQueueDrain (grp member : Nat)
  | directoryAnswer (msg : Nat)
  | grpctl (msg : Nat)
  | grpstat (msg : Nat)
  | memberPark (site thr : Nat)
  | saveImageComplete (site thr : Nat)
  | groupEnded (grp : Nat)
  -- Kickoff (R303 to R306)
  | kickMsg (msg : Nat)
  | kickoffFanout (msg : Nat)
  | kickend (msg : Nat)
  -- barriers (R280, R281, R286)
  | bararrive (msg : Nat)
  | barrelease (msg : Nat)
  | barrierTimeout (site thr : Nat)
  | barbreak (msg : Nat)
  | barconfig (msg : Nat)
  -- Referee (R368, R369), unassigned types (R152)
  | refereePair (k : Nat)
  | refereeTimeout (k : Nat)
  | unassignedMessage (msg : Nat)
  -- writes of registers that act (R108, R216, R311, R316, R324, R340, R342, R348, R376, R382, R388), by the issuing thread
  | l2pdataWrite (v : Word)
  | l2pUpdate (k router : Nat)
  | rtdataWrite (v : Word)
  | vallotWrite (v : Word)
  | tgenWrite (v : Word)
  | ctxcmdCreate
  | ctxcmdDestroy
  | ctxrectWrite (v : Word)
  | contextBound (slot : Nat)
  | contextShrunk (slot : Nat)
  | contextDestroyed (slot : Nat)
  | scrubComplete (site : Nat)
  -- host channel (R301, R321 to R325, R383, R384): inputs of the host
  | hfsendWrite (v : Word)
  | deviceFrame (func : Nat)
  | frameWindowWrite (func slot : Nat) (frame : BitVec 512)
  | hostframeInject (func : Nat)
  | hostframe (msg : Nat)
  | gap (func : Nat)
  | drheadWrite (func : Nat) (v : BitVec 32)
  | drbaseWrite (func : Nat) (v : Word)
  | drsizeWrite (func : Nat) (v : BitVec 5)
  | bar2Access (write : Bool) (pa len : Nat) (data : List Byte)
  | functionLevelReset (func : Nat)
  | packageReset
  -- boot (R309, R387 to R389)
  | bootctlGo (image : List Byte)
  | imageVerification
  | discover (msg : Nat)
  | discoverAnswer (msg : Nat)
  | silentRouter (die site : Nat)
  | floodEnd (die : Nat)
  | measxWrite (v : Word)
  | attreqWrite (nonce : BitVec 512)
  | attestationReport
  -- power, supply, trace (R376 to R378, R390, R391)
  | powerLimit (watts : Nat)
  | overtemperature
  | powerGate (site : Nat)
  | gateDrainTimeout (site : Nat)
  | droop (die det : Nat)
  | droopRearm (die det : Nat)
  | traceDrain (site : Nat)
  | trtailWrite (v : Word)
  | dbgctlWrite (v : Word)
  -- repair and link (R340 to R350, R356, R370)
  | hbmRowRepair (stack row : Nat)
  | nodeidWrite (v : Word)
  | portctlWrite (port : Nat) (v : Word)
  | trainingBackoff (port lane : Nat)
  | trainingSequence (port lane : Nat) (seq : TrainSeq)
  | laneRetrain (port lane : Nat) (good : Bool)
  | linkFlit (port : Nat) (flit : LinkFlit)
  | linkResendTimeout (port : Nat)
  | portDown (port : Nat)
  | marker (msg : Nat)
  -- checkpoint, accept notice (R336, R262)
  | ckptWalk (slot : Nat)
  | acceptNotice (msg : Nat)
  deriving DecidableEq, Repr, Inhabited

namespace Ty

/-- Width of an element in bits (R82, R75). -/
def width : Ty → Nat
  | .i4 => 4 | .i8 => 8 | .i16 => 16 | .i32 => 32 | .f16 => 16 | .bf16 => 16 | .f32 => 32

/-- A float type (TY 4 to 6). -/
def isFloat : Ty → Bool
  | .f16 => true | .bf16 => true | .f32 => true
  | .i8 => false | .i16 => false | .i32 => false | .i4 => false

end Ty

end Sys2Proof
end

