-- ==== Sys2Proof/WellFormed.lean ====
section
/-! DEFINITION. Which instructions the encoding tables define (R47, R51, R53 and each instruction's own list of values):
a form that fails here is a word that raises ILLEGAL. Steps without a word carry no constraint. -/

namespace Sys2Proof

/-- FL of an integer type with S = 0 (R47). -/
def flNoSat (fl : BitVec 2) : Bool := fl.getLsbD 0 == false
/-- FL of an integer type with U = 0 (R47). -/
def flSigned (fl : BitVec 2) : Bool := fl.getLsbD 1 == false

/-- MODE and the x index of LDS, STS, STNT and contiguous LDV, STV (R51). -/
def modeOk (mode : BitVec 3) (xi : BitVec 5) : Bool :=
  decide (mode.toNat ≤ 4) && ((mode.toNat != 0 && mode.toNat != 2) || xi == 0)

/-- SZ, MODE and x index of LDV and STV (R51): strided and gathered forms have MODE 0 and use the index field. -/
def vecModeOk (sz mode : BitVec 3) (xi : BitVec 5) : Bool :=
  if sz.toNat ≤ 3 then modeOk mode xi else decide (sz.toNat ≤ 5) && mode == 0

/-- ord and scope of an atomic (R167): scope is 0 when ord is 0. -/
def ordOk (sc : Scope) (ord : BitVec 2) : Bool := ord != 0 || sc == .thread

/-- Types with a wider partner: VWADD, VWMUL, VWMA, VNARROW, MMCVT (R125, R126, R139). -/
def narrowTy (ty : Ty) : Bool := ty != .i32 && ty != .f32

/-- FL of VMIN, VMAX, MMMAX, VRMAX (R120, R131): S = 0 for an integer type, no rounding for a float. -/
def flMinMax (ty : Ty) (fl : BitVec 2) : Bool := if ty.isFloat then fl == 0 else flNoSat fl

/-- The types of VCVT (R127): widths in ratio 1/4 to 4, S of the destination only between integers, U only for integers. -/
def cvtOk (st : Ty) (fl : BitVec 2) (dt : Ty) (du ds : Bool) : Bool :=
  (st.isFloat || flNoSat fl) && (!ds || (!st.isFloat && !dt.isFloat)) && (!du || !dt.isFloat) &&
  decide (st.width ≤ 4 * dt.width) && decide (dt.width ≤ 4 * st.width)

/-- The instruction is one the tables define. -/
def Instr.wf : Instr → Bool
  | .rep xc imm _ _ _ => xc == 0 || imm == 0
  | .lds _ _ xi _ sz mode => decide (sz.toNat ≤ 6) && modeOk mode xi
  | .sts _ _ xi sz mode => decide (sz.toNat ≤ 3) && modeOk mode xi
  | .ldv _ _ xi _ sz mode => vecModeOk sz mode xi
  | .stv _ _ xi sz mode => vecModeOk sz mode xi
  | .stnt _ _ xi sz mode => decide (sz.toNat ≤ 3) && modeOk mode xi
  | .stfe s _ mode => mode != 2 || s == 0
  | .atomAdd _ _ _ sc ord => ordOk sc ord
  | .atomAnd _ _ _ sc ord => ordOk sc ord
  | .atomOr _ _ _ sc ord => ordOk sc ord
  | .atomXor _ _ _ sc ord => ordOk sc ord
  | .atomMin _ _ _ sc ord => ordOk sc ord
  | .atomMax _ _ _ sc ord => ordOk sc ord
  | .atomMinu _ _ _ sc ord => ordOk sc ord
  | .atomMaxu _ _ _ sc ord => ordOk sc ord
  | .atomSwap _ _ _ sc ord => ordOk sc ord
  | .atomCas _ _ _ sc ord => ordOk sc ord
  | .atomMaxrst _ _ _ sc ord => ordOk sc ord
  | .atomFadd _ _ _ sc ord => ordOk sc ord
  | .atomFmax _ _ _ sc ord => ordOk sc ord
  | .atomFmaxrst _ _ _ sc ord => ordOk sc ord
  | .inv _ _ _ _ kind sticky => !sticky || kind == .g
  | .invx _ _ _ _ kind sticky => !sticky || kind == .g
  | .vmin _ _ _ ty _ fl => flMinMax ty fl
  | .vmax _ _ _ ty _ fl => flMinMax ty fl
  | .vand _ _ _ ty _ fl => !ty.isFloat && fl == 0
  | .vor _ _ _ ty _ fl => !ty.isFloat && fl == 0
  | .vxor _ _ _ ty _ fl => !ty.isFloat && fl == 0
  | .vsll _ _ _ ty _ fl => !ty.isFloat && fl == 0
  | .vsrl _ _ _ ty _ fl => !ty.isFloat && fl == 0
  | .vsra _ _ _ ty _ fl => !ty.isFloat && fl == 0
  | .vabs _ _ ty _ fl => if ty.isFloat then fl == 0 else flSigned fl
  | .vneg _ _ ty _ fl => if ty.isFloat then fl == 0 else flSigned fl
  | .vcmp _ _ _ cond ty u => (!u || !ty.isFloat) && ((cond != .unord && cond != .ord) || ty.isFloat)
  | .vext _ _ _ ty u => !u || !ty.isFloat
  | .vwadd _ _ _ ty _ fl => narrowTy ty && (ty.isFloat || flNoSat fl)
  | .vwmul _ _ _ ty _ fl => narrowTy ty && flMinMax ty fl
  | .vwma _ _ _ ty _ _ => narrowTy ty
  | .vnarrow _ _ ty _ _ => narrowTy ty
  | .vcvt _ _ st fl dt du ds _ => cvtOk st fl dt du ds
  | .vunplane _ _ p _ _ => decide (2 ≤ p.toNat) && decide (p.toNat ≤ 8)
  | .vquant _ _ _ ty _ _ => ty == .i8 || ty == .i16
  | .vrsum _ _ ty _ fl => ty.isFloat || flNoSat fl
  | .vrmax _ _ ty _ fl => flMinMax ty fl
  | .vexp2 _ _ ty _ => ty.isFloat
  | .vlog2 _ _ ty _ => ty.isFloat
  | .vrcp _ _ ty _ => ty.isFloat
  | .vrsq _ _ ty _ => ty.isFloat
  | .vsig _ _ ty _ => ty.isFloat
  | .mmmax _ _ _ ty fl => flMinMax ty fl
  | .mmcvt _ _ _ ty _ => narrowTy ty
  | _ => true

/-- The operation that a word fixes: MAPSET and KEYSLOT take theirs from a register (R317, R357), so their rows share a word. -/
def Instr.base : Instr → Instr
  | .mapsetLoad d s t => .mapsetStat d s t
  | .mapsetSwitch d s t => .mapsetStat d s t
  | .mapsetOpen d s t => .mapsetStat d s t
  | .keyslotGen d s => .keyslotStat d s
  | .keyslotErase d s => .keyslotStat d s
  | i => i

end Sys2Proof
end

