-- ==== Sys2Proof/Decode.lean ====
section
/-! DEFINITION. Decoding of instruction words (R36, R43 to R53), total on any word, and the encoder written from the
same tables. Framing (R37, R38) is in Machine/Fetch.lean, because it reads two words. -/

namespace Sys2Proof

/-- Why a word raises ILLEGAL (R54). -/
inductive DecodeError where
  /-- a reserved major opcode (R48) -/
  | reservedMajor
  /-- an unassigned function value (R49) -/
  | reservedFunction
  /-- a reserved A opcode (R52) -/
  | reservedOpcode
  /-- a field shown as zero is nonzero (R44, R51, R53) -/
  | reservedField
  /-- a value outside the instruction's stated set (R47, R51, R53) -/
  | reservedValue
  deriving DecidableEq, Repr, Inhabited

namespace Ty

/-- TY codes of R47. -/
def ofCode (c : BitVec 3) : Option Ty :=
  match c.toNat with
  | 0 => some .i8 | 1 => some .i16 | 2 => some .i32 | 3 => some .i4
  | 4 => some .f16 | 5 => some .bf16 | 6 => some .f32 | _ => none

/-- The TY code. -/
def code : Ty → BitVec 3
  | .i8 => 0 | .i16 => 1 | .i32 => 2 | .i4 => 3 | .f16 => 4 | .bf16 => 5 | .f32 => 6

end Ty

namespace Cond

/-- Condition codes of R47. -/
def ofCode (c : BitVec 3) : Cond :=
  match c.toNat with
  | 0 => .eq | 1 => .ne | 2 => .lt | 3 => .le | 4 => .gt | 5 => .ge | 6 => .unord | _ => .ord

/-- The condition code. -/
def code : Cond → BitVec 3
  | .eq => 0 | .ne => 1 | .lt => 2 | .le => 3 | .gt => 4 | .ge => 5 | .unord => 6 | .ord => 7

end Cond

namespace Scope

/-- Scope codes of R289; 12 to 15 are reserved (R51). -/
def ofCode (c : BitVec 4) : Option Scope :=
  match c.toNat with
  | 0 => some .thread | 1 => some .core | 2 => some .team | 3 => some .group | 4 => some .die | 5 => some .package
  | 6 => some .host | 7 => some .job | 8 => some .tenant | 9 => some .pod | 10 => some .io | 11 => some .system
  | _ => none

/-- The scope code. -/
def code : Scope → BitVec 4
  | .thread => 0 | .core => 1 | .team => 2 | .group => 3 | .die => 4 | .package => 5
  | .host => 6 | .job => 7 | .tenant => 8 | .pod => 9 | .io => 10 | .system => 11

end Scope

namespace FenceKind

/-- Kinds of FENCE (R51); 0 is reserved. -/
def ofCode (c : BitVec 2) : Option FenceKind :=
  match c.toNat with
  | 1 => some .acq | 2 => some .rel | 3 => some .full | _ => none

/-- The kind's code. -/
def code : FenceKind → BitVec 2
  | .acq => 1 | .rel => 2 | .full => 3

end FenceKind

namespace InvKind

/-- Kinds of an invocation (R218). -/
def ofCode (c : BitVec 2) : InvKind :=
  match c.toNat with
  | 0 => .g | 1 => .m | 2 => .h | _ => .p

/-- The kind's code. -/
def code : InvKind → BitVec 2
  | .g => 0 | .m => 1 | .h => 2 | .p => 3

end InvKind

/-- Bits [lo+len-1 : lo] of a word. -/
def fld (w : IWord) (lo len : Nat) : BitVec len := w.extractLsb' lo len

/-- Bit lo of a word. -/
def flag (w : IWord) (lo : Nat) : Bool := w.getLsbD lo

/-- K, bit 31: an A-word (R36). -/
def isA (w : IWord) : Bool := flag w 31
/-- L, bit 30: a lone word (R36). -/
def isLone (w : IWord) : Bool := flag w 30
/-- The major opcode of a C-word (R43). -/
def major (w : IWord) : BitVec 6 := fld w 24 6

/-- The instruction, if the fields that must be zero are zero (R44, R51, R53). -/
def need (zero : Bool) (i : Instr) : Except DecodeError Instr :=
  if zero then .ok i else .error .reservedField

/-- The instruction made from a field of a restricted code (R47, R51). -/
def withCode {α : Type} (o : Option α) (k : α → Except DecodeError Instr) : Except DecodeError Instr :=
  match o with
  | some v => k v
  | none => .error .reservedValue

/-- SYS, the CG format (R43, R49, R51). -/
def decodeSys (w : IWord) : Except DecodeError Instr :=
  let s1 : BitVec 5 := fld w 14 5
  let sc : BitVec 4 := fld w 10 4
  let imm : BitVec 10 := fld w 0 10
  match (fld w 19 5).toNat with
  | 0 => need (s1 == 0 && sc == 0 && imm == 0) .nop
  | 1 => need (s1 == 0 && sc == 0) (.trap imm)
  | 2 => need (s1 == 0 && sc == 0 && imm == 0) .eret
  | 3 => need (s1 == 0 && sc == 0 && imm == 0) .idle
  | 4 => withCode (Scope.ofCode sc) fun c => withCode (FenceKind.ofCode (fld w 0 2)) fun k =>
      need (s1 == 0 && fld w 2 8 == 0) (.fence c k)
  | 5 => withCode (Scope.ofCode sc) fun c => need (s1 == 0 && imm == 0) (.drainnt c)
  | 6 => need (s1 == 0 && sc == 0 && imm == 0) .rgn
  | 7 => need (s1 == 0 && sc == 0 && imm == 0) .rgnend
  | 8 => need (s1 == 0 && sc == 0) (.brk imm)
  | 9 => need (sc == 0) (.tmark s1 imm)
  | _ => .error .reservedFunction

/-- The CM format: LDS to STFE (R43, R51, R158, R164). -/
def decodeCM (w : IWord) (k : BitVec 5 → BitVec 4 → BitVec 5 → BitVec 4 → BitVec 3 → BitVec 3 → Except DecodeError Instr) :
    Except DecodeError Instr :=
  k (fld w 19 5) (fld w 15 4) (fld w 10 5) (fld w 6 4) (fld w 3 3) (fld w 0 3)

/-- ATOM, the CA format (R43, R49, R167). -/
def decodeAtom (w : IWord) : Except DecodeError Instr :=
  let d : XReg := fld w 19 5
  let a : AReg := fld w 15 4
  let x : XReg := fld w 10 5
  let ord : BitVec 2 := fld w 4 2
  let op := (fld w 0 4).toNat
  if 14 ≤ op then .error .reservedFunction else
  withCode (Scope.ofCode (fld w 6 4)) fun sc =>
  match op with
  | 0 => .ok (.atomAdd d a x sc ord)
  | 1 => .ok (.atomAnd d a x sc ord)
  | 2 => .ok (.atomOr d a x sc ord)
  | 3 => .ok (.atomXor d a x sc ord)
  | 4 => .ok (.atomMin d a x sc ord)
  | 5 => .ok (.atomMax d a x sc ord)
  | 6 => .ok (.atomMinu d a x sc ord)
  | 7 => .ok (.atomMaxu d a x sc ord)
  | 8 => .ok (.atomSwap d a x sc ord)
  | 9 => .ok (.atomCas d a x sc ord)
  | 10 => .ok (.atomMaxrst d a x sc ord)
  | 11 => .ok (.atomFadd d a x sc ord)
  | 12 => .ok (.atomFmax d a x sc ord)
  | 13 => .ok (.atomFmaxrst d a x sc ord)
  | _ => .error .reservedFunction

/-- AOP, the CQ format (R49, R98). -/
def decodeAop (w : IWord) : Except DecodeError Instr :=
  let ad : AReg := fld w 20 4
  let asrc : AReg := fld w 16 4
  let x1 : XReg := fld w 11 5
  let x2 : XReg := fld w 6 5
  match (fld w 0 6).toNat with
  | 0 => need (x1 == 0 && x2 == 0) (.amov ad asrc)
  | 1 => .ok (.anarrow ad asrc x1 x2)
  | 2 => need (x2 == 0) (.aadd ad asrc x1)
  | 3 => need (x2 == 0) (.asetp ad asrc x1)
  | 4 => need (ad == 0 && x2 == 0) (.agetp asrc x1)
  | 5 => need (ad == 0 && x2 == 0) (.agetb asrc x1)
  | 6 => need (ad == 0 && x2 == 0) (.agetl asrc x1)
  | 7 => need (ad == 0 && x2 == 0) (.aperm asrc x1)
  | 8 => need (asrc == 0) (.amake ad x1 x2)
  | _ => .error .reservedFunction

/-- COPY, the CX format (R49, R174). -/
def decodeCopy (w : IWord) : Except DecodeError Instr :=
  let ad : AReg := fld w 20 4
  let asrc : AReg := fld w 16 4
  let xl : XReg := fld w 11 5
  let tag : BitVec 6 := fld w 5 6
  let cpa : BitVec 2 := fld w 3 2
  match (fld w 0 3).toNat with
  | 0 => .ok (.copy ad asrc xl tag cpa)
  | 1 => .ok (.copy2d ad asrc xl tag cpa)
  | 2 => .ok (.copymc ad asrc xl tag cpa)
  | 3 => .ok (.copygt ad asrc xl tag cpa)
  | _ => .error .reservedFunction

/-- The CR format: engines, messages, groups, system (R43, R49). -/
def decodeCR (w : IWord) : Except DecodeError Instr :=
  let d : BitVec 5 := fld w 19 5
  let s1 : BitVec 5 := fld w 14 5
  let s2 : BitVec 5 := fld w 9 5
  let la : BitVec 4 := fld w 5 4
  let dz := d == 0
  let sz := s1 == 0
  let tz := s2 == 0
  let lz := la == 0
  match (major w).toNat, (fld w 0 5).toNat with
  | 0x21, 0 => need (tz && lz) (.waitany d s1)
  | 0x21, 1 => need (dz && tz && lz) (.waitall s1)
  | 0x21, 2 => need (tz && lz) (.tfirst d s1)
  | 0x21, 3 => need (dz && tz && lz) (.tclr s1)
  | 0x21, 4 => need (tz && lz) (.tget d s1)
  | 0x22, 0 => need (tz && lz) (.mjob d s1)
  | 0x24, 0 => need (tz) (.mwait d s1 la)
  | 0x24, 1 => need (tz && lz) (.mstat d s1)
  | 0x24, 2 => need (dz && tz && lz) (.mcancel s1)
  | 0x25, 0 => .ok (.acst d s1 s2 la)
  | 0x25, 1 => .ok (.acstb d s1 s2 la)
  | 0x25, 2 => .ok (.acld d s1 s2 la)
  | 0x25, 3 => need (dz && tz && lz) (.aczero s1)
  | 0x25, 4 => .ok (.acstsc d s1 s2 la)
  | 0x2A, 0 => .ok (.hwait d s1 s2 la)
  | 0x2A, 1 => .ok (.hwaitv d s1 s2 la)
  | 0x2A, 2 => need (tz && lz) (.htest d s1)
  | 0x2A, 3 => need (dz && tz && lz) (.hfree s1)
  | 0x2A, 4 => need (dz && lz) (.hreply s1 s2)
  | 0x2A, 5 => need (dz && lz) (.hreplyv s1 s2)
  | 0x2A, 6 => need (dz && lz) (.hbreak s1 s2)
  | 0x2B, 0 => need (dz && sz && tz && lz) .done
  | 0x2B, 1 => need (dz && tz && lz) (.tgon s1)
  | 0x2B, 2 => need (dz && tz && lz) (.tgoff s1)
  | 0x2B, 3 => need (dz && tz && lz) (.tgset s1)
  | 0x2B, 4 => need (dz && tz && lz) (.tgclr s1)
  | 0x2C, 0 => need (dz && lz) (.ready s1 s2)
  | 0x2C, 1 => need (dz && lz) (.unready s1 s2)
  | 0x2C, 2 => need (tz) (.rdyq d s1 la)
  | 0x2E, 0 => need (dz && tz && lz) (.vhold s1)
  | 0x2E, 1 => need (dz && tz && lz) (.vhclr s1)
  | 0x2E, 2 => need (sz && tz && lz) (.vhtest d)
  | 0x2F, 0 => need (dz && tz && lz) (.barr s1)
  | 0x2F, 1 => need (dz && tz && lz) (.barw s1)
  | 0x2F, 2 => need (dz && tz && lz) (.barrw s1)
  | 0x2F, 3 => need (dz && tz && lz) (.barwd s1)
  | 0x2F, 4 => need (tz && lz) (.barq d s1)
  | 0x30, 0 => need (lz) (.kickTeam d s1 s2)
  | 0x30, 1 => need (lz) (.kickGroup d s1 s2)
  | 0x34, 0 => need (tz && lz) (.gnew d s1)
  | 0x34, 1 => need (lz) (.gplace d s1 s2)
  | 0x34, 2 => need (lz) (.gadd d s1 s2)
  | 0x34, 3 => need (lz) (.gdrop d s1 s2)
  | 0x34, 4 => need (tz && lz) (.gpark d s1)
  | 0x34, 5 => need (tz && lz) (.grun d s1)
  | 0x34, 6 => need (lz) (.gmove d s1 s2)
  | 0x34, 7 => need (lz) (.gend d s1 s2)
  | 0x34, 8 => need (lz) (.barcfg d s1 s2)
  | 0x35, 0 => need (dz && lz) (.tlbinv s1 s2)
  | 0x35, 1 => need (tz && lz) (.ckpt d s1)
  | 0x35, 2 => need (tz && lz) (.errclr d s1)
  | 0x35, 3 => need (lz) (.coreret d s1 s2)
  | 0x35, 4 => need (lz) (.mapsetStat d s1 s2)
  | 0x35, 5 => need (tz && lz) (.keyslotStat d s1)
  | 0x35, 6 => need (dz && lz) (.icinv s1 s2)
  | _, _ => .error .reservedFunction

/-- Every C-word (R43, R48). -/
def decodeC (w : IWord) : Except DecodeError Instr :=
  let x : XReg := fld w 19 5
  let s1 : XReg := fld w 14 5
  match (major w).toNat with
  | 0x00 => decodeSys w
  | 0x01 => need (fld w 0 7 == 0) (.crr x (fld w 7 12))
  | 0x02 => need (fld w 0 7 == 0) (.crw x (fld w 7 12))
  | 0x03 => need (fld w 0 7 == 0) (.crset x (fld w 7 12))
  | 0x04 => need (fld w 0 7 == 0) (.crclr x (fld w 7 12))
  | 0x05 => need (fld w 0 11 == 0) (.yield (fld w 16 8) (fld w 11 5))
  | 0x06 => need (fld w 0 4 == 0) (.rep x (fld w 13 6) (fld w 10 3) (fld w 7 3) (fld w 4 3))
  | 0x08 => .ok (.j (fld w 0 24))
  | 0x09 => .ok (.jal (fld w 0 24))
  | 0x0A => need (fld w 10 4 == 0) (.jalr x s1 (fld w 0 10))
  | 0x0B => .ok (.beq x s1 (fld w 0 14))
  | 0x0C => .ok (.bne x s1 (fld w 0 14))
  | 0x0D => .ok (.blt x s1 (fld w 0 14))
  | 0x0E => .ok (.bge x s1 (fld w 0 14))
  | 0x0F => .ok (.bltu x s1 (fld w 0 14))
  | 0x10 => .ok (.bgeu x s1 (fld w 0 14))
  | 0x11 => need (fld w 22 2 == 0 && s1 == 0) (.bany (fld w 19 3) (fld w 0 14))
  | 0x12 => need (fld w 22 2 == 0 && s1 == 0) (.bnone (fld w 19 3) (fld w 0 14))
  | 0x14 => decodeCM w fun d a xi la sz mode => .ok (.lds d a xi la sz mode)
  | 0x15 => decodeCM w fun d a xi la sz mode => need (la == 0) (.sts d a xi sz mode)
  | 0x16 => decodeCM w fun d a xi la sz mode => .ok (.ldv d a xi la sz mode)
  | 0x17 => decodeCM w fun d a xi la sz mode => need (la == 0) (.stv d a xi sz mode)
  | 0x18 => decodeCM w fun d a xi la sz mode => need (la == 0) (.stnt d a xi sz mode)
  | 0x19 => decodeCM w fun d a xi la sz _ => need (xi == 0 && sz == 3 && fld w 2 1 == 0) (.ldfe d a la (fld w 0 2))
  | 0x1A => decodeCM w fun d a xi la sz _ => need (xi == 0 && la == 0 && sz == 3 && fld w 2 1 == 0) (.stfe d a (fld w 0 2))
  | 0x1B => decodeAtom w
  | 0x1C => decodeAop w
  | 0x1D => .ok (.aaddi (fld w 20 4) (fld w 16 4) (fld w 0 16))
  | 0x20 => decodeCopy w
  | 0x23 => need (fld w 4 3 == 0) (.mtile x (fld w 13 6) (fld w 7 6) (flag w 3) (flag w 2) (fld w 0 2))
  | 0x28 => .ok (.inv x s1 (fld w 9 5) (fld w 3 6) (InvKind.ofCode (fld w 1 2)) (flag w 0))
  | 0x29 => .ok (.invx x s1 (fld w 9 5) (fld w 3 6) (InvKind.ofCode (fld w 1 2)) (flag w 0))
  | 0x2D => need (fld w 0 2 == 0) (.rstv x s1 (fld w 8 6) (fld w 3 5) (flag w 2))
  | 0x31 => need (fld w 3 1 == 0) (.mcast x (fld w 15 4) (fld w 10 5) (fld w 4 6) (fld w 1 2) (flag w 0))
  | 0x21 => decodeCR w
  | 0x22 => decodeCR w
  | 0x24 => decodeCR w
  | 0x25 => decodeCR w
  | 0x2A => decodeCR w
  | 0x2B => decodeCR w
  | 0x2C => decodeCR w
  | 0x2E => decodeCR w
  | 0x2F => decodeCR w
  | 0x30 => decodeCR w
  | 0x34 => decodeCR w
  | 0x35 => decodeCR w
  | _ => .error .reservedMajor

/-- Every A-word (R46, R52, R53). -/
def decodeA (w : IWord) : Except DecodeError Instr :=
  let d : BitVec 5 := fld w 18 5
  let s : BitVec 5 := fld w 13 5
  let t : BitVec 5 := fld w 8 5
  let ty := Ty.ofCode (fld w 5 3)
  let mk : MReg := fld w 2 3
  let fl : BitVec 2 := fld w 0 2
  let lowz := fld w 0 8 == 0
  let imm : BitVec 13 := fld w 0 13
  let f32 := fld w 5 3 == 6
  let mkz := mk == 0
  let flz := fl == 0
  let tz := t == 0
  match (fld w 23 7).toNat with
  | 0x00 => need lowz (.add d s t)
  | 0x01 => need lowz (.sub d s t)
  | 0x02 => need lowz (.and d s t)
  | 0x03 => need lowz (.or d s t)
  | 0x04 => need lowz (.xor d s t)
  | 0x05 => need lowz (.sll d s t)
  | 0x06 => need lowz (.srl d s t)
  | 0x07 => need lowz (.sra d s t)
  | 0x08 => need lowz (.slt d s t)
  | 0x09 => need lowz (.sltu d s t)
  | 0x0A => need lowz (.mul d s t)
  | 0x0B => need lowz (.mulh d s t)
  | 0x0C => need lowz (.mulhu d s t)
  | 0x0D => need lowz (.div d s t)
  | 0x0E => need lowz (.divu d s t)
  | 0x0F => need lowz (.rem d s t)
  | 0x10 => need lowz (.remu d s t)
  | 0x11 => need lowz (.min d s t)
  | 0x12 => need lowz (.max d s t)
  | 0x13 => need lowz (.minu d s t)
  | 0x14 => need lowz (.maxu d s t)
  | 0x15 => need (tz && lowz) (.clz d s)
  | 0x16 => need (tz && lowz) (.ctz d s)
  | 0x17 => need (tz && lowz) (.popc d s)
  | 0x20 => .ok (.addi d s imm)
  | 0x21 => .ok (.andi d s imm)
  | 0x22 => .ok (.ori d s imm)
  | 0x23 => .ok (.xori d s imm)
  | 0x24 => need (fld w 6 7 == 0) (.slli d s (fld w 0 6))
  | 0x25 => need (fld w 6 7 == 0) (.srli d s (fld w 0 6))
  | 0x26 => need (fld w 6 7 == 0) (.srai d s (fld w 0 6))
  | 0x27 => .ok (.slti d s imm)
  | 0x28 => need (s == 0) (.lui d imm)
  | 0x29 => need (s == 0) (.lcat d imm)
  | 0x30 => need (f32 && mkz) (.fadd d s t fl)
  | 0x31 => need (f32 && mkz) (.fsub d s t fl)
  | 0x32 => need (f32 && mkz) (.fmul d s t fl)
  | 0x34 => need (f32 && mkz) (.fdiv d s t fl)
  | 0x33 => need (fld w 0 3 == 6) (.fma d s t (fld w 3 5))
  | 0x35 => need (tz && f32 && mkz) (.fsqrt d s fl)
  | 0x36 => need (f32 && mkz && flz) (.fmin d s t)
  | 0x37 => need (f32 && mkz && flz) (.fmax d s t)
  | 0x38 => need (f32 && flz) (.fcmp d s t (Cond.ofCode mk))
  | 0x39 => need (tz && f32 && mkz) (.fcvti d s fl)
  | 0x3A => need (tz && f32 && mkz) (.fcvtf d s fl)
  | 0x40 => withCode ty fun y => .ok (.vadd d s t y mk fl)
  | 0x41 => withCode ty fun y => .ok (.vsub d s t y mk fl)
  | 0x42 => withCode ty fun y => .ok (.vmul d s t y mk fl)
  | 0x43 => withCode (Ty.ofCode (fld w 0 3)) fun y => .ok (.vma d s t (fld w 3 5) y)
  | 0x44 => withCode ty fun y => .ok (.vmin d s t y mk fl)
  | 0x45 => withCode ty fun y => .ok (.vmax d s t y mk fl)
  | 0x46 => withCode ty fun y => .ok (.vand d s t y mk fl)
  | 0x47 => withCode ty fun y => .ok (.vor d s t y mk fl)
  | 0x48 => withCode ty fun y => .ok (.vxor d s t y mk fl)
  | 0x49 => withCode ty fun y => .ok (.vsll d s t y mk fl)
  | 0x4A => withCode ty fun y => .ok (.vsrl d s t y mk fl)
  | 0x4B => withCode ty fun y => .ok (.vsra d s t y mk fl)
  | 0x4C => withCode ty fun y => need tz (.vabs d s y mk fl)
  | 0x4D => withCode ty fun y => need tz (.vneg d s y mk fl)
  | 0x4E => withCode (Ty.ofCode (fld w 4 3)) fun y =>
      need (fld w 1 3 == 0) (.vcmp (fld w 20 3) (fld w 12 5) (fld w 7 5) (Cond.ofCode (fld w 17 3)) y (flag w 0))
  | 0x4F => withCode ty fun y => need flz (.vsel d s t y mk)
  | 0x50 => withCode ty fun y => need (tz && flz) (.vmov d s y mk)
  | 0x51 => withCode ty fun y => need (tz && flz) (.vbcast d s y mk)
  | 0x52 => withCode ty fun y => need (mkz && flz) (.vins d s t y)
  | 0x53 => withCode ty fun y => need (mkz && fld w 0 1 == 0) (.vext d s t y (flag w 1))
  | 0x54 => withCode ty fun y => .ok (.vwadd d s t y mk fl)
  | 0x55 => withCode ty fun y => .ok (.vwmul d s t y mk fl)
  | 0x56 => withCode ty fun y => .ok (.vwma d s t y mk fl)
  | 0x57 => withCode ty fun y => need tz (.vnarrow d s y mk fl)
  | 0x58 => withCode ty fun y => withCode (Ty.ofCode (fld w 8 3)) fun z => .ok (.vcvt d s y fl z (flag w 11) (flag w 12) mk)
  | 0x59 => need (tz && lowz) (.vplane d s)
  | 0x5A => need (fld w 5 3 == 0 && flz) (.vunplane d s (fld w 8 4) (flag w 12) mk)
  | 0x5B => withCode ty fun y => need (fld w 0 1 == 0) (.vquant d s t y mk (flag w 1))
  | 0x5C => withCode ty fun y => need tz (.vrsum d s y mk fl)
  | 0x5D => withCode ty fun y => need tz (.vrmax d s y mk fl)
  | 0x5E => withCode ty fun y => need flz (.vperm d s t y mk)
  | 0x5F => withCode ty fun y => need flz (.vslide d s t y mk)
  | 0x60 => need lowz (.vrand d s t)
  | 0x61 => withCode ty fun y => need (tz && flz) (.vexp2 d s y mk)
  | 0x62 => withCode ty fun y => need (tz && flz) (.vlog2 d s y mk)
  | 0x63 => withCode ty fun y => need (tz && flz) (.vrcp d s y mk)
  | 0x64 => withCode ty fun y => need (tz && flz) (.vrsq d s y mk)
  | 0x65 => withCode ty fun y => need (tz && flz) (.vsig d s y mk)
  | 0x66 => need (fld w 5 3 == 0) (.vdot4 d s t mk fl)
  | 0x68 => need (fld w 21 2 == 0 && fld w 16 2 == 0 && fld w 11 2 == 0 && lowz) (.mand (fld w 18 3) (fld w 13 3) (fld w 8 3))
  | 0x69 => need (fld w 21 2 == 0 && fld w 16 2 == 0 && fld w 11 2 == 0 && lowz) (.mor (fld w 18 3) (fld w 13 3) (fld w 8 3))
  | 0x6A => need (fld w 21 2 == 0 && fld w 16 2 == 0 && fld w 11 2 == 0 && lowz) (.mxor (fld w 18 3) (fld w 13 3) (fld w 8 3))
  | 0x6B => need (fld w 21 2 == 0 && fld w 16 2 == 0 && tz && lowz) (.mnot (fld w 18 3) (fld w 13 3))
  | 0x6C => withCode ty fun y => need (fld w 16 2 == 0 && tz && mkz && flz) (.mpop d (fld w 13 3) y)
  | 0x6D => withCode ty fun y => need (fld w 16 2 == 0 && tz && mkz && flz) (.mfirst d (fld w 13 3) y)
  | 0x6E => withCode ty fun y => need (fld w 21 2 == 0 && tz && mkz && flz) (.mfromx (fld w 18 3) s y)
  | 0x70 => withCode (Ty.ofCode (fld w 8 3)) fun y => need (fld w 0 6 == 0) (.mmadd (fld w 19 4) (fld w 15 4) (fld w 11 4) y (fld w 6 2))
  | 0x71 => withCode (Ty.ofCode (fld w 8 3)) fun y => need (fld w 0 6 == 0) (.mmsub (fld w 19 4) (fld w 15 4) (fld w 11 4) y (fld w 6 2))
  | 0x72 => withCode (Ty.ofCode (fld w 8 3)) fun y => need (fld w 0 6 == 0) (.mmmul (fld w 19 4) (fld w 15 4) (fld w 11 4) y (fld w 6 2))
  | 0x73 => withCode (Ty.ofCode (fld w 8 3)) fun y => need (fld w 0 6 == 0) (.mmma (fld w 19 4) (fld w 15 4) (fld w 11 4) y (fld w 6 2))
  | 0x74 => withCode (Ty.ofCode (fld w 8 3)) fun y => need (fld w 0 6 == 0) (.mmmax (fld w 19 4) (fld w 15 4) (fld w 11 4) y (fld w 6 2))
  | 0x75 => withCode (Ty.ofCode (fld w 8 3)) fun y => need (fld w 0 6 == 0) (.mmcvt (fld w 19 4) (fld w 15 4) (fld w 11 4) y (fld w 6 2))
  | 0x7F => need (fld w 0 23 == 0) .anop
  | _ => .error .reservedOpcode

/-- The instruction a word encodes, or why it raises ILLEGAL (R54 step 2). -/
def decodeWord (w : IWord) : Except DecodeError Instr :=
  match (if isA w then decodeA w else decodeC w) with
  | .ok i => if i.wf then .ok i else .error .reservedValue
  | .error e => .error e

/-- The first word of an instruction numbered as the opcode table numbers it, given to the decoder. -/
def decodeTableWord (_nbits w : Nat) : Option Instr :=
  match decodeWord (BitVec.ofNat 32 w) with
  | .ok i => some i
  | .error _ => none

/-! The encoder, from the same tables. -/

/-- CR format (R43). -/
def wCR (l : Bool) (maj : BitVec 6) (d s1 s2 : BitVec 5) (la : BitVec 4) (fn : BitVec 5) : IWord :=
  0#1 ++ BitVec.ofBool l ++ maj ++ d ++ s1 ++ s2 ++ la ++ fn
/-- CG format (R43). -/
def wCG (l : Bool) (fn s1 : BitVec 5) (sc : BitVec 4) (imm : BitVec 10) : IWord :=
  0#1 ++ BitVec.ofBool l ++ 0x00#6 ++ fn ++ s1 ++ sc ++ imm
/-- CC format (R43). -/
def wCC (l : Bool) (maj : BitVec 6) (x : BitVec 5) (cr : BitVec 12) : IWord :=
  0#1 ++ BitVec.ofBool l ++ maj ++ x ++ cr ++ 0#7
/-- CB format (R43). -/
def wCB (l : Bool) (maj : BitVec 6) (s t : BitVec 5) (off : BitVec 14) : IWord :=
  0#1 ++ BitVec.ofBool l ++ maj ++ s ++ t ++ off
/-- CM format (R43). -/
def wCM (l : Bool) (maj : BitVec 6) (d : BitVec 5) (a : BitVec 4) (xi : BitVec 5) (la : BitVec 4) (sz mode : BitVec 3) : IWord :=
  0#1 ++ BitVec.ofBool l ++ maj ++ d ++ a ++ xi ++ la ++ sz ++ mode
/-- CA format (R43). -/
def wCA (l : Bool) (d : BitVec 5) (a : BitVec 4) (x : BitVec 5) (sc : BitVec 4) (ord : BitVec 2) (op : BitVec 4) : IWord :=
  0#1 ++ BitVec.ofBool l ++ 0x1B#6 ++ d ++ a ++ x ++ sc ++ ord ++ op
/-- CQ format (R43). -/
def wCQ (l : Bool) (ad asrc : BitVec 4) (x1 x2 : BitVec 5) (fn : BitVec 6) : IWord :=
  0#1 ++ BitVec.ofBool l ++ 0x1C#6 ++ ad ++ asrc ++ x1 ++ x2 ++ fn
/-- CX format (R43). -/
def wCX (l : Bool) (ad asrc : BitVec 4) (xl : BitVec 5) (tag : BitVec 6) (cpa : BitVec 2) (fn : BitVec 3) : IWord :=
  0#1 ++ BitVec.ofBool l ++ 0x20#6 ++ ad ++ asrc ++ xl ++ tag ++ cpa ++ fn
/-- CV format (R43). -/
def wCV (l : Bool) (maj : BitVec 6) (d xt va : BitVec 5) (tag : BitVec 6) (kind : BitVec 2) (sticky : Bool) : IWord :=
  0#1 ++ BitVec.ofBool l ++ maj ++ d ++ xt ++ va ++ tag ++ kind ++ BitVec.ofBool sticky
/-- AR format (R46). -/
def wAR (l : Bool) (op : BitVec 7) (d s t : BitVec 5) (ty mk : BitVec 3) (fl : BitVec 2) : IWord :=
  1#1 ++ BitVec.ofBool l ++ op ++ d ++ s ++ t ++ ty ++ mk ++ fl
/-- AI format (R46). -/
def wAI (l : Bool) (op : BitVec 7) (d s : BitVec 5) (imm : BitVec 13) : IWord :=
  1#1 ++ BitVec.ofBool l ++ op ++ d ++ s ++ imm
/-- A4 format (R46). -/
def wA4 (l : Bool) (op : BitVec 7) (d s t u : BitVec 5) (ty : BitVec 3) : IWord :=
  1#1 ++ BitVec.ofBool l ++ op ++ d ++ s ++ t ++ u ++ ty
/-- AC format (R46). -/
def wAC (l : Bool) (op : BitVec 7) (md cond : BitVec 3) (s t : BitVec 5) (ty zero : BitVec 3) (u : Bool) : IWord :=
  1#1 ++ BitVec.ofBool l ++ op ++ md ++ cond ++ s ++ t ++ ty ++ zero ++ BitVec.ofBool u
/-- AM format (R46). -/
def wAM (l : Bool) (op : BitVec 7) (ad s t : BitVec 4) (ty : BitVec 3) (fl : BitVec 2) : IWord :=
  1#1 ++ BitVec.ofBool l ++ op ++ ad ++ s ++ t ++ ty ++ fl ++ 0#6

/-- The word of an instruction, lone or paired; a step of the part has none. A REP word is always lone (R37). -/
def encode (l : Bool) : Instr → Option IWord
  | .nop => some (wCG l 0 0 0 0)
  | .trap code => some (wCG l 1 0 0 code)
  | .eret => some (wCG l 2 0 0 0)
  | .idle => some (wCG l 3 0 0 0)
  | .fence sc k => some (wCG l 4 0 sc.code (0#8 ++ k.code))
  | .drainnt sc => some (wCG l 5 0 sc.code 0)
  | .rgn => some (wCG l 6 0 0 0)
  | .rgnend => some (wCG l 7 0 0 0)
  | .brk code => some (wCG l 8 0 0 code)
  | .tmark s code => some (wCG l 9 s 0 code)
  | .crr x cr => some (wCC l 1 x cr)
  | .crw x cr => some (wCC l 2 x cr)
  | .crset x cr => some (wCC l 3 x cr)
  | .crclr x cr => some (wCC l 4 x cr)
  | .yield dl xm => some (0#1 ++ BitVec.ofBool l ++ 0x05#6 ++ dl ++ xm ++ 0#11)
  | .rep xc imm ds s1s s2s => some (0#1 ++ 1#1 ++ 0x06#6 ++ xc ++ imm ++ ds ++ s1s ++ s2s ++ 0#4)
  | .j off => some (0#1 ++ BitVec.ofBool l ++ 0x08#6 ++ off)
  | .jal off => some (0#1 ++ BitVec.ofBool l ++ 0x09#6 ++ off)
  | .jalr d s imm => some (0#1 ++ BitVec.ofBool l ++ 0x0A#6 ++ d ++ s ++ 0#4 ++ imm)
  | .beq s t off => some (wCB l 0x0B s t off)
  | .bne s t off => some (wCB l 0x0C s t off)
  | .blt s t off => some (wCB l 0x0D s t off)
  | .bge s t off => some (wCB l 0x0E s t off)
  | .bltu s t off => some (wCB l 0x0F s t off)
  | .bgeu s t off => some (wCB l 0x10 s t off)
  | .bany m off => some (wCB l 0x11 (0#2 ++ m) 0 off)
  | .bnone m off => some (wCB l 0x12 (0#2 ++ m) 0 off)
  | .lds d a xi la sz mode => some (wCM l 0x14 d a xi la sz mode)
  | .sts s a xi sz mode => some (wCM l 0x15 s a xi 0 sz mode)
  | .ldv d a xi la sz mode => some (wCM l 0x16 d a xi la sz mode)
  | .stv s a xi sz mode => some (wCM l 0x17 s a xi 0 sz mode)
  | .stnt s a xi sz mode => some (wCM l 0x18 s a xi 0 sz mode)
  | .ldfe d a la mode => some (wCM l 0x19 d a 0 la 3 (0#1 ++ mode))
  | .stfe s a mode => some (wCM l 0x1A s a 0 0 3 (0#1 ++ mode))
  | .atomAdd d a x sc ord => some (wCA l d a x sc.code ord 0)
  | .atomAnd d a x sc ord => some (wCA l d a x sc.code ord 1)
  | .atomOr d a x sc ord => some (wCA l d a x sc.code ord 2)
  | .atomXor d a x sc ord => some (wCA l d a x sc.code ord 3)
  | .atomMin d a x sc ord => some (wCA l d a x sc.code ord 4)
  | .atomMax d a x sc ord => some (wCA l d a x sc.code ord 5)
  | .atomMinu d a x sc ord => some (wCA l d a x sc.code ord 6)
  | .atomMaxu d a x sc ord => some (wCA l d a x sc.code ord 7)
  | .atomSwap d a x sc ord => some (wCA l d a x sc.code ord 8)
  | .atomCas d a x sc ord => some (wCA l d a x sc.code ord 9)
  | .atomMaxrst d a x sc ord => some (wCA l d a x sc.code ord 10)
  | .atomFadd d a x sc ord => some (wCA l d a x sc.code ord 11)
  | .atomFmax d a x sc ord => some (wCA l d a x sc.code ord 12)
  | .atomFmaxrst d a x sc ord => some (wCA l d a x sc.code ord 13)
  | .amov ad asrc => some (wCQ l ad asrc 0 0 0)
  | .anarrow ad asrc xb xr => some (wCQ l ad asrc xb xr 1)
  | .aadd ad asrc x => some (wCQ l ad asrc x 0 2)
  | .asetp ad asrc x => some (wCQ l ad asrc x 0 3)
  | .agetp asrc x => some (wCQ l 0 asrc x 0 4)
  | .agetb asrc x => some (wCQ l 0 asrc x 0 5)
  | .agetl asrc x => some (wCQ l 0 asrc x 0 6)
  | .aperm asrc x => some (wCQ l 0 asrc x 0 7)
  | .amake ad xb xr => some (wCQ l ad 0 xb xr 8)
  | .aaddi ad asrc imm => some (0#1 ++ BitVec.ofBool l ++ 0x1D#6 ++ ad ++ asrc ++ imm)
  | .copy ad asrc xl tag cpa => some (wCX l ad asrc xl tag cpa 0)
  | .copy2d ad asrc xl tag cpa => some (wCX l ad asrc xl tag cpa 1)
  | .copymc ad asrc xl tag cpa => some (wCX l ad asrc xl tag cpa 2)
  | .copygt ad asrc xl tag cpa => some (wCX l ad asrc xl tag cpa 3)
  | .waitany d s1 => some (wCR l 0x21 d s1 0 0 0)
  | .waitall s1 => some (wCR l 0x21 0 s1 0 0 1)
  | .tfirst d s1 => some (wCR l 0x21 d s1 0 0 2)
  | .tclr s1 => some (wCR l 0x21 0 s1 0 0 3)
  | .tget d s1 => some (wCR l 0x21 d s1 0 0 4)
  | .mjob d s1 => some (wCR l 0x22 d s1 0 0 0)
  | .mwait d s1 la => some (wCR l 0x24 d s1 0 la 0)
  | .mstat d s1 => some (wCR l 0x24 d s1 0 0 1)
  | .mcancel s1 => some (wCR l 0x24 0 s1 0 0 2)
  | .acst d s1 s2 la => some (wCR l 0x25 d s1 s2 la 0)
  | .acstb d s1 s2 la => some (wCR l 0x25 d s1 s2 la 1)
  | .acld d s1 s2 la => some (wCR l 0x25 d s1 s2 la 2)
  | .aczero s1 => some (wCR l 0x25 0 s1 0 0 3)
  | .acstsc d s1 s2 la => some (wCR l 0x25 d s1 s2 la 4)
  | .hwait d s1 s2 la => some (wCR l 0x2A d s1 s2 la 0)
  | .hwaitv d s1 s2 la => some (wCR l 0x2A d s1 s2 la 1)
  | .htest d s1 => some (wCR l 0x2A d s1 0 0 2)
  | .hfree s1 => some (wCR l 0x2A 0 s1 0 0 3)
  | .hreply s1 s2 => some (wCR l 0x2A 0 s1 s2 0 4)
  | .hreplyv s1 s2 => some (wCR l 0x2A 0 s1 s2 0 5)
  | .hbreak s1 s2 => some (wCR l 0x2A 0 s1 s2 0 6)
  | .done => some (wCR l 0x2B 0 0 0 0 0)
  | .tgon s1 => some (wCR l 0x2B 0 s1 0 0 1)
  | .tgoff s1 => some (wCR l 0x2B 0 s1 0 0 2)
  | .tgset s1 => some (wCR l 0x2B 0 s1 0 0 3)
  | .tgclr s1 => some (wCR l 0x2B 0 s1 0 0 4)
  | .ready s1 s2 => some (wCR l 0x2C 0 s1 s2 0 0)
  | .unready s1 s2 => some (wCR l 0x2C 0 s1 s2 0 1)
  | .rdyq d s1 la => some (wCR l 0x2C d s1 0 la 2)
  | .vhold s1 => some (wCR l 0x2E 0 s1 0 0 0)
  | .vhclr s1 => some (wCR l 0x2E 0 s1 0 0 1)
  | .vhtest d => some (wCR l 0x2E d 0 0 0 2)
  | .barr s1 => some (wCR l 0x2F 0 s1 0 0 0)
  | .barw s1 => some (wCR l 0x2F 0 s1 0 0 1)
  | .barrw s1 => some (wCR l 0x2F 0 s1 0 0 2)
  | .barwd s1 => some (wCR l 0x2F 0 s1 0 0 3)
  | .barq d s1 => some (wCR l 0x2F d s1 0 0 4)
  | .kickTeam d s1 s2 => some (wCR l 0x30 d s1 s2 0 0)
  | .kickGroup d s1 s2 => some (wCR l 0x30 d s1 s2 0 1)
  | .gnew d s1 => some (wCR l 0x34 d s1 0 0 0)
  | .gplace d s1 s2 => some (wCR l 0x34 d s1 s2 0 1)
  | .gadd d s1 s2 => some (wCR l 0x34 d s1 s2 0 2)
  | .gdrop d s1 s2 => some (wCR l 0x34 d s1 s2 0 3)
  | .gpark d s1 => some (wCR l 0x34 d s1 0 0 4)
  | .grun d s1 => some (wCR l 0x34 d s1 0 0 5)
  | .gmove d s1 s2 => some (wCR l 0x34 d s1 s2 0 6)
  | .gend d s1 s2 => some (wCR l 0x34 d s1 s2 0 7)
  | .barcfg d s1 s2 => some (wCR l 0x34 d s1 s2 0 8)
  | .tlbinv s1 s2 => some (wCR l 0x35 0 s1 s2 0 0)
  | .ckpt d s1 => some (wCR l 0x35 d s1 0 0 1)
  | .errclr d s1 => some (wCR l 0x35 d s1 0 0 2)
  | .coreret d s1 s2 => some (wCR l 0x35 d s1 s2 0 3)
  | .mapsetStat d s1 s2 => some (wCR l 0x35 d s1 s2 0 4)
  | .mapsetLoad d s1 s2 => some (wCR l 0x35 d s1 s2 0 4)
  | .mapsetSwitch d s1 s2 => some (wCR l 0x35 d s1 s2 0 4)
  | .mapsetOpen d s1 s2 => some (wCR l 0x35 d s1 s2 0 4)
  | .keyslotStat d s1 => some (wCR l 0x35 d s1 0 0 5)
  | .keyslotGen d s1 => some (wCR l 0x35 d s1 0 0 5)
  | .keyslotErase d s1 => some (wCR l 0x35 d s1 0 0 5)
  | .icinv s1 s2 => some (wCR l 0x35 0 s1 s2 0 6)
  | .mtile xc opA opB tb ta mode => some (0#1 ++ BitVec.ofBool l ++ 0x23#6 ++ xc ++ opA ++ opB ++ 0#3 ++ BitVec.ofBool tb ++ BitVec.ofBool ta ++ mode)
  | .inv d xt va tag kind sticky => some (wCV l 0x28 d xt va tag kind.code sticky)
  | .invx d xt va tag kind sticky => some (wCV l 0x29 d xt va tag kind.code sticky)
  | .rstv vs xt tag n r => some (0#1 ++ BitVec.ofBool l ++ 0x2D#6 ++ vs ++ xt ++ tag ++ n ++ BitVec.ofBool r ++ 0#2)
  | .mcast vs a xset tag size o => some (0#1 ++ BitVec.ofBool l ++ 0x31#6 ++ vs ++ a ++ xset ++ tag ++ 0#1 ++ size ++ BitVec.ofBool o)
  | .add d s t => some (wAR l 0x00 d s t 0 0 0)
  | .sub d s t => some (wAR l 0x01 d s t 0 0 0)
  | .and d s t => some (wAR l 0x02 d s t 0 0 0)
  | .or d s t => some (wAR l 0x03 d s t 0 0 0)
  | .xor d s t => some (wAR l 0x04 d s t 0 0 0)
  | .sll d s t => some (wAR l 0x05 d s t 0 0 0)
  | .srl d s t => some (wAR l 0x06 d s t 0 0 0)
  | .sra d s t => some (wAR l 0x07 d s t 0 0 0)
  | .slt d s t => some (wAR l 0x08 d s t 0 0 0)
  | .sltu d s t => some (wAR l 0x09 d s t 0 0 0)
  | .mul d s t => some (wAR l 0x0A d s t 0 0 0)
  | .mulh d s t => some (wAR l 0x0B d s t 0 0 0)
  | .mulhu d s t => some (wAR l 0x0C d s t 0 0 0)
  | .div d s t => some (wAR l 0x0D d s t 0 0 0)
  | .divu d s t => some (wAR l 0x0E d s t 0 0 0)
  | .rem d s t => some (wAR l 0x0F d s t 0 0 0)
  | .remu d s t => some (wAR l 0x10 d s t 0 0 0)
  | .min d s t => some (wAR l 0x11 d s t 0 0 0)
  | .max d s t => some (wAR l 0x12 d s t 0 0 0)
  | .minu d s t => some (wAR l 0x13 d s t 0 0 0)
  | .maxu d s t => some (wAR l 0x14 d s t 0 0 0)
  | .clz d s => some (wAR l 0x15 d s 0 0 0 0)
  | .ctz d s => some (wAR l 0x16 d s 0 0 0 0)
  | .popc d s => some (wAR l 0x17 d s 0 0 0 0)
  | .addi d s imm => some (wAI l 0x20 d s imm)
  | .andi d s imm => some (wAI l 0x21 d s imm)
  | .ori d s imm => some (wAI l 0x22 d s imm)
  | .xori d s imm => some (wAI l 0x23 d s imm)
  | .slli d s sh => some (wAI l 0x24 d s (0#7 ++ sh))
  | .srli d s sh => some (wAI l 0x25 d s (0#7 ++ sh))
  | .srai d s sh => some (wAI l 0x26 d s (0#7 ++ sh))
  | .slti d s imm => some (wAI l 0x27 d s imm)
  | .lui d imm => some (wAI l 0x28 d 0 imm)
  | .lcat d imm => some (wAI l 0x29 d 0 imm)
  | .fadd d s t fl => some (wAR l 0x30 d s t 6 0 fl)
  | .fsub d s t fl => some (wAR l 0x31 d s t 6 0 fl)
  | .fmul d s t fl => some (wAR l 0x32 d s t 6 0 fl)
  | .fdiv d s t fl => some (wAR l 0x34 d s t 6 0 fl)
  | .fma d s t u => some (wA4 l 0x33 d s t u 6)
  | .fsqrt d s fl => some (wAR l 0x35 d s 0 6 0 fl)
  | .fmin d s t => some (wAR l 0x36 d s t 6 0 0)
  | .fmax d s t => some (wAR l 0x37 d s t 6 0 0)
  | .fcmp d s t c => some (wAR l 0x38 d s t 6 c.code 0)
  | .fcvti d s fl => some (wAR l 0x39 d s 0 6 0 fl)
  | .fcvtf d s fl => some (wAR l 0x3A d s 0 6 0 fl)
  | .vadd d s t y mk fl => some (wAR l 0x40 d s t y.code mk fl)
  | .vsub d s t y mk fl => some (wAR l 0x41 d s t y.code mk fl)
  | .vmul d s t y mk fl => some (wAR l 0x42 d s t y.code mk fl)
  | .vma d s t u y => some (wA4 l 0x43 d s t u y.code)
  | .vmin d s t y mk fl => some (wAR l 0x44 d s t y.code mk fl)
  | .vmax d s t y mk fl => some (wAR l 0x45 d s t y.code mk fl)
  | .vand d s t y mk fl => some (wAR l 0x46 d s t y.code mk fl)
  | .vor d s t y mk fl => some (wAR l 0x47 d s t y.code mk fl)
  | .vxor d s t y mk fl => some (wAR l 0x48 d s t y.code mk fl)
  | .vsll d s t y mk fl => some (wAR l 0x49 d s t y.code mk fl)
  | .vsrl d s t y mk fl => some (wAR l 0x4A d s t y.code mk fl)
  | .vsra d s t y mk fl => some (wAR l 0x4B d s t y.code mk fl)
  | .vabs d s y mk fl => some (wAR l 0x4C d s 0 y.code mk fl)
  | .vneg d s y mk fl => some (wAR l 0x4D d s 0 y.code mk fl)
  | .vcmp md s t c y u => some (wAC l 0x4E md c.code s t y.code 0 u)
  | .vsel d s t y mk => some (wAR l 0x4F d s t y.code mk 0)
  | .vmov d s y mk => some (wAR l 0x50 d s 0 y.code mk 0)
  | .vbcast d s y mk => some (wAR l 0x51 d s 0 y.code mk 0)
  | .vins d s t y => some (wAR l 0x52 d s t y.code 0 0)
  | .vext d s t y u => some (wAR l 0x53 d s t y.code 0 (BitVec.ofBool u ++ 0#1))
  | .vwadd d s t y mk fl => some (wAR l 0x54 d s t y.code mk fl)
  | .vwmul d s t y mk fl => some (wAR l 0x55 d s t y.code mk fl)
  | .vwma d s t y mk fl => some (wAR l 0x56 d s t y.code mk fl)
  | .vnarrow d s y mk fl => some (wAR l 0x57 d s 0 y.code mk fl)
  | .vcvt d s y fl z du ds mk => some (wAR l 0x58 d s (BitVec.ofBool ds ++ BitVec.ofBool du ++ z.code) y.code mk fl)
  | .vplane d s => some (wAR l 0x59 d s 0 0 0 0)
  | .vunplane d s p c mk => some (wAR l 0x5A d s (BitVec.ofBool c ++ p) 0 mk 0)
  | .vquant d s x y mk u => some (wAR l 0x5B d s x y.code mk (BitVec.ofBool u ++ 0#1))
  | .vrsum d s y mk fl => some (wAR l 0x5C d s 0 y.code mk fl)
  | .vrmax d s y mk fl => some (wAR l 0x5D d s 0 y.code mk fl)
  | .vperm d s t y mk => some (wAR l 0x5E d s t y.code mk 0)
  | .vslide d s t y mk => some (wAR l 0x5F d s t y.code mk 0)
  | .vrand d s t => some (wAR l 0x60 d s t 0 0 0)
  | .vexp2 d s y mk => some (wAR l 0x61 d s 0 y.code mk 0)
  | .vlog2 d s y mk => some (wAR l 0x62 d s 0 y.code mk 0)
  | .vrcp d s y mk => some (wAR l 0x63 d s 0 y.code mk 0)
  | .vrsq d s y mk => some (wAR l 0x64 d s 0 y.code mk 0)
  | .vsig d s y mk => some (wAR l 0x65 d s 0 y.code mk 0)
  | .vdot4 d s t mk fl => some (wAR l 0x66 d s t 0 mk fl)
  | .mand d s t => some (wAR l 0x68 (0#2 ++ d) (0#2 ++ s) (0#2 ++ t) 0 0 0)
  | .mor d s t => some (wAR l 0x69 (0#2 ++ d) (0#2 ++ s) (0#2 ++ t) 0 0 0)
  | .mxor d s t => some (wAR l 0x6A (0#2 ++ d) (0#2 ++ s) (0#2 ++ t) 0 0 0)
  | .mnot d s => some (wAR l 0x6B (0#2 ++ d) (0#2 ++ s) 0 0 0 0)
  | .mpop d s y => some (wAR l 0x6C d (0#2 ++ s) 0 y.code 0 0)
  | .mfirst d s y => some (wAR l 0x6D d (0#2 ++ s) 0 y.code 0 0)
  | .mfromx d s y => some (wAR l 0x6E (0#2 ++ d) s 0 y.code 0 0)
  | .mmadd ad s t y fl => some (wAM l 0x70 ad s t y.code fl)
  | .mmsub ad s t y fl => some (wAM l 0x71 ad s t y.code fl)
  | .mmmul ad s t y fl => some (wAM l 0x72 ad s t y.code fl)
  | .mmma ad s t y fl => some (wAM l 0x73 ad s t y.code fl)
  | .mmmax ad s t y fl => some (wAM l 0x74 ad s t y.code fl)
  | .mmcvt ad s t y fl => some (wAM l 0x75 ad s t y.code fl)
  | .anop => some (wAR l 0x7F 0 0 0 0 0 0)
  | _ => none

end Sys2Proof
end

