-- ==== Sys2Proof/Machine/Flags.lean ====
section
/-! DEFINITION. The sticky flags of VFLAGS and RoundF, the one rounding of the part (R27, R75, R77 to R80). -/

namespace Sys2Proof.Machine

/-- Rounding modes, coded 0 to 3 (R27, R47). -/
inductive RMode where
  | rne | rtz | rdn | rup
  deriving DecidableEq, Repr, Inhabited

/-- The mode of VCTL.RM (R27). -/
def RMode.ofCode (c : BitVec 2) : RMode :=
  match c.toNat with
  | 0 => .rne | 1 => .rtz | 2 => .rdn | _ => .rup

/-- The flags of one operation, laid out as VFLAGS (R27). -/
abbrev FFlags := BitVec 5

namespace FFlags
/-- Invalid operation (R79). -/
def nv : FFlags := 0x10#5
/-- Division by zero (R79). -/
def dz : FFlags := 0x08#5
/-- Overflow (R79). -/
def ofl : FFlags := 0x04#5
/-- Underflow (R79). -/
def uf : FFlags := 0x02#5
/-- Inexact (R79). -/
def nx : FFlags := 0x01#5
/-- A flag that is set under a condition. -/
def when (b : Bool) (f : FFlags) : FFlags := if b then f else 0
end FFlags

/-- A floating format: widths of its exponent and fraction (R75). -/
structure Fmt where
  eb : Nat
  fb : Nat
  deriving DecidableEq, Repr, Inhabited

namespace Fmt
/-- F32 (R75). -/
def f32 : Fmt := ⟨8, 23⟩
/-- F16 (R75). -/
def f16 : Fmt := ⟨5, 10⟩
/-- BF16 (R75). -/
def bf16 : Fmt := ⟨8, 7⟩
/-- The exponent bias. -/
def bias (f : Fmt) : Int := 2 ^ (f.eb - 1) - 1
/-- Exponent of the smallest normal. -/
def emin (f : Fmt) : Int := 1 - f.bias
/-- Exponent of the least significant bit of a subnormal. -/
def qmin (f : Fmt) : Int := f.emin - f.fb
/-- The sign bit. -/
def signBit (f : Fmt) : Nat := 2 ^ (f.eb + f.fb)
/-- The bits of +∞. -/
def infBits (f : Fmt) : Nat := (2 ^ f.eb - 1) * 2 ^ f.fb
/-- The bits of the largest finite value. -/
def maxBits (f : Fmt) : Nat := f.infBits - 1
/-- The canonical NaN (R76). -/
def nanBits (f : Fmt) : Nat := f.infBits + 2 ^ (f.fb - 1)
/-- Bits with the sign given. -/
def withSign (f : Fmt) (neg : Bool) (b : Nat) : Nat := if neg then f.signBit + b else b
end Fmt

/-- The value of a float: a NaN (signalling or quiet), an infinity, or (−1)^neg · mag · 2^exp exactly. -/
inductive FVal where
  | nan (sig : Bool)
  | inf (neg : Bool)
  | fin (neg : Bool) (mag : Nat) (exp : Int)
  deriving DecidableEq, Repr, Inhabited

/-- The value of a bit pattern (R75). -/
def Fmt.value (f : Fmt) (b : Nat) : FVal :=
  let neg := b.testBit (f.eb + f.fb)
  let e := b / 2 ^ f.fb % 2 ^ f.eb
  let m := b % 2 ^ f.fb
  if e = 2 ^ f.eb - 1 then
    if m = 0 then .inf neg else .nan (!m.testBit (f.fb - 1))
  else if e = 0 then .fin neg m f.qmin
  else .fin neg (2 ^ f.fb + m) (f.qmin + (e - 1))

/-- A subnormal source read as a zero of its sign under FTZ (R80). -/
def Fmt.source (f : Fmt) (ftz : Bool) (b : Nat) : FVal :=
  match f.value b with
  | .fin neg m e => if ftz && decide (m < 2 ^ f.fb) then .fin neg 0 e else .fin neg m e
  | .nan s => .nan s
  | .inf n => .inf n

/-- The magnitude (mag + ε)·2^e, with 0 < ε < 1 when `sticky`, rounded to a multiple of 2^q: the multiple, and whether it is inexact. -/
def quantize (mode : RMode) (neg : Bool) (mag : Nat) (e : Int) (sticky : Bool) (q : Int) : Nat × Bool :=
  let sh := (q - e).toNat
  let n := mag * 2 ^ (e - q).toNat / 2 ^ sh
  let r := mag % 2 ^ sh
  let ix := r != 0 || sticky
  let up :=
    match mode with
    | .rne => decide (2 * r > 2 ^ sh) || (2 * r == 2 ^ sh && decide (0 < sh) && (sticky || n % 2 == 1))
    | .rtz => false
    | .rdn => neg && ix
    | .rup => !neg && ix
  (if up then n + 1 else n, ix)

/-- The delivered value of an overflow (R77). -/
def overflowBits (f : Fmt) (mode : RMode) (neg : Bool) : Nat :=
  let toInf := match mode with
    | .rne => true | .rtz => false | .rdn => neg | .rup => !neg
  f.withSign neg (if toInf then f.infBits else f.maxBits)

/-- RoundF of a nonzero magnitude (mag + ε)·2^e (R77, R79, R80): the bits and the flags. With `sticky`, mag has more bits than the format. -/
def roundF (f : Fmt) (mode : RMode) (ftz neg : Bool) (mag : Nat) (e : Int) (sticky : Bool) : Nat × FFlags :=
  let q1 : Int := e + Nat.log2 mag - f.fb
  let (m1, ix1) := quantize mode neg mag e sticky q1
  -- one more bit when the rounding carried out
  let (m1, q1) := if m1 = 2 ^ (f.fb + 1) then (2 ^ f.fb, q1 + 1) else (m1, q1)
  if q1 > f.qmin + (2 ^ f.eb - 3) then (overflowBits f mode neg, FFlags.ofl ||| FFlags.nx)
  else if q1 < f.qmin then
    let (m2, ix2) := quantize mode neg mag e sticky f.qmin
    if ftz && decide (m2 < 2 ^ f.fb) then (f.withSign neg 0, FFlags.uf ||| FFlags.nx)
    else (f.withSign neg m2, FFlags.when ix2 (FFlags.uf ||| FFlags.nx))
  else (f.withSign neg (m1 + (q1 - f.qmin).toNat * 2 ^ f.fb), FFlags.when ix1 FFlags.nx)

end Sys2Proof.Machine
end

