-- ==== Sys2Proof/Machine/Float.lean ====
section
/-! DEFINITION. Operations on floats and on the integer types (R76 to R84): exact values first, one rounding at the end. -/

namespace Sys2Proof.Machine

/-- The format of a float type (R47). -/
def fmtOf : Ty → Fmt
  | .f16 => .f16 | .bf16 => .bf16 | .f32 => .f32
  | .i8 => .f32 | .i16 => .f32 | .i32 => .f32 | .i4 => .f32

/-- Rounding controls of one operation (R78, R80). -/
structure RCtl where
  mode : RMode
  ftz : Bool
  deriving DecidableEq, Repr, Inhabited

/-- RNE with subnormals kept: the atomics, the matrix engine, ACOP (R78, R81). -/
def RCtl.engine : RCtl := ⟨.rne, false⟩

namespace FVal

/-- The value is a NaN. -/
def isNan : FVal → Bool
  | .nan _ => true | .inf _ => false | .fin _ _ _ => false
/-- The value is a signalling NaN. -/
def isSig : FVal → Bool
  | .nan s => s | .inf _ => false | .fin _ _ _ => false
/-- The value with its sign inverted. -/
def neg : FVal → FVal
  | .nan s => .nan s | .inf n => .inf (!n) | .fin n m e => .fin (!n) m e
/-- The magnitude of the value. -/
def abs : FVal → FVal
  | .nan s => .nan s | .inf _ => .inf false | .fin _ m e => .fin false m e
/-- The signed significand. -/
def int : Bool → Nat → Int
  | true, m => -(m : Int)
  | false, m => m

/-- The exact product of two values, and whether it is invalid (0 × ∞) (R76, R77). A NaN operand gives a NaN. -/
def mul : FVal → FVal → FVal × Bool
  | .nan s, .nan t => (.nan (s || t), false)
  | .nan s, .inf _ => (.nan s, false)
  | .nan s, .fin _ _ _ => (.nan s, false)
  | .inf _, .nan t => (.nan t, false)
  | .fin _ _ _, .nan t => (.nan t, false)
  | .inf a, .inf b => (.inf (a != b), false)
  | .inf a, .fin b m _ => if m = 0 then (.nan false, true) else (.inf (a != b), false)
  | .fin a m _, .inf b => if m = 0 then (.nan false, true) else (.inf (a != b), false)
  | .fin a m e, .fin b n f => (.fin (a != b) (m * n) (e + f), false)

end FVal

/-- Deliver a canonical NaN. -/
def outNan (f : Fmt) (inv : Bool) : Nat × FFlags := (f.nanBits, FFlags.when inv FFlags.nv)

/-- Deliver an exact finite value; a zero has the sign given (R77). -/
def outFin (f : Fmt) (c : RCtl) (neg : Bool) (mag : Nat) (e : Int) : Nat × FFlags :=
  if mag = 0 then (f.withSign neg 0, 0) else roundF f c.mode c.ftz neg mag e false

/-- The exact sum of finite terms as a multiple of 2^e. -/
def sumAt (e : Int) : List FVal → Int
  | [] => 0
  | .fin n m x :: r => FVal.int n m * 2 ^ (x - e).toNat + sumAt e r
  | .nan _ :: r => sumAt e r
  | .inf _ :: r => sumAt e r

/-- The least exponent of the finite terms, at most `e`. -/
def minExp (e : Int) : List FVal → Int
  | [] => e
  | .fin _ m x :: r => minExp (if m = 0 then e else min e x) r
  | .nan _ :: r => minExp e r
  | .inf _ :: r => minExp e r

/-- A term is a zero of the given sign. -/
def isZeroOf (neg : Bool) : FVal → Bool
  | .fin n m _ => m == 0 && n == neg
  | .nan _ => false | .inf _ => false

/-- The correctly rounded sum of exact terms (R76, R77). `inv` tells that forming a term was invalid, `sig` that an operand was signalling. -/
def roundSum (f : Fmt) (c : RCtl) (inv sig : Bool) (ts : List FVal) : Nat × FFlags :=
  let infP := ts.any fun t => t == .inf false
  let infN := ts.any fun t => t == .inf true
  if inv || sig then outNan f true
  else if ts.any FVal.isNan then outNan f false
  else if infP && infN then outNan f true
  else if infP then (f.infBits, 0)
  else if infN then (f.withSign true f.infBits, 0)
  else
    let e := minExp 1000 ts
    let m := sumAt e ts
    if m = 0 then
      let neg := if ts.all (isZeroOf false) then false else if ts.all (isZeroOf true) then true else c.mode == .rdn
      (f.withSign neg 0, 0)
    else outFin f c (decide (m < 0)) m.natAbs e

/-- a + b. -/
def fAdd (f : Fmt) (c : RCtl) (a b : Nat) : Nat × FFlags :=
  let x := f.source c.ftz a; let y := f.source c.ftz b
  roundSum f c false (x.isSig || y.isSig) [x, y]

/-- a − b. -/
def fSub (f : Fmt) (c : RCtl) (a b : Nat) : Nat × FFlags :=
  let x := f.source c.ftz a; let y := f.source c.ftz b
  roundSum f c false (x.isSig || y.isSig) [x, y.neg]

/-- a × b into format `g` (the same, or wider). -/
def fMulTo (f g : Fmt) (c : RCtl) (a b : Nat) : Nat × FFlags :=
  let x := f.source c.ftz a; let y := f.source c.ftz b
  let (p, inv) := x.mul y
  roundSum g c inv (x.isSig || y.isSig) [p]

/-- a × b + d with one rounding; a and b of format `f`, d and the result of format `g` (R97, R121, R125). -/
def fMaTo (f g : Fmt) (c : RCtl) (a b d : Nat) : Nat × FFlags :=
  let x := f.source c.ftz a; let y := f.source c.ftz b; let z := g.source c.ftz d
  let (p, inv) := x.mul y
  roundSum g c inv (x.isSig || y.isSig || z.isSig) [p, z]

/-- a / b (R76, R77, R79). -/
def fDiv (f : Fmt) (c : RCtl) (a b : Nat) : Nat × FFlags :=
  match f.source c.ftz a, f.source c.ftz b with
  | .nan s, y => outNan f (s || y.isSig)
  | .inf _, .nan t => outNan f t
  | .fin _ _ _, .nan t => outNan f t
  | .inf _, .inf _ => outNan f true
  | .inf n, .fin k _ _ => (f.withSign (n != k) f.infBits, 0)
  | .fin n _ _, .inf k => (f.withSign (n != k) 0, 0)
  | .fin n m e, .fin k d x =>
    if d = 0 then
      if m = 0 then outNan f true else (f.withSign (n != k) f.infBits, FFlags.dz)
    else if m = 0 then (f.withSign (n != k) 0, 0)
    else
      -- 64 extra bits make the quotient longer than any format
      let num := m * 2 ^ 64
      roundF f c.mode c.ftz (n != k) (num / d) (e - 64 - x) (num % d != 0)

/-- Square root (R97). -/
def fSqrt (f : Fmt) (c : RCtl) (a : Nat) : Nat × FFlags :=
  match f.source c.ftz a with
  | .nan s => outNan f s
  | .inf true => outNan f true
  | .inf false => (f.infBits, 0)
  | .fin n m e =>
    if m = 0 then (f.withSign n 0, 0)
    else if n then outNan f true
    else
      -- an even exponent with 80 or more extra bits
      let k : Nat := if e % 2 = 0 then 80 else 81
      let v := m * 2 ^ k
      let r := Nat.sqrt v
      roundF f c.mode c.ftz false r ((e - k) / 2) (r * r != v)

/-- Order of two values that are not NaNs, −0 below +0 when `zs`. -/
def FVal.lt (zs : Bool) : FVal → FVal → Bool
  | .inf n, .inf k => n && !k
  | .inf n, .fin _ _ _ => n
  | .fin _ _ _, .inf k => !k
  | .fin n m e, .fin k d x =>
    let q := min e x
    let a := FVal.int n m * 2 ^ (e - q).toNat
    let b := FVal.int k d * 2 ^ (x - q).toNat
    decide (a < b) || (zs && m == 0 && d == 0 && n && !k)
  | .nan _, _ => false
  | .inf _, .nan _ => false
  | .fin _ _ _, .nan _ => false

/-- Minimum or maximum by R76. The result keeps the bits of the operand chosen, read under FTZ. -/
def fMinMax (f : Fmt) (ftz isMax : Bool) (a b : Nat) : Nat × FFlags :=
  let x := f.source ftz a; let y := f.source ftz b
  let bits (v : FVal) (w : Nat) : Nat := match v with
    | .fin n m _ => if m = 0 then f.withSign n 0 else w
    | .inf _ => w
    | .nan _ => f.nanBits
  let fl := FFlags.when (x.isSig || y.isSig) FFlags.nv
  if x.isNan then (if y.isNan then f.nanBits else bits y b, fl)
  else if y.isNan then (bits x a, fl)
  else if (if isMax then y.lt true x else x.lt true y) then (bits x a, fl)
  else (bits y b, fl)

/-- A comparison by R76. -/
def fCmp (f : Fmt) (ftz : Bool) (cond : Cond) (a b : Nat) : Bool × FFlags :=
  let x := f.source ftz a; let y := f.source ftz b
  let nan := x.isNan || y.isNan
  let sig := FFlags.when (x.isSig || y.isSig) FFlags.nv
  let ord := FFlags.when nan FFlags.nv
  let lt := x.lt false y
  let gt := y.lt false x
  match cond with
  | .eq => (!nan && !lt && !gt, sig)
  | .ne => (nan || lt || gt, sig)
  | .lt => (!nan && lt, ord)
  | .le => (!nan && !gt, ord)
  | .gt => (!nan && gt, ord)
  | .ge => (!nan && !lt, ord)
  | .unord => (nan, sig)
  | .ord => (!nan, sig)

/-- Sign cleared or inverted (R120): exact, a NaN gives the canonical NaN. -/
def fSignOp (f : Fmt) (ftz isNeg : Bool) (a : Nat) : Nat × FFlags :=
  match f.source ftz a with
  | .nan s => outNan f s
  | .inf n => (f.withSign (isNeg && !n) f.infBits, 0)
  | .fin n m _ =>
    let b := if m = 0 then 0 else a % f.signBit
    (f.withSign (isNeg && !n) b, 0)

/-- Conversion between float formats (R84). A widening or identical conversion is exact. -/
def fCvt (f g : Fmt) (c : RCtl) (a : Nat) : Nat × FFlags :=
  match f.source c.ftz a with
  | .nan s => outNan g s
  | .inf n => (g.withSign n g.infBits, 0)
  | .fin n m e => outFin g c n m e

/-- Bounds of an integer type: signed or unsigned of width w (R82). -/
def intMin (w : Nat) (u : Bool) : Int := if u then 0 else -(2 ^ (w - 1))
/-- Upper bound of an integer type (R82). -/
def intMax (w : Nat) (u : Bool) : Int := if u then 2 ^ w - 1 else 2 ^ (w - 1) - 1

/-- The bits of an integer at width w: wrapped modulo 2^w (R83). -/
def wrapInt (w : Nat) (i : Int) : Nat := (i % 2 ^ w).toNat

/-- The integer nearest to i within the type (R83). -/
def clampInt (w : Nat) (u : Bool) (i : Int) : Int := max (intMin w u) (min (intMax w u) i)

/-- Deliver an exact integer: wrapped, or clamped with S (R83). -/
def deliverInt (w : Nat) (u s : Bool) (i : Int) : Nat := wrapInt w (if s then clampInt w u i else i)

/-- The integer that w bits stand for (R82). -/
def readInt (w : Nat) (u : Bool) (b : Nat) : Int :=
  if u || !b.testBit (w - 1) then (b % 2 ^ w : Nat) else ((b % 2 ^ w : Nat) : Int) - 2 ^ w

/-- Deliver a float value as an integer of width w (R84). -/
def fvalToInt (mode : RMode) (w : Nat) (u : Bool) : FVal → Nat × FFlags
  | .nan _ => (0, FFlags.nv)
  | .inf n => (wrapInt w (if n then intMin w u else intMax w u), FFlags.nv)
  | .fin n m e =>
    let (k, ix) := quantize mode n m e false 0
    let i := FVal.int n k
    if i < intMin w u then (wrapInt w (intMin w u), FFlags.nv)
    else if i > intMax w u then (wrapInt w (intMax w u), FFlags.nv)
    else (wrapInt w i, FFlags.when ix FFlags.nx)

/-- Float to integer (R84). -/
def fToInt (f : Fmt) (c : RCtl) (w : Nat) (u : Bool) (a : Nat) : Nat × FFlags :=
  fvalToInt c.mode w u (f.source c.ftz a)

/-- Integer to float (R84). -/
def intToF (f : Fmt) (c : RCtl) (i : Int) : Nat × FFlags := outFin f c (decide (i < 0)) i.natAbs 0

/-- A comparison of integers (R47). -/
def intCmp (cond : Cond) (a b : Int) : Bool :=
  match cond with
  | .eq => a == b | .ne => a != b
  | .lt => decide (a < b) | .le => decide (a ≤ b)
  | .gt => decide (a > b) | .ge => decide (a ≥ b)
  | .unord => false | .ord => true

end Sys2Proof.Machine
end

