-- ==== Sys2Proof/Config.lean ====
section
/-! DEFINITION. What the part or the run leaves open, as constants without a body: nothing in a proof can depend on their values. -/

namespace Sys2Proof.Config

/-- A free yes or no, applied to the counter of free values: which of two values a race that the spec leaves open gives (log 3). -/
opaque choice : Nat → Bool
/-- A free 64-bit value, applied to the counter of free values (log 3). -/
opaque freeWord : Nat → Word
/-- A byte of host memory that nothing has written (log 7). -/
opaque hostByte : Nat → Byte
/-- SHA-512 of a string of bytes: the spec names it and does not define it (log 9). -/
opaque sha512 : List Byte → BitVec 512
/-- The Ed25519 check of a signature of a message under a public key (log 9). -/
opaque ed25519Ok : BitVec 256 → BitVec 512 → List Byte → Bool
/-- The digest of the vendor's key in the package's fuses (log 5). -/
opaque keyFuse : BitVec 256
/-- The signature that the part's identity key makes (log 9). -/
opaque identitySign : List Byte → BitVec 512
/-- The part's fused security version (log 5). -/
opaque svnFuse : BitVec 16
/-- Correct rounding of a special function where the model's fixed precision does not decide it (log 12). -/
opaque roundsUp : Nat → Nat → Bool
/-- The row of its stack that a physical address lies in: the spec gives no size of a row (log 99). -/
opaque hbmRow : Nat → Nat

end Sys2Proof.Config
end

