-- ==== Sys2Proof/Machine/BootRom.lean ====
section
/-! DEFINITION. The boot ROM: the listing of 22_program_boot.md, line by line, and its words. LI stands expanded by R63. -/

namespace Sys2Proof.Machine

/-- Words 0 to 27 of the listing. -/
def romListing0 : List Instr := [
  .addi 6 0 1,
  .bne 5 6 3,
  .lui 27 16,
  .jalr 0 27 0,
  .crr 20 7,
  .andi 7 20 2015,
  .bne 7 0 75,
  .srli 21 20 5,
  .andi 21 21 1,
  .srli 22 20 10,
  .add 21 21 22,
  .addi 22 0 1000,
  .mul 21 21 22,
  .crw 21 2080,
  .addi 23 0 1,
  .slli 23 23 12,
  .or 23 23 20,
  .lui 26 1,
  .addi 25 0 16,
  .lcat 25 0,
  .lcat 25 0,
  .lcat 25 0,
  .lcat 25 128,
  .amake 3 26 25,
  .addi 13 0 1024,
  .srli 15 10 6,
  .lds 14 3 15 0 3 4,
  .srl 14 14 10]

/-- Words 28 to 55 of the listing. -/
def romListing1 : List Instr := [
  .andi 14 14 1,
  .beq 14 0 7,
  .addi 11 11 1,
  .blt 22 11 5,
  .andi 16 10 992,
  .add 16 16 10,
  .add 16 16 23,
  .crw 16 2081,
  .addi 10 10 1,
  .bne 10 13 16372,
  .lui 27 16,
  .addi 25 0 48,
  .lcat 25 0,
  .lcat 25 0,
  .lcat 25 2,
  .lcat 25 0,
  .amake 1 27 25,
  .lui 26 8,
  .addi 25 0 16,
  .lcat 25 0,
  .lcat 25 0,
  .lcat 25 2,
  .lcat 25 0,
  .amake 2 26 25,
  .addi 24 0 16,
  .lcat 24 0,
  .lcat 24 1007,
  .lcat 24 4096]

/-- Words 56 to 81 of the listing. -/
def romListing2 : List Instr := [
  .or 24 24 20,
  .crw 24 196,
  .lui 26 2,
  .copymc 1 2 26 0 0,
  .addi 15 0 1,
  .waitall 15,
  .vbcast 1 0 .i32 0,
  .addi 10 0 32,
  .ldv 0 1 0 0 3 2,
  .vadd 1 1 0 .i32 0 0,
  .addi 10 10 8191,
  .bne 10 0 16381,
  .vrsum 12 1 .i32 0 0,
  .addi 28 0 1,
  .slli 28 28 63,
  .add 29 21 22,
  .addi 10 21 1,
  .crw 10 2080,
  .crr 16 2081,
  .andi 16 16 4095,
  .or 16 16 28,
  .inv 0 16 2 1 .p false,
  .addi 10 10 1,
  .bne 10 29 16378,
  .jalr 0 27 0,
  .idle]

/-- The code of the boot ROM. -/
def romListing : List Instr := romListing0 ++ romListing1 ++ romListing2

/-- The words of `romListing0`. -/
def romWords0 : List Nat := [
  0xd0180001, 0x4c298003, 0xd46c0010, 0x4a06c000, 0x41a00380, 0xd09e87df, 0x4c38004b,
  0xd2d68005, 0xd0d6a001, 0xd2da800a, 0xc056b600, 0xd05803e8, 0xc556b600, 0x42ac1000,
  0xd05c0001, 0xd25ee00c, 0xc1def400, 0xd4680001, 0xd0640010, 0xd4e40000, 0xd4e40000,
  0xd4e40000, 0xd4e40080, 0x5c30d648, 0xd0340400, 0xd2bd4006, 0x5471bc1c, 0xc339ca00]

/-- The words of `romListing1`. -/
def romWords1 : List Nat := [
  0xd0b9c001, 0x4b700007, 0xd02d6001, 0x4db2c005, 0xd0c143e0, 0xc0420a00, 0xc0421700,
  0x42841080, 0xd0294001, 0x4c537ff4, 0xd46c0010, 0xd0640030, 0xd4e40000, 0xd4e40000,
  0xd4e40002, 0xd4e40000, 0x5c10de48, 0xd4680008, 0xd0640010, 0xd4e40000, 0xd4e40000,
  0xd4e40002, 0xd4e40000, 0x5c20d648, 0xd0600010, 0xd4e00000, 0xd4e003ef, 0xd4e01000]

/-- The words of `romListing2`. -/
def romWords2 : List Nat := [
  0xc1e31400, 0x42c06200, 0xd4680002, 0x6012d002, 0xd03c0001, 0x6103c001, 0xe8840040,
  0xd0280020, 0x5600801a, 0xe0042040, 0xd0295fff, 0x4c503ffd, 0xee302040, 0xd0700001,
  0xd273803f, 0xc076b600, 0xd02aa001, 0x42541000, 0x41841080, 0xd0c20fff, 0xc1c21c00,
  0x6804040e, 0xd0294001, 0x4c577ffa, 0x4a06c000, 0x40180000]

/-- The words of the boot ROM, first word at local offset 0. -/
def romWords : List Nat := romWords0 ++ romWords1 ++ romWords2

/-- A byte of the 4,096-byte boot ROM; past the code it is 0 (log 13). -/
def romByte (a : Nat) : Byte := BitVec.ofNat 8 (romWords.getD (a / 4) 0 / 2 ^ (8 * (a % 4)))

end Sys2Proof.Machine
end

