-- ==== Sys2Proof/Machine/Map.lean ====
section
/-! DEFINITION. Sparse data by key: a list of key and value pairs with keys strictly rising. A key that is not listed reads as a given default. -/

namespace Sys2Proof.Machine

/-- Values by key. -/
abbrev Map (β : Type) := List (Nat × β)

namespace Map

variable {β : Type}

/-- The value listed under a key. -/
def find (m : Map β) (k : Nat) : Option β :=
  match m with
  | [] => none
  | (i, v) :: r => if i = k then some v else find r k

/-- The value of a key; an unlisted one has the default. -/
def get (d : Nat → β) (m : Map β) (k : Nat) : β := (find m k).getD (d k)

/-- The map without a key. -/
def erase (m : Map β) (k : Nat) : Map β :=
  match m with
  | [] => []
  | (i, v) :: r => if i = k then erase r k else (i, v) :: erase r k

/-- List a value under a key that is not listed, in order. -/
def insert (m : Map β) (k : Nat) (v : β) : Map β :=
  match m with
  | [] => [(k, v)]
  | (i, w) :: r => if k < i then (k, v) :: (i, w) :: r else (i, w) :: insert r k v

/-- The map with a key set. -/
def put (m : Map β) (k : Nat) (v : β) : Map β := insert (erase m k) k v

/-- The map with a key set in canonical form: a value equal to the default is not listed. -/
def set [DecidableEq β] (d : Nat → β) (m : Map β) (k : Nat) (v : β) : Map β :=
  if v = d k then erase m k else put m k v

/-- Keys strictly rising. -/
def sorted (m : Map β) : Bool :=
  match m with
  | [] => true
  | (i, _) :: r => r.all (fun e => decide (i < e.1)) && sorted r

/-- The canonical form: keys strictly rising, no value equal to the default. -/
def canon [DecidableEq β] (d : Nat → β) (m : Map β) : Bool :=
  sorted m && m.all fun e => decide (e.2 ≠ d e.1)

end Map

end Sys2Proof.Machine
end

