-- ==== Sys2Proof/Machine/Memory.lean ====
section
/-! DEFINITION. Memory as a list of (address, byte) pairs in one canonical form, and what an unlisted address reads as (R144, R308, log 4, log 7). -/

namespace Sys2Proof.Machine

/-- The three memories of the package: a core's local memory, device memory (HBM), host memory behind the HOST window (R142). -/
inductive MemKind where
  | localMem | device | host
  deriving DecidableEq, Repr, Inhabited

/-- What an address that is not listed reads as: the boot ROM copy and zeros in local memory (R308), zeros in device memory (log 4), a free
byte in host memory (log 7). -/
def MemKind.unlisted (k : MemKind) (a : Nat) : Byte :=
  match k with
  | .localMem => if a < 0x1000 then romByte a else 0
  | .device => 0
  | .host => Config.hostByte a

/-- One memory. -/
structure Memory where
  kind : MemKind
  cells : List Host.Cell
  deriving DecidableEq, Repr

/-- An empty local memory. -/
def Memory.empty (k : MemKind) : Memory := ⟨k, []⟩

/-- Addresses strictly rising, and no entry equal to what an unlisted address reads as. -/
abbrev Memory.wf (m : Memory) : Prop :=
  Map.sorted m.cells = true ∧ ∀ e ∈ m.cells, e.2 ≠ m.kind.unlisted e.1

/-- The byte at an address. -/
def Memory.byte (m : Memory) (a : Nat) : Byte := Map.get m.kind.unlisted m.cells a

/-- The memory with a byte written. -/
def Memory.setByte (m : Memory) (a : Nat) (b : Byte) : Memory := { m with cells := Map.set m.kind.unlisted m.cells a b }

/-- `n` bytes from address `a`, little-endian, as a number (R2). -/
def Memory.load (m : Memory) (a n : Nat) : Nat :=
  match n with
  | 0 => 0
  | n + 1 => (m.byte a).toNat + 256 * m.load (a + 1) n

/-- The memory with the low `n` bytes of a number written from address `a`, little-endian (R2). -/
def Memory.store (m : Memory) (a n v : Nat) : Memory :=
  match n with
  | 0 => m
  | n + 1 => (m.setByte a (BitVec.ofNat 8 v)).store (a + 1) n (v / 256)

end Sys2Proof.Machine
end

