-- ==== Sys2Proof/Machine/Basic.lean ====
section
/-! DEFINITION. Causes of faults, names of registers and the small data that threads, cores and messages share (R35, R23, R149 to R152). -/

namespace Sys2Proof.Machine

/-- Fault causes (R35). -/
inductive Cause where
  | illegal | framing | privilege | lookahead | regrange | operand | align | bound | perm | window | windowspan
  | xlate | prot | poison | watchdog | barover | bartime | copyerr | remote | token | duplex | trapinsn | break_ | storelate
  deriving DecidableEq, Repr, Inhabited

/-- The code of a cause (R35). -/
def Cause.code : Cause → Nat
  | .illegal => 0x01 | .framing => 0x02 | .privilege => 0x03 | .lookahead => 0x04 | .regrange => 0x05 | .operand => 0x06
  | .align => 0x08 | .bound => 0x09 | .perm => 0x0A | .window => 0x0B | .windowspan => 0x0C | .xlate => 0x0D | .prot => 0x0E
  | .poison => 0x10 | .watchdog => 0x11 | .barover => 0x12 | .bartime => 0x13 | .copyerr => 0x14 | .remote => 0x15
  | .token => 0x16 | .duplex => 0x17 | .trapinsn => 0x18 | .break_ => 0x19 | .storelate => 0x1A

/-- Rank of a cause when a bundle has several faults: the least is reported (R35). -/
def Cause.rank : Cause → Nat
  | .framing => 0 | .illegal => 1 | .privilege => 2 | .regrange => 3 | .operand => 4 | .lookahead => 5
  | .align => 8 | .bound => 9 | .perm => 10 | .window => 11 | .windowspan => 12 | .xlate => 13 | .prot => 14
  | .poison => 16 | .watchdog => 17 | .barover => 18 | .bartime => 19 | .copyerr => 20 | .remote => 21
  | .token => 22 | .duplex => 23 | .trapinsn => 24 | .break_ => 25 | .storelate => 26

/-- A fault of a bundle: its cause, the slot (true for the A-slot) and the value of EVAL (R35); and, where the bundle itself read a poisoned word
of local memory at its issue, the address, whose record its raising writes (R367). -/
structure Trap where
  cause : Cause
  slot : Bool
  val : Word
  found : Option Nat := none
  deriving DecidableEq, Repr, Inhabited

/-- A register of one of the four files. A number beyond the file can be named by a group or a REP (R22, R112). -/
inductive RegRef where
  | x (n : Nat) | v (n : Nat) | a (n : Nat) | m (n : Nat)
  deriving DecidableEq, Repr, Inhabited

/-- An address register (R23). LIMIT has one bit more than 64: a range may end at the top of the address space (R102). -/
structure ARegV where
  ptr : Word
  base : Word
  limit : BitVec 65
  perm : Byte
  deriving DecidableEq, Repr, Inhabited

/-- Message classes (R149). -/
inductive MClass where
  | req | fwd | rsp | bulk
  deriving DecidableEq, Repr, Inhabited

/-- The agents that send and receive messages in the package. `out` is the way to another device (R349): node + 2048 × k, where k is 0 for the
device as a whole and otherwise tells its cores apart, as the sequence numbers do (R157). -/
inductive Agent where
  /-- the core at a site -/
  | core (site : Nat)
  /-- an L2 slice (R8) -/
  | slice (n : Nat)
  /-- the host bridge -/
  | bridge
  /-- the router of a site: steering and Kickoff nodes, Huddles, floods (R246, R281, R304, R309) -/
  | router (site : Nat)
  /-- the root of a group, by the group's index -/
  | root (grp : Nat)
  /-- another device of the pod, by node -/
  | out (node : Nat)
  /-- where the device translates accesses that name it by a device id (R148, R354) -/
  | gate
  /-- the router of a site that was the root of a group (R229) -/
  | former (site : Nat)
  deriving DecidableEq, Repr, Inhabited

/-- Who sent or receives a message, as the header names it (R150). -/
structure Who where
  dev : BitVec 11
  core : BitVec 12
  thr : BitVec 2
  deriving DecidableEq, Repr, Inhabited

/-- The flag bits of a header, [31] and [26:19] (R150). -/
structure MFlags where
  mapv : Bool := false
  last : Bool := false
  drain : Bool := false
  senior : Bool := false
  resent : Bool := false
  sup : Bool := false
  raw : Bool := false
  nt : Bool := false
  twin : Bool := false
  deriving DecidableEq, Repr, Inhabited

/-- A message: its route in the model, the header fields of R150, the 48 inline bytes as six words (word 0 is inline bytes 16 to 23 of
the first flit) and up to 8 payload flits. -/
structure Msg where
  /-- the model's own number of the message -/
  id : Nat
  frm : Agent
  dest : Agent
  cls : MClass
  typ : BitVec 6
  dst : Who
  src : Who
  rtag : BitVec 6 := 0
  tenant : BitVec 12 := 0
  seq : BitVec 16 := 0
  bounces : BitVec 4 := 0
  nflit : BitVec 4 := 0
  fl : MFlags := {}
  spec : BitVec 19 := 0
  w : Vector Word 6 := Vector.replicate 6 0
  pay : VWord := 0
  /-- times it was answered RETRY (R165) -/
  tries : Nat := 0
  /-- a forwarded message: the agent that awaits its answer, and its id there (R237) -/
  back : Option (Agent × Nat) := none
  /-- its entry in the root area, while a group's root holds it there (R227) -/
  ent : Option Nat := none
  /-- a core had accepted it before its member was parked: it still runs when the group drains (R236) -/
  kept : Bool := false
  /-- lines of an access to a core's local memory that are still to be performed, once it has begun (R290) -/
  todo : Option (List Nat) := none
  deriving DecidableEq, Repr, Inhabited

/-! Type codes (R152). -/
namespace MT
/-- INV -/ def inv : BitVec 6 := 0x01
/-- INVX -/ def invx : BitVec 6 := 0x02
/-- PASS -/ def pass : BitVec 6 := 0x03
/-- ACCEPT -/ def accept : BitVec 6 := 0x04
/-- REPLY -/ def reply : BitVec 6 := 0x05
/-- BREAK -/ def brk : BitVec 6 := 0x06
/-- FETCH -/ def fetch : BitVec 6 := 0x08
/-- VALUE -/ def value : BitVec 6 := 0x09
/-- HRELEASE -/ def hrelease : BitVec 6 := 0x0A
/-- LOAD -/ def load : BitVec 6 := 0x10
/-- STORE -/ def store : BitVec 6 := 0x11
/-- ATOMIC -/ def atomic : BitVec 6 := 0x12
/-- LOADFE -/ def loadfe : BitVec 6 := 0x13
/-- STOREFE -/ def storefe : BitVec 6 := 0x14
/-- ACK -/ def ack : BitVec 6 := 0x18
/-- NACK -/ def nack : BitVec 6 := 0x19
/-- RETRY -/ def retry : BitVec 6 := 0x1A
/-- RSTV -/ def rstv : BitVec 6 := 0x20
/-- READYDELTA -/ def readydelta : BitVec 6 := 0x21
/-- BOUNCE -/ def bounce : BitVec 6 := 0x22
/-- RDYQUERY -/ def rdyquery : BitVec 6 := 0x23
/-- RDYANSWER -/ def rdyanswer : BitVec 6 := 0x24
/-- BARARRIVE -/ def bararrive : BitVec 6 := 0x28
/-- BARRELEASE -/ def barrelease : BitVec 6 := 0x29
/-- BARBREAK -/ def barbreak : BitVec 6 := 0x2A
/-- BARCONFIG -/ def barconfig : BitVec 6 := 0x2B
/-- MCAST -/ def mcast : BitVec 6 := 0x30
/-- COPYDATA -/ def copydata : BitVec 6 := 0x31
/-- KICK -/ def kick : BitVec 6 := 0x32
/-- KICKEND -/ def kickend : BitVec 6 := 0x33
/-- DISCOVER -/ def discover : BitVec 6 := 0x38
/-- HOSTFRAME -/ def hostframe : BitVec 6 := 0x39
/-- GRPCTL -/ def grpctl : BitVec 6 := 0x3A
/-- GRPSTAT -/ def grpstat : BitVec 6 := 0x3B
/-- MARKER -/ def marker : BitVec 6 := 0x3C

/-- The assigned codes. -/
def assigned : List (BitVec 6) :=
  [inv, invx, pass, accept, reply, brk, fetch, value, hrelease, load, store, atomic, loadfe, storefe, ack, nack, retry,
   rstv, readydelta, bounce, rdyquery, rdyanswer, bararrive, barrelease, barbreak, barconfig, mcast, copydata, kick, kickend,
   discover, hostframe, grpctl, grpstat, marker]
end MT

end Sys2Proof.Machine
end

