-- ==== Sys2Proof/Machine/ThreadState.lean ====
section
/-! DEFINITION. What one hardware thread holds (R21 to R35, R155, R161, R213 to R222, R245, R279). -/

namespace Sys2Proof.Machine

/-- The four register files of a thread (R21, R22, R23, R25). Element 0 of `x` and of `m` is not the register: x0 reads zero, m0 all ones. -/
structure Regs where
  x : Vector Word 32 := Vector.replicate 32 0
  v : Vector VWord 32 := Vector.replicate 32 0
  a : Vector ARegV 16 := Vector.replicate 16 ⟨0, 0, 0, 0⟩
  m : Vector MWord 8 := Vector.replicate 8 0
  deriving DecidableEq, Repr, Inhabited

/-- Control registers of placement and of computation (R26, R27, R175, R188). -/
structure Ctl where
  tenant : BitVec 12 := 0
  gname : BitVec 48 := 0
  member : BitVec 12 := 0
  vallot : BitVec 6 := 32
  physxy : BitVec 12 := 0
  vctl : BitVec 3 := 0
  vflags : BitVec 5 := 0
  fmta : BitVec 2 := 0
  fmtb : BitVec 7 := 0
  scla : Word := 0
  sclb : Word := 0
  fade : BitVec 32 := 0
  mprio : BitVec 2 := 0
  accbase : BitVec 8 := 0
  acclen : BitVec 9 := 0
  msat : BitVec 1 := 0
  cpa : Vector Word 4 := Vector.replicate 4 0
  tgen : Word := BitVec.allOnes 64
  acttag : BitVec 6 := 0
  sbhold : BitVec 32 := 0
  bartmo : Word := 0x01000000
  deriving DecidableEq, Repr, Inhabited

/-- Control registers of traps, the watchdog and the counters (R26, R27, R314, R372). -/
structure Sys where
  tvec : Word := 0
  epc : Word := 0
  ecause : BitVec 9 := 0
  eval : Word := 0
  estatus : BitVec 4 := 0
  rgnpc : Word := 0
  repcnt : Word := 0
  wdog : Word := 0
  /-- the budget last armed, none while disarmed (R32, R35) -/
  armed : Option Word := none
  issued : Word := 0
  qwait : Word := 0
  srch : Word := 0
  runc : Word := 0
  acctx : BitVec 6 := 0
  deriving DecidableEq, Repr, Inhabited

/-- An instruction that is outstanding after its issue (R30, R31). -/
structure Outst where
  id : Nat
  /-- address of its bundle -/
  pc : Word
  /-- destination registers -/
  dst : List RegRef
  /-- bundles that may still issue in its window; none for a scoreboard entry -/
  win : Option Nat
  /-- an ACOP form, whose window excludes matrix and ACOP instructions -/
  acop : Bool := false
  /-- an acquire: no later access of the thread issues before it completes (R170) -/
  acq : Bool := false
  /-- completed -/
  fin : Bool := false
  /-- the error found at completion, not yet raised -/
  err : Option Trap := none
  /-- traps entered since that error, whose ERET has not come: it stays pending across them (R31) -/
  traps : Nat := 0
  deriving DecidableEq, Repr, Inhabited

/-- A register whose last completion failed: reading it faults until it is written (R31, R361). -/
structure Mark where
  reg : RegRef
  cause : Cause
  val : Word
  deriving DecidableEq, Repr, Inhabited

/-- A run of bytes of an access: its address, its place in the register, its length. -/
structure El where
  addr : Nat
  off : Nat
  len : Nat
  deriving DecidableEq, Repr, Inhabited

/-- What an access does with its bytes (R159, R160, R164, R169). -/
inductive AccOp where
  /-- scalar load, extended by SZ -/
  | loadX (d : XReg) (sz : BitVec 3)
  /-- vector load of `len` bytes, zero above -/
  | loadV (d : VReg) (len : Nat)
  /-- store of bytes of a value -/
  | store (data : VWord)
  | ldfe (d : XReg) (mode : BitVec 2)
  | stfe (data : Word) (mode : BitVec 2)
  | atomic (d : XReg) (op : BitVec 4) (o cmp : Word)
  /-- a wait on a handle of another core: HWAITV or HWAIT, its destination and its flag register (R273) -/
  | hwait (v : Bool) (d f : BitVec 5)
  deriving DecidableEq, Repr, Inhabited

/-- A part of an access to the thread's own local memory that is issued and not performed (R161, R290). -/
structure Access where
  /-- the outstanding instruction it belongs to; 0 for a store -/
  id : Nat
  /-- place in program order -/
  ord : Nat
  op : AccOp
  els : List El
  /-- what EVAL adds to an offset: the address of offset 0 as the program named it -/
  base : Word := 0
  /-- issued under the acquire or release of an atomic, or a non-temporal store (R162, R170) -/
  nt : Bool := false
  /-- in the retry list of its home, or held until a time (R165) -/
  waiting : Bool := false
  holdTo : Word := 0
  deriving DecidableEq, Repr, Inhabited

/-- A request to another home that awaits its answer in a response slot (R155). -/
structure Req where
  id : Nat
  op : AccOp
  /-- the place of the data in the destination -/
  el : El
  /-- address of the access, for EVAL -/
  addr : Word
  nt : Bool := false
  /-- its home, and the address there -/
  home : Agent
  loc : Nat
  /-- the space in which the thread issued it, and the slice to which the gate has sent one that names a device (R148, R295, R315) -/
  space : Option (BitVec 6 × BitVec 12) := none
  slice : Option Nat := none
  deriving DecidableEq, Repr, Inhabited

/-- What started an activation (R213, R215, R305). -/
inductive ActKind where
  | arrival | request | kick
  deriving DecidableEq, Repr, Inhabited

/-- The member's activation (R213, R217, R225). -/
structure Activation where
  kind : ActKind
  tag : BitVec 6
  /-- the invocation's handle (TOKEN = 0); 0 for a post -/
  handle : Word
  /-- SUP of the invocation: its handle names the device by node (R14, R259) -/
  sup : Bool := false
  /-- a reply was sent -/
  replied : Bool := false
  /-- the KICK whose Kickoff node awaits its end (R306) -/
  kickId : Nat := 0
  /-- that node: 4096 × team + site -/
  kickNode : Nat := 0
  /-- TIME at its acceptance and at its start, search cycles, ISSUED at its start (R373, R375) -/
  acc : Word := 0
  start : Word := 0
  search : Word := 0
  issued : Word := 0
  /-- the address at which it started, for trace records (R373) -/
  entry : BitVec 32 := 0
  deriving DecidableEq, Repr, Inhabited

/-- A request bit that is set: its tag, acceptance number and time, levels gained, eligible cycles toward the next, and since when it is
eligible (R215). -/
structure ReqBit where
  tag : Nat
  ord : Nat
  tacc : Word
  lvl : Nat := 0
  cyc : Nat := 0
  since : Option Word := none
  deriving DecidableEq, Repr, Inhabited

/-- A sticky entry (R222). -/
structure Sticky where
  grp : BitVec 48
  cls : BitVec 2
  /-- the member that accepted; none while the accept is awaited -/
  acceptor : Option (BitVec 12)
  /-- handle of the pass whose accept is awaited -/
  handle : Word
  used : Nat
  /-- later passes that wait for it, in issue order -/
  waiting : List Msg
  deriving DecidableEq, Repr, Inhabited

/-- State of a member (R231). -/
inductive MemberSt where
  | active | withdrawing | gone
  deriving DecidableEq, Repr, Inhabited

/-- The member resident in a slot (R209, R228, R232, R238, R299). -/
structure Resident where
  grp : Nat
  /-- group name and member index -/
  name : BitVec 48
  member : BitVec 12
  /-- the slot still runs supervisor code: the registers are loaded when it goes idle (R228) -/
  late : Bool := false
  /-- thread key of the other twin, and whether this is the twin of a primary (R368) -/
  twin : Option Nat := none
  isTwin : Bool := false
  st : MemberSt := .active
  spillOff : Nat := 0
  spillN : Nat := 0
  /-- the method table in force: 64 entries of 8 bytes -/
  mtab : VWord := 0
  /-- a park is requested (R232) -/
  parkReq : Bool := false
  /-- the save has begun: nothing is accepted for the member -/
  saving : Bool := false
  /-- TIME at which the park request was honoured -/
  parkAt : Word := 0
  /-- vector registers live at the park point -/
  vmask : BitVec 32 := 0
  /-- senders of which a LAST message is awaited; a Relay is one for what it forwards (R238, R240, R267) -/
  lastOf : List (Bool × Who) := []
  deriving DecidableEq, Repr, Inhabited

/-- A member's bits for the 16 barriers, and its wait timer (R279, R284 to R286). -/
structure BarBits where
  part : BitVec 16 := 0
  arrived : BitVec 16 := 0
  phase : BitVec 16 := 0
  waiting : BitVec 16 := 0
  broken : BitVec 16 := 0
  /-- the present wait ends with BARTIME, or without effect (R280, R285) -/
  cut : BitVec 16 := 0
  leave : BitVec 16 := 0
  /-- the barrier of the present wait, TIME from which its cycles are counted, cycles counted before, and whether the break was sent -/
  on : BitVec 4 := 0
  since : Option Word := none
  waited : Word := 0
  timedOut : Bool := false
  deriving DecidableEq, Repr, Inhabited

/-- Places where a park request is honoured (R109, R232, R287). -/
inductive ParkPt where
  | none | yield | barrier
  deriving DecidableEq, Repr, Inhabited

/-- A REP unit in progress: its address, iterations done, count, and its two words as fetched (R112). -/
structure RepUnit where
  pc : Word
  k : Nat
  count : Nat
  word : IWord := 0
  word2 : IWord := 0
  deriving DecidableEq, Repr, Inhabited

/-- A fault that waits for the thread's outstanding work before its entry (R359). -/
structure PendTrap where
  trap : Trap
  epc : Word
  rep : Option Nat
  /-- ESTATUS as it stood at the bundle -/
  st : BitVec 4
  deriving DecidableEq, Repr, Inhabited

/-- How control moves once the A-slot of the bundle is complete (R40): YIELD with the mask of the live registers, or DONE (0) and IDLE (1). -/
inductive Leave where
  | yield (live : BitVec 32) | finish (how : Nat)
  deriving DecidableEq, Repr, Inhabited

/-- One hardware thread. -/
structure Thread where
  regs : Regs := {}
  ctl : Ctl := {}
  sys : Sys := {}
  pc : Word := 0
  /-- supervisor mode -/
  sup : Bool := false
  /-- running, not idle (R117) -/
  running : Bool := false
  act : Option Activation := none
  /-- the request bits that are set (R215) -/
  reqs : List ReqBit := []
  res : Option Resident := none
  outst : List Outst := []
  marks : List Mark := []
  accs : List Access := []
  slots : Vector (Option Req) 8 := Vector.replicate 8 none
  /-- it has written to the HOST window (R294) -/
  hostW : Bool := false
  /-- address of the first failed store not yet raised (R161) -/
  storelate : Option Word := none
  trap : Option PendTrap := none
  rep : Option RepUnit := none
  /-- the next bundle was reached by ERET (R113) -/
  viaEret : Bool := false
  park : ParkPt := .none
  sticky : List Sticky := []
  jobCtr : BitVec 16 := 0
  /-- status words of the last 16 job ids, newest first (R199) -/
  jobHist : List Word := []
  ready : Vector (BitVec 16) 4 := Vector.replicate 4 0
  bar : BarBits := {}
  tagUsed : Word := 0
  /-- a request the next issue of its bundle awaits: an answer has come (HTEST, BARCFG, WAIT forms that ask another agent) -/
  answer : Option Word := none
  /-- the bundle has sent its question -/
  asked : Bool := false
  /-- the slot last tried that waits, as the clock sees it: while it waits only on a hold bit or on tags, the clock may stop (R390) -/
  stalled : Option Instr := none
  /-- outstanding instructions for whose completion the held bundle has waited (R31) -/
  waitedOn : List Nat := []
  /-- accesses translated before the held TLBINV, or requests taken before the held SWITCH, which it awaits (R331, R358) -/
  xlIds : List Nat := []
  /-- YIELD, DONE or IDLE of a bundle whose A-slot is still outstanding (R40) -/
  leave : Option Leave := none
  /-- the twin pair failed: DUPLEX is raised at the next bundle, with EVAL (R369) -/
  duplex : Option Word := none
  /-- context slot and virtual address of a walk that found no mapping for the held bundle (R148) -/
  xfail : List (BitVec 6 × Nat) := []
  deriving DecidableEq, Repr, Inhabited

end Sys2Proof.Machine
end

