-- ==== Sys2Proof/Machine/CoreState.lean ====
section
/-! DEFINITION. What one core holds beside its threads: local memory, engines, arrival queue, Relay, caches, trace unit (R15). -/

namespace Sys2Proof.Machine

/-- An entry of a retry list: a request of another agent, or an access of the home core's own thread (thread key, place in its order) (R165). -/
inductive RetryEnt where
  | remote (m : Msg)
  | own (key ord : Nat)
  deriving DecidableEq, Repr, Inhabited

/-- Local memory: bytes, empty full-empty words by word number (default full, R163), poisoned bytes (R362). -/
structure LocalMem where
  bytes : Memory := .empty .localMem
  fe : Map Bool := []
  pois : Map Bool := []
  /-- full-empty accesses that wait, in arrival order (R165) -/
  retry : List RetryEnt := []
  deriving DecidableEq, Repr

/-- Forms that occupy a copy slot (R174, R172, R241). -/
inductive CopyKind where
  | copy | copy2d | copymc | copygt | mcast | rstv
  deriving DecidableEq, Repr, Inhabited

/-- A piece of a copy, not yet written: a part of one line of the destination, read from one or two lines of the source (R179). -/
structure CopyJob where
  /-- its number within the copy -/
  line : Nat
  /-- address of its first byte in the destination, as the program named it, and its length -/
  dst : Nat
  len : Nat
  /-- its bytes so far, and how many have been read -/
  data : Nat := 0
  got : Nat := 0
  /-- the poisoned ones: offset of the first, and number -/
  pz : Nat × Nat := (0, 0)
  deriving DecidableEq, Repr, Inhabited

/-- A copy, multicast or register store in flight (R172, R176 to R181, R241). -/
structure Copy where
  id : Nat
  /-- thread key of the issuer -/
  owner : Nat
  kind : CopyKind
  tag : BitVec 6
  src : ARegV
  dst : ARegV
  /-- length of a row, number of rows, pitches, offset of the gather list (R175) -/
  len : Nat
  rows : Nat := 1
  spitch : Nat := 0
  dpitch : Nat := 0
  /-- COPYMC: its set as a rectangle word, and whether it is ordered (R173, R175) -/
  rect : Word := 0
  ordered : Bool := false
  /-- the issuer's mode, its core's tenant, and the space of its device accesses (R315) -/
  sup : Bool := false
  ten : BitVec 12 := 0
  space : Option (BitVec 6 × BitVec 12) := none
  /-- parts not yet read, two for each piece, as ranges [from, upto) of their numbers -/
  todo : List (Nat × Nat) := []
  /-- pieces that have been begun and are not yet written -/
  lines : List CopyJob := []
  /-- gather entries as the engine read them, by number (R176) -/
  gread : List (Nat × Word) := []
  /-- writes whose acknowledgement is outstanding -/
  pend : Nat := 0
  /-- earlier accesses of the thread that its acquire (ACQ) and its release (REL) await: response slots (2 × number) and places in program order (2 × place + 1) -/
  acqIds : List Nat := []
  cpaAcq : Bool := false
  cpaRel : Bool := false
  /-- a release at scope HOST, IO or SYSTEM still owes its read through the host bridge (R179) -/
  hostRead : Bool := false
  /-- context slots and virtual addresses of its walks that found no mapping (R148) -/
  xfail : List (BitVec 6 × Nat) := []
  err : Bool := false
  stopped : Bool := false
  deriving DecidableEq, Repr, Inhabited

/-- A special-function request (R135, R136). -/
structure SfuReq where
  key : Nat
  id : Nat
  instr : Instr
  src : VWord
  mask : MWord
  /-- rounding controls at its issue: FTZ -/
  ftz : Bool
  started : Bool := false
  deriving DecidableEq, Repr, Inhabited

/-- A memory-to-memory instruction in progress (R138, R139). -/
structure MmOp where
  key : Nat
  id : Nat
  instr : Instr
  d : Nat
  s1 : Nat
  s2 : Nat
  /-- rounding controls at its issue -/
  mode : RMode
  ftz : Bool
  deriving DecidableEq, Repr, Inhabited

/-- An arrival that waits at a core (R209 to R212, R224, R266, R268, R305). -/
structure Arrival where
  msg : Msg
  key : Nat
  /-- acceptance number, and the time of acceptance (R210) -/
  ord : Nat
  tacc : Word := 0
  raw : Bool := false
  /-- it holds its thread's reserved entry (R224) -/
  resv : Bool := false
  /-- a Kickoff start (R305) -/
  kick : Bool := false
  /-- entry of the spill area that holds it; none in the input buffer -/
  spill : Option Nat := none
  /-- argument words resolved so far -/
  vals : List (Nat × Word) := []
  /-- handles whose VALUE is awaited -/
  needs : List Word := []
  /-- it is counted on an entry of the held-result table (R266) -/
  counted : Bool := false
  /-- priority levels gained, eligible cycles toward the next, and since when it is eligible (R212) -/
  lvl : Nat := 0
  cyc : Nat := 0
  since : Option Word := none
  deriving DecidableEq, Repr, Inhabited

/-- States of a promise slot (R261). -/
inductive PState where
  | free | pending | bound | resolved | broken
  deriving DecidableEq, Repr, Inhabited

/-- The consumer of a promise (R260). -/
structure Consumer where
  grp : BitVec 48
  member : BitVec 12
  core : Who
  deriving DecidableEq, Repr, Inhabited

/-- A promise slot (R260, R261). It is DRAINING while its consumer is known and its FIFO is not empty. -/
structure PSlot where
  gen : BitVec 24 := 0
  st : PState := .free
  /-- a GRP, KICK or CKPT promise, without a consumer -/
  control : Bool := false
  consumer : Option Consumer := none
  holder : Option Who := none
  /-- DEV of the handle as it was issued (R259), and whether the consumer's and the holder's cores are named by node (R14) -/
  dev : BitVec 11 := 0x7FF
  csup : Bool := false
  hsup : Bool := false
  result : BitVec 512 := 0
  fifo : List Msg := []
  fetchers : List Msg := []
  freeMark : Bool := false
  /-- threads that wait on it locally: thread key, outstanding id, HWAITV, d, f -/
  waiters : List (Nat × Nat × Bool × Nat × Nat) := []
  deriving DecidableEq, Repr, Inhabited

/-- An entry of the held-result table (R263). -/
structure Held where
  handle : Word
  data : BitVec 512
  held : Bool
  count : Nat
  deriving DecidableEq, Repr, Inhabited

/-- A message to a member that awaits its answer, or another unaccepted invocation: the model's id, the thread key, the member's target word
(0 for the others), where it was sent, and whether it counts among the 16 unaccepted invocations (R157, R237). -/
structure Sent where
  id : Nat
  key : Nat
  target : Word := 0
  dest : Agent
  counts : Bool
  deriving DecidableEq, Repr, Inhabited

/-- The end report of a started activation waits for the accesses that its release covers (R306): the report, its thread, the response slots
(2 × number) and places in program order (2 × place + 1) of accesses, and the place in program order of the end. -/
structure EndReport where
  msg : Nat
  key : Nat
  ids : List Nat
  ord : Nat
  deriving DecidableEq, Repr, Inhabited

/-- An entry of the location cache (R237); member 0xFFF is the group root. -/
structure LocEnt where
  grp : BitVec 48
  member : BitVec 12
  loc : Who
  deriving DecidableEq, Repr, Inhabited

/-- An entry of a translation cache (R328). -/
structure TlbEnt where
  ten : BitVec 12
  /-- first virtual address of the page, and whether it is a 512 MiB page -/
  va : Nat
  large : Bool
  pa : Nat
  /-- the leaf's low 8 bits (R327) -/
  perm : Byte
  /-- physical address of the leaf -/
  leaf : Nat
  deriving DecidableEq, Repr, Inhabited

/-- A translation asked for: the thread, the tables' context slot and tenant, the virtual address (R328). -/
structure WalkReq where
  key : Nat
  slot : BitVec 6
  va : Nat
  /-- its place in the order of the misses -/
  ord : Nat := 0
  /-- the copy of the core that asks, if not the thread -/
  copy : Option Nat := none
  deriving DecidableEq, Repr, Inhabited

/-- A 128-byte line as a fetch found it, which the instruction cache may still return (R298): the tenant of its tables (0 for LOCAL), its
address, its words, and which of them are poisoned. -/
structure ICLine where
  ten : BitVec 12
  addr : Word
  words : Vector IWord 32
  pois : BitVec 32
  deriving DecidableEq, Repr, Inhabited

/-- Trace unit and debug registers of a core (R372, R376). -/
structure Trace where
  trbase : Word := 0
  trctl : Word := 0
  trhead : Word := 0
  trtail : Word := 0
  dbgctl : Word := 0
  wpaddr : Word := 0
  wpctl : Word := 0
  buf : List (BitVec 256) := []
  lost : Nat := 0
  deriving DecidableEq, Repr, Inhabited

/-- Sample points and selector registers of a core (R310, R314, R348, R363, R388). -/
structure Sel where
  l2pidx : BitVec 12 := 0
  ctxsel : BitVec 6 := 0
  errsel : BitVec 5 := 0
  rtidx : BitVec 11 := 0
  meas : Vector Word 8 := Vector.replicate 8 0
  deriving DecidableEq, Repr, Inhabited

/-- Completion tags and copies of a core (R178). -/
structure Tags where
  tdone : Word := 0
  terr : Word := 0
  cnt : Vector (BitVec 8) 64 := Vector.replicate 64 0
  copies : List Copy := []
  deriving DecidableEq, Repr, Inhabited

/-- The Relay of a core (R260, R263, R266, R277). -/
structure Relay where
  slots : Map PSlot := []
  held : List Held := []
  /-- handles for which this core has a FETCH outstanding -/
  fetches : List Word := []
  deriving DecidableEq, Repr, Inhabited

/-! ### The matrix engine (R186 to R206) -/

/-- An operand of a command: a register group read at issue, or stored rows in local memory (R190, R191). -/
inductive MOperand where
  | group (v : Vector VWord 4)
  | rows (base rot tpitch rpitch : Nat)
  deriving DecidableEq, Repr, Inhabited

/-- A loop level of a job card (R196). -/
structure Level where
  count : Nat
  sa : Int
  sb : Int
  sc : Int
  k : Bool
  deriving DecidableEq, Repr, Inhabited

/-- Commands of the engine (R201). -/
inductive MKind where
  | mtile | job | acst | acstb | acld | aczero | acstsc
  deriving DecidableEq, Repr, Inhabited

/-- Where a command stands; `ending` awaits the write of its last update (R194). -/
inductive MSt where
  | queued | running | suspended | ending
  deriving DecidableEq, Repr, Inhabited

/-- A command of the engine's queue, with what it sampled at its issue (R91, R197, R201). -/
structure MCmd where
  key : Nat
  /-- the outstanding instruction of an ACOP form; 0 for the others -/
  id : Nat
  /-- place in the thread's program order, and in issue order of the core -/
  ord : Nat
  kind : MKind
  st : MSt := .queued
  prio : Nat
  /-- priority levels gained, TIME from which the next is counted, and cycles already counted toward it when the command last started -/
  aged : Nat := 0
  since : Word := 0
  cyc : Word := 0
  /-- the instruction word, and the x values read at issue (R233) -/
  word : IWord := 0
  xs : Vector Word 5 := Vector.replicate 5 0
  /-- the card of a job -/
  card : BitVec 1024 := 0
  fmta : BitVec 2 := 0
  fmtb : BitVec 7 := 0
  scla : Word := 0
  sclb : Word := 0
  fade : BitVec 32 := 0
  mode : BitVec 2 := 0
  ta : Bool := false
  tb : Bool := false
  opA : MOperand := .rows 0 0 0 0
  opB : MOperand := .rows 0 0 0 0
  /-- tile number: of an MTILE or a transfer, or the first of a job -/
  tile : Nat := 0
  levels : List Level := []
  idx : List Nat := []
  steps : Nat := 0
  /-- partial integer sums, by 32 × row + column -/
  sums : List Int := []
  /-- scale values read for the operation under way, by number: 32 of A, then 32 of B (R91) -/
  scales : Map (BitVec 32) := []
  /-- poisoned lines of scales found in it -/
  sclPois : List Nat := []
  /-- poisoned data entered the operation under way, the job -/
  opPois : Bool := false
  psn : Bool := false
  jobId : BitVec 16 := 0
  cancel : Bool := false
  /-- the update not yet written: tile, elements, poison bit -/
  update : Option (Nat × List (BitVec 32) × Bool) := none
  /-- a transfer's address, pitch and multiplier -/
  addr : Nat := 0
  pitch : Nat := 0
  mul : BitVec 32 := 0
  /-- restored from a save image: goes ahead of new commands (R206) -/
  restored : Bool := false
  /-- stopped by the park of its member (R206) -/
  frozen : Bool := false
  /-- its member has left the thread: no job of the thread's next member is meant (R199, log 54) -/
  orphan : Bool := false
  deriving DecidableEq, Repr, Inhabited

/-- An MWAIT that waits for a job: thread key, outstanding instruction, job id, destination (R200). -/
structure MWaiter where
  key : Nat
  id : Nat
  job : BitVec 16
  dst : XReg
  deriving DecidableEq, Repr, Inhabited

end Sys2Proof.Machine
end

