-- ==== Sys2Proof/Machine/GroupState.lean ====
section
/-! DEFINITION. Groups: descriptor, placement, members, steering, barriers, Kickoff (R226 to R239, R244 to R252, R279 to R287, R303 to R306). -/

namespace Sys2Proof.Machine

/-- States of a group (R231). -/
inductive GState where
  | allocated | placed | running | parked | moving | draining | ended
  deriving DecidableEq, Repr, Inhabited

/-- The group descriptor, with defaults filled in (R227). -/
structure Desc where
  teams : Nat
  vallot : BitVec 6
  duplex : Bool
  pool : Bool
  acclen : BitVec 9
  spill : Nat
  methods : Word
  savebase : Word
  savestride : Word
  qbase : Word
  benchsp : Nat
  qdepth : Nat
  slot : BitVec 6
  job : Word
  deriving DecidableEq, Repr, Inhabited

/-- A team entry (R228). -/
structure Team where
  site : BitVec 12
  w : Nat
  h : Nat
  tmask : BitVec 4
  first : Nat
  accb : BitVec 32
  spillOff : Nat
  deriving DecidableEq, Repr, Inhabited

/-- What a parked member keeps beside its save image, which has no place for it (R30, R31, R34, R201, R205, R206, R208, R217, R294, log 96). -/
structure Saved where
  /-- the activation inside which it is parked -/
  act : Option Activation := none
  /-- the watchdog budget last armed in it -/
  armed : Option Word := none
  /-- request bits, with their ages -/
  reqs : List ReqBit := []
  /-- TVEC, EPC, ECAUSE, EVAL, ESTATUS, REPCNT and ACCTX -/
  sys : Sys := {}
  /-- of each command record, whether it had read poisoned data for the update to come, the priority it was issued with, and its
  outstanding instruction -/
  cmds : List (Bool × Nat × Nat) := []
  /-- its windows and scoreboard entries, with the errors not yet raised, and the registers that a failed completion has marked -/
  outst : List Outst := []
  marks : List Mark := []
  hostW : Bool := false
  deriving DecidableEq, Repr, Inhabited

/-- A member as its group records it (R231, R233, R287). -/
structure MemberRec where
  st : MemberSt := .active
  /-- its registers are in the save image, not in a core -/
  parked : Bool := false
  /-- barrier bits while it is not resident -/
  bar : BarBits := {}
  /-- readiness while it is not resident -/
  ready : Vector (BitVec 16) 4 := Vector.replicate 4 0
  /-- its redirect queue (R238) -/
  queue : List Msg := []
  /-- messages at its front that were copied there at the park: one that comes back from the core goes behind them (R232, R240) -/
  ahead : Nat := 0
  /-- the queue must be drained with LAST marks before direct messages of these senders (R238) -/
  listed : Bool := false
  /-- an image exists; without one a restore starts from zero registers -/
  image : Bool := false
  /-- what it, and its twin, keep beside the save image -/
  own : Saved := {}
  dual : Saved := {}
  deriving DecidableEq, Repr, Inhabited

/-- A child count of a steering node (R246, R247, R249). Children: 0 to 3 slots, 4 east, 5 south, 6 + t team t (root only). -/
structure Steer where
  node : Nat
  cls : Nat
  child : Nat
  count : Nat := 0
  credit : Nat := 0
  deriving DecidableEq, Repr, Inhabited

/-- One level's counts at a Huddle: expected, arrived, and whether it has sent its arrival for the phase (R281, R285). -/
structure Huddle where
  exp : Nat := 0
  arr : Nat := 0
  sent : Bool := false
  /-- phases that have been released through it, modulo 2 -/
  phase : Bool := false
  /-- the configuration that a team's Huddle holds (R280, log 48) -/
  ep : Nat := 0
  deriving DecidableEq, Repr, Inhabited

/-- A barrier of a group (R279 to R287). -/
structure Barrier where
  teams : BitVec 64 := 0
  /-- the teams that take part: those with a participant, at the configuration or at the last recount (R280, R281, R287) -/
  parts : BitVec 64 := 0
  team : Map Huddle := []
  die : Map Huddle := []
  pkg : Huddle := {}
  phase : Bool := false
  broken : Bool := false
  /-- configurations so far, and recounts at a GRUN: a message that was sent under an earlier one is not counted (R280, R287, log 48) -/
  ep : Nat := 0
  cnt : Nat := 0
  deriving DecidableEq, Repr, Inhabited

/-- The transition in progress (R230). -/
structure Trans where
  /-- FN of R243 -/
  fn : Nat
  /-- the GRPCTL that started it, which GRPSTAT answers; none when a context ends the group (R316) -/
  msg : Option Msg := none
  /-- members or cores whose reports are awaited -/
  pend : Nat := 0
  /-- GMOVE of a running group: its members park first (true), then become resident again -/
  parking : Bool := false
  /-- placement that takes effect once every member is parked, twins after primaries -/
  place : List Team := []
  /-- status at its end -/
  status : Nat := 0
  member : Nat := 0
  deriving DecidableEq, Repr, Inhabited

/-- A node of a Kickoff tree that awaits end reports: in the tree of a team, or the group root above them (R304, R306). -/
structure KNode where
  /-- the KICK's message id -/
  kick : Nat
  /-- site; 4096 for the group root -/
  site : Nat
  team : Nat := 0
  /-- site of the node above; 4096 for the group root -/
  parent : Nat := 4096
  /-- children and members not yet reported -/
  pend : Nat
  started : Nat := 0
  faulted : Nat := 0
  /-- the KICK -/
  msg : Msg
  deriving DecidableEq, Repr, Inhabited

/-- A group (R226 to R239). -/
structure Group where
  idx : Nat
  gen : BitVec 24
  dev : BitVec 11
  st : GState
  desc : Desc
  tenant : BitVec 12
  teams : List Team := []
  twins : List Team := []
  members : List MemberRec := []
  root : Nat := 0
  /-- former root sites that forward (R229) -/
  oldRoots : List Nat := []
  pool : Option Nat := none
  trans : Option Trans := none
  /-- the Bench, oldest first (R252) -/
  bench : List Msg := []
  steer : List Steer := []
  /-- the model's number of the first message sent since the tree was built: an earlier report is of another tree (R246, R247) -/
  treeAt : Nat := 0
  /-- last child chosen, by node and class (R249) -/
  last : List ((Nat × Nat) × Nat) := []
  bars : Vector Barrier 16 := Vector.replicate 16 {}
  /-- the BARCFG under way, and Huddles that have not yet confirmed it (R280) -/
  barcfg : Option (Msg × Nat) := none
  /-- KICKs held until the next GRUN (R303) -/
  kicks : List Msg := []
  knodes : List KNode := []
  /-- the teams whose trees a KICK went down, by the KICK (R304) -/
  ktrees : List (Nat × List Team) := []
  /-- messages forwarded to a member whose answer is awaited: id of the forwarded message, the message as it came (R237) -/
  fwds : List (Nat × Msg) := []
  /-- the method table as last read: 64 entries of 8 bytes (R299) -/
  mtab : VWord := 0
  deriving DecidableEq, Repr, Inhabited

/-- An entry of the group directory: the generation an index will issue next, or retired (R226). -/
structure DirEnt where
  gen : BitVec 24 := 1
  retired : Bool := false
  deriving DecidableEq, Repr, Inhabited

end Sys2Proof.Machine
end

