-- ==== Sys2Proof/Machine/DeviceState.lean ====
section
/-! DEFINITION. What the device holds beside its cores and groups: device memory, contexts, the L2P map, error records,
the host channel, boot, dies, ports and maps of logical devices, Referee, checkpoints (R147, R163, R309 to R326, R333 to R391). -/

namespace Sys2Proof.Machine

/-- Device memory: plaintext bytes; the key under which each 64-byte sector was last written whole (0: never, 1: tenant 0's); full-empty bits
by word number (default full); poisoned bytes; waiting full-empty requests by slice, in arrival order (R163, R165, R333, R334). -/
structure Hbm where
  bytes : Memory := .empty .device
  sec : Map Nat := []
  fe : Map Bool := []
  pois : Map Bool := []
  /-- damage that ECC finds in a sector: 1 it can be corrected, 2 it can not (R333) -/
  ecc : Map Nat := []
  /-- corrected errors recorded in a row since it was last replaced, by 8 × row + stack (R370) -/
  rowErr : Map Nat := []
  retry : List (Nat × Msg) := []
  deriving DecidableEq, Repr

/-- States of a context (R314). -/
inductive CtxSt where
  | free | creating | active | growing | shrinking | destroying
  deriving DecidableEq, Repr, Inhabited

/-- The code of a context's state (R314). -/
def CtxSt.code : CtxSt → Nat
  | .free => 0 | .creating => 1 | .active => 2 | .growing => 3 | .shrinking => 4 | .destroying => 5

/-- A context slot (R314, R317). -/
structure CtxSlot where
  tenant : BitVec 12 := 0
  func : BitVec 7 := 0
  /-- a function level reset has unbound the function (R384) -/
  unbound : Bool := false
  st : CtxSt := .free
  err : BitVec 3 := 0
  rect : BitVec 24 := 0
  /-- rectangle that a grow or a shrink leads to -/
  newRect : BitVec 24 := 0
  root : Word := 0
  chan : BitVec 14 := 0
  /-- the key slot: the number of its key, none when absent -/
  key : Option Nat := none
  deriving DecidableEq, Repr, Inhabited

/-- A write of the L2P map on its way to the routers (R311). -/
structure L2pUpd where
  writer : Nat
  idx : Nat
  val : BitVec 13
  /-- routers that it has reached -/
  got : List Nat
  /-- those of them in which no write of the same entry has arrived since -/
  held : List Nat
  deriving DecidableEq, Repr, Inhabited

/-- The L2P map: what every router holds, and the writes on their way, oldest first (R311). -/
structure L2p where
  base : Map (BitVec 13) := []
  upd : List L2pUpd := []
  deriving DecidableEq, Repr, Inhabited

/-! ### Records and the host channel -/

/-- An error record bank (R362, R363). -/
structure ErrBank where
  valid : Bool := false
  rank : BitVec 2 := 0
  overrun : Bool := false
  lost : Bool := false
  source : BitVec 8 := 0
  count : BitVec 16 := 0
  tenant : BitVec 12 := 0
  addr : Word := 0
  synd : Word := 0
  time : Word := 0
  info : Word := 0
  deriving DecidableEq, Repr, Inhabited

/-- A device frame that waits for room in its ring (R324). -/
structure DevFrame where
  body : BitVec 512
  /-- the thread whose HFSEND waits; none for the bridge's own frames -/
  sender : Option Nat := none
  deriving DecidableEq, Repr, Inhabited

/-- The channel of one PCI Express function (R321 to R324). -/
structure Chan where
  /-- the frame window -/
  window : Map (BitVec 512) := []
  /-- frames that the bridge has read and not yet accepted -/
  got : List (BitVec 512) := []
  hseqack : BitVec 32 := 0
  dseq : BitVec 32 := 0
  drhead : BitVec 32 := 0
  drbase : Word := 0
  drsize : BitVec 5 := 6
  msixv : BitVec 11 := 0
  /-- device frames waiting, oldest first -/
  queue : List DevFrame := []
  /-- the HOSTFRAME of frame HSEQACK + 1 is on its way -/
  injected : Bool := false
  /-- TIME at which a frame began to wait for a missing one, and whether its GAP was sent -/
  gapSince : Option Word := none
  gapSent : Bool := false
  /-- frames of the bridge itself that found its queue full (R324) -/
  lost : Nat := 0
  /-- MSI-X vectors raised -/
  irqs : List (BitVec 11) := []
  deriving DecidableEq, Repr, Inhabited

/-! ### Boot, dies, power -/

/-- STATE of BOOTSTAT (R385). -/
inductive BootSt where
  | wait | checking | running | failed
  deriving DecidableEq, Repr, Inhabited

/-- BOOTSTAT.STATE (R385). -/
def BootSt.code : BootSt → Nat
  | .wait => 0 | .checking => 1 | .running => 2 | .failed => 3

/-- The boot and attestation registers (R385 to R389). -/
structure Boot where
  st : BootSt := .wait
  code : BitVec 4 := 0
  meas : BitVec 512 := 0
  /-- the staged image; bytes beyond its end are zero -/
  stage : List Byte := []
  attreq : BitVec 512 := 0
  attrep : BitVec 2048 := 0
  /-- the nonce of the report under way -/
  pending : Option (BitVec 512) := none
  /-- SVN of the running image -/
  svn : BitVec 16 := 0
  /-- the size of BAR2 that the host has chosen: 2^n GiB (R383, log 102) -/
  bar2 : Nat := 0
  deriving DecidableEq, Repr, Inhabited

/-- One die (R309, R310, R372, R378). -/
structure Die where
  drpctl : Word := 0
  /-- how far the supply of a detector stands below nominal, in millivolts: an input (R378, log 108) -/
  supply : Map Nat := []
  /-- droop detectors that have fired: the time, by detector -/
  fired : Map Word := []
  /-- TIME at which the flood began; none before -/
  floodAt : Option Word := none
  /-- die-local indices whose answer the corner has absorbed, and those that answered ACK -/
  absorbed : List Nat := []
  good : List Nat := []
  floodDone : Bool := false
  /-- sites retired since: their FUSE bit is set (R371) -/
  retiredIdx : List Nat := []
  deriving DecidableEq, Repr, Inhabited

/-! ### Links and logical devices -/

/-- STATE of PORTCTL (R340). -/
inductive PortSt where
  | down | training | up
  deriving DecidableEq, Repr, Inhabited

/-- One port of the Stawit link (R340 to R345). -/
structure Port where
  role : BitVec 2 := 0
  st : PortSt := .down
  peer : BitVec 11 := 0x7FF
  en : BitVec 8 := 0xFF
  dir : BitVec 8 := 0x0F
  replay : BitVec 16 := 0
  fail : BitVec 8 := 0
  /-- lanes that have trained -/
  work : BitVec 8 := 0
  /-- the directions are agreed: this end has heard the peer, and has transmitted its own sequence since (R341) -/
  agreed : Bool := false
  /-- a training sequence of the peer has been received -/
  heard : Bool := false
  /-- the training that began last has not yet brought the port UP, and the lanes that have not ended it -/
  fresh : Bool := false
  first : BitVec 8 := 0
  /-- lanes that retrain because a flit was sent 16 times (R345) -/
  again : BitVec 8 := 0
  /-- lanes that are being turned or retrained -/
  turning : BitVec 8 := 0
  /-- flits sent and not acknowledged, with the number of times sent -/
  buf : List (LinkFlit × Nat) := []
  nextSeq : BitVec 16 := 0
  /-- SEQ expected next from the peer -/
  expect : BitVec 16 := 0
  nak : Bool := false
  /-- TIME of the last progress of ACK -/
  progress : Word := 0
  /-- a turn to be asked of the peer in the next flit -/
  turnReq : Option (BitVec 8) := none
  /-- mesh flits waiting to be sent: slot tag, flit, the next hop they are for -/
  toSend : List (BitVec 128 × BitVec 512 × BitVec 11) := []
  /-- lanes that the peer enables -/
  peerEn : BitVec 8 := 0
  /-- TIME at which the interval of silence drawn for a lane ends, and the training sequence last transmitted on it (R341) -/
  draws : Map Word := []
  trained : Map TrainSeq := []
  /-- SEQs of the flits that turning lanes carried (R342) -/
  carried : List (BitVec 16) := []
  /-- flits of BULK that wait in the link: those of a message for an id that is not open, and those behind it on its channel (R356) -/
  bulk : List (BitVec 128 × BitVec 512) := []
  deriving DecidableEq, Repr, Inhabited

/-- State of a tenant's maps on the device (R355). -/
inductive MapSt where
  | stable | loaded | changing
  deriving DecidableEq, Repr, Inhabited

/-- A tenant's logical device maps (R355, R356). -/
structure TMap where
  st : MapSt := .stable
  active : Bool := false
  /-- the nodes of versions 0 and 1, by logical id -/
  ver0 : Map (BitVec 11) := []
  ver1 : Map (BitVec 11) := []
  /-- ids opened since the switch -/
  opened : List Nat := []
  /-- markers received: source node, class, id -/
  got : List (BitVec 11 × MClass × Nat) := []
  /-- markers forwarded -/
  passed : List (BitVec 11 × MClass × Nat) := []
  /-- new-version traffic held until its marker -/
  held : List Msg := []
  deriving DecidableEq, Repr, Inhabited

/-! ### Referee, checkpoints -/

/-- A twin pair at its Referee (R368, R369): the messages of each not yet paired, with their arrival times. -/
structure Pair where
  /-- thread keys of the primary and of its twin -/
  pkey : Nat
  tkey : Nat
  /-- handles that the two received for one invocation: the primary's, the twin's -/
  handles : List (Word × Word) := []
  /-- the model's numbers of the copies of the two -/
  copies : List (Word × Word) := []
  prim : List (Msg × Word) := []
  twin : List (Msg × Word) := []
  deriving DecidableEq, Repr, Inhabited

/-- The leaf that a checkpoint has selected: its address, its page, the units of it still to be written, and whether the caches have dropped
it (R336). -/
structure CkLeaf where
  addr : Nat
  page : Nat
  pa : Nat
  large : Bool
  unit : Nat
  upto : Nat
  /-- accesses translated before its TLBINV, once its entries are dropped (R331, R337) -/
  ids : Option (List Nat) := none
  clear : Bool := false
  deriving DecidableEq, Repr, Inhabited

/-- A checkpoint in progress (R335, R336). -/
structure Ckpt where
  slot : Nat
  /-- thread key of the issuer, and the handle of its promise -/
  key : Nat
  handle : Word
  dest : Nat
  room : Nat
  /-- next virtual address, and the end -/
  va : Nat
  upto : Nat
  incr : BitVec 32
  mode : Nat
  recs : Nat := 0
  bytes : Nat := 0
  cur : Option CkLeaf := none
  /-- names of the groups that a CUT has parked, and transitions still awaited -/
  parked : List Word := []
  await : Nat := 0
  /-- the status, once the walk has ended and the groups return to RUNNING -/
  ending : Option Nat := none
  deriving DecidableEq, Repr, Inhabited

end Sys2Proof.Machine
end

