-- ==== Sys2Proof/Machine/Event.lean ====
section
/-! DEFINITION. The events of the opcode table as data that the agenda holds (log 1). -/

namespace Sys2Proof.Machine

/-- An event: the rows of the opcode table that no instruction word encodes, with the same names and arguments as in `Instr`. (Lean's compiler
cannot build a value of `Instr` past its 245th constructor, so the state holds events in a type of their own.) -/
inductive Event where
  | trapEntry (site thr : Nat)
  | regionRestart (site thr : Nat)
  | watchdog (site thr : Nat)
  | accessComplete (site thr k : Nat)
  | load (msg : Nat)
  | store (msg : Nat)
  | atomic (msg : Nat)
  | loadfe (msg : Nat)
  | storefe (msg : Nat)
  | loadResponse (msg : Nat)
  | ack (msg : Nat)
  | nack (msg : Nat)
  | retry (msg : Nat)
  | retryResend (k : Nat)
  | retryListReoffer (site k : Nat)
  | translationWalk (site k : Nat)
  | sfuStart (site : Nat)
  | sfuComplete (site : Nat)
  | mmComplete (site k : Nat)
  | matrixDispatch (site : Nat)
  | kstepEnd (site : Nat)
  | matrixCommandComplete (site : Nat)
  | matrixAgeing (site k : Nat)
  | copyLine (site k : Nat)
  | copydata (msg : Nat)
  | mcastMsg (msg : Nat)
  | copyComplete (site k : Nat)
  | invMsg (msg : Nat)
  | invxMsg (msg : Nat)
  | activationStart (site thr : Nat)
  | rawArrivalStart (site thr : Nat)
  | kickStart (site thr : Nat)
  | arrivalAgeing (site k : Nat)
  | pass (msg : Nat)
  | passForward (msg : Nat)
  | passAtSlot (msg : Nat)
  | bounce (msg : Nat)
  | readydelta (msg : Nat)
  | rdyquery (msg : Nat)
  | rdyanswer (msg : Nat)
  | reply (msg : Nat)
  | break_ (msg : Nat)
  | fetch (msg : Nat)
  | value (msg : Nat)
  | hrelease (msg : Nat)
  | relayForward (site slot : Nat)
  | rstvMsg (msg : Nat)
  | redirectQueueDrain (grp member : Nat)
  | directoryAnswer (msg : Nat)
  | grpctl (msg : Nat)
  | grpstat (msg : Nat)
  | memberPark (site thr : Nat)
  | saveImageComplete (site thr : Nat)
  | groupEnded (grp : Nat)
  | kickMsg (msg : Nat)
  | kickoffFanout (msg : Nat)
  | kickend (msg : Nat)
  | bararrive (msg : Nat)
  | barrelease (msg : Nat)
  | barrierTimeout (site thr : Nat)
  | barbreak (msg : Nat)
  | barconfig (msg : Nat)
  | refereePair (k : Nat)
  | refereeTimeout (k : Nat)
  | unassignedMessage (msg : Nat)
  | l2pdataWrite (v : Word)
  | l2pUpdate (k router : Nat)
  | rtdataWrite (v : Word)
  | vallotWrite (v : Word)
  | tgenWrite (v : Word)
  | ctxcmdCreate
  | ctxcmdDestroy
  | ctxrectWrite (v : Word)
  | contextBound (slot : Nat)
  | contextShrunk (slot : Nat)
  | contextDestroyed (slot : Nat)
  | scrubComplete (site : Nat)
  | hfsendWrite (v : Word)
  | deviceFrame (func : Nat)
  | frameWindowWrite (func slot : Nat) (frame : BitVec 512)
  | hostframeInject (func : Nat)
  | hostframe (msg : Nat)
  | gap (func : Nat)
  | drheadWrite (func : Nat) (v : BitVec 32)
  | drbaseWrite (func : Nat) (v : Word)
  | drsizeWrite (func : Nat) (v : BitVec 5)
  | bar2Access (write : Bool) (pa len : Nat) (data : List Byte)
  | functionLevelReset (func : Nat)
  | packageReset
  | bootctlGo (image : List Byte)
  | imageVerification
  | discover (msg : Nat)
  | discoverAnswer (msg : Nat)
  | silentRouter (die site : Nat)
  | floodEnd (die : Nat)
  | measxWrite (v : Word)
  | attreqWrite (nonce : BitVec 512)
  | attestationReport
  | powerLimit (watts : Nat)
  | overtemperature
  | powerGate (site : Nat)
  | gateDrainTimeout (site : Nat)
  | droop (die det : Nat)
  | droopRearm (die det : Nat)
  | traceDrain (site : Nat)
  | trtailWrite (v : Word)
  | dbgctlWrite (v : Word)
  | hbmRowRepair (stack row : Nat)
  | nodeidWrite (v : Word)
  | portctlWrite (port : Nat) (v : Word)
  | trainingBackoff (port lane : Nat)
  | trainingSequence (port lane : Nat) (seq : TrainSeq)
  | laneRetrain (port lane : Nat) (good : Bool)
  | linkFlit (port : Nat) (flit : LinkFlit)
  | linkResendTimeout (port : Nat)
  | portDown (port : Nat)
  | marker (msg : Nat)
  | ckptWalk (slot : Nat)
  | acceptNotice (msg : Nat)
  deriving DecidableEq, Repr, Inhabited

end Sys2Proof.Machine
end

