-- ==== Sys2Proof/Machine/State.lean ====
section
/-! DEFINITION. The state of the machine, the ways a step can stop, and the state after package reset. -/

namespace Sys2Proof.Machine

/-- A step never stops with a fault: the spec gives the device no unpredictable behaviour (R5), and every exception is taken inside the
machine (R359). There is therefore no constructor. -/
inductive Fault where
  deriving DecidableEq, Repr

/-- Reasons for which an instruction has no meaning in this model. -/
inductive Refusal where
  /-- raised by an arm of `exec` whose instruction is not modelled; safe: no claim about it can be proved -/
  | notModelled (mnemonic : String)
  deriving DecidableEq, Repr

/-- How the bundle being issued stands: a lone word, the C-slot or the A-slot of a pair, the A-word of a REP unit (R37). -/
inductive Form where
  | lone | cslot | aslot | rep
  deriving DecidableEq, Repr, Inhabited

/-- What remains to be done once both slots of a bundle have acted (R40). -/
inductive After where
  /-- continue at the next bundle -/
  | next
  /-- continue at an address -/
  | jump (pc : Word)
  /-- YIELD: clear the vector registers outside the mask (R109) -/
  | yield (live : BitVec 32)
  /-- a write of VALLOT (R108) -/
  | vallot (n : BitVec 6)
  deriving DecidableEq, Repr, Inhabited

/-- How the slot that `exec` last ran ended: it took effect, it must wait (R40), or it raises a fault (R42). -/
inductive SlotEnd where
  | done | wait | raise (t : Trap)
  deriving DecidableEq, Repr, Inhabited

/-- The bundle being issued (log 2). -/
structure Ctx where
  /-- thread key: 4 × site code + slot -/
  key : Nat := 0
  /-- first address of the bundle, and of the bundle after it -/
  pc : Word := 0
  next : Word := 4
  /-- the word of the slot that runs, and the A-word of a REP unit -/
  word : IWord := 0
  word2 : IWord := 0
  form : Form := .lone
  /-- the thread as it stood before the bundle, for the sources of an A-slot (R40) -/
  snap : Option Thread := none
  after : After := .next
  last : SlotEnd := .done
  deriving DecidableEq, Repr, Inhabited

/-- Damage that ECC finds where it strikes: a sector of device memory, which it can correct or not; one bit of a core's storage, which it
corrects; a word of local memory, a register or a tile that it can not correct (R333, R362). -/
inductive Upset where
  | hbm (addr : Nat) (lost : Bool)
  | bit (site : Nat)
  | mem (site addr : Nat)
  | reg (site thr : Nat) (r : RegRef)
  | tile (site i : Nat)
  deriving DecidableEq, Repr, Inhabited

/-- The AtomicOps that the endpoint completes (R383). -/
inductive BarOp where
  | fetchAdd | swap | cas
  deriving DecidableEq, Repr, Inhabited

/-- What moves next: a thread issues, or an event happens (log 1). -/
inductive Turn where
  | issue (site thr : Nat)
  | event (e : Event)
  /-- the host writes MSIXV of a function (R321) -/
  | msixv (func : Nat) (v : BitVec 11)
  /-- the host writes bytes of STAGE, or of ATTREQ, from an offset (R385) -/
  | stage (off : Nat) (data : List Byte)
  | attreq (off : Nat) (data : List Byte)
  /-- the host chooses the size of BAR2, and sends an AtomicOp through it: FetchAdd, Swap or CAS of 8 bytes (R383) -/
  | bar2Size (n : Nat)
  | bar2Atomic (op : BarOp) (pa : Nat) (v cmp : Word)
  /-- the supply of a droop detector, in millivolts below nominal, from now on (R378) -/
  | supply (die det mv : Nat)
  /-- storage is damaged (R333, R362) -/
  | upset (u : Upset)
  deriving DecidableEq, Repr, Inhabited

/-- One core beside its threads (R15). -/
structure Core where
  mem : LocalMem := {}
  tags : Tags := {}
  /-- accumulator store: element 64·row + column, as F32 bits (R186) -/
  acc : Map (BitVec 32) := []
  tilePois : BitVec 16 := 0
  sfu : List SfuReq := []
  mm : List MmOp := []
  /-- the matrix engine's queue, in issue order, and the MWAITs that wait (R200, R201) -/
  eng : List MCmd := []
  mwaits : List MWaiter := []
  arrivals : List Arrival := []
  arrOrd : Nat := 0
  /-- TIME of the last acceptance into the input buffer or a spill area (R210) -/
  lastAcc : Option Word := none
  /-- messages that are ready to be accepted: number, tries, and the TIME since which they are (R210) -/
  offered : List (Nat × Nat × Word) := []
  relay : Relay := {}
  loc : List LocEnt := []
  /-- messages to members and unaccepted invocations (R157, R237) -/
  sent : List Sent := []
  /-- end reports that wait for a release (R306) -/
  ends : List EndReport := []
  icache : List ICLine := []
  tlb : List TlbEnt := []
  walks : List WalkReq := []
  sel : Sel := {}
  trace : Trace := {}
  cycle : Word := 0
  /-- TIME at which its clock last ran (R390) -/
  ran : Word := 0
  gated : Bool := false
  gateHold : Option Word := none
  /-- the context slot the core is bound to (R319) -/
  ctx : BitVec 6 := 0
  scrub : Option Word := none
  /-- thread slot that issued last (R29) -/
  lastThr : Nat := 3
  /-- first address of the bundle that issued last (R378) -/
  lastPc : Word := 0
  /-- droop samples that await the end of a REP unit: detector and time (R114, R378) -/
  droops : List (Nat × Word) := []
  deriving DecidableEq, Repr

/-- The state of the machine. -/
structure State where
  /-- cycles since package reset (R26) -/
  time : Word := 0
  /-- the turns to come, each with the cycles before it (log 1) -/
  agenda : List (Nat × Turn) := []
  /-- counter of free values (log 3) -/
  fresh : Nat := 0
  /-- counter of the model's ids of messages and instructions -/
  nextId : Nat := 1
  ctx : Ctx := {}
  threads : Map Thread := []
  cores : Map Core := []
  net : List Msg := []
  /-- messages answered RETRY whose sender has not yet seen the answer (R157) -/
  refused : List Msg := []
  /-- messages answered RETRY, each with the time of its resend (R157) -/
  resend : List (Msg × Word) := []
  /-- sequence numbers by sender, receiver and class, and the ones a receiver waits for (R157) -/
  seqs : List ((Agent × Agent × MClass) × BitVec 16) := []
  awaited : List ((Agent × Agent × MClass) × BitVec 16) := []
  groups : Map Group := []
  /-- team tables read at the issue of a group instruction, by its handle, until the root takes them (R243) -/
  tables : List (Word × List Team) := []
  dir : Map DirEnt := []
  hbm : Hbm := {}
  /-- host memory behind the HOST window (R142) -/
  host : Memory := .empty .host
  /-- context slots (R314) -/
  ctxs : Map CtxSlot := []
  /-- keys generated so far; key 1 is tenant 0's (R317, R327) -/
  keyCtr : Nat := 1
  /-- the four dies' shared translation caches (R328) -/
  shared : Vector (List TlbEnt) 4 := Vector.replicate 4 []
  l2p : L2p := {}
  /-- NODEID (R340) -/
  nodeId : BitVec 11 := 0x7FF
  /-- sites whose core is fused off: the part's own (R9, R12, log 5) -/
  fused : List Nat := []
  /-- sites whose core failed self-test at the reset: the part's own (R309, log 5) -/
  failedTest : List Nat := []
  /-- sites retired since reset (R371) -/
  retired : List Nat := []
  /-- error record banks: 32 × die + row (R362) -/
  banks : Map ErrBank := []
  /-- channels by function (R321) -/
  chans : Map Chan := []
  boot : Boot := {}
  dies : Vector Die 4 := Vector.replicate 4 {}
  /-- PWRLIM, and whether the power measured last lies above it (R391) -/
  pwrlim : BitVec 12 := 2400
  throttled : Bool := false
  ports : Map Port := []
  /-- mesh flits from the links that belong to messages not yet complete: slot tag and flit (R344) -/
  parts : List (Nat × List (BitVec 128 × BitVec 512)) := []
  /-- messages whose flits are passed on: the port they come from, their first tag, the port they leave by (R344) -/
  through : List (Nat × BitVec 128 × Nat) := []
  /-- first flits, acknowledged by the next hop, of messages whose last flit is not yet (R350) -/
  heads : List (BitVec 128 × BitVec 512) := []
  /-- requests sent to other devices whose answers are awaited (R157) -/
  outbox : List Msg := []
  /-- route table by node (R348) -/
  routes : Map (BitVec 14) := []
  /-- maps of logical devices by tenant (R355) -/
  maps : Map TMap := []
  pairs : List Pair := []
  ckpts : List Ckpt := []
  /-- rows of HBM replaced: stack and row (R370) -/
  rows : List (Nat × Nat) := []
  deriving DecidableEq, Repr

namespace State

/-- A thread at package reset: PHYSXY is its site code (R26, R308). -/
def initThread (key : Nat) : Thread := { ctl := { physxy := BitVec.ofNat 12 (key / 4) } }
/-- A core at package reset (R308). -/
def initCore (_site : Nat) : Core := {}

/-- A context slot at package reset: slot 0 is ACTIVE (R314). -/
def initCtx (slot : Nat) : CtxSlot := if slot = 0 then { st := .active } else {}

/-- The machine right after package reset. -/
def reset : State := {}

end State

end Sys2Proof.Machine
end

