-- ==== Sys2Proof/Machine/Base.lean ====
section
/-! DEFINITION. Threads, cores and context slots by number, free values, logical ids of cores (R11, R12, R311, R312, R314, R319). -/

namespace Sys2Proof.Machine

/-! ### Threads and cores by key -/

namespace State

/-- The thread with a key (4 × site + slot). -/
def thread (s : State) (k : Nat) : Thread := Map.get initThread s.threads k
/-- The state with one thread replaced. -/
def setThread (s : State) (k : Nat) (t : Thread) : State := { s with threads := Map.put s.threads k t }
/-- The state with one thread changed. -/
def modThread (s : State) (k : Nat) (f : Thread → Thread) : State := s.setThread k (f (s.thread k))
/-- The core at a site. -/
def core (s : State) (c : Nat) : Core := Map.get initCore s.cores c
/-- The state with one core replaced. -/
def setCore (s : State) (c : Nat) (x : Core) : State := { s with cores := Map.put s.cores c x }
/-- The state with one core changed. -/
def modCore (s : State) (c : Nat) (f : Core → Core) : State := s.setCore c (f (s.core c))

/-- Site of the issuing thread. -/
def site (s : State) : Nat := s.ctx.key / 4
/-- The issuing thread. -/
def cur (s : State) : Thread := s.thread s.ctx.key
/-- The state with the issuing thread changed. -/
def modCur (s : State) (f : Thread → Thread) : State := s.modThread s.ctx.key f
/-- The thread whose registers are the sources: as it stood before the bundle (R40). -/
def src (s : State) : Thread := s.ctx.snap.getD s.cur
/-- The core of the issuing thread. -/
def myCore (s : State) : Core := s.core s.site
/-- The state with the issuing thread's core changed. -/
def modMyCore (s : State) (f : Core → Core) : State := s.modCore s.site f

/-- A free value: it is drawn from the counter, which moves on (log 3). -/
def drawWord (s : State) : Word × State := (Config.freeWord s.fresh, { s with fresh := s.fresh + 1 })
/-- A free choice (log 3). -/
def drawBool (s : State) : Bool × State := (Config.choice s.fresh, { s with fresh := s.fresh + 1 })
/-- A new id of the model. -/
def newId (s : State) : Nat × State := (s.nextId, { s with nextId := s.nextId + 1 })

end State

/-! ### Logical ids and tenants of cores -/

namespace State

/-- The entry for a logical id in one router (R311). -/
def l2pAt (s : State) (router idx : Nat) : BitVec 13 :=
  match s.l2p.upd.find? (fun u => u.idx == idx && u.held.contains router) with
  | some u => u.val
  | none => Map.get (fun _ => 0) s.l2p.base idx
/-- The site of a logical id in one router; none for an entry that is not valid (R311). -/
def siteOf (s : State) (router idx : Nat) : Option Nat :=
  let e := s.l2pAt router idx
  if e.getLsbD 12 then some (e.toNat % 4096) else none
/-- The logical ids that a list of entries gives a site. -/
def idsNaming (site : Nat) (m : Map (BitVec 13)) : List Nat :=
  (m.filter fun e => e.2.getLsbD 12 && e.2.toNat % 4096 == site).map fun e => e.1
/-- CORE of a site: the lowest logical id whose valid entry in its own router names it (R312). -/
def coreId (s : State) (site : Nat) : BitVec 12 :=
  let cand := (idsNaming site s.l2p.base ++ (s.l2p.upd.map fun u => u.idx)).filter fun n => s.siteOf site n == some site
  match cand.min? with
  | some n => BitVec.ofNat 12 n
  | none => 0xFFF

/-- The tenant of the context a core is bound to (R319). -/
def coreTenant (s : State) (site : Nat) : BitVec 12 := (Map.get initCtx s.ctxs (s.core site).ctx.toNat).tenant
/-- A context slot. -/
def slotOf (s : State) (n : Nat) : CtxSlot := Map.get initCtx s.ctxs n
/-- The state with a context slot changed. -/
def modSlot (s : State) (n : Nat) (f : CtxSlot → CtxSlot) : State := { s with ctxs := Map.put s.ctxs n (f (s.slotOf n)) }

end State

end Sys2Proof.Machine
end

