-- ==== Sys2Proof/Machine/Report.lean ====
section
/-! DEFINITION. Error records and the device frames that report them; trace records and watchpoints (R322, R324, R362 to R364, R373, R376, R381). -/

namespace Sys2Proof.Machine

namespace State

/-- The channel of a function (R321). -/
def chan (s : State) (f : Nat) : Chan := Map.get (fun _ => {}) s.chans f
/-- The state with a channel changed. -/
def modChan (s : State) (f : Nat) (g : Chan → Chan) : State := { s with chans := Map.put s.chans f (g (s.chan f)) }
/-- The context slot a function is bound to; none for an unbound one (R321). -/
def funcSlot (s : State) (f : Nat) : Option Nat :=
  if f = 0 then some 0
  else (s.ctxs.find? fun e => e.1 != 0 && e.2.func.toNat == f && e.2.st != .free && !e.2.unbound).map fun e => e.1

/-- Place n bytes of a number in a frame at an offset. -/
def frameField (body : BitVec 512) (off n : Nat) (v : Nat) : BitVec 512 :=
  body ||| (BitVec.ofNat 512 (v % 2 ^ (8 * n)) <<< (8 * off))

/-- Put one of the bridge's own frames in the queue of a function; it is only counted, and the answer is false, when its 16 places are taken
(R324). -/
def queueFrame (s : State) (f : Nat) (typ : Nat) (body : BitVec 512) : State × Bool :=
  let c := s.chan f
  if 16 ≤ (c.queue.filter fun q => q.sender.isNone).length then (s.modChan f fun c => { c with lost := c.lost + 1 }, false)
  else
    let b := frameField (frameField body 4 1 typ) 6 2 f
    (s.modChan f fun c => { c with queue := c.queue ++ [{ body := b }] }, true)

/-- ERRSTATUS of a bank (R363). -/
def errStatus (b : ErrBank) : Word :=
  (BitVec.ofNat 64 b.tenant.toNat <<< 40) ||| (BitVec.ofNat 64 b.count.toNat <<< 24) ||| (BitVec.ofNat 64 b.source.toNat <<< 16) |||
  (if b.lost then 0x10#64 else 0) ||| (if b.overrun then 8#64 else 0) ||| (BitVec.ofNat 64 b.rank.toNat <<< 1) |||
  (if b.valid then 1#64 else 0)

/-- A bank. -/
def bank (s : State) (k : Nat) : ErrBank := Map.get (fun _ => {}) s.banks k

/-- The ERROR frame of a record (R364). -/
def recordFrame (b : ErrBank) : BitVec 512 :=
  [(0x10, 4, 0xFFFFFFFF), (0x18, 8, (errStatus b).toNat), (0x20, 8, b.addr.toNat), (0x28, 8, b.synd.toNat), (0x30, 8, b.time.toNat),
   (0x38, 8, b.info.toNat)].foldl (fun (f : BitVec 512) (e : Nat × Nat × Nat) => frameField f e.1 e.2.1 e.2.2) 0

/-- An error to be recorded. -/
structure Err where
  rank : BitVec 2
  source : BitVec 8
  tenant : BitVec 12 := 0
  addr : Word := 0
  synd : Word := 0
  unit : Nat := 0
  detail : Nat := 0

/-- Record an error in bank k (32 × die + row): by rank, a written record is reported by frames (R362, R364). -/
def record (s : State) (k : Nat) (e : Err) : State :=
  let b := s.bank k
  let cnt : BitVec 16 := if b.count = 0xFFFF then 0xFFFF else b.count + 1
  if b.valid ∧ e.rank.toNat ≤ b.rank.toNat then
    { s with banks := Map.put s.banks k { b with count := cnt, overrun := true } }
  else
    let nb : ErrBank := {
      valid := true, rank := e.rank, overrun := b.valid, lost := false, source := e.source
      count := if b.valid then cnt else 1
      tenant := e.tenant, addr := e.addr, synd := e.synd, time := s.time
      info := (BitVec.ofNat 64 (e.unit % 4096) <<< 16) ||| BitVec.ofNat 64 (e.detail % 16) }
    let body := recordFrame nb
    let (s1, ok1) := { s with banks := Map.put s.banks k nb }.queueFrame 0 0x82 body
    let f := if e.tenant = 0 then none
      else (s1.ctxs.find? fun c => c.1 != 0 && c.2.tenant == e.tenant && c.2.st != .free && !c.2.unbound && c.2.func != 0).map fun c => c.2.func.toNat
    let (s2, ok2) := match f with
      | some f => s1.queueFrame f 0x82 body
      | none => (s1, true)
    if ok1 && ok2 then s2 else { s2 with banks := Map.put s2.banks k { nb with lost := true } }

/-- The bank of a site's row (R362). -/
def bankOf (site : Nat) : Nat := 32 * (site % 64 / 32 + 2 * (site / 64 / 32)) + site / 64 % 32
/-- Poison delivered by a core's local memory is recorded, with a free syndrome (R362, R363, R367, log 99). -/
def localPoison (s : State) (site : Nat) (a : Nat) : State :=
  s.drawWord.2.record (bankOf site)
    { rank := 2, source := 1, tenant := s.coreTenant site, addr := BitVec.ofNat 64 a, synd := s.drawWord.1, unit := (s.coreId site).toNat }
/-- The bank of an L2 slice (R147, R362). -/
def sliceBank (sl : Nat) : Nat := 32 * (sl / 16 / 2) + 16 * (sl / 16 % 2) + sl % 16

end State

/-! ### Trace records (R373, R376) -/

/-- A trace record. -/
def traceWord (site typ who : Nat) (entry : BitVec 32) (a b extra : Word) : BitVec 256 :=
  BitVec.ofNat 256 (typ % 256) ||| (BitVec.ofNat 256 (site % 4096) <<< 8) ||| (BitVec.ofNat 256 (who % 256) <<< 24) |||
  (entry.setWidth 256 <<< 32) ||| (a.setWidth 256 <<< 64) ||| (b.setWidth 256 <<< 128) ||| (extra.setWidth 256 <<< 192)

/-- Space has returned: what was discarded is told by one LOST record (R376). -/
def Trace.recover (t : Trace) (site : Nat) (now : Word) : Trace :=
  if 0 < t.lost ∧ t.buf.length < 256 then
    { t with buf := t.buf ++ [traceWord site 8 0 0 now 0 (BitVec.ofNat 64 t.lost)], lost := 0 }
  else t

/-- Put a record in the buffer: a full buffer discards and counts it; the LOST record goes ahead (R376). -/
def Trace.push (t : Trace) (site : Nat) (now : Word) (r : BitVec 256) : Trace :=
  let t1 := t.recover site now
  if t1.buf.length < 256 then { t1 with buf := t1.buf ++ [r] } else { t1 with lost := (t1.lost + 1) % 2 ^ 32 }

/-- Write a record of a type from 1 to 7, when its recording is enabled (R372, R373). -/
def State.trace (s : State) (site typ who : Nat) (entry : BitVec 32) (a b extra : Word) : State :=
  s.modCore site fun c =>
    if c.trace.trctl.getLsbD 0 && c.trace.trctl.getLsbD typ then
      { c with trace := c.trace.push site s.time (traceWord site typ who entry a b extra) }
    else c

/-- An access of `n` bytes at `e` by a thread of the core, against its watchpoint (R381): a match sets WPHIT and STOP. -/
def State.watch (s : State) (site e n : Nat) (wr : Bool) : State :=
  s.modCore site fun c =>
    let w := c.trace.wpaddr.toNat / 8 * 8
    let hit := c.trace.wpctl.getLsbD (if wr then 1 else 0) && decide (e < w + 8) && decide (w < e + n)
    if hit then { c with trace := { c.trace with dbgctl := c.trace.dbgctl ||| 5 } } else c

end Sys2Proof.Machine
end

