-- ==== Sys2Proof/Machine/Operands.lean ====
section
/-! DEFINITION. Which registers an instruction names, and what the issue rules ask of it (R22, R30, R40, R41, R50, R124). -/

namespace Sys2Proof.Machine

/-- An x register as an operand; x0 never waits, conflicts or is marked (R21, R41). -/
def xRef (r : XReg) : List RegRef := if r = 0 then [] else [.x r.toNat]
/-- A vector register as an operand. -/
def vRef (r : VReg) : List RegRef := [.v r.toNat]
/-- A group of `n` vector registers (R124, R191). -/
def vGrp (r : VReg) (n : Nat) : List RegRef := (List.range n).map fun i => .v (r.toNat + i)
/-- An address register as an operand. -/
def aRef (r : AReg) : List RegRef := [.a r.toNat]
/-- A mask register as an operand; m0 is constant (R25). -/
def mRef (r : MReg) : List RegRef := if r = 0 then [] else [.m r.toNat]

/-- The x index that MODE 1, 3 and 4 read (R159). -/
def idxRef (xi : BitVec 5) (mode : BitVec 3) : List RegRef :=
  if mode = 1 ∨ mode = 3 ∨ mode = 4 then xRef xi else []
/-- The pointer that MODE 2 and 3 advance (R159). -/
def advRef (a : AReg) (mode : BitVec 3) : List RegRef := if mode = 2 ∨ mode = 3 then aRef a else []
/-- The index operand of LDV and STV (R160). -/
def vIdxRef (xi : BitVec 5) (sz mode : BitVec 3) : List RegRef :=
  if sz = 4 then xRef xi else if sz = 5 then vRef xi else idxRef xi mode
/-- An operand of MTILE: a group of four vector registers or a pair of x registers (R190, R191). -/
def tileRef (op : BitVec 6) : List RegRef :=
  if op.getLsbD 5 then xRef (op.setWidth 5) ++ xRef (op.setWidth 5 + 1) else vGrp (op.setWidth 5) 4
/-- Registers of a source of width `sw` beside a destination of width `dw` (R127). -/
def srcCount (sw dw : Nat) : Nat := if dw < sw then sw / dw else 1
/-- Registers of a destination of width `dw` beside a source of width `sw` (R127). -/
def dstCount (sw dw : Nat) : Nat := if sw < dw then dw / sw else 1
/-- Registers of VQUANT's source (R128). -/
def quantCount (ty : Ty) : Nat := if ty = .i8 then 4 else 2

/-- The registers an instruction reads. -/
def readsOf : Instr → List RegRef
  | .tmark s _ => xRef s
  | .crw x _ => xRef x | .crset x _ => xRef x | .crclr x _ => xRef x
  | .yield _ xm => xRef xm
  | .rep xc _ _ _ _ => xRef xc
  | .jalr _ s _ => xRef s
  | .beq s t _ => xRef s ++ xRef t | .bne s t _ => xRef s ++ xRef t | .blt s t _ => xRef s ++ xRef t
  | .bge s t _ => xRef s ++ xRef t | .bltu s t _ => xRef s ++ xRef t | .bgeu s t _ => xRef s ++ xRef t
  | .bany m _ => mRef m | .bnone m _ => mRef m
  | .lds _ a xi _ _ mode => aRef a ++ idxRef xi mode
  | .sts s a xi _ mode => xRef s ++ aRef a ++ idxRef xi mode
  | .ldv _ a xi _ sz mode => aRef a ++ vIdxRef xi sz mode
  | .stv s a xi sz mode => vRef s ++ aRef a ++ vIdxRef xi sz mode
  | .stnt s a xi _ mode => vRef s ++ aRef a ++ idxRef xi mode
  | .ldfe _ a _ _ => aRef a
  | .stfe s a _ => xRef s ++ aRef a
  | .atomAdd _ a x _ _ => aRef a ++ xRef x | .atomAnd _ a x _ _ => aRef a ++ xRef x
  | .atomOr _ a x _ _ => aRef a ++ xRef x | .atomXor _ a x _ _ => aRef a ++ xRef x
  | .atomMin _ a x _ _ => aRef a ++ xRef x | .atomMax _ a x _ _ => aRef a ++ xRef x
  | .atomMinu _ a x _ _ => aRef a ++ xRef x | .atomMaxu _ a x _ _ => aRef a ++ xRef x
  | .atomSwap _ a x _ _ => aRef a ++ xRef x | .atomCas d a x _ _ => xRef d ++ aRef a ++ xRef x
  | .atomMaxrst _ a x _ _ => aRef a ++ xRef x | .atomFadd _ a x _ _ => aRef a ++ xRef x
  | .atomFmax _ a x _ _ => aRef a ++ xRef x | .atomFmaxrst _ a x _ _ => aRef a ++ xRef x
  | .amov _ s => aRef s
  | .anarrow _ s xb xr => aRef s ++ xRef xb ++ xRef xr
  | .aadd _ s xo => aRef s ++ xRef xo | .asetp _ s xp => aRef s ++ xRef xp
  | .agetp s _ => aRef s | .agetb s _ => aRef s | .agetl s _ => aRef s | .aperm s _ => aRef s
  | .amake _ xb xr => xRef xb ++ xRef xr
  | .aaddi _ s _ => aRef s
  | .copy ad s xl _ _ => aRef ad ++ aRef s ++ xRef xl | .copy2d ad s xl _ _ => aRef ad ++ aRef s ++ xRef xl
  | .copymc ad s xl _ _ => aRef ad ++ aRef s ++ xRef xl | .copygt ad s xl _ _ => aRef ad ++ aRef s ++ xRef xl
  | .waitany _ s => xRef s | .waitall s => xRef s | .tfirst _ s => xRef s | .tclr s => xRef s | .tget _ s => xRef s
  | .mjob _ s => xRef s
  | .mtile xc opA opB _ _ _ => xRef xc ++ tileRef opA ++ tileRef opB
  | .mwait _ s _ => xRef s | .mstat _ s => xRef s | .mcancel s => xRef s
  | .acst xp xc xl _ => xRef xp ++ xRef xc ++ xRef xl | .acstb xp xc xl _ => xRef xp ++ xRef xc ++ xRef xl
  | .acld xp xc xl _ => xRef xp ++ xRef xc ++ xRef xl | .aczero xc => xRef xc
  | .acstsc xp xc xl _ => xRef xp ++ xRef xc ++ xRef xl
  | .inv _ xt va _ _ _ => xRef xt ++ vRef va | .invx _ xt va _ _ _ => xRef xt ++ vRef va
  | .hwait _ xh _ _ => xRef xh | .hwaitv _ xh _ _ => xRef xh | .htest _ xh => xRef xh | .hfree xh => xRef xh
  | .hreply xt xv => xRef xt ++ xRef xv | .hreplyv xt vs => xRef xt ++ vRef vs | .hbreak xt xc => xRef xt ++ xRef xc
  | .tgon s => xRef s | .tgoff s => xRef s | .tgset s => xRef s | .tgclr s => xRef s
  | .ready xc xn => xRef xc ++ xRef xn | .unready xc xn => xRef xc ++ xRef xn | .rdyq _ xc _ => xRef xc
  | .rstv vs xt _ _ _ => vRef vs ++ xRef xt
  | .barr s => xRef s | .barw s => xRef s | .barrw s => xRef s | .barwd s => xRef s | .barq _ s => xRef s
  | .kickTeam d s a => xRef d ++ xRef s ++ xRef a | .kickGroup d s a => xRef d ++ xRef s ++ xRef a
  | .mcast vs a xset _ _ _ => vRef vs ++ aRef a ++ xRef xset
  | .gnew _ s => xRef s | .gplace _ s t => xRef s ++ xRef t | .gadd _ s t => xRef s ++ xRef t
  | .gdrop _ s t => xRef s ++ xRef t | .gpark _ s => xRef s | .grun _ s => xRef s
  | .gmove _ s t => xRef s ++ xRef t | .gend _ s t => xRef s ++ xRef t | .barcfg _ s t => xRef s ++ xRef t
  | .tlbinv s t => xRef s ++ xRef t | .ckpt _ s => xRef s | .errclr _ s => xRef s | .coreret _ s t => xRef s ++ xRef t
  | .mapsetStat _ s t => xRef s ++ xRef t | .mapsetLoad _ s t => xRef s ++ xRef t
  | .mapsetSwitch _ s t => xRef s ++ xRef t | .mapsetOpen _ s t => xRef s ++ xRef t
  | .keyslotStat _ s => xRef s | .keyslotGen _ s => xRef s | .keyslotErase _ s => xRef s
  | .icinv s t => xRef s ++ xRef t
  | .add _ s t => xRef s ++ xRef t | .sub _ s t => xRef s ++ xRef t | .and _ s t => xRef s ++ xRef t
  | .or _ s t => xRef s ++ xRef t | .xor _ s t => xRef s ++ xRef t | .sll _ s t => xRef s ++ xRef t
  | .srl _ s t => xRef s ++ xRef t | .sra _ s t => xRef s ++ xRef t | .slt _ s t => xRef s ++ xRef t
  | .sltu _ s t => xRef s ++ xRef t | .mul _ s t => xRef s ++ xRef t | .mulh _ s t => xRef s ++ xRef t
  | .mulhu _ s t => xRef s ++ xRef t | .div _ s t => xRef s ++ xRef t | .divu _ s t => xRef s ++ xRef t
  | .rem _ s t => xRef s ++ xRef t | .remu _ s t => xRef s ++ xRef t | .min _ s t => xRef s ++ xRef t
  | .max _ s t => xRef s ++ xRef t | .minu _ s t => xRef s ++ xRef t | .maxu _ s t => xRef s ++ xRef t
  | .clz _ s => xRef s | .ctz _ s => xRef s | .popc _ s => xRef s
  | .addi _ s _ => xRef s | .andi _ s _ => xRef s | .ori _ s _ => xRef s | .xori _ s _ => xRef s
  | .slli _ s _ => xRef s | .srli _ s _ => xRef s | .srai _ s _ => xRef s | .slti _ s _ => xRef s
  | .lcat d _ => xRef d
  | .fadd _ s t _ => xRef s ++ xRef t | .fsub _ s t _ => xRef s ++ xRef t | .fmul _ s t _ => xRef s ++ xRef t
  | .fma _ s t u => xRef s ++ xRef t ++ xRef u | .fdiv _ s t _ => xRef s ++ xRef t | .fsqrt _ s _ => xRef s
  | .fmin _ s t => xRef s ++ xRef t | .fmax _ s t => xRef s ++ xRef t | .fcmp _ s t _ => xRef s ++ xRef t
  | .fcvti _ s _ => xRef s | .fcvtf _ s _ => xRef s
  | .vadd _ s t _ m _ => vRef s ++ vRef t ++ mRef m | .vsub _ s t _ m _ => vRef s ++ vRef t ++ mRef m
  | .vmul _ s t _ m _ => vRef s ++ vRef t ++ mRef m | .vma _ s t u _ => vRef s ++ vRef t ++ vRef u
  | .vmin _ s t _ m _ => vRef s ++ vRef t ++ mRef m | .vmax _ s t _ m _ => vRef s ++ vRef t ++ mRef m
  | .vand _ s t _ m _ => vRef s ++ vRef t ++ mRef m | .vor _ s t _ m _ => vRef s ++ vRef t ++ mRef m
  | .vxor _ s t _ m _ => vRef s ++ vRef t ++ mRef m | .vsll _ s t _ m _ => vRef s ++ vRef t ++ mRef m
  | .vsrl _ s t _ m _ => vRef s ++ vRef t ++ mRef m | .vsra _ s t _ m _ => vRef s ++ vRef t ++ mRef m
  | .vabs _ s _ m _ => vRef s ++ mRef m | .vneg _ s _ m _ => vRef s ++ mRef m
  | .vcmp _ s t _ _ _ => vRef s ++ vRef t | .vsel _ s t _ m => vRef s ++ vRef t ++ mRef m
  | .vmov _ s _ m => vRef s ++ mRef m | .vbcast _ s _ m => xRef s ++ mRef m
  | .vins _ s t _ => xRef s ++ xRef t | .vext _ s t _ _ => vRef s ++ xRef t
  | .vwadd _ s t _ m _ => vRef s ++ vRef t ++ mRef m | .vwmul _ s t _ m _ => vRef s ++ vRef t ++ mRef m
  | .vwma d s t _ m _ => vGrp d 2 ++ vRef s ++ vRef t ++ mRef m
  | .vnarrow _ s _ m _ => vGrp s 2 ++ mRef m
  | .vcvt _ s st _ dt _ _ m => vGrp s (srcCount st.width dt.width) ++ mRef m
  | .vplane _ s => vRef s | .vunplane _ s _ _ m => vRef s ++ mRef m
  | .vquant _ s x ty m _ => vGrp s (quantCount ty) ++ xRef x ++ mRef m
  | .vrsum _ s _ m _ => vRef s ++ mRef m | .vrmax _ s _ m _ => vRef s ++ mRef m
  | .vperm _ s t _ m => vRef s ++ vRef t ++ mRef m | .vslide _ s t _ m => vRef s ++ xRef t ++ mRef m
  | .vrand _ s t => xRef s ++ xRef t
  | .vexp2 _ s _ m => vRef s ++ mRef m | .vlog2 _ s _ m => vRef s ++ mRef m | .vrcp _ s _ m => vRef s ++ mRef m
  | .vrsq _ s _ m => vRef s ++ mRef m | .vsig _ s _ m => vRef s ++ mRef m
  | .vdot4 d s t m _ => vRef d ++ vRef s ++ vRef t ++ mRef m
  | .mand _ s t => mRef s ++ mRef t | .mor _ s t => mRef s ++ mRef t | .mxor _ s t => mRef s ++ mRef t
  | .mnot _ s => mRef s | .mpop _ s _ => mRef s | .mfirst _ s _ => mRef s | .mfromx _ s _ => xRef s
  | .mmadd d s t _ _ => aRef d ++ aRef s ++ aRef t | .mmsub d s t _ _ => aRef d ++ aRef s ++ aRef t
  | .mmmul d s t _ _ => aRef d ++ aRef s ++ aRef t | .mmma d s t _ _ => aRef d ++ aRef s ++ aRef t
  | .mmmax d s t _ _ => aRef d ++ aRef s ++ aRef t | .mmcvt d s t _ _ => aRef d ++ aRef s ++ aRef t
  | _ => []

/-- The registers an instruction writes, a pointer it advances included. -/
def writesOf : Instr → List RegRef
  | .crr x _ => xRef x
  | .jal _ => xRef 1
  | .jalr d _ _ => xRef d
  | .lds d a _ _ _ mode => xRef d ++ advRef a mode
  | .sts _ a _ _ mode => advRef a mode
  | .ldv d a _ _ sz mode => vRef d ++ (if sz.toNat ≤ 3 then advRef a mode else [])
  | .stv _ a _ sz mode => if sz.toNat ≤ 3 then advRef a mode else []
  | .stnt _ a _ _ mode => advRef a mode
  | .ldfe d _ _ _ => xRef d
  | .atomAdd d _ _ _ _ => xRef d | .atomAnd d _ _ _ _ => xRef d | .atomOr d _ _ _ _ => xRef d
  | .atomXor d _ _ _ _ => xRef d | .atomMin d _ _ _ _ => xRef d | .atomMax d _ _ _ _ => xRef d
  | .atomMinu d _ _ _ _ => xRef d | .atomMaxu d _ _ _ _ => xRef d | .atomSwap d _ _ _ _ => xRef d
  | .atomCas d _ _ _ _ => xRef d | .atomMaxrst d _ _ _ _ => xRef d | .atomFadd d _ _ _ _ => xRef d
  | .atomFmax d _ _ _ _ => xRef d | .atomFmaxrst d _ _ _ _ => xRef d
  | .amov d _ => aRef d | .anarrow d _ _ _ => aRef d | .aadd d _ _ => aRef d | .asetp d _ _ => aRef d
  | .agetp _ x => xRef x | .agetb _ x => xRef x | .agetl _ x => xRef x | .aperm _ x => xRef x
  | .amake d _ _ => aRef d | .aaddi d _ _ => aRef d
  | .waitany d _ => xRef d | .tfirst d _ => xRef d | .tget d _ => xRef d
  | .mjob d _ => xRef d | .mwait d _ _ => xRef d | .mstat d _ => xRef d
  | .inv d _ _ _ _ _ => xRef d | .invx d _ _ _ _ _ => xRef d
  | .hwait d _ f _ => xRef d ++ xRef f | .hwaitv d _ f _ => vRef d ++ xRef f | .htest d _ => xRef d
  | .rdyq d _ _ => xRef d
  | .vhtest d => xRef d
  | .barq d _ => xRef d
  | .kickTeam d _ _ => xRef d | .kickGroup d _ _ => xRef d
  | .gnew d _ => xRef d | .gplace d _ _ => xRef d | .gadd d _ _ => xRef d | .gdrop d _ _ => xRef d
  | .gpark d _ => xRef d | .grun d _ => xRef d | .gmove d _ _ => xRef d | .gend d _ _ => xRef d | .barcfg d _ _ => xRef d
  | .ckpt d _ => xRef d | .errclr d _ => xRef d | .coreret d _ _ => xRef d
  | .mapsetStat d _ _ => xRef d | .mapsetLoad d _ _ => xRef d | .mapsetSwitch d _ _ => xRef d | .mapsetOpen d _ _ => xRef d
  | .keyslotStat d _ => xRef d | .keyslotGen d _ => xRef d | .keyslotErase d _ => xRef d
  | .add d _ _ => xRef d | .sub d _ _ => xRef d | .and d _ _ => xRef d | .or d _ _ => xRef d | .xor d _ _ => xRef d
  | .sll d _ _ => xRef d | .srl d _ _ => xRef d | .sra d _ _ => xRef d | .slt d _ _ => xRef d | .sltu d _ _ => xRef d
  | .mul d _ _ => xRef d | .mulh d _ _ => xRef d | .mulhu d _ _ => xRef d | .div d _ _ => xRef d | .divu d _ _ => xRef d
  | .rem d _ _ => xRef d | .remu d _ _ => xRef d | .min d _ _ => xRef d | .max d _ _ => xRef d | .minu d _ _ => xRef d
  | .maxu d _ _ => xRef d | .clz d _ => xRef d | .ctz d _ => xRef d | .popc d _ => xRef d
  | .addi d _ _ => xRef d | .andi d _ _ => xRef d | .ori d _ _ => xRef d | .xori d _ _ => xRef d | .slli d _ _ => xRef d
  | .srli d _ _ => xRef d | .srai d _ _ => xRef d | .slti d _ _ => xRef d | .lui d _ => xRef d | .lcat d _ => xRef d
  | .fadd d _ _ _ => xRef d | .fsub d _ _ _ => xRef d | .fmul d _ _ _ => xRef d | .fma d _ _ _ => xRef d
  | .fdiv d _ _ _ => xRef d | .fsqrt d _ _ => xRef d | .fmin d _ _ => xRef d | .fmax d _ _ => xRef d
  | .fcmp d _ _ _ => xRef d | .fcvti d _ _ => xRef d | .fcvtf d _ _ => xRef d
  | .vadd d _ _ _ _ _ => vRef d | .vsub d _ _ _ _ _ => vRef d | .vmul d _ _ _ _ _ => vRef d | .vma d _ _ _ _ => vRef d
  | .vmin d _ _ _ _ _ => vRef d | .vmax d _ _ _ _ _ => vRef d | .vand d _ _ _ _ _ => vRef d | .vor d _ _ _ _ _ => vRef d
  | .vxor d _ _ _ _ _ => vRef d | .vsll d _ _ _ _ _ => vRef d | .vsrl d _ _ _ _ _ => vRef d | .vsra d _ _ _ _ _ => vRef d
  | .vabs d _ _ _ _ => vRef d | .vneg d _ _ _ _ => vRef d | .vcmp md _ _ _ _ _ => mRef md | .vsel d _ _ _ _ => vRef d
  | .vmov d _ _ _ => vRef d | .vbcast d _ _ _ => vRef d | .vins d _ _ _ => vRef d | .vext d _ _ _ _ => xRef d
  | .vwadd d _ _ _ _ _ => vGrp d 2 | .vwmul d _ _ _ _ _ => vGrp d 2 | .vwma d _ _ _ _ _ => vGrp d 2
  | .vnarrow d _ _ _ _ => vRef d
  | .vcvt d _ st _ dt _ _ _ => vGrp d (dstCount st.width dt.width)
  | .vplane d _ => vRef d | .vunplane d _ _ _ _ => vRef d | .vquant d _ _ _ _ _ => vRef d
  | .vrsum d _ _ _ _ => xRef d | .vrmax d _ _ _ _ => xRef d | .vperm d _ _ _ _ => vRef d | .vslide d _ _ _ _ => vRef d
  | .vrand d _ _ => vRef d | .vexp2 d _ _ _ => vRef d | .vlog2 d _ _ _ => vRef d | .vrcp d _ _ _ => vRef d
  | .vrsq d _ _ _ => vRef d | .vsig d _ _ _ => vRef d | .vdot4 d _ _ _ _ => vRef d
  | .mand d _ _ => mRef d | .mor d _ _ => mRef d | .mxor d _ _ => mRef d | .mnot d _ => mRef d
  | .mpop d _ _ => xRef d | .mfirst d _ _ => xRef d | .mfromx d _ _ => mRef d
  | .mmadd d s t _ _ => aRef d ++ aRef s ++ aRef t | .mmsub d s t _ _ => aRef d ++ aRef s ++ aRef t
  | .mmmul d s t _ _ => aRef d ++ aRef s ++ aRef t | .mmma d s t _ _ => aRef d ++ aRef s ++ aRef t
  | .mmmax d s t _ _ => aRef d ++ aRef s ++ aRef t | .mmcvt d s t _ _ => aRef d ++ aRef s ++ aRef t
  | _ => []

/-- The LA field of the forms that have one (R30). -/
def laOf : Instr → Option (BitVec 4)
  | .lds _ _ _ la _ _ => some la | .ldv _ _ _ la _ _ => some la | .ldfe _ _ la _ => some la
  | .hwait _ _ _ la => some la | .hwaitv _ _ _ la => some la | .mwait _ _ la => some la
  | .acst _ _ _ la => some la | .acstb _ _ _ la => some la | .acld _ _ _ la => some la | .acstsc _ _ _ la => some la
  | .rdyq _ _ la => some la
  | .atomAdd _ _ _ _ _ => some 15 | .atomAnd _ _ _ _ _ => some 15 | .atomOr _ _ _ _ _ => some 15
  | .atomXor _ _ _ _ _ => some 15 | .atomMin _ _ _ _ _ => some 15 | .atomMax _ _ _ _ _ => some 15
  | .atomMinu _ _ _ _ _ => some 15 | .atomMaxu _ _ _ _ _ => some 15 | .atomSwap _ _ _ _ _ => some 15
  | .atomCas _ _ _ _ _ => some 15 | .atomMaxrst _ _ _ _ _ => some 15 | .atomFadd _ _ _ _ _ => some 15
  | .atomFmax _ _ _ _ _ => some 15 | .atomFmaxrst _ _ _ _ _ => some 15
  | .vexp2 _ _ _ _ => some 15 | .vlog2 _ _ _ _ => some 15 | .vrcp _ _ _ _ => some 15 | .vrsq _ _ _ _ => some 15
  | .vsig _ _ _ _ => some 15
  | .mmadd _ _ _ _ _ => some 15 | .mmsub _ _ _ _ _ => some 15 | .mmmul _ _ _ _ _ => some 15
  | .mmma _ _ _ _ _ => some 15 | .mmmax _ _ _ _ _ => some 15 | .mmcvt _ _ _ _ _ => some 15
  | _ => none

/-- A matrix or ACOP instruction: it must not stand in the window of an ACOP form (R30). -/
def isMatrix : Instr → Bool
  | .mjob _ _ => true | .mtile _ _ _ _ _ _ => true | .mwait _ _ _ => true | .mstat _ _ => true | .mcancel _ => true
  | .acst _ _ _ _ => true | .acstb _ _ _ _ => true | .acld _ _ _ _ => true | .aczero _ => true | .acstsc _ _ _ _ => true
  | _ => false

/-- An ACOP form that carries LA (R30). -/
def isAcop : Instr → Bool
  | .acst _ _ _ _ => true | .acstb _ _ _ _ => true | .acld _ _ _ _ => true | .acstsc _ _ _ _ => true
  | _ => false

/-- A privileged encoding (R50). Control registers are checked by number (R26). -/
def isPriv : Instr → Bool
  | .eret => true | .amake _ _ _ => true
  | .gnew _ _ => true | .gplace _ _ _ => true | .gadd _ _ _ => true | .gdrop _ _ _ => true | .gpark _ _ => true
  | .grun _ _ => true | .gmove _ _ _ => true | .gend _ _ _ => true | .barcfg _ _ _ => true
  | .tlbinv _ _ => true | .ckpt _ _ => true | .errclr _ _ => true | .coreret _ _ _ => true
  | .mapsetStat _ _ _ => true | .mapsetLoad _ _ _ => true | .mapsetSwitch _ _ _ => true | .mapsetOpen _ _ _ => true
  | .keyslotStat _ _ => true | .keyslotGen _ _ => true | .keyslotErase _ _ => true | .icinv _ _ => true
  | _ => false

/-- The number of a vector register reference. -/
def RegRef.vNum : RegRef → Option Nat
  | .v n => some n
  | .x _ => none | .a _ => none | .m _ => none

/-- The least vector register named that lies at or above the allotment (R22, R35). -/
def firstOut (allot : Nat) (rs : List RegRef) : Option Nat :=
  ((rs.filterMap RegRef.vNum).filter (fun n => decide (allot ≤ n))).min?

end Sys2Proof.Machine
end

