-- ==== Sys2Proof/Machine/Ops.lean ====
section
/-! DEFINITION. The named operations over threads, registers and bundles; taking an exception and returning from one (R21 to R42, R116, R359). -/

namespace Sys2Proof.Machine

/-! ### Registers -/

namespace Thread

/-- Without the marks of a register that is written (R361). -/
def unmark (t : Thread) (r : RegRef) : Thread := { t with marks := t.marks.filter fun m => m.reg != r }
/-- An x register: x0 reads zero (R21). -/
def getX (t : Thread) (r : XReg) : Word := if r = 0 then 0 else t.regs.x[r.toNat]
/-- Put a value in an x register, its mark as it stands: x0 discards (R21). -/
def putX (t : Thread) (r : XReg) (v : Word) : Thread :=
  if r = 0 then t else { t with regs := { t.regs with x := t.regs.x.set r.toNat v } }
/-- Write an x register (R21, R361). -/
def setX (t : Thread) (r : XReg) (v : Word) : Thread := (t.putX r v).unmark (.x r.toNat)
/-- A vector register (R22). -/
def getV (t : Thread) (r : VReg) : VWord := t.regs.v[r.toNat]
/-- Put a value in a vector register, its mark as it stands (R22). -/
def putV (t : Thread) (r : VReg) (v : VWord) : Thread := { t with regs := { t.regs with v := t.regs.v.set r.toNat v } }
/-- A completion puts a value in a vector register: one at or above the allotment keeps nothing (R108). -/
def fillV (t : Thread) (r : VReg) (v : VWord) : Thread := if r.toNat < t.ctl.vallot.toNat then t.putV r v else t
/-- Write a vector register (R22, R361). -/
def setV (t : Thread) (r : VReg) (v : VWord) : Thread := (t.putV r v).unmark (.v r.toNat)
/-- An address register (R23). -/
def getA (t : Thread) (r : AReg) : ARegV := t.regs.a[r.toNat]
/-- Write an address register (R23, R361). -/
def setA (t : Thread) (r : AReg) (v : ARegV) : Thread := { t with regs := { t.regs with a := t.regs.a.set r.toNat v } }.unmark (.a r.toNat)
/-- A mask register: m0 reads all ones (R25). -/
def getM (t : Thread) (r : MReg) : MWord := if r = 0 then BitVec.allOnes 1024 else t.regs.m[r.toNat]
/-- Write a mask register: m0 ignores writes (R25, R361). -/
def setM (t : Thread) (r : MReg) (v : MWord) : Thread :=
  if r = 0 then t else { t with regs := { t.regs with m := t.regs.m.set r.toNat v } }.unmark (.m r.toNat)
/-- Set sticky flags (R79). -/
def flag (t : Thread) (f : FFlags) : Thread := { t with ctl := { t.ctl with vflags := t.ctl.vflags ||| f } }

/-- No windowed or scoreboarded instruction is outstanding (R31, R34). -/
def quiet (t : Thread) : Bool := t.outst.all fun o => o.fin
/-- In an activation (R27). -/
def inAct (t : Thread) : Bool := t.act.isSome
/-- ESTATUS as the thread stands (R27, R359). -/
def statusNow (t : Thread) (rep : Bool) : BitVec 4 :=
  (BitVec.ofBool t.inAct).append ((BitVec.ofBool rep).append ((BitVec.ofBool (t.sys.rgnpc != 0)).append (BitVec.ofBool t.sup)))

/-- Without the marks of the vector registers outside some: they read as zero (R34, R108, R109). -/
def unmarkV (t : Thread) (keep : Nat → Bool) : Thread :=
  { t with marks := t.marks.filter fun m => match m.reg with | .v n => keep n | .x _ => true | .a _ => true | .m _ => true }
/-- Clear the vector registers at or above an allotment (R22, R108). -/
def dropAbove (t : Thread) (n : Nat) : Thread :=
  { t with regs := { t.regs with v := Vector.ofFn fun i : Fin 32 => if i.val < n then t.regs.v[i.val] else 0 } }.unmarkV fun i => decide (i < n)
/-- Clear the vector registers whose bit in a mask is 0 (R34, R109). -/
def keepOnly (t : Thread) (live : BitVec 32) : Thread :=
  { t with regs := { t.regs with v := Vector.ofFn fun i : Fin 32 => if live.getLsbD i.val then t.regs.v[i.val] else 0 } }.unmarkV live.getLsbD

end Thread

namespace State

/-- Read an x register of the bundle (R40). -/
def rx (s : State) (r : XReg) : Word := s.src.getX r
/-- Read a vector register of the bundle. -/
def rv (s : State) (r : VReg) : VWord := s.src.getV r
/-- Read an address register of the bundle. -/
def ra (s : State) (r : AReg) : ARegV := s.src.getA r
/-- Read a mask register of the bundle. -/
def rm (s : State) (r : MReg) : MWord := s.src.getM r
/-- Write an x register. -/
def wx (s : State) (r : XReg) (v : Word) : State := s.modCur fun t => t.setX r v
/-- Write a vector register. -/
def wv (s : State) (r : VReg) (v : VWord) : State := s.modCur fun t => t.setV r v
/-- Write an address register. -/
def wa (s : State) (r : AReg) (v : ARegV) : State := s.modCur fun t => t.setA r v
/-- Write a mask register. -/
def wm (s : State) (r : MReg) (v : MWord) : State := s.modCur fun t => t.setM r v
/-- Set sticky flags of the thread (R79). -/
def wflags (s : State) (f : FFlags) : State := s.modCur fun t => t.flag f

end State

/-! ### The result of a slot -/

/-- What one slot of a bundle comes to: the state with its effects, a wait that holds the bundle (R40), or a fault (R42). -/
inductive SlotRes where
  | done (s : State)
  /-- the bundle is held; what it asks of other agents meanwhile is done to the state as it stands -/
  | wait (ask : State → State)
  | raise (t : Trap)

namespace State

/-- A fault of the slot that runs (R35). -/
def trapOf (s : State) (c : Cause) (v : Word) : Trap :=
  { cause := c, slot := s.ctx.form == .aslot || s.ctx.form == .rep, val := v }
/-- Raise a fault in the slot that runs. -/
def fault (s : State) (c : Cause) (v : Word) : SlotRes := .raise (s.trapOf c v)
/-- The word of the slot as a value of EVAL (R35). -/
def wordVal (s : State) : Word := s.ctx.word.setWidth 64
/-- Hold the bundle. -/
def hold (_ : State) : SlotRes := .wait id
/-- Raise OPERAND (R35). -/
def operand (s : State) : SlotRes := s.fault .operand s.wordVal

/-- Track an instruction of the slot until it completes: a lookahead window, or a scoreboard entry (R30). Its id is returned. -/
def track (s : State) (i : Instr) (dst : List RegRef) : Nat × State :=
  let o : Outst := {
    id := s.nextId, pc := s.ctx.pc, dst := dst, acop := isAcop i
    win := match laOf i with
      | some la => if la = 15 then none else some la.toNat
      | none => none }
  (s.nextId, { s with nextId := s.nextId + 1 }.modCur fun t => { t with outst := t.outst ++ [o] })

/-- Control moves to an address once the bundle is complete (R40). -/
def jumpTo (s : State) (pc : Word) : State := { s with ctx := { s.ctx with after := .jump pc } }
/-- How the slot ended, for the step (R40). -/
def ended (s : State) (e : SlotEnd) : State := { s with ctx := { s.ctx with last := e } }

end State

/-! ### Waits and checks before a slot acts -/

/-- An outstanding entry makes the bundle wait: a window that has run out, or a scoreboarded destination it names (R30). -/
def Outst.holds (o : Outst) (rs : List RegRef) : Bool :=
  !o.fin && (o.win == some 0 || (o.win == none && rs.any fun r => o.dst.contains r))

/-- A register whose hold bit is set is named (R242). -/
def heldReg (hold : BitVec 32) (rs : List RegRef) : Bool :=
  rs.any fun r => match r.vNum with
    | some n => decide (n < 32) && hold.getLsbD n
    | none => false

/-- Scoreboard entries in use (R30). -/
def Thread.sbUsed (t : Thread) : Nat := (t.outst.filter fun o => o.win == none && !o.fin).length

/-- The slot must wait before it issues (R29, R30, R242). -/
def mustWait (i : Instr) (s : State) : Bool :=
  let rs := readsOf i ++ writesOf i
  s.src.outst.any (fun o => o.holds rs) || heldReg s.src.ctl.sbhold rs ||
    (laOf i == some 15 && decide (8 ≤ s.cur.sbUsed))

/-- The faults found before the instruction's own checks: PRIVILEGE (R50), REGRANGE (R22), LOOKAHEAD (R30), and the errors of
completed instructions (R31, R361). -/
def earlyFaults (i : Instr) (s : State) : List Trap :=
  let t := s.src
  let rd := readsOf i
  let rs := rd ++ writesOf i
  (if isPriv i && !t.sup then [s.trapOf .privilege s.wordVal] else []) ++
  (match firstOut t.ctl.vallot.toNat rs with
   | some n => [s.trapOf .regrange (BitVec.ofNat 64 n)]
   | none => []) ++
  (t.outst.filterMap fun o =>
    match o.win with
    | some (_ + 1) =>
      if (o.acop && isMatrix i) || rs.any (fun r => o.dst.contains r) then some (s.trapOf .lookahead o.pc) else none
    | some 0 => if o.traps = 0 then o.err.map fun e => s.trapOf e.cause e.val else none
    | none => if t.waitedOn.contains o.id && rs.any (fun r => o.dst.contains r) then o.err.map fun e => s.trapOf e.cause e.val else none) ++
  (t.marks.filterMap fun m => if rd.contains m.reg then some (s.trapOf m.cause m.val) else none)

/-- The fault that is reported: the least rank, the earlier one on a tie (R35). -/
def firstTrap : List Trap → Option Trap
  | [] => none
  | t :: r => match firstTrap r with
    | none => some t
    | some u => if u.cause.rank < t.cause.rank then some u else some t

/-- Instructions that act on other agents while they wait: an arrival, a question, a command. Such a wait begins only once no fault is known
(R42); any other wait comes before the faults of the bundle (R40, log 30). -/
def waitActs : Instr → Bool
  | .barw _ | .barrw _ | .htest _ _ | .crw _ _ | .crset _ _ | .crclr _ _ | .tlbinv _ _ => true
  | .gnew _ _ | .gplace _ _ _ | .grun _ _ | .gpark _ _ | .gadd _ _ _ | .gdrop _ _ _ | .gmove _ _ _ | .gend _ _ _ | .barcfg _ _ _ => true
  | .coreret _ _ _ | .mapsetStat _ _ _ | .mapsetLoad _ _ _ | .mapsetSwitch _ _ _ | .mapsetOpen _ _ _ => true
  | _ => false

/-- The result of a slot with the faults found before it (R35): a wait for a translation comes before the causes that rank after PROT. -/
def SlotRes.withFaults (r : SlotRes) (i : Instr) (fs : List Trap) : SlotRes :=
  match firstTrap (match r with
    | .raise t => fs ++ [t]
    | .done _ => fs
    | .wait _ => if waitActs i then fs else fs.filter fun t => decide (t.cause.rank ≤ 14)) with
  | some t => .raise t
  | none => r

/-! ### Issuing a bundle -/

/-- An entry whose window this bundle narrows; an entry that nothing needs any more is dropped (R30). -/
def Outst.tick (o : Outst) : Option Outst :=
  match o.win with
  | none => if o.fin && o.err == none then none else some o
  | some 0 => if o.fin && o.err == none then none else some o
  | some (n + 1) => some { o with win := some n }

/-- A wait at a barrier is over: its timer and the marks of its end are cleared (R283, R286). -/
def BarBits.endWait (b : BarBits) : BarBits := { b with cut := 0, leave := 0, since := none, waited := 0, timedOut := false }

/-- The counts of an issued bundle: ISSUED, the watchdog in user mode inside an activation, the lookahead windows (R30, R32, R108). -/
def Thread.opened (t : Thread) : Thread :=
  { t with
    outst := t.outst.filterMap Outst.tick
    park := .none
    bar := t.bar.endWait
    stalled := none
    waitedOn := []
    xlIds := []
    viaEret := false
    asked := false
    answer := none
    xfail := []
    sys := { t.sys with
      issued := t.sys.issued + 1
      wdog := if t.inAct && !t.sup && t.sys.wdog != 0 then t.sys.wdog - 1 else t.sys.wdog } }

/-- The state as a bundle of the issuing thread begins to issue. -/
def State.openBundle (s : State) : State :=
  { s with ctx := { s.ctx with after := .next, snap := some s.cur } }.modCur Thread.opened
/-- The state without the copy of the thread that an issuing bundle keeps. -/
def State.closed (s : State) : State := { s with ctx := { s.ctx with snap := none } }

/-- What remains to be done after the slots of a bundle: the pc, YIELD's clearing, a VALLOT write (R40, R108, R109). -/
def Thread.afterBundle (t : Thread) (next : Word) : After → Thread
  | .next => { t with pc := next }
  | .jump pc => { t with pc := pc }
  | .yield live =>
    let r := t.res.map fun r => { r with vmask := live ||| t.ctl.sbhold }
    { t.keepOnly (live ||| t.ctl.sbhold) with
      pc := next, res := r, park := match t.res with | some r => if r.parkReq then .yield else .none | none => .none }
  | .vallot n => { t.dropAbove n.toNat with pc := next, ctl := { t.ctl with vallot := n } }

/-- A lone bundle or a pair is complete. -/
def State.retire (s : State) : State := s.closed.modCur fun t => t.afterBundle s.ctx.next s.ctx.after

/-- An iteration of a REP unit is complete (R112). -/
def Thread.afterIter (t : Thread) (next : Word) : Thread :=
  match t.rep with
  | none => { t with pc := next }
  | some r =>
    if r.k + 1 < r.count then { t with rep := some { r with k := r.k + 1 } }
    else { t with rep := none, pc := next, sys := { t.sys with repcnt := 0 } }

/-! ### Taking an exception, and returning from one -/

/-- Trap entry (R359): the saved registers are written, the mode changes, the pc goes to TVEC; completion errors stay pending (R31). -/
def Thread.enterTrap (t : Thread) (p : PendTrap) : Thread :=
  { t with
    sup := true
    pc := t.sys.tvec &&& ~~~3#64
    rep := none
    viaEret := false
    trap := none
    outst := t.outst.map fun o => if o.err.isSome then { o with traps := o.traps + 1 } else o
    sys := { t.sys with
      epc := p.epc
      ecause := (BitVec.ofBool p.trap.slot).append (BitVec.ofNat 8 p.trap.cause.code)
      eval := p.trap.val
      estatus := p.st
      repcnt := match p.rep with
        | some k => BitVec.ofNat 64 k
        | none => t.sys.repcnt } }

/-- The pending error of an entry is the one that a trap raises. -/
def Outst.raises (o : Outst) (tr : Trap) : Bool :=
  match o.err with
  | some e => e.cause == tr.cause && e.val == tr.val
  | none => false
/-- The entry whose error a trap raises: the first whose window has run out or for whose completion the bundle has waited, else the first (R31). -/
def Thread.raising (t : Thread) (tr : Trap) : Option Nat :=
  let due := fun (o : Outst) => (o.win == some 0 && o.traps == 0) || (o.win == none && t.waitedOn.contains o.id)
  match t.outst.find? fun o => o.raises tr && due o with
  | some o => some o.id
  | none => (t.outst.find? fun o => o.raises tr).map fun o => o.id
/-- A completion error that is raised is no longer pending; another one, of equal cause and value, is (R31, R161). -/
def Thread.consume (t : Thread) (tr : Trap) : Thread :=
  { t with
    outst := t.outst.filterMap fun o =>
      if t.raising tr = some o.id then
        (match o.win with | some (n + 1) => some { o with err := none, win := some (n + 1) } | some 0 => none | none => none)
      else some o
    storelate := if tr.cause == .storelate then none else t.storelate
    park := .none
    bar := if tr.cause == .bartime then { t.bar.endWait with waiting := t.bar.waiting &&& ~~~(1#16 <<< tr.val.toNat) } else t.bar.endWait
    waitedOn := []
    xlIds := []
    asked := false
    answer := none
    xfail := [] }

/-- Special-function requests of a thread that traps go to the tail of the FIFO and run anew (R136). -/
def sfuReplay (key : Nat) (q : List SfuReq) : List SfuReq :=
  (q.filter fun r => r.key != key) ++ ((q.filter fun r => r.key == key).map fun r => { r with started := false })

/-- POISON inside an open region that may still restart (R367). -/
def Thread.restarts (t : Thread) (c : Cause) : Bool :=
  c == .poison && t.sys.rgnpc != 0 && decide ((t.sys.rgnpc &&& 3).toNat < 3)

/-- A fault of the issuing thread's bundle (R42, R359): ISSUED counts it unless a region restarts; entry follows at once when nothing is outstanding, no region
restarts and no activation is to be ended (DUPLEX), and otherwise by TRAP_ENTRY or REGION_RESTART. A trap replays the thread's special-function requests (R136). -/
def State.raiseTrap (s : State) (tr : Trap) : State :=
  let t := s.cur
  let rep := t.rep.map fun r => r.k
  let p : PendTrap := { trap := tr, epc := s.ctx.pc, rep := rep, st := t.statusNow rep.isSome }
  let t1 := { t.consume tr with sys := { t.sys with issued := if t.restarts tr.cause then t.sys.issued else t.sys.issued + 1 } }
  let t2 := if t1.quiet && !t1.restarts tr.cause && tr.cause != .duplex then t1.enterTrap p else { t1 with trap := some p }
  let s1 := match tr.found with
    | some a => s.localPoison s.site a
    | none => s
  (s1.modMyCore fun c => { c with sfu := if t.restarts tr.cause then c.sfu else sfuReplay s.ctx.key c.sfu }).setThread s.ctx.key t2

/-- A trap is over for the errors that stayed pending across it (R31). -/
def Thread.trapOver (t : Thread) : Thread := { t with outst := t.outst.map fun o => { o with traps := o.traps - 1 } }
/-- ERET's mode and pc (R116): the mode from ESTATUS.PRV, the pc from EPC. -/
def Thread.eretTo (t : Thread) : Thread := { t.trapOver with sup := t.sys.estatus.getLsbD 0, pc := t.sys.epc, viaEret := true }

/-! ### One slot, from its checks to its end -/

/-- Run one slot (R40, R42, R54): it waits, or raises the first fault, or takes effect. A lone word and an iteration of a REP unit complete
here; the slots of a pair are joined by the step. -/
def slot (i : Instr) (body : State → SlotRes) (s : State) : Host.Outcome State Fault Refusal :=
  if mustWait i s then .next (s.ended .wait)
  else match s.ctx.form with
    | .lone =>
      match (body s.openBundle).withFaults i (earlyFaults i s) with
      | .done s1 => .next (s1.retire.ended .done)
      | .wait ask => .next ((ask s).ended .wait)
      | .raise t => .next ((s.raiseTrap t).ended (.raise t))
    | .rep =>
      match (body s.openBundle).withFaults i (earlyFaults i s) with
      | .done s1 => .next ((s1.closed.modCur fun t => t.afterIter s.ctx.next).ended .done)
      | .wait ask => .next ((ask s).ended .wait)
      | .raise t => .next ((s.raiseTrap t).ended (.raise t))
    | .cslot | .aslot =>
      match (body s).withFaults i (earlyFaults i s) with
      | .done s1 => .next (s1.ended .done)
      | .wait ask => .next ((ask s).ended .wait)
      | .raise t => .next (s.ended (.raise t))

end Sys2Proof.Machine
end

