-- ==== Sys2Proof/Machine/Address.lean ====
section
/-! DEFINITION. Address-register instructions and control transfers (R98 to R105). -/

namespace Sys2Proof.Machine

/-- The window of an address: bits [63:60] (R142). -/
def windowOf (a : Nat) : Nat := a / 2 ^ 60 % 16

/-- Permissions of PERM (R23). -/
def permR (p : Byte) : Bool := p.getLsbD 0
/-- W -/
def permW (p : Byte) : Bool := p.getLsbD 1
/-- A -/
def permA (p : Byte) : Bool := p.getLsbD 2
/-- F -/
def permF (p : Byte) : Bool := p.getLsbD 3
/-- T -/
def permT (p : Byte) : Bool := p.getLsbD 4
/-- D -/
def permD (p : Byte) : Bool := p.getLsbD 5

/-- A pointer may take this value: BASE ≤ n ≤ LIMIT (R24, R100). -/
def ARegV.allows (r : ARegV) (n : Int) : Bool := decide ((r.base.toNat : Int) ≤ n) && decide (n ≤ (r.limit.toNat : Int))

/-- Re-point a register (R100): BOUND unless the new pointer lies in its range. -/
def aRepoint (i : Instr) (ad asrc : AReg) (n : State → ARegV → Int) (st : State) : Host.Outcome State Fault Refusal :=
  slot i (fun u =>
    let r := u.ra asrc
    let p := n u r
    if r.allows p then .done (u.wa ad { r with ptr := BitVec.ofInt 64 p }) else u.fault .bound (BitVec.ofInt 64 p)) st

/-- Read a part of an address register (R100). -/
def aRead (i : Instr) (asrc : AReg) (x : XReg) (f : ARegV → Word) (st : State) : Host.Outcome State Fault Refusal :=
  slot i (fun u => .done (u.wx x (f (u.ra asrc)))) st

/-- LENGTH of a range word (R99). -/
def rangeLen (w : Word) : Nat := w.toNat % 2 ^ 56
/-- PMASK of a range word, its upper two bits as zero (R99). -/
def rangePerm (w : Word) : Byte := (w.extractLsb' 56 6).setWidth 8

/-- AMOV (R100). -/
def execAmov (ad asrc : AReg) (st : State) : Host.Outcome State Fault Refusal :=
  slot (.amov ad asrc) (fun u => .done (u.wa ad (u.ra asrc))) st
/-- ANARROW (R101). -/
def execAnarrow (ad asrc : AReg) (xb xr : XReg) (st : State) : Host.Outcome State Fault Refusal :=
  slot (.anarrow ad asrc xb xr) (fun u =>
    let r := u.ra asrc
    let nb := (u.rx xb).toNat
    let len := rangeLen (u.rx xr)
    let nl := nb + len
    if nb < r.base.toNat ∨ r.limit.toNat < nl then u.fault .bound (u.rx xb)
    else if permD r.perm = false then u.fault .perm (u.rx xb)
    else if 0 < len ∧ windowOf nb ≠ windowOf (nl - 1) then u.fault .windowspan (BitVec.ofNat 64 nl)
    else .done (u.wa ad { ptr := u.rx xb, base := u.rx xb, limit := BitVec.ofNat 65 nl, perm := r.perm &&& rangePerm (u.rx xr) })) st
/-- AADD (R100). -/
def execAadd (ad asrc : AReg) (xo : XReg) (st : State) : Host.Outcome State Fault Refusal :=
  aRepoint (.aadd ad asrc xo) ad asrc (fun u r => r.ptr.toNat + (u.rx xo).toInt) st
/-- ASETP (R100). -/
def execAsetp (ad asrc : AReg) (xp : XReg) (st : State) : Host.Outcome State Fault Refusal :=
  aRepoint (.asetp ad asrc xp) ad asrc (fun u _ => (u.rx xp).toNat) st
/-- AADDI (R100). -/
def execAaddi (ad asrc : AReg) (imm : BitVec 16) (st : State) : Host.Outcome State Fault Refusal :=
  aRepoint (.aaddi ad asrc imm) ad asrc (fun _ r => r.ptr.toNat + imm.toInt) st
/-- AGETP (R100). -/
def execAgetp (asrc : AReg) (x : XReg) (st : State) : Host.Outcome State Fault Refusal :=
  aRead (.agetp asrc x) asrc x (fun r => r.ptr) st
/-- AGETB (R100). -/
def execAgetb (asrc : AReg) (x : XReg) (st : State) : Host.Outcome State Fault Refusal :=
  aRead (.agetb asrc x) asrc x (fun r => r.base) st
/-- AGETL (R100); a LIMIT at the top of the address space reads modulo 2^64 (log 14). -/
def execAgetl (asrc : AReg) (x : XReg) (st : State) : Host.Outcome State Fault Refusal :=
  aRead (.agetl asrc x) asrc x (fun r => r.limit.setWidth 64) st
/-- APERM (R100). -/
def execAperm (asrc : AReg) (x : XReg) (st : State) : Host.Outcome State Fault Refusal :=
  aRead (.aperm asrc x) asrc x (fun r => r.perm.setWidth 64) st
/-- AMAKE (R102), privileged. -/
def execAmake (ad : AReg) (xb xr : XReg) (st : State) : Host.Outcome State Fault Refusal :=
  slot (.amake ad xb xr) (fun u =>
    let nb := (u.rx xb).toNat
    let len := rangeLen (u.rx xr)
    let nl := nb + len
    if 0 < len ∧ (2 ^ 64 ≤ nl - 1 ∨ windowOf nb ≠ windowOf (nl - 1)) then u.fault .windowspan (BitVec.ofNat 64 nl)
    else .done (u.wa ad { ptr := u.rx xb, base := u.rx xb, limit := BitVec.ofNat 65 nl, perm := rangePerm (u.rx xr) })) st

/-! ### Jumps and branches (R104) -/

/-- The target of a branch: signed words from the bundle's first address (R45). -/
def State.target (s : State) (off : Int) : Word := s.ctx.pc + BitVec.ofInt 64 (4 * off)

/-- A conditional branch on two x registers. -/
def branch (i : Instr) (s t : XReg) (off : BitVec 14) (cond : Word → Word → Bool) (st : State) :
    Host.Outcome State Fault Refusal :=
  slot i (fun u => .done (if cond (u.rx s) (u.rx t) then u.jumpTo (u.target off.toInt) else u)) st

/-- J. -/
def execJ (off : BitVec 24) (st : State) : Host.Outcome State Fault Refusal :=
  slot (.j off) (fun u => .done (u.jumpTo (u.target off.toInt))) st
/-- JAL: x1 receives the next bundle's address. -/
def execJal (off : BitVec 24) (st : State) : Host.Outcome State Fault Refusal :=
  slot (.jal off) (fun u => .done ((u.wx 1 u.ctx.next).jumpTo (u.target off.toInt))) st
/-- JALR: an unaligned target raises ALIGN at the JALR (R105). -/
def execJalr (d s : XReg) (imm : BitVec 10) (st : State) : Host.Outcome State Fault Refusal :=
  slot (.jalr d s imm) (fun u =>
    let t := u.rx s + imm.signExtend 64
    if t &&& 3 ≠ 0 then u.fault .align t else .done ((u.wx d u.ctx.next).jumpTo t)) st
/-- BEQ. -/
def execBeq (s t : XReg) (off : BitVec 14) (st : State) : Host.Outcome State Fault Refusal :=
  branch (.beq s t off) s t off (fun a b => a == b) st
/-- BNE. -/
def execBne (s t : XReg) (off : BitVec 14) (st : State) : Host.Outcome State Fault Refusal :=
  branch (.bne s t off) s t off (fun a b => a != b) st
/-- BLT, signed. -/
def execBlt (s t : XReg) (off : BitVec 14) (st : State) : Host.Outcome State Fault Refusal :=
  branch (.blt s t off) s t off (fun a b => a.slt b) st
/-- BGE, signed. -/
def execBge (s t : XReg) (off : BitVec 14) (st : State) : Host.Outcome State Fault Refusal :=
  branch (.bge s t off) s t off (fun a b => !a.slt b) st
/-- BLTU. -/
def execBltu (s t : XReg) (off : BitVec 14) (st : State) : Host.Outcome State Fault Refusal :=
  branch (.bltu s t off) s t off (fun a b => a.ult b) st
/-- BGEU. -/
def execBgeu (s t : XReg) (off : BitVec 14) (st : State) : Host.Outcome State Fault Refusal :=
  branch (.bgeu s t off) s t off (fun a b => !a.ult b) st
/-- BANY: taken if any bit of the mask is 1. -/
def execBany (m : MReg) (off : BitVec 14) (st : State) : Host.Outcome State Fault Refusal :=
  slot (.bany m off) (fun u => .done (if u.rm m ≠ 0 then u.jumpTo (u.target off.toInt) else u)) st
/-- BNONE: taken if no bit of the mask is 1. -/
def execBnone (m : MReg) (off : BitVec 14) (st : State) : Host.Outcome State Fault Refusal :=
  slot (.bnone m off) (fun u => .done (if u.rm m = 0 then u.jumpTo (u.target off.toInt) else u)) st

end Sys2Proof.Machine
end

