-- ==== Sys2Proof/Machine/Pod.lean ====
section
/-! DEFINITION. The pod graph on GF(32) (R346, R347). -/

namespace Sys2Proof.Machine

namespace Pod

/-- An element of the field times x. -/
def timesX (a : BitVec 5) : BitVec 5 := (a <<< 1) ^^^ (if a.getLsbD 4 then 5 else 0)
/-- The product of two elements. -/
def mul (a b : BitVec 5) : BitVec 5 :=
  let bit := fun (k : Nat) (v : BitVec 5) => if b.getLsbD k then v else 0
  let a1 := timesX a
  let a2 := timesX a1
  let a3 := timesX a2
  bit 0 a ^^^ bit 1 a1 ^^^ bit 2 a2 ^^^ bit 3 a3 ^^^ bit 4 (timesX a3)
/-- The inverse of an element that is not zero: its 30th power. -/
def inv (a : BitVec 5) : BitVec 5 :=
  let a2 := mul a a
  let a4 := mul a2 a2
  let a8 := mul a4 a4
  mul a2 (mul a4 (mul a8 (mul a8 a8)))

/-- The vector of a node; none beyond 1,056. -/
def vec (n : BitVec 11) : Option (BitVec 5 × BitVec 5 × BitVec 5) :=
  let k := n.toNat
  if k < 1024 then some (1, BitVec.ofNat 5 (k / 32), BitVec.ofNat 5 k)
  else if k < 1056 then some (0, 1, BitVec.ofNat 5 k)
  else if k = 1056 then some (0, 0, 1)
  else none
/-- The node of a vector that is not zero. -/
def node (a b c : BitVec 5) : BitVec 11 :=
  if a ≠ 0 then BitVec.ofNat 11 (32 * (mul (inv a) b).toNat + (mul (inv a) c).toNat)
  else if b ≠ 0 then BitVec.ofNat 11 (1024 + (mul (inv b) c).toNat)
  else 1056
/-- Two nodes are orthogonal. -/
def orthogonal (p q : BitVec 11) : Bool :=
  match vec p, vec q with
  | some (a, b, c), some (d, e, f) => mul a d ^^^ mul b e ^^^ mul c f == 0
  | _, _ => false
/-- Two nodes are adjacent. -/
def adjacent (p q : BitVec 11) : Bool := p != q && orthogonal p q
/-- The node orthogonal to two distinct nodes. -/
def between (p q : BitVec 11) : Option (BitVec 11) :=
  if p = q then none
  else match vec p, vec q with
    | some (a, b, c), some (d, e, f) =>
      some (node (mul b f ^^^ mul c e) (mul c d ^^^ mul a f) (mul a e ^^^ mul b d))
    | _, _ => none

end Pod

end Sys2Proof.Machine
end

