-- ==== Sys2Proof/Machine/Wire.lean ====
section
/-! DEFINITION. The 128-bit header of a message and its first flit (R150, R209, R344, R368). -/

namespace Sys2Proof.Machine

/-- The code of a class (R150). -/
def MClass.code : MClass → BitVec 2
  | .req => 0 | .fwd => 1 | .rsp => 2 | .bulk => 3
/-- The class of a code. -/
def MClass.ofCode (c : BitVec 2) : MClass := if c = 0 then .req else if c = 1 then .fwd else if c = 2 then .rsp else .bulk

/-- The header of a message (R150). -/
def Msg.header (m : Msg) : BitVec 128 :=
  let b := fun (x : Bool) => BitVec.ofBool x
  (m.dst.dev ++ m.dst.core ++ m.dst.thr ++ m.src.dev ++ m.src.core ++ m.src.thr ++ m.cls.code ++ m.typ ++ m.rtag ++ m.tenant ++ m.seq ++
    m.bounces ++ b m.fl.mapv ++ m.nflit ++ b m.fl.last ++ b m.fl.drain ++ b m.fl.senior ++ b m.fl.resent ++ b m.fl.sup ++ b m.fl.raw ++
    b m.fl.nt ++ b m.fl.twin ++ m.spec).setWidth 128

/-- A message with the fields of a header. -/
def Msg.withHeader (m : Msg) (h : BitVec 128) : Msg :=
  { m with
    dst := ⟨h.extractLsb' 117 11, h.extractLsb' 105 12, h.extractLsb' 103 2⟩
    src := ⟨h.extractLsb' 92 11, h.extractLsb' 80 12, h.extractLsb' 78 2⟩
    cls := .ofCode (h.extractLsb' 76 2), typ := h.extractLsb' 70 6, rtag := h.extractLsb' 64 6, tenant := h.extractLsb' 52 12
    seq := h.extractLsb' 36 16, bounces := h.extractLsb' 32 4, nflit := h.extractLsb' 27 4
    fl := { mapv := h.getLsbD 31, last := h.getLsbD 26, drain := h.getLsbD 25, senior := h.getLsbD 24, resent := h.getLsbD 23
            sup := h.getLsbD 22, raw := h.getLsbD 21, nt := h.getLsbD 20, twin := h.getLsbD 19 }
    spec := h.extractLsb' 0 19 }

/-- The first flit: header, then the inline words (R149). -/
def Msg.firstFlit (m : Msg) : BitVec 512 :=
  (m.w[5] ++ m.w[4] ++ m.w[3] ++ m.w[2] ++ m.w[1] ++ m.w[0] ++ m.header).setWidth 512
/-- A message read from a first flit. -/
def Msg.withFirst (m : Msg) (f : BitVec 512) : Msg :=
  { m.withHeader (f.extractLsb' 0 128) with
    w := #v[f.extractLsb' 128 64, f.extractLsb' 192 64, f.extractLsb' 256 64, f.extractLsb' 320 64, f.extractLsb' 384 64, f.extractLsb' 448 64] }

/-- A payload flit. -/
def Msg.payFlit (m : Msg) (i : Nat) : BitVec 512 := m.pay.extractLsb' (512 * i) 512
/-- The flits of a message (R149). -/
def Msg.flits (m : Msg) : List (BitVec 512) := m.firstFlit :: (List.range (min m.nflit.toNat 8)).map m.payFlit
/-- Payload flits, joined. -/
def payOf (fs : List (BitVec 512)) : VWord :=
  BitVec.ofNat 4096 (fs.zipIdx.foldl (fun (n : Nat) (e : BitVec 512 × Nat) => n + e.1.toNat * 2 ^ (512 * e.2)) 0)

/-! ### CRC-32 with the IEEE 802.3 polynomial (R344, R368) -/

/-- One bit. -/
def crcBit (c : BitVec 32) : BitVec 32 := if c.getLsbD 0 then (c >>> 1) ^^^ 0xEDB88320 else c >>> 1
/-- One byte. -/
def crcByte (c : BitVec 32) (b : BitVec 8) : BitVec 32 :=
  crcBit (crcBit (crcBit (crcBit (crcBit (crcBit (crcBit (crcBit (c ^^^ b.setWidth 32))))))))
/-- The CRC of a string of bytes. -/
def crc32 (bs : List (BitVec 8)) : BitVec 32 := ~~~(bs.foldl crcByte 0xFFFFFFFF)
/-- The first n bytes of a word, the lowest first. -/
def bytesOfBits {w : Nat} (x : BitVec w) (n : Nat) : List (BitVec 8) := (List.range n).map fun i => x.extractLsb' (8 * i) 8

/-! ### Link flits (R344) -/

/-- A slot tag. -/
def slotTag (dest src : BitVec 11) (hop : BitVec 2) (cls : MClass) (first last : Bool) : BitVec 128 :=
  (BitVec.ofBool last ++ BitVec.ofBool first ++ cls.code ++ hop ++ src ++ dest).setWidth 128
/-- Fields of a slot tag. -/
def tagDest (t : BitVec 128) : BitVec 11 := t.extractLsb' 0 11
/-- Its source node. -/
def tagSrc (t : BitVec 128) : BitVec 11 := t.extractLsb' 11 11
/-- Its hop index. -/
def tagHop (t : BitVec 128) : BitVec 2 := t.extractLsb' 22 2
/-- Its class. -/
def tagClass (t : BitVec 128) : MClass := .ofCode (t.extractLsb' 24 2)
/-- The message's first flit. -/
def tagFirst (t : BitVec 128) : Bool := t.getLsbD 26
/-- The message's last flit. -/
def tagLast (t : BitVec 128) : Bool := t.getLsbD 27

namespace Wire

/-- SEQ of a link flit. -/
def seq (f : LinkFlit) : BitVec 16 := f.extractLsb' 0 16
/-- ACK. -/
def ack (f : LinkFlit) : BitVec 16 := f.extractLsb' 16 16
/-- Slots used. -/
def used (f : LinkFlit) : Nat := (f.extractLsb' 32 2).toNat
/-- NAK. -/
def nak (f : LinkFlit) : Bool := f.getLsbD 34
/-- The lane-turn request, and the DIR asked for. -/
def turn (f : LinkFlit) : Option (BitVec 8) := if f.getLsbD 35 then some (f.extractLsb' 36 8) else none
/-- A slot: its tag and its mesh flit. -/
def slot (f : LinkFlit) (i : Nat) : BitVec 128 × BitVec 512 := (f.extractLsb' (64 + 128 * i) 128, f.extractLsb' (448 + 512 * i) 512)
/-- The slots used. -/
def slots (f : LinkFlit) : List (BitVec 128 × BitVec 512) := (List.range (used f)).map (slot f)
/-- The CRC is good. -/
def good (f : LinkFlit) : Bool := crc32 (bytesOfBits f 252) == f.extractLsb' 2016 32
/-- A link flit with its CRC. -/
def sealed (f : LinkFlit) : LinkFlit :=
  let body : LinkFlit := f &&& BitVec.ofNat 2048 (2 ^ 2016 - 1)
  body ||| (((crc32 (bytesOfBits body 252)).setWidth 2048) <<< 2016)
/-- A link flit with up to three slots. -/
def make (sq ak : BitVec 16) (nk : Bool) (tr : Option (BitVec 8)) (items : List (BitVec 128 × BitVec 512)) : LinkFlit :=
  let ctl : BitVec 32 := BitVec.ofNat 32 (items.length % 4) ||| (if nk then 4 else 0) |||
    (match tr with | some d => (8 : BitVec 32) ||| (d.setWidth 32 <<< 4) | none => 0)
  let put : LinkFlit → BitVec 128 × BitVec 512 × Nat → LinkFlit := fun f e =>
    f ||| (e.1.setWidth 2048 <<< (64 + 128 * e.2.2)) ||| (e.2.1.setWidth 2048 <<< (448 + 512 * e.2.2))
  sealed ((items.zipIdx.map fun e => (e.1.1, e.1.2, e.2)).foldl put ((ctl ++ ak ++ sq).setWidth 2048))
/-- A flit that is sent again names what has been received since. -/
def again (f : LinkFlit) (ak : BitVec 16) (nk : Bool) : LinkFlit := make (seq f) ak nk (turn f) (slots f)
/-- The same flit with no slot used. -/
def emptied (f : LinkFlit) : LinkFlit := make (seq f) (ack f) (nak f) (turn f) []

end Wire

/-- The CRC by which the Referee compares: over the header with SCORE, STHR, SEQ and TWIN zero, then the payload flits (R368). -/
def Msg.refereeCrc (m : Msg) : BitVec 32 :=
  let h := { m with src := ⟨m.src.dev, 0, 0⟩, seq := 0, fl := { m.fl with twin := false } }.header
  crc32 (bytesOfBits h 16 ++ (m.flits.drop 1).flatMap fun f => bytesOfBits f 64)

/-- A spill entry: the first flit and up to three argument flits (R209). -/
def Msg.spillBytes (m : Msg) : Nat := m.firstFlit.toNat + 2 ^ 512 * (m.pay.toNat % 2 ^ 1536)
/-- The message that a spill entry holds; what the entry does not hold stays. -/
def Msg.unspill (m : Msg) (x : Nat) : Msg :=
  { m.withFirst (BitVec.ofNat 512 x) with pay := (m.pay >>> 1536 <<< 1536) ||| BitVec.ofNat 4096 (x / 2 ^ 512 % 2 ^ 1536) }

end Sys2Proof.Machine
end

