-- ==== Sys2Proof/Machine/Port.lean ====
section
/-! DEFINITION. One port of the Stawit link: its lanes, what it sends, its replay buffer (R339 to R345). -/

namespace Sys2Proof.Machine

namespace Port

/-- Working lanes that transmit. -/
def tx (p : Port) : BitVec 8 := p.work &&& p.dir
/-- Working lanes that receive. -/
def rx (p : Port) : BitVec 8 := p.work &&& ~~~p.dir
/-- Each direction has a working lane (R342). -/
def bothWays (p : Port) : Bool := p.tx != 0 && p.rx != 0
/-- STATE follows from the lanes: UP with a working lane in each direction, else DOWN; TRAINING while a first training runs, and while the lanes
that transmit retrain by R345, after which replay resumes, if the other direction works (R340, R342, R345, log 65). -/
def settle (p : Port) : Port :=
  let up := p.agreed && p.bothWays
  let trains := (p.fresh && p.turning != 0) || (p.again &&& p.turning != 0 && p.rx != 0)
  { p with st := if up then .up else if trains then .training else .down, fresh := p.fresh && !up && p.turning != 0, again := p.again &&& p.turning }
/-- Number of bits set. -/
def count (x : BitVec 8) : Nat := ((List.range 8).filter fun i => x.getLsbD i).length

/-- The code of STATE. -/
def stCode (p : Port) : BitVec 2 := match p.st with | .down => 0 | .training => 1 | .up => 2
/-- PORTCTL as it reads (R340). -/
def ctl (p : Port) : Word :=
  (p.role ++ p.stCode ++ p.peer ++ (0 : BitVec 5) ++ p.en ++ p.dir).setWidth 64
/-- PORTSTAT as it reads (R340). -/
def stat (p : Port) : Word :=
  (p.replay ++ BitVec.ofNat 4 (count p.tx) ++ BitVec.ofNat 4 (count p.rx) ++ p.fail ++ (0 : BitVec 8)).setWidth 64

/-! ### Sending (R344, R345) -/

/-- Put one link flit on the wire: up to three waiting slots, what is to be acknowledged, a turn to be asked. -/
def sendOne (now : Word) (p : Port) : Port :=
  let f := Wire.make p.nextSeq (p.expect - 1) p.nak p.turnReq ((p.toSend.take 3).map fun e => (e.1, e.2.1))
  { p with
    toSend := p.toSend.drop 3, buf := p.buf ++ [(f, 1)], nextSeq := p.nextSeq + 1, nak := false, turnReq := none
    progress := if p.buf.isEmpty then now else p.progress }
/-- The port can put a flit on the wire: it is UP and its replay buffer has room. -/
def canSend (p : Port) : Bool := p.st == .up && decide (p.buf.length < 128)
/-- A turn can be asked of the peer: a lane that works transmits, be the port DOWN (R342). -/
def canAsk (p : Port) : Bool := p.tx != 0 && decide (p.buf.length < 128)
/-- Send what waits, while the replay buffer has room; at most n flits. -/
def pump (now : Word) : Nat → Port → Port
  | 0, p => p
  | n + 1, p => if p.canSend && !p.toSend.isEmpty then (p.sendOne now).pump now n else p
/-- Send what waits. -/
def flush (now : Word) (p : Port) : Port := p.pump now 128
/-- Join the slots of a message to those that wait, and send. -/
def enqueue (now : Word) (p : Port) (items : List (BitVec 128 × BitVec 512 × BitVec 11)) : Port :=
  { p with toSend := p.toSend ++ items }.flush now

/-! ### Replay (R345) -/

/-- The flits of the replay buffer that an ACK covers (R345). -/
def covered (a : BitVec 16) (p : Port) : List LinkFlit :=
  match p.buf.findIdx? fun e => Wire.seq e.1 == a with
  | some i => (p.buf.take (i + 1)).map fun e => e.1
  | none => []
/-- The messages of its flits go another way: the flits keep their place in the replay buffer, with no slot used (R350, log 66). -/
def emptied (p : Port) : Port := { p with toSend := [], buf := p.buf.map fun e => (Wire.emptied e.1, 0) }
/-- It holds flits of messages. -/
def loaded (p : Port) : Bool := !p.toSend.isEmpty || p.buf.any fun e => decide (Wire.used e.1 ≠ 0)
/-- The flits that an ACK covers leave the replay buffer; a number that is not in it covers none. -/
def acked (now : Word) (a : BitVec 16) (p : Port) : Port :=
  match p.buf.findIdx? fun e => Wire.seq e.1 == a with
  | some i =>
    let gone := (p.buf.take (i + 1)).map fun e => Wire.seq e.1
    { p with buf := p.buf.drop (i + 1), progress := now, carried := p.carried.filter fun q => !gone.contains q }
  | none => p
/-- A flit of the replay buffer has been sent 16 times. -/
def worn (p : Port) : Bool := p.buf.any fun e => decide (16 ≤ e.2)
/-- Send everything in the replay buffer again, from the first flit not acknowledged. -/
def resend (now : Word) (p : Port) : Port :=
  let n := p.replay.toNat + p.buf.length
  { p with
    buf := p.buf.map fun e => (Wire.again e.1 (p.expect - 1) p.nak, e.2 + 1), nak := false, progress := now
    replay := if 65535 ≤ n then 0xFFFF else BitVec.ofNat 16 n }
/-- The lanes that transmit are retrained: none of them works meanwhile. -/
def retrain (p : Port) : Port :=
  { p with turning := p.turning ||| p.tx, again := p.again ||| p.tx, work := p.work &&& ~~~p.dir, buf := p.buf.map fun (e : LinkFlit × Nat) => (e.1, 0) }.settle

/-! ### Training (R341, R342) -/

/-- An interval of silence drawn from the port's random source: 256 to 65,535 cycles. -/
def interval (r : Word) : Word := BitVec.ofNat 64 (256 + r.toNat % 65280)
/-- The port begins to train every lane it may use; the draws are given lane by lane. -/
def startTraining (p : Port) (draws : Map Word) : Port :=
  { p with agreed := false, heard := false, fresh := true, first := p.en, again := 0, work := 0, turning := p.en, peer := 0x7FF, peerEn := 0, draws := draws, trained := [], carried := []
           turnReq := none }.settle
/-- The port stops: no lane works. -/
def stop (p : Port) : Port := { p with agreed := false, heard := false, fresh := false, first := 0, again := 0, work := 0, turning := 0, peer := 0x7FF, draws := [], carried := [] }.settle
/-- The directions that a follower takes: the complement of the leader's within the lanes both ends enable. -/
def follow (p : Port) (theirs : BitVec 8) : BitVec 8 := ~~~theirs &&& p.en &&& p.peerEn
/-- Lanes whose direction changes and that work are turned round: they stop at once and retrain (R342). -/
def turnTo (p : Port) (d : BitVec 8) : Port :=
  let t := (p.dir ^^^ d) &&& p.work
  { p with
    dir := d, work := p.work &&& ~~~t, turning := p.turning ||| t
    carried := if t &&& p.dir = 0 then p.carried else p.carried ++ p.buf.map fun (e : LinkFlit × Nat) => Wire.seq e.1 }.settle

end Port

end Sys2Proof.Machine
end

