-- ==== Sys2Proof/Machine/Net.lean ====
section
/-! DEFINITION. Messages: who sends, how a logical id becomes a site, sending, order of arrival, answers (R11 to R14, R146, R149 to R157, R311, R312). -/

namespace Sys2Proof.Machine

namespace State

/-- The die of a site (R11). -/
def dieOf (site : Nat) : Nat := site % 64 / 32 + 2 * (site / 64 / 32)

/-- A site has an active core (R9, R371): one that failed its self-test is none (R310). -/
def active (s : State) (site : Nat) : Bool :=
  decide (site < 4096) && !s.fused.contains site && !s.retired.contains site && !s.failedTest.contains site

/-- The least logical id from n on whose entry names the router's own site; 0xFFF when there is none (R312). -/
def coreIdFrom (s : State) (site : Nat) : Nat → Nat → BitVec 12
  | 0, _ => 0xFFF
  | k + 1, n => if s.siteOf site n = some site then BitVec.ofNat 12 n else coreIdFrom s site k (n + 1)
/-- The context slot of a tenant, in a state other than FREE (R315, R318). -/
def slotOfTenant (s : State) (ten : BitVec 12) : Option Nat :=
  if ten = 0 then none else (s.ctxs.find? fun e => e.1 != 0 && e.2.tenant == ten && e.2.st != .free).map fun e => e.1

/-- The next sequence number of a sender toward a receiver in a class, and the state that has used it (R157). -/
def nextSeq (s : State) (k : Agent × Agent × MClass) : BitVec 16 × State :=
  match s.seqs.find? fun e => e.1 == k with
  | some e => (e.2, { s with seqs := (s.seqs.filter fun x => x.1 != k) ++ [(k, e.2 + 1)] })
  | none => (0, { s with seqs := s.seqs ++ [(k, 1)] })

/-! ### Devices by logical id (R14, R352, R355) -/

/-- The maps of a tenant. -/
def tmap (s : State) (ten : BitVec 12) : TMap := Map.get (fun _ => {}) s.maps ten.toNat
/-- A version of a tenant's maps. -/
def verOf (t : TMap) (v : Bool) : Map (BitVec 11) := if v then t.ver1 else t.ver0
/-- The version in which a tenant's messages are sent: the active one, or the new one after a switch (R355). -/
def sendVer (t : TMap) : Bool := if t.st = .changing then !t.active else t.active
/-- The logical id that a map gives a node; 0x7FF when it gives none. -/
def idOfNode (m : Map (BitVec 11)) (node : BitVec 11) : BitVec 11 :=
  match m.find? fun e => e.2 == node with
  | some e => BitVec.ofNat 11 e.1
  | none => 0x7FF
/-- This device as a mode and a tenant name it in what they send (R355). -/
def devId (s : State) (sup : Bool) (ten : BitVec 12) : BitVec 11 :=
  if sup then s.nodeId
  else let t := s.tmap ten; idOfNode (verOf t (sendVer t)) s.nodeId
/-- DEVID (R26): the node for the supervisor, else the id in the tenant's active map. -/
def devReg (s : State) (sup : Bool) (ten : BitVec 12) : BitVec 11 :=
  if sup then s.nodeId
  else let t := s.tmap ten; idOfNode (verOf t t.active) s.nodeId
/-- The node that a device id names (R14, R352, R355): 0x7FF names the device itself; none when nothing is named. -/
def nodeOf (s : State) (sup : Bool) (ten : BitVec 12) (dev : BitVec 11) : Option (BitVec 11) :=
  if dev = 0x7FF then some s.nodeId
  else if sup then some dev
  else let t := s.tmap ten; Map.find (verOf t (sendVer t)) dev.toNat
/-- A device id names this device. -/
def ownDev (s : State) (sup : Bool) (ten : BitVec 12) (dev : BitVec 11) : Bool :=
  dev == 0x7FF || s.nodeOf sup ten dev == some s.nodeId
/-- A thread, as the headers of its messages name it. -/
def whoOf (s : State) (key : Nat) : Who :=
  let t := s.thread key
  ⟨s.devId t.sup t.ctl.tenant, s.coreId (key / 4), BitVec.ofNat 2 key⟩

/-! ### Answers -/

/-- An answer to a message, from its receiver to the agent that awaits it, on RSP. -/
def answerTo (m : Msg) (typ : BitVec 6) (spec : BitVec 19) : Msg :=
  let b := m.back.getD (m.frm, m.id)
  { id := 0, frm := m.dest, dest := b.1, cls := .rsp, typ := typ, dst := m.src, src := m.dst, tenant := m.tenant
    fl := { sup := m.fl.sup, mapv := m.fl.mapv }, spec := spec
    w := #v[0, m.w[1], m.w[2], m.w[3], m.typ.setWidth 64, BitVec.ofNat 64 b.2] }
/-- ACK, or NACK with a status, of a request that names a response slot (R151, R153); words 4 and 5 name the message answered (log 10). -/
def statusMsg (m : Msg) (status : Nat) : Msg :=
  answerTo m (if status = 0 then MT.ack else MT.nack) ((BitVec.ofNat 19 (status % 256)) <<< 11 ||| (m.spec &&& 7))

/-! ### Ways to other devices (R343, R348 to R350) -/

/-- The message is on its way to another device. -/
def isOutAgent : Agent → Bool
  | .out _ => true
  | .core _ => false | .slice _ => false | .bridge => false | .router _ => false | .root _ => false | .gate => false | .former _ => false
/-- A port. -/
def port (s : State) (p : Nat) : Port := Map.get (fun _ => {}) s.ports p
/-- The state with a port changed. -/
def modPort (s : State) (p : Nat) (f : Port → Port) : State := { s with ports := Map.put s.ports p (f (s.port p)) }
/-- The lowest-numbered UP port with ROLE active whose PEER is a node (R343). -/
def portTo (s : State) (n : BitVec 11) : Option Nat :=
  (s.ports.find? fun e => decide (e.1 < 36) && e.2.st == .up && e.2.role == 0 && e.2.peer == n).map fun e => e.1
/-- A port through which messages for a neighbour still have to leave by a detour (R350). -/
def detouring (s : State) (n : BitVec 11) : Option Nat :=
  (s.ports.find? fun e => e.2.peer != n && e.2.toSend.any fun x => x.2.2 == n).map fun e => e.1
/-- A port to a neighbour that is not UP and still holds flits: later messages go behind them (R345, R350). -/
def holding (s : State) (n : BitVec 11) : Option Nat :=
  (s.ports.find? fun e => decide (e.1 < 36) && e.2.st != .up && e.2.peer == n && e.2.loaded).map fun e => e.1
/-- An active port to a neighbour that retrains: it is not DOWN (R345). -/
def retraining (s : State) (n : BitVec 11) : Option Nat :=
  (s.ports.find? fun e => decide (e.1 < 36) && e.2.st == .training && e.2.agreed && e.2.role == 0 && e.2.peer == n).map fun e => e.1
/-- The node of a detour to a neighbour: the one orthogonal to both ends (R347, R350). -/
def detourNode (s : State) (n : BitVec 11) : Option (BitVec 11) :=
  match Pod.between s.nodeId n with
  | some w => if w = s.nodeId ∨ w = n then none else some w
  | none => none
/-- The port toward a next hop: one where earlier messages for it still wait, the lowest active one that is UP, one that retrains, or the first
of a detour (R343, R345, R350). -/
def hopPort (s : State) (n : BitVec 11) : Option Nat :=
  match s.detouring n with
  | some p => some p
  | none => match s.holding n with
    | some p => some p
    | none => match s.portTo n with
      | some p => some p
      | none => match s.retraining n with
        | some p => some p
        | none => (s.detourNode n).bind s.portTo
/-- The next hop toward a node by the route table; none where V is 0 (R348). -/
def nextHop (s : State) (dest : BitVec 11) : Option (BitVec 11) :=
  let e := Map.get (fun _ => 0) s.routes dest.toNat
  if e.getLsbD 12 then some (if e.getLsbD 11 then dest else e.setWidth 11) else none
/-- Put mesh flits on the way to a next hop; none when there is no way (R350). -/
def sendToHop (s : State) (n : BitVec 11) (items : List (BitVec 128 × BitVec 512)) : Option State :=
  match s.hopPort n with
  | none => none
  | some p => some (s.modPort p fun q => q.enqueue s.time (items.map fun e => (e.1, e.2, n)))
/-- Put mesh flits on the way toward a node; none when there is no way (R348, R350). -/
def sendFlits (s : State) (dest : BitVec 11) (items : List (BitVec 128 × BitVec 512)) : Option State :=
  match s.nextHop dest with
  | none => none
  | some n => s.sendToHop n items
/-- The next hop of a BULK message whose entry has NONMIN: of its own path, or, a free choice, of that to an intermediate node drawn from the
tenant's current map (R349, log 83). -/
def bulkHop (s : State) (m : Msg) (dest : BitVec 11) : Option (BitVec 11) × State :=
  let t := s.tmap m.tenant
  let nodes := ((verOf t (sendVer t)).map fun e => e.2).filter fun n => n != dest && n != s.nodeId
  if m.cls ≠ .bulk ∨ (Map.get (fun _ => (0 : BitVec 14)) s.routes dest.toNat).getLsbD 13 = false ∨ m.fl.sup = true ∨ nodes = [] then (s.nextHop dest, s)
  else match s.drawBool with
    | (false, s1) => (s1.nextHop dest, s1)
    | (true, s1) =>
      let (r, s2) := s1.drawWord
      let i := nodes.getD (r.toNat % nodes.length) dest
      (match s2.nextHop i with | some n => some n | none => s2.nextHop dest, s2)
/-- The slots of a message at the start of its path (R344, R349). -/
def slotsOf (s : State) (m : Msg) (dest : BitVec 11) : List (BitVec 128 × BitVec 512) :=
  let fs := m.flits
  fs.zipIdx.map fun e => (slotTag dest s.nodeId 0 m.cls (e.2 == 0) (e.2 + 1 == fs.length), e.1)
/-- An answer to a request, built from it: its device ids and its map version are the request's. -/
def isAnswer (m : Msg) : Bool :=
  m.cls == .rsp && [MT.ack, MT.nack, MT.retry, MT.load, MT.value, MT.rdyanswer, MT.grpstat].contains m.typ
/-- The header of a message as it leaves the device: logical ids of a tenant, nodes in supervisor mode, the map version. An answer goes to the
id that the request came from, in the request's version, and a resend keeps the ids and the version of the message as it was sent first
(R150, R352). -/
def addressed (s : State) (m : Msg) (dest : BitVec 11) : Msg :=
  let own := m.src.dev == 0x7FF || m.src.dev == s.devId m.fl.sup m.tenant
  if m.fl.resent || (isAnswer m && m.dst.dev != 0x7FF) then m
  else if m.fl.sup then { m with dst := { m.dst with dev := dest }, src := if own then { m.src with dev := s.nodeId } else m.src }
  else
    let t := s.tmap m.tenant
    let v := if idOfNode (verOf t (sendVer t)) dest = 0x7FF then !sendVer t else sendVer t
    { m with
      dst := { m.dst with dev := idOfNode (verOf t v) dest }
      src := if own then { m.src with dev := idOfNode (verOf t v) s.nodeId } else m.src
      fl := { m.fl with mapv := v } }
/-- A site that a message of an agent comes from, for records. -/
def siteOfAgent : Agent → Nat
  | .core p => p | .router p => p | .former p => p
  | .slice _ => 3 | .bridge => 3 | .root _ => 3 | .out _ => 3 | .gate => 3
/-- The site of an agent that a header names as the destination: a group root's is its core (R150, R229). -/
def siteAt (s : State) (a : Agent) : Nat :=
  match a with
  | .root gi => ((Map.find s.groups gi).map fun g => g.root).getD 3
  | .core p => p | .router p => p | .former p => p | .slice _ => 3 | .bridge => 3 | .out _ => 3 | .gate => 3
/-- A message that cannot reach its device is answered with status 0x06; an answer is discarded with a record (R153, R348, R350). -/
def unreachable (s : State) (m : Msg) : State :=
  match m.cls with
  | .rsp => s.record (bankOf (siteOfAgent m.frm)) { rank := 1, source := 6, tenant := m.tenant }
  | .req | .fwd | .bulk =>
    let r := statusMsg m 6
    if isOutAgent r.dest then
      -- the asker is another device: the answer leaves by the links (R348)
      let back := match r.dest with | .out n => BitVec.ofNat 11 n | _ => s.nodeId
      (s.sendFlits back (s.slotsOf (s.addressed r back) back)).getD (s.record (bankOf 3) { rank := 1, source := 6, tenant := m.tenant })
    else { s with net := s.net ++ [{ r with id := s.nextId }], nextId := s.nextId + 1 }
/-- A message leaves for another device; the device keeps a request until it is answered (R157, R349). -/
def linkOut (s : State) (m : Msg) (dest : BitVec 11) : State :=
  let a := s.addressed m dest
  let (hop, s0) := s.bulkHop m dest
  match hop.bind fun n => s0.sendToHop n (s.slotsOf a dest) with
  | none => s0.unreachable m
  | some s1 => match m.cls with
    | .req | .fwd => { s1 with outbox := s1.outbox ++ [a] }
    | .rsp | .bulk => s1

/-! ### Sending (R146, R157, R368) -/

/-- A message goes on its way: among those in flight, or toward another device. -/
def route (s : State) (m : Msg) : State :=
  match m.dest with
  | .out n => s.linkOut m (BitVec.ofNat 11 n)
  | .core _ | .slice _ | .bridge | .router _ | .root _ | .gate | .former _ => { s with net := s.net ++ [m] }
/-- A group's root answers as its core (R229, R237). -/
def sourced (s : State) (m : Msg) : Msg :=
  match m.frm, m.cls with
  | .root gi, .rsp => match Map.find s.groups gi with
    | some g => { m with src := { m.src with core := s.coreId g.root } }
    | none => m
  | _, _ => m
/-- The same, once the message has taken its sequence number (R157). -/
def emit (s : State) (m : Msg) : State :=
  let (q, s1) := s.nextSeq (m.frm, m.dest, m.cls)
  s1.route { s.sourced m with seq := q }
/-- Types that a thread sends whatever else its core does. -/
def threadTypes : List (BitVec 6) :=
  [MT.inv, MT.invx, MT.pass, MT.load, MT.store, MT.atomic, MT.loadfe, MT.storefe, MT.rstv, MT.mcast, MT.copydata, MT.kick, MT.rdyquery,
   MT.bararrive, MT.grpctl]
/-- The thread of a duplex pair that sends a message; none when the message does not pass the Referee (R368). What a core sends by itself for its
members does not: reports of readiness, ACCEPT, a FETCH for an argument, a break of a waiting arrival; what a copy reads without a message
does not either (DESIGN CHOICE, log 105). -/
def refereed (s : State) (m : Msg) : Option Nat :=
  match m.frm with
  | .core p =>
    let key := 4 * p + m.src.thr.toNat
    let twin := match (s.thread key).res with | some r => r.twin.isSome | none => false
    let own := (threadTypes.contains m.typ && m.cls != .fwd && m.cls != .rsp) || m.typ == MT.bararrive || (m.typ == MT.fetch && m.w[1] != 0) ||
      ((m.typ == MT.reply || m.typ == MT.brk) && s.ctx.snap.isSome && key == s.ctx.key)
    if twin && own then some key else none
  | _ => none
/-- A message that has its id goes to the Referee of a thread's pair, or on its way when there is none (R368). -/
def toReferee (s : State) (key : Nat) (a : Msg) : State :=
  let f := fun (p : Pair) =>
    if p.pkey = key then { p with prim := p.prim ++ [(a, s.time)] }
    else if p.tkey = key then { p with twin := p.twin ++ [({ a with fl := { a.fl with twin := true } }, s.time)] }
    else p
  if s.pairs.any (fun p => p.pkey == key || p.tkey == key) then { s with pairs := s.pairs.map f } else s.emit a
/-- Send a message past the Referee: it takes its id and goes on its way. -/
def sendAlone (s : State) (m : Msg) : State := { s with nextId := s.nextId + 1 }.emit { m with id := s.nextId }
/-- Send a message of a thread, through the Referee where the thread is one of a pair (R368). -/
def sendOf (s : State) (key : Nat) (m : Msg) : State := { s with nextId := s.nextId + 1 }.toReferee key { m with id := s.nextId }
/-- Send a message: it takes its id, then passes the Referee or goes on its way (R146, R157, R368). -/
def send (s : State) (m : Msg) : State :=
  let a := { m with id := s.nextId }
  let s1 := { s with nextId := s.nextId + 1 }
  match s1.refereed a with
  | none => s1.emit a
  | some key => s1.toReferee key a

/-- A response addressed to a primary's thread is copied to its twin (R368). -/
def twinAnswer (s : State) (m : Msg) : State :=
  match m.dest with
  | .core p =>
    if m.cls ≠ .rsp ∨ m.fl.twin = true then s
    else
      let toThread := [MT.load, MT.ack, MT.nack, MT.grpstat, MT.rdyanswer].contains m.typ || (m.typ == MT.value && m.w[1] != 0)
      let byHandle := [MT.reply, MT.brk, MT.accept].contains m.typ
      let other := fun (l : List (Word × Word)) (x : Word) => match l.find? fun e => e.1 == x with | some e => e.2 | none => x
      match s.pairs.find? fun q =>
          if byHandle then q.handles.any fun e => e.1 == m.w[0] && decide (q.pkey / 4 = p) else toThread && q.pkey == 4 * p + m.dst.thr.toNat with
      | none => s
      | some q =>
        let w0 := if byHandle then other q.handles m.w[0] else m.w[0]
        { s with
          nextId := s.nextId + 1
          net := s.net ++ [{ m with
            id := s.nextId, frm := m.frm, dest := .core (q.tkey / 4), fl := { m.fl with twin := true }
            dst := { m.dst with thr := BitVec.ofNat 2 q.tkey }
            w := if m.typ = MT.rdyanswer then m.w.set 1 (other q.copies m.w[1]) else (m.w.set 0 w0).set 3 (other q.copies m.w[3]) }] }
  | _ => s

/-! ### Arriving (R146, R157) -/

/-- The k-th message in flight, when nothing sent earlier by its sender to its receiver in its class is still in flight (R146). -/
def deliver (s : State) (k : Nat) : Option Msg :=
  match s.net[k]? with
  | none => none
  | some m =>
    if (s.net.take k).any (fun o => o.frm == m.frm && o.dest == m.dest && o.cls == m.cls) then none else some m
/-- The state without the k-th message in flight, which has reached its receiver. -/
def dropMsg (s : State) (k : Nat) : State :=
  match s.net[k]? with
  | some m => { s with net := s.net.eraseIdx k }.twinAnswer m
  | none => s

/-- Answer a message with a status. -/
def reply (s : State) (m : Msg) (status : Nat) : State := s.send (statusMsg m status)

/-- Answer RETRY (R157): the receiver waits for the message's resend, the sender keeps it. -/
def retryMsg (s : State) (m : Msg) : State :=
  let r := answerTo { m with back := none } MT.retry (m.spec &&& 7)
  let aw := if s.awaited.any (fun e => e.1 == (m.frm, m.dest, m.cls)) then s.awaited else s.awaited ++ [((m.frm, m.dest, m.cls), m.seq)]
  ({ s with refused := s.refused ++ [m], awaited := aw }).send r
/-- A receiver that has answered RETRY takes nothing from the sender before the resend of that message (R157). -/
def mustRefuse (s : State) (m : Msg) : Bool :=
  s.awaited.any fun e => e.1 == (m.frm, m.dest, m.cls) && !(m.fl.resent && m.seq == e.2)
/-- The first message of a pair that still has to be resent (R157). -/
def nextResend (s : State) (m : Msg) : Option Msg :=
  let same := fun (o : Msg) => o.frm == m.frm && o.dest == m.dest && o.id != m.id && o.cls == m.cls
  match s.net.find? fun o => same o && o.fl.resent with
  | some o => some o
  | none => match s.resend.find? fun e => same e.1 with
    | some e => some e.1
    | none => s.refused.find? same
/-- A FWD that an agent has sent is not accepted yet and holds one of its egress slots (R156). -/
def fwdHeld (s : State) (a : Agent) : Bool :=
  let mine := fun (o : Msg) => o.frm == a && o.cls == .fwd
  s.net.any mine || s.refused.any mine || (s.resend.any fun e => mine e.1) || s.outbox.any mine
/-- An agent accepts a message whose service sends a FWD only with an egress slot free, and answers RETRY otherwise (R156). How many slots it has is
open: beside a slot that is held, a free choice says whether another is free (log 94). -/
def withEgress (s : State) (a : Agent) (m : Msg) (go : State → State) : State :=
  if s.fwdHeld a then
    match s.drawBool with
    | (true, u) => u.retryMsg m
    | (false, u) => go u
  else go s
/-- The message has been accepted: the receiver now waits for the next message of the pair that it refused, if any (R157). -/
def acceptMsg (s : State) (m : Msg) : State :=
  if s.awaited.any fun e => e.1 == (m.frm, m.dest, m.cls) then
    let rest := s.awaited.filter fun e => e.1 != (m.frm, m.dest, m.cls)
    match s.nextResend m with
    | some o => { s with awaited := rest ++ [((m.frm, m.dest, m.cls), o.seq)] }
    | none => { s with awaited := rest }
  else s

end State

end Sys2Proof.Machine
end

