-- ==== Sys2Proof/Machine/Translate.lean ====
section
/-! DEFINITION. Windows, access checks, translation and its caches (R24, R142, R143, R147, R148, R315, R326 to R331). -/

namespace Sys2Proof.Machine

/-- Bytes of local memory (R142). -/
def localTop : Nat := 0x60000

/-- The window check of an access of `n ≥ 1` bytes at `e` (R143). An access to PEERDEVICE that runs past the 2^48 bytes of its device fails the check,
which the rule does not list (DESIGN CHOICE, log 93). -/
def windowOk (e n : Nat) : Bool :=
  let o := e % 2 ^ 60
  match windowOf e with
  | 0 => decide (o + n ≤ localTop)
  | 1 => decide (o % 2 ^ 36 + n ≤ localTop) && decide (o < 2 ^ 59) && decide (o / 2 ^ 36 % 4096 < 4000)
  | 2 => decide (o + n ≤ 2 ^ 48)
  | 4 => decide (o + n ≤ 2 ^ 48)
  | 5 => decide (o % 2 ^ 48 + n ≤ 2 ^ 48) && decide (o < 2 ^ 59)
  | _ => false

/-- Where an address leads (R142). -/
inductive Place where
  | own (off : Nat)
  | peer (dev : BitVec 11) (core : Nat) (off : Nat)
  | device (va : Nat)
  | host (a : Nat)
  | peerDev (dev : BitVec 11) (va : Nat)
  deriving DecidableEq, Repr, Inhabited

/-- The place of an address that passed the window check (R142). -/
def placeOf (e : Nat) : Place :=
  match windowOf e with
  | 0 => .own (e % 2 ^ 19)
  | 1 => .peer (BitVec.ofNat 11 (e / 2 ^ 48)) (e / 2 ^ 36 % 4096) (e % 2 ^ 19)
  | 2 => .device (e % 2 ^ 48)
  | 4 => .host (e % 2 ^ 48)
  | _ => .peerDev (BitVec.ofNat 11 (e / 2 ^ 48)) (e % 2 ^ 48)

/-- The L2 slice of a physical address (R147). -/
def sliceOf (pa : Nat) : Nat :=
  (pa / 2 ^ 7 % 128) ^^^ (pa / 2 ^ 14 % 128) ^^^ (pa / 2 ^ 21 % 128) ^^^ (pa / 2 ^ 28 % 128) ^^^ (pa / 2 ^ 35 % 128) ^^^ (pa / 2 ^ 42 % 64)

/-! ### Device memory as the slices see it (R318, R333, R334) -/

/-- The key a tenant's requests use; none when the tenant has no live context (R318). -/
def State.keyOf (s : State) (ten : BitVec 12) : Option Nat :=
  if ten = 0 then some 1
  else match s.slotOfTenant ten with
    | none => none
    | some n =>
      let c := s.slotOf n
      if c.st = .active ∨ c.st = .growing ∨ c.st = .shrinking then c.key else none

/-- The key under which a sector was written; 0 when it never was. -/
def Hbm.secKey (h : Hbm) (pa : Nat) : Nat := Map.get (fun _ => 0) h.sec (pa / 64)
/-- What ECC finds in a sector: 0 nothing, 1 a fault that it corrects, 2 one that it can not (R333). -/
def Hbm.eccOf (h : Hbm) (pa : Nat) : Nat := Map.get (fun _ => 0) h.ecc (pa / 64)
/-- The n bytes from pa lie in sectors that pass ECC and the tag under a key (R333, R334). -/
def Hbm.ready (h : Hbm) (key pa : Nat) : Nat → Bool
  | 0 => true
  | n + 1 => h.secKey (pa + n) == key && h.eccOf (pa + n) != 2 && h.ready key pa n
/-- A byte of the range is poisoned. -/
def poisoned (m : Map Bool) (a : Nat) : Nat → Bool
  | 0 => false
  | n + 1 => Map.get (fun _ => false) m (a + n) || poisoned m a n
/-- Mark n bytes as poisoned or as clean. -/
def setPois (m : Map Bool) (a : Nat) (b : Bool) : Nat → Map Bool
  | 0 => m
  | n + 1 => setPois (Map.set (fun _ => false) m (a + n) b) a b n

/-- Read n bytes under a key: the value, and whether it is poisoned (R333, R334). -/
def Hbm.read (h : Hbm) (key pa n : Nat) : Nat × Bool :=
  if h.ready key pa n then (h.bytes.load pa n, poisoned h.pois pa n) else (0, true)

/-- A write of n bytes at pa covers every sector it touches that does not pass ECC and the tag under the key (R333, R334). -/
def Hbm.covers (h : Hbm) (key pa n : Nat) : Bool :=
  (List.range (n / 64 + 2)).all fun i =>
    let b := (pa / 64 + i) * 64
    (decide (pa + n ≤ b)) || (h.secKey b == key && h.eccOf b != 2) || (decide (pa ≤ b) && decide (b + 64 ≤ pa + n))

/-- Full-empty bits of the words of a sector set to full. -/
def feFull (m : Map Bool) (word : Nat) : Nat → Map Bool
  | 0 => m
  | n + 1 => feFull (Map.set (fun _ => true) m (word + n) true) word n

/-- The sectors a write touches take the key, and their ECC is written afresh; one that was not initialised is all full (R334). -/
def Hbm.claim (h : Hbm) (key pa n : Nat) : Hbm :=
  (List.range (n / 64 + 2)).foldl (fun g i =>
    let b := (pa / 64 + i) * 64
    if pa + n ≤ b then g
    else
      let g1 := if g.ecc = [] then g else { g with ecc := Map.set (fun _ => 0) g.ecc (b / 64) 0 }
      if g.secKey b = key then g1
      else { g1 with sec := Map.set (fun _ => 0) g1.sec (b / 64) key, fe := feFull g1.fe (b / 8) 8 }) h

/-- Write n bytes under a key; none when part of an uninitialised sector would be written (R334). -/
def Hbm.write (h : Hbm) (key pa n v : Nat) (pois : Bool) : Option Hbm :=
  if h.covers key pa n then
    let g := h.claim key pa n
    some { g with bytes := g.bytes.store pa n v, pois := setPois g.pois pa pois n }
  else none

/-- The sectors that n bytes touch which are delivered as poison: the first byte of each, and its DETAIL; sectors that a write covers whole may be
left out (R333, R334). -/
def Hbm.flaws (h : Hbm) (key pa n : Nat) (partly : Bool) : List (Nat × Nat) :=
  (List.range (n / 64 + 2)).filterMap fun i =>
    let b := (pa / 64 + i) * 64
    if pa + n ≤ b ∨ (partly ∧ pa ≤ b ∧ b + 64 ≤ pa + n) then none
    else if h.eccOf b = 2 then some (max pa b, 4)
    else if h.secKey b ≠ key then some (max pa b, if h.eccOf b = 1 then 3 else 2)
    else if poisoned h.pois (max pa b) (min (pa + n) (b + 64) - max pa b) then some (max pa b, 2) else none
/-- The sectors among those that n bytes touch whose data ECC corrects, and whose tag passes; sectors that a write covers whole may be left out
(R333). -/
def Hbm.mended (h : Hbm) (key pa n : Nat) (partly : Bool := false) : List Nat :=
  ((List.range (n / 64 + 2)).map fun i => (pa / 64 + i) * 64).filter fun b =>
    decide (b < pa + n) && !(partly && decide (pa ≤ b ∧ b + 64 ≤ pa + n)) && h.eccOf b == 1 && h.secKey b == key
/-- The record of a sector (R333, R362). What ERRSYND holds, the ECC syndrome or the failing tag in its low half, is a free value: the spec does not
give the code or the keys (R363, log 104). -/
def State.secRecord (s : State) (ten : BitVec 12) (a rank detail : Nat) : State :=
  s.drawWord.2.record (State.sliceBank (sliceOf a)) {
    rank := BitVec.ofNat 2 rank, source := 4, tenant := ten, addr := BitVec.ofNat 64 a, unit := sliceOf a, detail := detail
    synd := if detail = 2 ∨ detail = 3 then s.drawWord.1 &&& 0xFFFFFFFF else s.drawWord.1 }
/-- The row of a physical address, as its errors are counted (R370). -/
def rowKey (pa : Nat) : Nat := 8 * Config.hbmRow pa + sliceOf pa / 16
/-- A corrected error is counted in its row (R370). -/
def Hbm.countRow (h : Hbm) (pa : Nat) : Hbm :=
  { h with rowErr := Map.set (fun _ => 0) h.rowErr (rowKey pa) (Map.get (fun _ => 0) h.rowErr (rowKey pa) + 1) }
/-- The records of what ECC has corrected in n bytes that are read, or in the sectors of which a write of n bytes covers a part (R333). -/
def State.mendSeen (s : State) (ten : BitVec 12) (key a n : Nat) (partly : Bool := false) : State :=
  (s.hbm.mended key a n partly).foldl (fun u b => { u with hbm := u.hbm.countRow b }.secRecord ten b 1 1) s
/-- The records of sectors that are delivered as poison. -/
def State.flawSeen (s : State) (ten : BitVec 12) (l : List (Nat × Nat)) : State := l.foldl (fun u f => u.secRecord ten f.1 2 f.2) s
/-- The records of n bytes that are read, of each sector delivered as poison and of each one corrected (R333). -/
def State.secSeen (s : State) (ten : BitVec 12) (key a n : Nat) : State :=
  (s.mendSeen ten key a n).flawSeen ten (s.hbm.flaws key a n false)
/-- The records of a write of part of an uninitialised sector, which is not performed (R333, R334). -/
def State.writeSeen (s : State) (ten : BitVec 12) (key a n : Nat) : State :=
  (s.mendSeen ten key a n true).flawSeen ten (s.hbm.flaws key a n true)

/-! ### Page tables (R326, R327) -/

/-- A table entry, read as tenant 0; none when it is poisoned. -/
def State.tableEntry (s : State) (pa : Nat) : Option Nat :=
  let r := s.hbm.read 1 pa 8
  if r.2 then none else some r.1
/-- FRAME of an entry as an address (R327). -/
def frameOf (e : Nat) : Nat := e / 2 ^ 16 % 2 ^ 32 * 2 ^ 16
/-- A non-leaf entry: V and FRAME only (R327). -/
def isTable (e : Nat) : Bool := e / 2 ^ 48 == 0 && e % 2 ^ 16 == 1
/-- A leaf: valid, its zero bits zero (R327). -/
def isLeaf (e : Nat) : Bool := e / 2 ^ 48 == 0 && e % 2 == 1 && e / 2 ^ 6 % 2 == 1 && e / 2 ^ 10 % 2 ^ 6 == 0

/-- The result of a walk: the leaf's address, its value, and whether it maps a 512 MiB page. -/
structure Leaf where
  addr : Nat
  val : Nat
  large : Bool
  deriving DecidableEq, Repr, Inhabited

/-- The walk of a virtual address from a root; none is XLATE (R326, R327). -/
def State.walk (s : State) (root va : Nat) : Option Leaf :=
  match s.tableEntry (root + 8 * (va / 2 ^ 42 % 64)) with
  | none => none
  | some e1 =>
    if !isTable e1 then none
    else
      let a2 := frameOf e1 + 8 * (va / 2 ^ 29 % 8192)
      match s.tableEntry a2 with
      | none => none
      | some e2 =>
        if isLeaf e2 then (if frameOf e2 % 2 ^ 29 = 0 then some ⟨a2, e2, true⟩ else none)
        else if !isTable e2 then none
        else
          let a3 := frameOf e2 + 8 * (va / 2 ^ 16 % 8192)
          match s.tableEntry a3 with
          | none => none
          | some e3 => if isLeaf e3 then some ⟨a3, e3, false⟩ else none

/-- The addresses of the entries that a walk reads. -/
def State.walkReads (s : State) (root va : Nat) : List Nat :=
  let a1 := root + 8 * (va / 2 ^ 42 % 64)
  match s.tableEntry a1 with
  | none => [a1]
  | some e1 =>
    if !isTable e1 then [a1]
    else
      let a2 := frameOf e1 + 8 * (va / 2 ^ 29 % 8192)
      match s.tableEntry a2 with
      | none => [a1, a2]
      | some e2 => if !isTable e2 then [a1, a2] else [a1, a2, frameOf e2 + 8 * (va / 2 ^ 16 % 8192)]
/-- The records of the sectors that a walk reads, as tenant 0 (R327, R333). -/
def State.walkSeen (s : State) (root va : Nat) : State :=
  (s.walkReads root va).foldl (fun u a => u.secSeen 0 1 a 8) s

/-- Bits of the page offset. -/
def pageBits (large : Bool) : Nat := if large then 29 else 16
/-- The cache entry of a leaf (R328). -/
def tlbOf (ten : BitVec 12) (va : Nat) (l : Leaf) : TlbEnt :=
  { ten := ten, va := va / 2 ^ pageBits l.large * 2 ^ pageBits l.large, large := l.large, pa := frameOf l.val
    perm := BitVec.ofNat 8 l.val, leaf := l.addr }
/-- The entry maps an address of a tenant. -/
def TlbEnt.covers (e : TlbEnt) (ten : BitVec 12) (va : Nat) : Bool :=
  e.ten == ten && va / 2 ^ pageBits e.large * 2 ^ pageBits e.large == e.va
/-- The physical address. -/
def TlbEnt.phys (e : TlbEnt) (va : Nat) : Nat := e.pa + va % 2 ^ pageBits e.large

/-- What an access needs of the leaf (R327). -/
inductive Need where
  | read | write | exec | fe
  deriving DecidableEq, Repr, Inhabited
/-- The leaf permits the access: R, W, X or FE (R148, R163, R327). A full-empty access needs FE and R or W as it reads or writes memory. -/
def leafOk (p : Byte) : Need → Bool
  | .read => p.getLsbD 1 | .write => p.getLsbD 2 | .exec => p.getLsbD 3 | .fe => p.getLsbD 7

/-- How a translation ends (R148). -/
inductive XRes where
  | ok (pa : Nat) (e : TlbEnt)
  | miss (slot : BitVec 6)
  | xlate
  | prot
  deriving DecidableEq, Repr, Inhabited

/-- The context slot and tenant of a thread's data accesses to the DEVICE window (R315); none makes them fail with XLATE. -/
def State.dataSpace (s : State) (t : Thread) : Option (BitVec 6 × BitVec 12) :=
  if t.sup then
    let c := s.slotOf t.sys.acctx.toNat
    if t.sys.acctx = 0 then some (0, 0)
    else if c.st = .active ∨ c.st = .growing ∨ c.st = .shrinking then some (t.sys.acctx, c.tenant) else none
  else (s.slotOfTenant t.ctl.tenant).map fun n => (BitVec.ofNat 6 n, t.ctl.tenant)
/-- The context slot and tenant of a thread's fetches (R315). -/
def State.fetchSpace (s : State) (t : Thread) : Option (BitVec 6 × BitVec 12) :=
  if t.sup then some (0, 0) else s.dataSpace t

/-- The cached translation of an address, in the core's TLB or the die's shared cache (R328). -/
def State.cached (s : State) (site : Nat) (ten : BitVec 12) (va : Nat) : Option TlbEnt :=
  match (s.core site).tlb.find? fun e => e.covers ten va with
  | some e => some e
  | none => (s.shared[State.dieOf site % 4]'(Nat.mod_lt _ (by decide))).find? fun e => e.covers ten va

/-- Translate an address of a space for a thread of a core (R148, R328). -/
def State.translate (s : State) (site : Nat) (t : Thread) (sp : Option (BitVec 6 × BitVec 12)) (va : Nat) (need : List Need) : XRes :=
  match sp with
  | none => .xlate
  | some (slot, ten) =>
    match s.cached site ten va with
    | some e => if need.all (leafOk e.perm) then .ok (e.phys va) e else .prot
    | none => if t.xfail.contains (slot, va) then .xlate else .miss slot

/-- The core's TLB with an entry used: newest first, 32 entries, least recently used replaced (R328). -/
def tlbUse (l : List TlbEnt) (e : TlbEnt) : List TlbEnt := (e :: l.filter fun x => !(x.ten == e.ten && x.va == e.va && x.large == e.large)).take 32
/-- An entry with A or D set (R329). -/
def TlbEnt.orPerm (e : TlbEnt) (b : Byte) : TlbEnt := { e with perm := e.perm ||| b }
/-- The bit of D in a leaf (R327). -/
def dBit : Byte := 0x20#8
/-- The bit of A in a leaf (R327). -/
def aBit : Byte := 0x10#8

/-- OR a bit into a leaf at its home (R329). -/
def State.orLeaf (s : State) (leaf : Nat) (b : Byte) : State :=
  { s with hbm := { s.hbm with bytes := s.hbm.bytes.setByte leaf (s.hbm.bytes.byte leaf ||| b) } }
/-- Every cached copy of a leaf with D = 1 (R329). -/
def State.dirtyCopies (s : State) (leaf : Nat) : State :=
  let f := fun (e : TlbEnt) => if e.leaf = leaf then e.orPerm dBit else e
  { s with
    cores := s.cores.map fun c => (c.1, { c.2 with tlb := c.2.tlb.map f })
    shared := s.shared.map fun l => l.map f }
/-- A translation is used: the TLB holds it; a write through a leaf whose D is 0 first sets D at the entry's home (R328, R329). -/
def State.useXl (s : State) (site : Nat) (e : TlbEnt) (write : Bool) : State :=
  let s1 := s.modCore site fun c => { c with tlb := tlbUse c.tlb e }
  if write && !e.perm.getLsbD 5 then (s1.orLeaf e.leaf dBit).dirtyCopies e.leaf else s1

/-- The tables and the page of a miss: misses of one page are merged (R328). -/
def WalkReq.page (r : WalkReq) : BitVec 6 × Nat := (r.slot, r.va / 65536)
/-- The shared translation cache of a site's die with an entry added (R328). -/
def State.addShared (s : State) (site : Nat) (e : TlbEnt) : State :=
  let d := State.dieOf site
  let old := (s.shared[d]?.getD []).filter fun x => !(x.ten == e.ten && x.va == e.va)
  { s with shared := s.shared.setIfInBounds d ((e :: old).take 8192) }
/-- The translation that the hardware at a site finds: the cached one, or that of a walk (R328). -/
def State.xlOf (s : State) (site root : Nat) (ten : BitVec 12) (va : Nat) : Option TlbEnt :=
  match s.cached site ten va with
  | some e => some e
  | none => (s.walk root va).map fun l => (tlbOf ten va l).orPerm aBit
/-- The hardware at a site translates: a miss walks at once, its leaf gets A and enters the die's cache; a write through a leaf that permits it
sets D (R328, R329, log 101). -/
def State.xlDone (s : State) (site root : Nat) (ten : BitVec 12) (va : Nat) (write : Bool) : State :=
  match s.cached site ten va with
  | some e => if write && leafOk e.perm .write && !e.perm.getLsbD 5 then (s.orLeaf e.leaf dBit).dirtyCopies e.leaf else s
  | none =>
    let u := s.walkSeen root va
    match s.walk root va with
    | none => u
    | some l =>
      let e := (tlbOf ten va l).orPerm aBit
      let v := (u.orLeaf l.addr aBit).addShared site e
      if write && leafOk e.perm .write && !e.perm.getLsbD 5 then (v.orLeaf l.addr dBit).dirtyCopies l.addr else v

/-- The misses of a die whose walks have not ended. -/
def State.dieWalks (s : State) (d : Nat) : List WalkReq := (s.cores.filter fun e => State.dieOf e.1 == d).flatMap fun e => e.2.walks
/-- The oldest miss of a page. -/
def firstMiss (l : List WalkReq) (p : BitVec 6 × Nat) : Nat := (((l.filter fun r => r.page == p).map fun r => r.ord).min?).getD 0
/-- One of the die's 64 walkers has a miss's walk: fewer than 64 pages were asked for before its page (R328). -/
def State.walking (s : State) (d : Nat) (r : WalkReq) : Bool :=
  let l := s.dieWalks d
  decide (((l.map WalkReq.page).eraseDups.filter fun p => decide (firstMiss l p < firstMiss l r.page)).length < 64)
/-- A miss of a core joins the walk of its page, or takes a walker or a queue entry, once (R328). -/
def State.joinWalk (s : State) (site : Nat) (r : WalkReq) : State :=
  let l := s.dieWalks (State.dieOf site)
  let pages := (l.map WalkReq.page).eraseDups
  if l.any fun x => x.key == r.key && x.slot == r.slot && x.va == r.va && x.copy == r.copy then s
  else if !pages.contains r.page && decide (64 + 256 ≤ pages.length) then s
  else { s with nextId := s.nextId + 1 }.modCore site fun c => { c with walks := c.walks ++ [r] }
/-- Ask for a walk on behalf of the issuing thread, once. A miss of a page asked for joins its walk; another needs a walker or one of the 256
queue entries, and without one the bundle is not ready (R328). -/
def State.askWalk (slot : BitVec 6) (va : Nat) (s : State) : State :=
  s.joinWalk s.site { key := s.ctx.key, slot := slot, va := va, ord := s.nextId }

/-- The checks of R24 before the window: BOUND, then PERM. -/
def boundOk (r : ARegV) (e : Int) (n : Nat) : Bool :=
  decide ((r.base.toNat : Int) ≤ e) && decide (e + n ≤ (r.limit.toNat : Int))

end Sys2Proof.Machine
end

