-- ==== Sys2Proof/Machine/LocalAccess.lean ====
section
/-! DEFINITION. What an access does with the bytes of local memory; full-empty bits and the retry list of a core; how an outstanding
instruction completes (R31, R144, R159 to R169, R361, R362). -/

namespace Sys2Proof.Machine

/-! ### Completion of an outstanding instruction (R31) -/

/-- The entry with a number. -/
def Thread.findOutst (t : Thread) (id : Nat) : Option Outst := t.outst.find? fun o => o.id == id
/-- The error of an outstanding instruction: the first one found stays. -/
def Thread.failOutst (t : Thread) (id : Nat) (e : Trap) : Thread :=
  { t with outst := t.outst.map fun o => if o.id = id ∧ o.err = none then { o with err := some e } else o }
/-- An outstanding instruction completes: its destinations lose their marks, or take one when it failed (R31, R361). -/
def Thread.complete (t : Thread) (id : Nat) : Thread :=
  match t.findOutst id with
  | none => t
  | some o =>
    let ms := t.marks.filter fun m => !o.dst.contains m.reg
    let add := match o.err with
      | some e => o.dst.map fun r => ({ reg := r, cause := e.cause, val := e.val } : Mark)
      | none => []
    { t with marks := ms ++ add, outst := t.outst.map fun x => if x.id = id then { x with fin := true } else x }
/-- Complete it once none of its parts is left (R161). -/
def Thread.completeIf (t : Thread) (id : Nat) : Thread :=
  if t.accs.any (fun a => a.id == id) || t.slots.toList.any (fun r => match r with | some q => q.id == id | none => false) then t
  else t.complete id

/-- The first failed store is reported by the next completion point (R161). -/
def Thread.storeFailed (t : Thread) (addr : Word) : Thread := { t with storelate := some (t.storelate.getD addr) }

/-! ### Bytes of local memory -/

/-- n bytes of a core's local memory, and whether any is poisoned. -/
def LocalMem.read (m : LocalMem) (a n : Nat) : Nat × Bool := (m.bytes.load a n, poisoned m.pois a n)
/-- Write n bytes, clean or poisoned (R181, R205). -/
def LocalMem.write (m : LocalMem) (a n v : Nat) (pois : Bool) : LocalMem :=
  { m with bytes := m.bytes.store a n v, pois := setPois m.pois a pois n }
/-- The full-empty bit of the word at an address (R163). -/
def LocalMem.full (m : LocalMem) (a : Nat) : Bool := Map.get (fun _ => true) m.fe (a / 8)
/-- The local memory with a full-empty bit set. -/
def LocalMem.setFull (m : LocalMem) (a : Nat) (b : Bool) : LocalMem := { m with fe := Map.set (fun _ => true) m.fe (a / 8) b }

namespace State

/-- A core's local memory changed. -/
def modMem (s : State) (site : Nat) (f : LocalMem → LocalMem) : State := s.modCore site fun c => { c with mem := f c.mem }
/-- Bytes written to a core's local memory. -/
def locStore (s : State) (site a n v : Nat) (pois : Bool) : State := s.modMem site fun m => m.write a n v pois

end State

/-! ### Values -/

/-- A loaded value, extended as SZ says (R159). -/
def extendSz (sz : BitVec 3) (v : Nat) : Word :=
  match sz.toNat with
  | 0 => (BitVec.ofNat 8 v).signExtend 64
  | 1 => (BitVec.ofNat 16 v).signExtend 64
  | 2 => (BitVec.ofNat 32 v).signExtend 64
  | _ => BitVec.ofNat 64 v
/-- Bytes placed in a vector register at an offset. -/
def vPlace (v : VWord) (off len x : Nat) : VWord :=
  let m : VWord := BitVec.ofNat 4096 (2 ^ (8 * len) - 1) <<< (8 * off)
  (v &&& ~~~m) ||| ((BitVec.ofNat 4096 (x % 2 ^ (8 * len))) <<< (8 * off))
/-- Bytes of a vector register at an offset. -/
def vBytes (v : VWord) (off len : Nat) : Nat := (v >>> (8 * off)).toNat % 2 ^ (8 * len)
/-- The vector register without the bytes at or above a length (R159). -/
def vLow (v : VWord) (len : Nat) : VWord := BitVec.ofNat 4096 (v.toNat % 2 ^ (8 * len))

/-- An atomic operation that covers 4 bytes, not 8 (R168). -/
def atomicF32 (op : BitVec 4) : Bool := decide (11 ≤ op.toNat)
/-- Bytes of an atomic operation. -/
def atomicLen (op : BitVec 4) : Nat := if atomicF32 op then 4 else 8
/-- The new value of memory (R169): m the old value, o the operand, c the compare value. -/
def atomicNew (op : BitVec 4) (m : Nat) (o c : Word) : Nat :=
  let w := BitVec.ofNat 64 m
  match op.toNat with
  | 0 => (w + o).toNat
  | 1 => (w &&& o).toNat
  | 2 => (w ||| o).toNat
  | 3 => (w ^^^ o).toNat
  | 4 => if o.slt w then o.toNat else m
  | 5 => if w.slt o then o.toNat else m
  | 6 => min m o.toNat
  | 7 => max m o.toNat
  | 8 => o.toNat
  | 9 => if w = c then o.toNat else m
  | 10 => o.toNat
  | 11 => (fAdd Fmt.f32 RCtl.engine m (o.toNat % 2 ^ 32)).1
  | 12 => (fMinMax Fmt.f32 false true m (o.toNat % 2 ^ 32)).1
  | _ => o.toNat % 2 ^ 32

/-- An LDFE of a mode has its condition when the bit is b (R164). -/
def ldfeReady (mode : BitVec 2) (b : Bool) : Bool := mode == 0 || mode == 3 || b
/-- An STFE of a mode has its condition when the bit is b (R164). -/
def stfeReady (mode : BitVec 2) (b : Bool) : Bool := mode == 0 || mode == 2 || (if mode = 1 then !b else b)
/-- The bit after an LDFE (R164). -/
def ldfeBit (mode : BitVec 2) (b : Bool) : Bool := if mode = 2 then false else b
/-- The bit after an STFE (R164). -/
def stfeBit (mode : BitVec 2) : Bool := mode != 2

/-! ### One access of the core's own thread -/

/-- The access has its full-empty condition. -/
def Access.ready (a : Access) (m : LocalMem) : Bool :=
  match a.op, a.els with
  | .ldfe _ mode, e :: _ => ldfeReady mode (m.full e.addr)
  | .stfe _ mode, e :: _ => stfeReady mode (m.full e.addr)
  | _, _ => true

/-- A poisoned word of an access: the record and the error of its instruction (R31, R153). -/
def State.ownPoison (s : State) (key id : Nat) (base : Word) (addr : Nat) : State :=
  (s.localPoison (key / 4) addr).modThread key fun t =>
    t.failOutst id { cause := .poison, slot := false, val := base + BitVec.ofNat 64 addr }

/-- Load the runs of a vector access one after the other. -/
def State.loadRuns (s : State) (key id : Nat) (base : Word) (d : VReg) (len : Nat) : List El → State
  | [] => s
  | e :: r =>
    let (x, p) := (s.core (key / 4)).mem.read e.addr e.len
    let s1 := s.modThread key fun t => t.fillV d (vLow (vPlace (t.getV d) e.off e.len x) len)
    (if p then s1.ownPoison key id base e.addr else s1).loadRuns key id base d len r
/-- Store the runs of an access one after the other. -/
def State.storeRuns (s : State) (site : Nat) (data : VWord) : List El → State
  | [] => s
  | e :: r => (s.locStore site e.addr e.len (vBytes data e.off e.len) false).storeRuns site data r

/-- Apply an access to local memory and to its destination (R159, R160, R164, R168); its condition holds. -/
def State.applyOwn (s : State) (key : Nat) (a : Access) : State :=
  let site := key / 4
  let m := (s.core site).mem
  match a.op with
  | .loadV d len => s.loadRuns key a.id a.base d len a.els
  | .store data => s.storeRuns site data a.els
  | .loadX d sz =>
    match a.els with
    | [] => s
    | e :: _ =>
      let (x, p) := m.read e.addr e.len
      let s1 := s.modThread key fun t => t.putX d (extendSz sz x)
      if p then s1.ownPoison key a.id a.base e.addr else s1
  | .ldfe d mode =>
    match a.els with
    | [] => s
    | e :: _ =>
      let b := m.full e.addr
      if mode = 3 then s.modThread key fun t => t.putX d (if b then 1 else 0)
      else
        let (x, p) := m.read e.addr 8
        if p then s.ownPoison key a.id a.base e.addr
        else (s.modMem site fun m => m.setFull e.addr (ldfeBit mode b)).modThread key fun t => t.putX d (BitVec.ofNat 64 x)
  | .stfe data mode =>
    match a.els with
    | [] => s
    | e :: _ =>
      let s1 := if mode = 2 then s else s.locStore site e.addr 8 data.toNat false
      s1.modMem site fun m => m.setFull e.addr (stfeBit mode)
  | .atomic d op o cmp =>
    match a.els with
    | [] => s
    | e :: _ =>
      let (x, p) := m.read e.addr (atomicLen op)
      if p then s.ownPoison key a.id a.base e.addr
      else (s.locStore site e.addr (atomicLen op) (atomicNew op x o cmp) false).modThread key fun t => t.putX d (BitVec.ofNat 64 x)
  | .hwait _ _ _ => s

/-- The access is performed: it leaves the thread's list, and its instruction completes with its last part (R161). -/
def State.performOwn (s : State) (key : Nat) (a : Access) : State :=
  (s.applyOwn key a).modThread key fun t =>
    ({ t with accs := t.accs.filter fun x => x.ord != a.ord } : Thread).completeIf a.id

/-! ### Requests of other agents at a core's local memory (R146, R151, R153) -/

/-- Bytes of a size code (R151). -/
def sizeOf (code : BitVec 3) : Nat :=
  match code.toNat with
  | 0 => 1 | 1 => 2 | 2 => 4 | 3 => 8 | 4 => 64 | 5 => 128 | 6 => 256 | _ => 512
/-- Size code of a number of bytes. -/
def sizeCode (n : Nat) : BitVec 3 :=
  if n = 1 then 0 else if n = 2 then 1 else if n = 4 then 2 else if n = 8 then 3 else if n = 64 then 4 else if n = 128 then 5
  else if n = 256 then 6 else 7
/-- SPEC of a memory request (R151). -/
def specOf (op : BitVec 4) (size : BitVec 3) (fe : BitVec 2) (sc : BitVec 4) (ord : BitVec 2) (slot : Nat) : BitVec 19 :=
  (op.setWidth 19 <<< 15) ||| (size.setWidth 19 <<< 12) ||| (fe.setWidth 19 <<< 10) ||| (sc.setWidth 19 <<< 6) |||
  (ord.setWidth 19 <<< 4) ||| BitVec.ofNat 19 (slot % 8)
/-- The atomic operation of a request. -/
def Msg.aop (m : Msg) : BitVec 4 := m.spec.extractLsb' 15 4
/-- The size of a request. -/
def Msg.size (m : Msg) : Nat := sizeOf (m.spec.extractLsb' 12 3)
/-- The full-empty mode of a request. -/
def Msg.mode (m : Msg) : BitVec 2 := m.spec.extractLsb' 10 2
/-- The address of a request at its home. -/
def Msg.addr (m : Msg) : Nat := m.w[0].toNat
/-- The data of a store. -/
def Msg.data (m : Msg) : Nat := if m.size ≤ 8 then m.w[1].toNat % 2 ^ (8 * m.size) else m.pay.toNat % 2 ^ (8 * m.size)

/-- Data that answer a load, LDFE or atomic (R152): up to 8 bytes inline, more as payload (log 10). -/
def dataMsg (m : Msg) (n v : Nat) : Msg :=
  let r := State.answerTo m MT.load (m.spec &&& 7)
  if n ≤ 8 then { r with w := r.w.set 1 (BitVec.ofNat 64 v) }
  else { r with pay := BitVec.ofNat 4096 v, nflit := BitVec.ofNat 4 ((n + 63) / 64) }

/-- Apply a request to a core's local memory and answer it; its full-empty condition holds. -/
def State.applyRemote (s : State) (site : Nat) (m : Msg) : State :=
  let mem := (s.core site).mem
  let a := m.addr
  if m.typ = MT.load then
    let (x, p) := mem.read a m.size
    if p then (s.localPoison site a).reply m 1 else s.send (dataMsg m m.size x)
  else if m.typ = MT.store then (s.locStore site a m.size m.data false).reply m 0
  else if m.typ = MT.atomic then
    let n := atomicLen m.aop
    let (x, p) := mem.read a n
    if p then (s.localPoison site a).reply m 1
    else (s.locStore site a n (atomicNew m.aop x m.w[1] m.w[2]) false).send (dataMsg m 8 x)
  else if m.typ = MT.loadfe then
    let b := mem.full a
    if m.mode = 3 then s.send (dataMsg m 8 (if b then 1 else 0))
    else
      let (x, p) := mem.read a 8
      if p then (s.localPoison site a).reply m 1
      else (s.modMem site fun l => l.setFull a (ldfeBit m.mode b)).send (dataMsg m 8 x)
  else
    let s1 := if m.mode = 2 then s else s.locStore site a 8 m.w[1].toNat false
    (s1.modMem site fun l => l.setFull a (stfeBit m.mode)).reply m 0
/-- The request has its full-empty condition when the bit is b. -/
def Msg.ready (m : Msg) (b : Bool) : Bool :=
  if m.typ = MT.loadfe then ldfeReady m.mode b else if m.typ = MT.storefe then stfeReady m.mode b else true

/-! ### The retry list of a core (R165) -/

/-- Serve the entries that wait for a word, in arrival order; the ones that still wait are returned. -/
def State.scanLocal (s : State) (site word : Nat) : List RetryEnt → State × List RetryEnt
  | [] => (s, [])
  | e :: r =>
    let b := (s.core site).mem.full (8 * word)
    match e with
    | .remote m =>
      if m.addr / 8 = word ∧ m.ready b = true then (s.applyRemote site m).scanLocal site word r
      else let (s1, k) := s.scanLocal site word r; (s1, e :: k)
    | .own key ord =>
      match (s.thread key).accs.find? fun a => a.ord == ord with
      | some a =>
        if (a.els.any fun x => x.addr / 8 == word) ∧ a.ready (s.core site).mem = true then (s.performOwn key a).scanLocal site word r
        else let (s1, k) := s.scanLocal site word r; (s1, e :: k)
      | none => s.scanLocal site word r
/-- Scan the retry list of a core when the bit of a word has changed (R165). -/
def State.rescanLocal (s : State) (site a : Nat) (old : Bool) : State :=
  if (s.core site).mem.full a = old then s
  else
    let (s1, k) := s.scanLocal site (a / 8) (s.core site).mem.retry
    s1.modMem site fun m => { m with retry := k }

/-- A free entry of a retry list with n places, 4 of them for senior requests (R165). -/
def retryRoom (n gen sen : Nat) (senior : Bool) : Bool :=
  if senior then decide (gen + sen < n) else decide (gen + (sen - 4) + 4 < n)
/-- A senior request of another agent. -/
def RetryEnt.isSenior : RetryEnt → Bool
  | .remote m => m.fl.senior
  | .own _ _ => false
/-- Room in a local memory controller's retry list (R165). -/
def LocalMem.room (m : LocalMem) (senior : Bool) : Bool :=
  retryRoom 16 (m.retry.filter fun e => !e.isSenior).length (m.retry.filter fun e => e.isSenior).length senior

/-- An access of the core's own thread reaches its home (R165): it is performed, waits in the retry list, or is held for 64 cycles. -/
def State.offerOwn (s : State) (key : Nat) (a : Access) : State :=
  let site := key / 4
  let mem := (s.core site).mem
  let upd := fun (f : Access → Access) => s.modThread key fun t => { t with accs := t.accs.map fun x => if x.ord = a.ord then f x else x }
  if a.ready mem then
    let w := match a.els with | e :: _ => e.addr | [] => 0
    (s.performOwn key a).rescanLocal site w (mem.full w)
  else if mem.room false then
    (upd fun x => { x with waiting := true, holdTo := 0 }).modMem site fun m => { m with retry := m.retry ++ [.own key a.ord] }
  else upd fun x => { x with holdTo := s.time + 64 }

end Sys2Proof.Machine
end

