-- ==== Sys2Proof/Machine/Mem.lean ====
section
/-! DEFINITION. Loads, stores, full-empty accesses and atomics at their issue, and the completion of a thread's own local accesses
(R158 to R170, R185). -/

namespace Sys2Proof.Machine

/-! ### Runs of bytes -/

/-- The runs of a contiguous access, one for each line (R290). -/
def pieces (a len : Nat) : List El :=
  if len ≤ 128 then [⟨a, 0, len⟩] else (List.range (len / 128)).map fun i => ⟨a + 128 * i, 128 * i, 128⟩
/-- Runs gathered line by line, in the order in which the lines first occur (R160, R290). -/
def byLine (els : List El) : List (List El) :=
  ((els.map fun e => e.addr / 128).eraseDups).map fun l => els.filter fun e => e.addr / 128 == l
/-- Two ranges share a byte. -/
def meets (a n b m : Nat) : Bool := decide (a < b + m) && decide (b < a + n)
/-- Two accesses share a byte. -/
def elsMeet (xs ys : List El) : Bool := xs.any fun x => ys.any fun y => meets x.addr x.len y.addr y.len
/-- An access shares a byte with one of some ranges. -/
def elsMeetRanges (xs : List El) (rs : List (Nat × Nat)) : Bool := xs.any fun x => rs.any fun r => meets x.addr x.len r.1 r.2

/-! ### Checks at issue (R24, R35, R143, R163) -/

/-- What an access is checked for. -/
structure Chk where
  /-- first byte, as an unbounded sum -/
  e : Int
  size : Nat
  align : Nat
  /-- the new PTR, where the form advances it -/
  adv : Option Int := none
  ok : Byte → Bool
  /-- what the leaf must permit -/
  need : List Need
  wr : Bool
  /-- the HOST window does not take it -/
  fe : Bool := false

/-- The first fault of an access, before translation (R24, R35, R143). -/
def Chk.fault (c : Chk) (r : ARegV) : Option (Cause × Word) :=
  let ev := BitVec.ofInt 64 c.e
  if c.e % c.align ≠ 0 then some (.align, ev)
  else if boundOk r c.e c.size = false then some (.bound, ev)
  else if (match c.adv with | some p => !r.allows p | none => false) then some (.bound, BitVec.ofInt 64 (c.adv.getD 0))
  else if c.ok r.perm = false then some (.perm, ev)
  else if windowOk c.e.toNat c.size = false ∨ (c.fe = true ∧ windowOf c.e.toNat = 4) then some (.window, ev)
  else none

/-- A request to another home: the run of bytes it moves, its home and address there, the address EVAL names, the virtual address. -/
structure Part where
  el : El
  home : Agent
  loc : Nat
  eval : Word
  va : Nat := 0

/-- Where an access leads. -/
inductive Loc where
  | own (off : Nat)
  | parts (ps : List Part) (use : List TlbEnt) (ten : BitVec 12)
  | bad (c : Cause) (v : Word)
  | miss (slot : BitVec 6) (va : Nat)

/-- Translate runs of bytes in ascending order; the first that fails decides (R148). -/
def State.xlParts (s : State) (t : Thread) (site : Nat) (sp : Option (BitVec 6 × BitVec 12)) (need : List Need) (ten : BitVec 12) :
    List El → Loc
  | [] => .parts [] [] ten
  | e :: r =>
    match s.translate site t sp e.addr need with
    | .xlate => .bad .xlate (BitVec.ofNat 64 e.addr)
    | .prot => .bad .prot (BitVec.ofNat 64 e.addr)
    | .miss slot => .miss slot e.addr
    | .ok pa te =>
      match s.xlParts t site sp need ten r with
      | .parts ps us n =>
        .parts ({ el := ⟨pa, e.off, e.len⟩, home := .slice (sliceOf pa), loc := pa, eval := BitVec.ofNat 64 e.addr + 0x2000000000000000,
                  va := e.addr } :: ps) (te :: us) n
      | l => l

/-- Where an access of a thread leads, its checks passed (R142, R148, R315, R354). -/
def State.locate (s : State) (key : Nat) (e n : Nat) (need : List Need) : Loc :=
  let t := { s.thread key with xfail := s.src.xfail }
  let site := key / 4
  let ct := s.coreTenant site
  let ev := BitVec.ofNat 64 e
  let far := fun (home : Agent) (els : List El) (ten : BitVec 12) =>
    Loc.parts (els.map fun x => { el := x, home := home, loc := x.addr, eval := ev + BitVec.ofNat 64 x.off, va := x.addr }) [] ten
  match placeOf e with
  | .own off => .own off
  | .peer dev c off =>
    if s.ownDev t.sup ct dev then
      match s.siteOf site c with
      | some p => if p = site then .own off else far (.core p) [⟨off, 0, n⟩] ct
      | none => far (.router site) [⟨off, 0, n⟩] ct
    else match s.nodeOf t.sup ct dev with
      | some node => far (.out (node.toNat + 2048 * (c + 1))) [⟨off, 0, n⟩] ct
      | none => far (.router site) [⟨off, 0, n⟩] ct
  | .device va =>
    let sp := s.dataSpace t
    s.xlParts t site sp need (match sp with | some p => p.2 | none => 0) (pieces va n)
  | .host a => far .bridge (pieces a n) ct
  | .peerDev dev va =>
    match s.dataSpace t with
    | none => .bad .xlate (BitVec.ofNat 64 va)
    | some (_, ten) =>
      if s.ownDev t.sup ten dev then far .gate (pieces va n) ten
      else match s.nodeOf t.sup ten dev with
        | some node => far (.out node.toNat) (pieces va n) ten
        | none => far (.router site) (pieces va n) ten

/-! ### Requests (R151, R155) -/

/-- Message type of an access (R152). -/
def AccOp.typ : AccOp → BitVec 6
  | .loadX _ _ => MT.load | .loadV _ _ => MT.load | .store _ => MT.store | .ldfe _ _ => MT.loadfe | .stfe _ _ => MT.storefe
  | .atomic _ _ _ _ => MT.atomic | .hwait _ _ _ => MT.fetch
/-- Atomic operation code. -/
def AccOp.code : AccOp → BitVec 4
  | .atomic _ op _ _ => op
  | .loadX _ _ => 0 | .loadV _ _ => 0 | .store _ => 0 | .ldfe _ _ => 0 | .stfe _ _ => 0 | .hwait _ _ _ => 0
/-- Full-empty mode. -/
def AccOp.mode : AccOp → BitVec 2
  | .ldfe _ m => m | .stfe _ m => m
  | .loadX _ _ => 0 | .loadV _ _ => 0 | .store _ => 0 | .atomic _ _ _ _ => 0 | .hwait _ _ _ => 0
/-- A full-empty access. -/
def AccOp.isFe : AccOp → Bool
  | .ldfe _ _ => true | .stfe _ _ => true
  | .loadX _ _ => false | .loadV _ _ => false | .store _ => false | .atomic _ _ _ _ => false | .hwait _ _ _ => false
/-- The inline word that follows the address: store data of up to 8 bytes, an operand. -/
def AccOp.word1 (p : Part) : AccOp → Word
  | .store d => if p.el.len ≤ 8 then BitVec.ofNat 64 (vBytes d p.el.off p.el.len) else 0
  | .stfe d _ => d | .atomic _ _ o _ => o
  | .loadX _ _ => 0 | .loadV _ _ => 0 | .ldfe _ _ => 0 | .hwait _ _ _ => 0
/-- The compare value. -/
def AccOp.word2 : AccOp → Word
  | .atomic _ _ _ c => c
  | .loadX _ _ => 0 | .loadV _ _ => 0 | .store _ => 0 | .ldfe _ _ => 0 | .stfe _ _ => 0 | .hwait _ _ _ => 0
/-- Store data that travel as payload. -/
def AccOp.payload (p : Part) : AccOp → VWord
  | .store d => if 8 < p.el.len then BitVec.ofNat 4096 (vBytes d p.el.off p.el.len) else 0
  | .loadX _ _ => 0 | .loadV _ _ => 0 | .ldfe _ _ => 0 | .stfe _ _ => 0 | .atomic _ _ _ _ => 0 | .hwait _ _ _ => 0

/-- Free response slots of a thread (R155). -/
def Thread.freeSlots (t : Thread) : List Nat := (List.range 8).filter fun i => (t.slots[i]?.getD none).isNone

/-- The request that holds a response slot has been sent on to its slice (R155, R295). -/
def Thread.atSlice (t : Thread) (n sl : Nat) : Thread :=
  { t with slots := t.slots.setIfInBounds n ((t.slots[n]?.getD none).map fun q => { q with slice := some sl }) }

/-- Who a home is, for a header. -/
def State.whoAt (s : State) (site : Nat) : Agent → Who
  | .core p => ⟨0x7FF, s.coreId p, 0⟩
  | .out n => ⟨BitVec.ofNat 11 n, if n < 2048 then 0xFFF else BitVec.ofNat 12 (n / 2048 - 1), 0⟩
  | .slice _ => ⟨0x7FF, 0xFFF, 0⟩ | .bridge => ⟨0x7FF, 0xFFF, 0⟩ | .router _ => ⟨0x7FF, s.coreId site, 0⟩
  | .root _ => ⟨0x7FF, 0xFFF, 0⟩ | .gate => ⟨0x7FF, 0xFFF, 0⟩ | .former p => ⟨0x7FF, s.coreId p, 0⟩
/-- The same for an access: a PEERLOCAL or PEERDEVICE address itself names the device, PEERLOCAL the core too (R142, R150). -/
def State.whoFor (s : State) (site e : Nat) (h : Agent) : Who :=
  let dev := BitVec.ofNat 11 (e / 2 ^ 48)
  if State.isOutAgent h then s.whoAt site h
  else if windowOf e = 1 then ⟨dev, BitVec.ofNat 12 (e / 2 ^ 36), 0⟩
  else if windowOf e = 5 then ⟨dev, 0xFFF, 0⟩
  else s.whoAt site h

/-- The request of a part. -/
def State.requestOf (s : State) (key : Nat) (op : AccOp) (nt : Bool) (ten : BitVec 12) (ord : BitVec 2) (sc : BitVec 4) (dst : Who)
    (slot : Nat) (p : Part) : Msg :=
  { id := 0, frm := .core (key / 4), dest := p.home, cls := .req, typ := op.typ, dst := dst
    src := s.whoOf key, tenant := ten
    nflit := if op.typ == MT.store && decide (8 < p.el.len) then BitVec.ofNat 4 ((p.el.len + 63) / 64) else 0
    fl := { sup := (s.thread key).sup, nt := nt }
    spec := specOf op.code (sizeCode p.el.len) op.mode sc ord slot
    w := #v[BitVec.ofNat 64 p.loc, op.word1 p, op.word2, BitVec.ofNat 64 p.va, 0, 0], pay := op.payload p }

/-- Send the requests of an access, one response slot each (R155). -/
def State.sendParts (s : State) (key id : Nat) (op : AccOp) (nt : Bool) (ten : BitVec 12) (ord : BitVec 2) (sc : BitVec 4)
    (dst : Agent → Who) : List (Part × Nat) → State
  | [] => s
  | (p, slot) :: r =>
    let q : Req := { id := id, op := op, el := p.el, addr := p.eval, nt := nt, home := p.home, loc := p.loc, space := s.dataSpace (s.thread key) }
    let m := s.requestOf key op nt ten ord sc (dst p.home) slot p
    ((s.modThread key fun t => { t with slots := t.slots.setIfInBounds slot (some q) }).send m).sendParts key id op nt ten ord sc dst r

/-- Put an access to the thread's own local memory among those issued (R161). -/
def State.pushOwn (s : State) (key id : Nat) (op : AccOp) (nt : Bool) (base : Word) (els : List El) : State :=
  let a : Access := { id := id, ord := s.nextId, op := op, els := els, nt := nt, base := base }
  { s with nextId := s.nextId + 1 }.modThread key fun t => { t with accs := t.accs ++ [a] }
/-- Several accesses, one for each line. -/
def State.pushAll (s : State) (key id : Nat) (op : AccOp) (nt : Bool) (base : Word) : List (List El) → State
  | [] => s
  | e :: r => (s.pushOwn key id op nt base e).pushAll key id op nt base r

/-! ### Waits of an access (R161, R170, R294) -/

/-- An acquire of the thread has not completed (R170). -/
def State.acqPending (s : State) : Bool := s.src.outst.any fun o => o.acq && !o.fin
/-- A wait on a handle, which accesses no memory (R273). -/
def AccOp.isWait : AccOp → Bool
  | .hwait _ _ _ => true
  | .loadX _ _ | .loadV _ _ | .store _ | .ldfe _ _ | .stfe _ _ | .atomic _ _ _ _ => false
/-- A command of the engine whose memory accesses are those of its thread (R195). -/
def MKind.transfers : MKind → Bool
  | .acst | .acstb | .acld | .acstsc => true
  | .mtile | .job | .aczero => false
/-- Every earlier access of a thread is performed at its home, stores acknowledged, STNT not gathered excepted (R271, R294). -/
def State.drained (s : State) (key : Nat) : Bool :=
  let t := s.thread key
  let c := s.core (key / 4)
  t.accs.all (fun a => a.nt) && t.slots.toList.all (fun r => match r with | some q => q.nt || q.op.isWait | none => true) &&
    c.mm.all (fun o => o.key != key) && c.eng.all fun e => e.key != key || e.orphan || !e.kind.transfers
/-- The accesses of a thread that a release waits for: response slots (2 × number) and places in program order (2 × place + 1) (R271, R292, R306). -/
def Thread.pendSet (t : Thread) : List Nat :=
  ((t.accs.filter fun a => !a.nt).map fun a => 2 * a.ord + 1) ++
    ((List.range 8).filter fun n => match t.slots[n]?.getD none with | some q => !q.nt && !q.op.isWait | none => false).map fun n => 2 * n
/-- The accesses that an end report follows have been performed (R306). -/
def State.endClear (s : State) (e : EndReport) : Bool :=
  let c := s.core (e.key / 4)
  e.ids.all (fun i => i % 2 == 1 && !((s.thread e.key).accs.any fun a => 2 * a.ord + 1 == i)) &&
    c.mm.all (fun o => o.key != e.key || decide (e.ord ≤ o.id)) &&
    c.eng.all fun o => o.key != e.key || !o.kind.transfers || decide (e.ord ≤ o.ord)
/-- A full-empty access of the thread that shares a byte with one of these parts awaits its answer: program order per address (R161). -/
def Thread.feWaits (t : Thread) (ps : List Part) : Bool :=
  t.slots.toList.any fun r => match r with
    | some q => q.op.isFe && ps.any fun p => p.home == q.home && meets p.loc p.el.len q.loc 8
    | none => false

/-! ### An access of one contiguous run, as a slot (R159, R164, R168) -/

/-- An access to be issued. -/
structure Acc where
  i : Instr
  a : AReg
  chk : Chk
  op : AccOp
  dst : List RegRef
  /-- it is tracked until it completes: a load, LDFE or atomic -/
  tracked : Bool
  nt : Bool := false
  ord : BitVec 2 := 0
  sc : BitVec 4 := 0

/-- The number of the outstanding instruction, and the state that tracks it; 0 for a store (R30, R161, R170). -/
def State.trackAcc (u : State) (c : Acc) : Nat × State :=
  if c.tracked then
    let (id, u1) := u.track c.i c.dst
    (id, if c.ord.getLsbD 0 then u1.modCur fun t => { t with outst := t.outst.map fun o => if o.id = id then { o with acq := true } else o }
         else u1)
  else (0, u)

/-- The pointer as the form leaves it (R24, R159). -/
def State.advance (u : State) (a : AReg) (adv : Option Int) : State :=
  match adv with
  | some p => u.wa a { u.ra a with ptr := BitVec.ofInt 64 p }
  | none => u

/-- Translations used by an access (R328, R329). -/
def State.useAll (u : State) (site : Nat) (wr : Bool) : List TlbEnt → State
  | [] => u
  | e :: r => (u.useXl site e wr).useAll site wr r

/-- A write to the HOST window is noted (R294). -/
def State.noteHost (u : State) (e : Nat) (wr : Bool) : State := if wr && windowOf e == 4 then u.modCur fun t => { t with hostW := true } else u

/-- The whole effect of an access at its issue: checks, waits, pointer, then its parts, lines and free slots in ascending order (R159, R185, log 93). -/
def State.access (u : State) (c : Acc) : SlotRes :=
  match c.chk.fault (u.ra c.a) with
  | some (k, v) => u.fault k v
  | none =>
    let e := c.chk.e.toNat
    let key := u.ctx.key
    if u.acqPending || (c.ord.getLsbD 1 && !u.drained key) then u.hold
    else
      let done := fun (u1 : State) => ((u1.advance c.a c.chk.adv).watch u.site e c.chk.size c.chk.wr)
      match u.locate key e c.chk.size c.chk.need with
      | .bad k v => u.fault k v
      | .miss slot va => .wait (State.askWalk slot va)
      | .own off =>
        let (id, u1) := u.trackAcc c
        .done (done (u1.pushAll key id c.op c.nt (BitVec.ofNat 64 (e - off)) ((pieces off c.chk.size).map fun x => [x])))
      | .parts ps us ten =>
        let free := u.cur.freeSlots
        if free.length < ps.length || u.cur.feWaits ps then u.hold
        else
          let (id, u1) := u.trackAcc c
          .done (done (((u1.useAll u.site c.chk.wr us).noteHost e c.chk.wr).sendParts key id c.op c.nt ten c.ord c.sc (u.whoFor u.site e) (ps.zip free)))

/-! ### The instructions -/

/-- The effective address of MODE 0 to 4 (R159). -/
def effAddr (u : State) (a : AReg) (xi : XReg) (mode : BitVec 3) (size : Nat) : Int :=
  let p : Int := (u.ra a).ptr.toNat
  if mode = 1 then p + (u.rx xi).toInt else if mode = 4 then p + (u.rx xi).toInt * size else p
/-- The new PTR of MODE 2 and 3 (R159). -/
def newPtr (u : State) (a : AReg) (xi : XReg) (mode : BitVec 3) (size : Nat) : Option Int :=
  let p : Int := (u.ra a).ptr.toNat
  if mode = 2 then some (p + size) else if mode = 3 then some (p + (u.rx xi).toInt) else none
/-- Bytes of a scalar access (R159). -/
def szBytes (sz : BitVec 3) : Nat := match sz.toNat with | 0 => 1 | 1 => 2 | 2 => 4 | 3 => 8 | 4 => 1 | 5 => 2 | _ => 4
/-- Bytes of a contiguous vector access (R158). -/
def vszBytes (sz : BitVec 3) : Nat := 64 * 2 ^ sz.toNat

/-- LDS (R159). -/
def execLds (d : XReg) (a : AReg) (xi : XReg) (la : BitVec 4) (sz mode : BitVec 3) (st : State) : Host.Outcome State Fault Refusal :=
  slot (.lds d a xi la sz mode) (fun u =>
    let n := szBytes sz
    u.access { i := .lds d a xi la sz mode, a := a, op := .loadX d sz, dst := xRef d, tracked := true
               chk := { e := effAddr u a xi mode n, size := n, align := n, adv := newPtr u a xi mode n, ok := permR, need := [.read], wr := false } }) st

/-- STS (R159). -/
def execSts (s : XReg) (a : AReg) (xi : XReg) (sz mode : BitVec 3) (st : State) : Host.Outcome State Fault Refusal :=
  slot (.sts s a xi sz mode) (fun u =>
    let n := szBytes sz
    u.access { i := .sts s a xi sz mode, a := a, op := .store ((u.rx s).setWidth 4096), dst := [], tracked := false
               chk := { e := effAddr u a xi mode n, size := n, align := n, adv := newPtr u a xi mode n, ok := permW, need := [.write], wr := true } }) st

/-- The element addresses of a strided or gathered access (R160). -/
def elemAddrs (u : State) (a : AReg) (xi : BitVec 5) (sz : BitVec 3) : List Int :=
  let p : Int := (u.ra a).ptr.toNat
  (List.range 128).map fun (i : Nat) =>
    if sz = 4 then p + (i : Int) * (u.rx xi).toInt else p + (((u.rv xi).extractLsb' (32 * i) 32).toNat : Int)
/-- The first fault of the elements, in ascending order (R160). -/
def elemFault (r : ARegV) (ok : Byte → Bool) : List Int → Option (Cause × Word)
  | [] => none
  | e :: t =>
    let ev := BitVec.ofInt 64 e
    if e % 4 ≠ 0 then some (.align, ev)
    else if boundOk r e 4 = false then some (.bound, ev)
    else if ok r.perm = false then some (.perm, ev)
    else if windowOf e.toNat ≠ 0 ∨ windowOk e.toNat 4 = false then some (.window, ev)
    else elemFault r ok t

/-- Watchpoint checks of the elements (R381). -/
def State.watchAll (u : State) (site : Nat) (wr : Bool) : List Int → State
  | [] => u
  | e :: r => (u.watch site e.toNat 4 wr).watchAll site wr r

/-- A strided or gathered access (R160). -/
def State.gather (u : State) (i : Instr) (a : AReg) (xi : BitVec 5) (sz : BitVec 3) (ok : Byte → Bool) (op : AccOp) (dst : List RegRef)
    (wr : Bool) : SlotRes :=
  let es := elemAddrs u a xi sz
  match elemFault (u.ra a) ok es with
  | some (k, v) => u.fault k v
  | none =>
    if u.acqPending then u.hold
    else
      let (id, u1) := if wr then (0, u) else u.track i dst
      let els := (es.zipIdx).map fun p => (⟨p.1.toNat, 4 * p.2, 4⟩ : El)
      .done ((u1.pushAll u.ctx.key id op false 0 (byLine els)).watchAll u.site wr es)

/-- LDV (R159, R160). -/
def execLdv (d : VReg) (a : AReg) (xi : BitVec 5) (la : BitVec 4) (sz mode : BitVec 3) (st : State) : Host.Outcome State Fault Refusal :=
  slot (.ldv d a xi la sz mode) (fun u =>
    if sz.toNat ≤ 3 then
      let n := vszBytes sz
      u.access { i := .ldv d a xi la sz mode, a := a, op := .loadV d n, dst := vRef d, tracked := true
                 chk := { e := effAddr u a xi mode n, size := n, align := min n 128, adv := newPtr u a xi mode n, ok := permR, need := [.read]
                          wr := false } }
    else u.gather (.ldv d a xi la sz mode) a xi sz permR (.loadV d 512) (vRef d) false) st

/-- STV (R159, R160). -/
def execStv (s : VReg) (a : AReg) (xi : BitVec 5) (sz mode : BitVec 3) (st : State) : Host.Outcome State Fault Refusal :=
  slot (.stv s a xi sz mode) (fun u =>
    if sz.toNat ≤ 3 then
      let n := vszBytes sz
      u.access { i := .stv s a xi sz mode, a := a, op := .store (u.rv s), dst := [], tracked := false
                 chk := { e := effAddr u a xi mode n, size := n, align := min n 128, adv := newPtr u a xi mode n, ok := permW, need := [.write]
                          wr := true } }
    else u.gather (.stv s a xi sz mode) a xi sz permW (.store (u.rv s)) [] true) st

/-- STNT (R159, R162). -/
def execStnt (s : VReg) (a : AReg) (xi : BitVec 5) (sz mode : BitVec 3) (st : State) : Host.Outcome State Fault Refusal :=
  slot (.stnt s a xi sz mode) (fun u =>
    let n := vszBytes sz
    u.access { i := .stnt s a xi sz mode, a := a, op := .store (u.rv s), dst := [], tracked := false, nt := true
               chk := { e := effAddr u a xi mode n, size := n, align := min n 128, adv := newPtr u a xi mode n
                        ok := fun p => permW p && permT p, need := [.write], wr := true } }) st

/-- LDFE (R164). -/
def execLdfe (d : XReg) (a : AReg) (la : BitVec 4) (mode : BitVec 2) (st : State) : Host.Outcome State Fault Refusal :=
  slot (.ldfe d a la mode) (fun u =>
    u.access { i := .ldfe d a la mode, a := a, op := .ldfe d mode, dst := xRef d, tracked := true
               chk := { e := (u.ra a).ptr.toNat, size := 8, align := 8, ok := permF, need := [.read, .fe], wr := false, fe := true } }) st

/-- STFE (R164). -/
def execStfe (s : XReg) (a : AReg) (mode : BitVec 2) (st : State) : Host.Outcome State Fault Refusal :=
  slot (.stfe s a mode) (fun u =>
    u.access { i := .stfe s a mode, a := a, op := .stfe (u.rx s) mode, dst := [], tracked := false
               chk := { e := (u.ra a).ptr.toNat, size := 8, align := 8, ok := permF, need := [.write, .fe], wr := true, fe := true } }) st

/-- The code of a scope (R289). -/
def scopeNum : Scope → BitVec 4
  | .thread => 0 | .core => 1 | .team => 2 | .group => 3 | .die => 4 | .package => 5 | .host => 6 | .job => 7 | .tenant => 8 | .pod => 9
  | .io => 10 | .system => 11

/-- An atomic (R167 to R170): WINDOW for an operation that the HOST window does not take. -/
def State.atomic (u : State) (i : Instr) (d : XReg) (a : AReg) (x : XReg) (sc : Scope) (ord : BitVec 2) (op : BitVec 4) : SlotRes :=
  let n := atomicLen op
  let p := (u.ra a).ptr.toNat
  let chk : Chk := { e := p, size := n, align := n, ok := permA, need := [.write], wr := true, fe := !(op == 0 || op == 8 || op == 9) }
  u.access { i := i, a := a, op := .atomic d op (u.rx x) (u.rx d), dst := xRef d, tracked := true, ord := ord, sc := scopeNum sc, chk := chk }

/-- ATOM.ADD (R169). -/
def execAtomAdd (d : XReg) (a : AReg) (x : XReg) (sc : Scope) (ord : BitVec 2) (st : State) : Host.Outcome State Fault Refusal :=
  slot (.atomAdd d a x sc ord) (fun u => u.atomic (.atomAdd d a x sc ord) d a x sc ord 0) st
/-- ATOM.AND (R169). -/
def execAtomAnd (d : XReg) (a : AReg) (x : XReg) (sc : Scope) (ord : BitVec 2) (st : State) : Host.Outcome State Fault Refusal :=
  slot (.atomAnd d a x sc ord) (fun u => u.atomic (.atomAnd d a x sc ord) d a x sc ord 1) st
/-- ATOM.OR (R169). -/
def execAtomOr (d : XReg) (a : AReg) (x : XReg) (sc : Scope) (ord : BitVec 2) (st : State) : Host.Outcome State Fault Refusal :=
  slot (.atomOr d a x sc ord) (fun u => u.atomic (.atomOr d a x sc ord) d a x sc ord 2) st
/-- ATOM.XOR (R169). -/
def execAtomXor (d : XReg) (a : AReg) (x : XReg) (sc : Scope) (ord : BitVec 2) (st : State) : Host.Outcome State Fault Refusal :=
  slot (.atomXor d a x sc ord) (fun u => u.atomic (.atomXor d a x sc ord) d a x sc ord 3) st
/-- ATOM.MIN (R169). -/
def execAtomMin (d : XReg) (a : AReg) (x : XReg) (sc : Scope) (ord : BitVec 2) (st : State) : Host.Outcome State Fault Refusal :=
  slot (.atomMin d a x sc ord) (fun u => u.atomic (.atomMin d a x sc ord) d a x sc ord 4) st
/-- ATOM.MAX (R169). -/
def execAtomMax (d : XReg) (a : AReg) (x : XReg) (sc : Scope) (ord : BitVec 2) (st : State) : Host.Outcome State Fault Refusal :=
  slot (.atomMax d a x sc ord) (fun u => u.atomic (.atomMax d a x sc ord) d a x sc ord 5) st
/-- ATOM.MINU (R169). -/
def execAtomMinu (d : XReg) (a : AReg) (x : XReg) (sc : Scope) (ord : BitVec 2) (st : State) : Host.Outcome State Fault Refusal :=
  slot (.atomMinu d a x sc ord) (fun u => u.atomic (.atomMinu d a x sc ord) d a x sc ord 6) st
/-- ATOM.MAXU (R169). -/
def execAtomMaxu (d : XReg) (a : AReg) (x : XReg) (sc : Scope) (ord : BitVec 2) (st : State) : Host.Outcome State Fault Refusal :=
  slot (.atomMaxu d a x sc ord) (fun u => u.atomic (.atomMaxu d a x sc ord) d a x sc ord 7) st
/-- ATOM.SWAP (R169). -/
def execAtomSwap (d : XReg) (a : AReg) (x : XReg) (sc : Scope) (ord : BitVec 2) (st : State) : Host.Outcome State Fault Refusal :=
  slot (.atomSwap d a x sc ord) (fun u => u.atomic (.atomSwap d a x sc ord) d a x sc ord 8) st
/-- ATOM.CAS (R169). -/
def execAtomCas (d : XReg) (a : AReg) (x : XReg) (sc : Scope) (ord : BitVec 2) (st : State) : Host.Outcome State Fault Refusal :=
  slot (.atomCas d a x sc ord) (fun u => u.atomic (.atomCas d a x sc ord) d a x sc ord 9) st
/-- ATOM.MAXRST (R169). -/
def execAtomMaxrst (d : XReg) (a : AReg) (x : XReg) (sc : Scope) (ord : BitVec 2) (st : State) : Host.Outcome State Fault Refusal :=
  slot (.atomMaxrst d a x sc ord) (fun u => u.atomic (.atomMaxrst d a x sc ord) d a x sc ord 10) st
/-- ATOM.FADD (R169). -/
def execAtomFadd (d : XReg) (a : AReg) (x : XReg) (sc : Scope) (ord : BitVec 2) (st : State) : Host.Outcome State Fault Refusal :=
  slot (.atomFadd d a x sc ord) (fun u => u.atomic (.atomFadd d a x sc ord) d a x sc ord 11) st
/-- ATOM.FMAX (R169). -/
def execAtomFmax (d : XReg) (a : AReg) (x : XReg) (sc : Scope) (ord : BitVec 2) (st : State) : Host.Outcome State Fault Refusal :=
  slot (.atomFmax d a x sc ord) (fun u => u.atomic (.atomFmax d a x sc ord) d a x sc ord 12) st
/-- ATOM.FMAXRST (R169). -/
def execAtomFmaxrst (d : XReg) (a : AReg) (x : XReg) (sc : Scope) (ord : BitVec 2) (st : State) : Host.Outcome State Fault Refusal :=
  slot (.atomFmaxrst d a x sc ord) (fun u => u.atomic (.atomFmaxrst d a x sc ord) d a x sc ord 13) st

/-! ### ACCESS_COMPLETE (R161, R165, R195) -/

/-- Ranges of local memory that a memory-to-memory operation touches (R138). -/
def MmOp.ranges (o : MmOp) : List (Nat × Nat) := [(o.d, 512), (o.s1, 512), (o.s2, 512)]

/-- Start of a stored row (R190). -/
def rowAddr (bpi : Bool) (base rot rpitch r : Nat) : Nat :=
  if bpi then base + 256 * r else base + r * rpitch + 128 * (r * rot % 3)
/-- Stored rows of an operand and bytes of a row (R189). -/
def rowShape (isA : Bool) (fa : BitVec 2) (fb : BitVec 7) (tr : Bool) : Nat × Nat :=
  if isA then (if fa = 2 ∧ tr = true then (64, 32) else (32, 64))
  else if fb.extractLsb' 0 2 = 2 then ((fb.extractLsb' 2 4).toNat, 256) else (32, 64)
/-- Ranges of the stored rows of a local operand. -/
def MOperand.ranges (o : MOperand) (bpi : Bool) (shape : Nat × Nat) : List (Nat × Nat) :=
  match o with
  | .group _ => []
  | .rows base rot _ rpitch => (List.range shape.1).map fun r => (rowAddr bpi base rot rpitch r, shape.2)
/-- Ranges of local memory that a command touches in the order of its thread's accesses (R195); a job's race with later stores. -/
def MCmd.ranges (c : MCmd) : List (Nat × Nat) :=
  match c.kind with
  | .mtile =>
    c.opA.ranges false (rowShape true c.fmta c.fmtb c.ta) ++
    c.opB.ranges (c.fmtb.extractLsb' 0 2 == 2) (rowShape false c.fmta c.fmtb c.tb) ++
    (if c.fmta = 2 then
      (if c.scla = 0 then [] else [(c.scla.toNat, 128)]) ++ (if c.sclb = 0 then [] else [(c.sclb.toNat, 128)])
     else [])
  | .acst | .acld | .acstsc => (List.range 32).map fun r => (c.addr + r * c.pitch, 128)
  | .acstb => (List.range 32).map fun r => (c.addr + r * c.pitch, 64)
  | .job | .aczero => []

/-- The k-th issued access of a thread, when no earlier access of the thread to one of its bytes is still to be performed (R161, R195). -/
def State.nextOwn (s : State) (key k : Nat) : Option Access :=
  let t := s.thread key
  let c := s.core (key / 4)
  match t.accs[k]? with
  | none => none
  | some a =>
    if (t.accs.take k).any (fun b => elsMeet b.els a.els) ||
       c.mm.any (fun o => o.key == key && decide (o.id < a.ord) && elsMeetRanges a.els o.ranges) ||
       c.eng.any (fun o => o.key == key && decide (o.ord < a.ord) && elsMeetRanges a.els o.ranges) then none
    else some a

/-- The key of a thread slot of a site. -/
def keyAt (site thr : Nat) : Nat := 4 * site + thr % 4

/-- ACCESS_COMPLETE: the home core performs the k-th issued local access of a thread, or it begins to wait there (R161, R165). -/
def execAccessComplete (site thr k : Nat) (s : State) : Host.Outcome State Fault Refusal :=
  let key := keyAt site thr
  match s.nextOwn key k with
  | some a => .next (if a.waiting || a.holdTo != 0 then s else s.offerOwn key a)
  | none => .next s

/-- The accesses of a core's threads that its controller holds, in thread order (R165). -/
def State.heldOwn (s : State) (site : Nat) : List (Nat × Access) :=
  (List.range 4).flatMap fun i => ((s.thread (4 * site + i)).accs.filter fun a => a.holdTo != 0).map fun a => (4 * site + i, a)
/-- RETRY_LIST_REOFFER: the k-th held access of a core is offered again once its 64 cycles have passed (R165). -/
def execRetryListReoffer (site k : Nat) (s : State) : Host.Outcome State Fault Refusal :=
  match (s.heldOwn site)[k]? with
  | some (key, a) =>
    if a.holdTo ≤ s.time then
      .next ((s.modThread key fun t => { t with accs := t.accs.map fun x => if x.ord = a.ord then { x with holdTo := 0 } else x }).offerOwn key
        { a with holdTo := 0 })
    else .next s
  | none => .next s

end Sys2Proof.Machine
end

