-- ==== Sys2Proof/Machine/Home.lean ====
section
/-! DEFINITION. Memory requests at their homes and what their answers do at the requester; RETRY and resend; page walks (R16, R146 to R157,
R163 to R169, R318 to R320, R326 to R334). -/

namespace Sys2Proof.Machine

namespace State

/-- A site's core takes part in traffic: it is active and not being scrubbed (R153, R319). -/
def present (s : State) (site : Nat) : Bool := s.active site && (s.core site).scrub.isNone
/-- A message may be delivered to a core's site (R320). -/
def tenantOk (s : State) (site : Nat) (m : Msg) : Bool := m.fl.sup || m.tenant == s.coreTenant site
/-- A message that is delivered wakes a gated core (R390), whose first record tells of those that the gate discarded (R377). -/
def wake (s : State) (site : Nat) : State := s.modCore site fun c =>
  { c with gated := false, gateHold := none, trace := if c.gated then c.trace.recover site s.time else c.trace }
/-- A message that is discarded with a corrected-rank record (R152, R153, R320). -/
def discard (s : State) (site : Nat) (m : Msg) : State :=
  s.record (bankOf site) { rank := 1, source := 5, tenant := m.tenant, unit := (s.coreId site).toNat }
/-- The status of a request that its own router could not send on: NOCORE, or the device is unreachable (R153). -/
def lostStatus (s : State) (m : Msg) : Nat := if s.ownDev m.fl.sup m.tenant m.dst.dev then 2 else 6
/-- A message is not delivered: a REQ or FWD is answered with a status, any other is discarded with a record (R153, R320). The engine of a copy
learns the status of a write that was discarded (log 95). -/
def turnAway (s : State) (site : Nat) (m : Msg) (status : Nat) : State :=
  match m.cls with
  | .req | .fwd => (s.acceptMsg m).reply m status
  | .rsp => s.discard site m
  | .bulk => (s.discard site m).reply m status
/-- Why a message is not delivered to a site's core: no core takes part there, or the tenant is another (R9, R153, R319, R320). -/
def refusal (s : State) (site : Nat) (m : Msg) : Option Nat :=
  if !s.present site then some 2 else if !s.tenantOk site m then some 3 else none
/-- A message addressed to a site's core is delivered, unless no core takes part there or the tenant is another (R9, R153, R319, R320). -/
def delivered (s : State) (site : Nat) (m : Msg) (go : State → State) : State :=
  if !s.present site then s.turnAway site m 2
  else if !s.tenantOk site m then s.turnAway site m 3
  else go (s.wake site)

/-- What the access of a request needs of the leaf (R327). -/
def needOf (m : Msg) : List Need :=
  if m.typ = MT.load then [.read] else if m.typ = MT.loadfe then [.read, .fe] else if m.typ = MT.storefe then [.write, .fe] else [.write]

/-! ### Device memory (R318, R333, R334) -/

/-- The sectors for which an access is answered with status 0x01. -/
def badSectors (s : State) (key : Nat) (m : Msg) : List (Nat × Nat) :=
  let n := if m.typ = MT.load ∨ m.typ = MT.store then m.size else if m.typ = MT.copydata then m.w[1].toNat % 2 ^ 16 else 8
  s.hbm.flaws key m.addr n (m.typ == MT.store || m.typ == MT.copydata)
/-- An access that found sectors poisoned or uninitialised: the records, and status 0x01 (R333, R334). -/
def slicePoison (s : State) (key : Nat) (m : Msg) : State := (s.flawSeen m.tenant (s.badSectors key m)).reply m 1
/-- Write to device memory and answer, or refuse a write of part of an uninitialised sector (R334). -/
def sliceWrite (s : State) (key : Nat) (m : Msg) (n v : Nat) (ans : State → State) : State :=
  match s.hbm.write key m.addr n v false with
  | some h => ans { s with hbm := h }
  | none => s.slicePoison key m
/-- The full-empty bit of a word of device memory. -/
def hbmFull (s : State) (a : Nat) : Bool := Map.get (fun _ => true) s.hbm.fe (a / 8)
/-- The state with such a bit set. -/
def setHbmFull (s : State) (a : Nat) (b : Bool) : State :=
  { s with hbm := { s.hbm with fe := Map.set (fun _ => true) s.hbm.fe (a / 8) b } }

/-- Apply a request at its slice and answer it; its full-empty condition holds (R146, R163, R168, R169). -/
def applySlice (s0 : State) (key : Nat) (m : Msg) : State :=
  let a := m.addr
  -- what ECC corrects in a read, or in the rest of a sector of which a part is written, is recorded (R333)
  let s := if m.typ = MT.load then s0.mendSeen m.tenant key a m.size
    else if m.typ = MT.store then s0.mendSeen m.tenant key a m.size true
    else s0.mendSeen m.tenant key a 8
  if m.typ = MT.load then
    let (x, p) := s.hbm.read key a m.size
    if p then s.slicePoison key m else s.send (dataMsg m m.size x)
  else if m.typ = MT.store then s.sliceWrite key m m.size m.data fun u => u.reply m 0
  else if m.typ = MT.atomic then
    let n := atomicLen m.aop
    let (x, p) := s.hbm.read key a n
    if p then s.slicePoison key m
    else s.sliceWrite key m n (atomicNew m.aop x m.w[1] m.w[2]) fun u => u.send (dataMsg m 8 x)
  else if m.typ = MT.loadfe then
    let b := s.hbmFull a
    let (x, p) := s.hbm.read key a 8
    if p then s.slicePoison key m
    else if m.mode = 3 then s.send (dataMsg m 8 (if b then 1 else 0))
    else (s.setHbmFull a (ldfeBit m.mode b)).send (dataMsg m 8 x)
  else if s.hbm.ready key a 8 = false then s.slicePoison key m
  else if m.mode = 2 then (s.setHbmFull a false).reply m 0
  else s.sliceWrite key m 8 m.w[1].toNat fun u => (u.setHbmFull a true).reply m 0

/-- The request must wait for its word's bit; on an uninitialised sector nothing waits (R163, R164). -/
def sliceWaits (s : State) (key : Nat) (m : Msg) : Bool := !m.ready (s.hbmFull m.addr) && s.hbm.ready key m.addr 8

/-- Serve the waiting requests of a slice for a word, in arrival order (R165). -/
def scanSlice (s : State) (sl word : Nat) : List (Nat × Msg) → State × List (Nat × Msg)
  | [] => (s, [])
  | e :: r =>
    if e.1 = sl ∧ e.2.addr / 8 = word ∧ e.2.ready (s.hbmFull (8 * word)) = true then
      match s.keyOf e.2.tenant with
      | some key => (s.applySlice key e.2).scanSlice sl word r
      | none => (s.reply e.2 3).scanSlice sl word r
    else let (s1, k) := s.scanSlice sl word r; (s1, e :: k)
/-- Scan a slice's retry list when the bit of a word has changed (R165). -/
def rescanSlice (s : State) (sl a : Nat) (old : Bool) : State :=
  if s.hbmFull a = old then s
  else
    let (s1, k) := s.scanSlice sl (a / 8) s.hbm.retry
    { s1 with hbm := { s1.hbm with retry := k } }

/-- A request at its slice (R146, R165, R318). -/
def atSlice (s : State) (sl : Nat) (m : Msg) : State :=
  match s.keyOf m.tenant with
  | none => (s.acceptMsg m).reply m 3
  | some key =>
    if s.mustRefuse m then s.retryMsg m
    else if s.sliceWaits key m then
      let held := s.hbm.retry.filter fun e => e.1 == sl
      if retryRoom 64 (held.filter fun e => !e.2.fl.senior).length (held.filter fun e => e.2.fl.senior).length m.fl.senior then
        let s1 := s.acceptMsg m
        { s1 with hbm := { s1.hbm with retry := s1.hbm.retry ++ [(sl, m)] } }
      else s.retryMsg m
    else ((s.acceptMsg m).applySlice key m).rescanSlice sl m.addr (s.hbmFull m.addr)

/-! ### The host bridge, the gate, a core (R142, R148, R153, R165, R170, R354) -/

/-- A request at the host bridge (R170). -/
def atBridge (s : State) (m : Msg) : State :=
  let s0 := s.acceptMsg m
  if s.mustRefuse m then s.retryMsg m
  else if m.typ = MT.load then s0.send (dataMsg m m.size (s.host.load m.addr m.size))
  else if m.typ = MT.store then { s0 with host := s.host.store m.addr m.size m.data }.reply m 0
  else
    let x := s.host.load m.addr 8
    { s0 with host := s.host.store m.addr 8 (atomicNew m.aop x m.w[1] m.w[2]) }.send (dataMsg m 8 x)

/-- The root of a tenant's tables: slot 0's for tenant 0 (R315); none without a live context. -/
def rootOf (s : State) (ten : BitVec 12) : Option Nat :=
  if ten = 0 then some (s.slotOf 0).root.toNat
  else match s.slotOfTenant ten with
    | some n => if (s.keyOf ten).isSome then some (s.slotOf n).root.toNat else none
    | none => none

/-- A request by a device id, translated in the caches of the core that asks, or of site 3 for another device (log 101), and sent on to its slice
(R148, R354). -/
def atGate (s : State) (m : Msg) : State :=
  match s.rootOf m.tenant with
  | none => s.reply m 3
  | some root =>
    let bad := match s.xlOf (siteOfAgent m.frm) root m.tenant m.addr with | some e => !(needOf m).all (leafOk e.perm) | none => true
    let s1 := s.xlDone (siteOfAgent m.frm) root m.tenant m.addr (!bad && !(m.typ == MT.load || m.typ == MT.loadfe))
    match s.xlOf (siteOfAgent m.frm) root m.tenant m.addr with
    | none => s1.reply m 4
    | some e =>
      if bad then s1.reply m 5
      else
        let pa := e.phys m.addr
        let s2 := match m.frm with
          | .core p => s1.modThread (4 * p + m.src.thr.toNat) fun t => t.atSlice (m.spec.toNat % 8) (sliceOf pa)
          | _ => s1
        { s2 with net := s2.net ++ [{ m with dest := .slice (sliceOf pa), w := (m.w.set 0 (BitVec.ofNat 64 pa)).set 3 (BitVec.ofNat 64 m.addr) }] }

/-- A request at a core's site (R146, R153, R165, R320). -/
def atCore (s : State) (site : Nat) (m : Msg) : State :=
  s.delivered site m fun s0 =>
    if s0.mustRefuse m then s0.retryMsg m
    else
      let mem := (s0.core site).mem
      let b := mem.full m.addr
      if m.ready b = false then
        if mem.room m.fl.senior then
          (s0.acceptMsg m).modMem site fun l => { l with retry := l.retry ++ [.remote m] }
        else s0.retryMsg m
      else ((s0.acceptMsg m).applyRemote site m).rescanLocal site m.addr b

/-- A memory request arrives (R146). -/
def atHome (s : State) (m : Msg) : State :=
  match m.dest with
  | .core site => s.atCore site m
  | .slice n => s.atSlice n m
  | .bridge => s.atBridge m
  | .gate => s.atGate m
  | .router _ => s.reply m (s.lostStatus m)
  | .out _ => s.reply m 6
  | .root _ => s.reply m 2
  | .former _ => s.reply m 2

/-- The k-th message in flight as a request of a type; none when it is something else or may not arrive yet. -/
def request (s : State) (k : Nat) (typ : BitVec 6) : Option Msg :=
  match s.deliver k with
  | some m => if m.typ = typ ∧ m.cls ≠ .rsp ∧ isOutAgent m.dest = false then some m else none
  | none => none
/-- The k-th message in flight as an answer of a type. -/
def answer (s : State) (k : Nat) (typ : BitVec 6) : Option Msg :=
  match s.deliver k with
  | some m => if m.typ = typ ∧ m.cls = .rsp ∧ isOutAgent m.dest = false then some m else none
  | none => none

/-- A load or store of several lines at a core's local memory. -/
def byLines (m : Msg) : Bool := decide (128 < m.size) && (m.typ == MT.load || m.typ == MT.store)
/-- One line of such an access is performed, in a free order; the last one answers it (R290, log 3). -/
def lineAtCore (s : State) (k site : Nat) (m : Msg) : State :=
  let (r, s1) := s.drawWord
  let rem := m.todo.getD (List.range (m.size / 128))
  let i := rem.getD (r.toNat % rem.length) 0
  let rest := rem.filter fun j => j != i
  let a := m.addr + 128 * i
  let s2 := if m.todo.isNone then (s1.wake site).acceptMsg m else s1.wake site
  let put := fun (u : State) (o : Msg) => { u with net := u.net.set k o }
  if m.typ = MT.load then
    let (x, p) := (s.core site).mem.read a 128
    let v := vPlace m.pay (128 * i) 128 x
    if p then ((s2.dropMsg k).localPoison site a).reply m 1
    else if rest = [] then (s2.dropMsg k).send (dataMsg m m.size v.toNat)
    else put s2 { m with todo := some rest, pay := v }
  else
    let s3 := s2.locStore site a 128 (vBytes m.pay (128 * i) 128) false
    if rest = [] then (s3.dropMsg k).reply m 0 else put s3 { m with todo := some rest }

/-- A memory request of a type arrives; a large one at a core's local memory is performed line by line (R290). -/
def home (s : State) (k : Nat) (typ : BitVec 6) : State :=
  match s.request k typ with
  | some m =>
    match m.dest with
    | .core site =>
      if byLines m && (m.todo.isSome || (s.present site && s.tenantOk site m && !s.mustRefuse m)) then s.lineAtCore k site m
      else (s.dropMsg k).atHome m
    | _ => (s.dropMsg k).atHome m
  | none => s

end State

/-- LOAD (R146). -/
def execLoad (msg : Nat) (s : State) : Host.Outcome State Fault Refusal := .next (s.home msg MT.load)
/-- STORE (R146). -/
def execStore (msg : Nat) (s : State) : Host.Outcome State Fault Refusal := .next (s.home msg MT.store)
/-- ATOMIC (R168). -/
def execAtomic (msg : Nat) (s : State) : Host.Outcome State Fault Refusal := .next (s.home msg MT.atomic)
/-- LOADFE (R165). -/
def execLoadfe (msg : Nat) (s : State) : Host.Outcome State Fault Refusal := .next (s.home msg MT.loadfe)
/-- STOREFE (R165). -/
def execStorefe (msg : Nat) (s : State) : Host.Outcome State Fault Refusal := .next (s.home msg MT.storefe)

/-! ### Answers at the requester (R31, R153, R155) -/

/-- Write returned data to its destination (R159). -/
def Thread.putData (t : Thread) (q : Req) (m : Msg) : Thread :=
  match q.op with
  | .loadX d sz => t.putX d (extendSz sz (m.w[1].toNat % 2 ^ (8 * q.el.len)))
  | .loadV d len => t.fillV d (vLow (vPlace (t.getV d) q.el.off q.el.len m.pay.toNat) len)
  | .ldfe d _ => t.putX d m.w[1]
  | .atomic d op _ _ => t.putX d (if atomicF32 op then (m.w[1].setWidth 32).setWidth 64 else m.w[1])
  | .store _ => t
  | .stfe _ _ => t
  | .hwait _ _ _ => t
/-- Free a response slot (R155). -/
def Thread.freeSlot (t : Thread) (n : Nat) : Thread := { t with slots := t.slots.setIfInBounds n none }
/-- A store type: its errors become STORELATE (R153). -/
def AccOp.isStore : AccOp → Bool
  | .store _ => true | .stfe _ _ => true
  | .loadX _ _ => false | .loadV _ _ => false | .ldfe _ _ => false | .atomic _ _ _ _ => false | .hwait _ _ _ => false
/-- The thread that an answer names. -/
def Msg.threadAt (m : Msg) (site : Nat) : Nat := 4 * site + m.dst.thr.toNat
/-- The response slot that an answer names. -/
def Msg.slot (m : Msg) : Nat := m.spec.toNat % 8
/-- The status of an answer (R151). -/
def Msg.status (m : Msg) : Nat := m.spec.toNat / 2 ^ 11 % 256

/-- An answer to a memory request: status 0 with data, or an error (R153). -/
def Thread.answered (t : Thread) (n : Nat) (m : Msg) : Thread :=
  match t.slots[n]?.getD none with
  | none => t
  | some q =>
    if m.status = 0 then ((t.putData q m).freeSlot n).completeIf q.id
    else if q.op.isStore then (t.storeFailed q.addr).freeSlot n
    else
      let c : Cause := if m.status = 1 then .poison else .remote
      ((t.failOutst q.id { cause := c, slot := false, val := q.addr }).freeSlot n).completeIf q.id

/-- Copies and end reports that await a response slot go on when it is free (R179, R306). -/
def State.slotFreed (s : State) (key n : Nat) : State :=
  if ((s.thread key).slots[n]?.getD none).isSome then s
  else s.modCore (key / 4) fun c => { c with
    ends := c.ends.map fun e => if e.key = key then { e with ids := e.ids.filter fun i => i != 2 * n } else e
    tags := { c.tags with copies := c.tags.copies.map fun p =>
      if p.owner = key then { p with acqIds := p.acqIds.filter fun i => i != 2 * n } else p } }
/-- An answer that its core has taken reaches the requester's slot (R155). -/
def State.slotAnswer (s : State) (site : Nat) (m : Msg) : State :=
  (s.modThread (m.threadAt site) fun t => t.answered m.slot m).slotFreed (m.threadAt site) m.slot

/-! ### RETRY (R157) -/

/-- RETRY: the answer reaches the sender, which will resend the message after 64 cycles (R157). -/
def execRetry (msg : Nat) (s : State) : Host.Outcome State Fault Refusal :=
  match s.answer msg MT.retry with
  | some m =>
    let s1 := s.dropMsg msg
    let lost := match m.dest with
      | .core site => if s.present site && s.tenantOk site m then none else some site
      | _ => none
    let mine := fun (o : Msg) => o.id == m.w[5].toNat && !State.isOutAgent o.frm
    let again := fun (u : State) (o : Msg) => { u with resend := u.resend ++ [({ o with tries := o.tries + 1 }, s.time + 64)] }
    match lost with
    | some site => .next (s1.discard site m)
    | none => match s1.refused.find? mine, s1.outbox.find? (fun o => o.id == m.w[5].toNat) with
    | some o, _ => .next (again { s1 with refused := s1.refused.filter fun x => !mine x } o)
    | none, some o => .next (again { s1 with outbox := s1.outbox.filter fun x => x.id != o.id } o)
    | none, none => .next s1
  | none => .next s

/-- RETRY_RESEND: the k-th message to be resent goes out again, in sequence order; after 8 refusals it is senior (R157, R165). -/
def execRetryResend (k : Nat) (s : State) : Host.Outcome State Fault Refusal :=
  match s.resend[k]? with
  | some (m, due) =>
    if due ≤ s.time ∧ ((s.resend.take k).any fun e => e.1.frm == m.frm && e.1.dest == m.dest && e.1.cls == m.cls) = false then
      .next ({ s with resend := s.resend.eraseIdx k }.route { m with fl := { m.fl with resent := true, senior := decide (8 ≤ m.tries) } })
    else .next s
  | none => .next s

/-! ### TRANSLATION_WALK (R148, R328, R329) -/

/-- Every waiter of a page on a die receives the walk's result: the entry in its core's TLB, or an XLATE to come (R328). -/
def State.walkEnds (s : State) (d : Nat) (p : BitVec 6 × Nat) (res : Option TlbEnt) : State :=
  let mine := fun (r : WalkReq) => r.page == p
  let done := (s.dieWalks d).filter mine
  let give := fun (e : Nat × Core) =>
    if State.dieOf e.1 ≠ d ∨ (e.2.walks.any mine) = false then e
    else (e.1, { e.2 with
      walks := e.2.walks.filter fun r => !mine r
      tlb := match res with | some x => tlbUse e.2.tlb x | none => e.2.tlb })
  let s1 := { s with cores := s.cores.map give }
  match res with
  | some _ => s1
  | none => done.foldl (fun u r => match r.copy with
    | some id => u.modCore (r.key / 4) fun c => { c with tags := { c.tags with copies := c.tags.copies.map fun p =>
        if p.id = id then { p with xfail := p.xfail ++ [(r.slot, r.va)] } else p } }
    | none => u.modThread r.key fun t => { t with xfail := t.xfail ++ [(r.slot, r.va)] }) s1
/-- TRANSLATION_WALK: the walk that a core's k-th miss awaits, once a walker has it, ends: its leaf enters the caches with A set, or the bundles
that wait will raise XLATE (R328, R329). -/
def execTranslationWalk (site k : Nat) (s : State) : Host.Outcome State Fault Refusal :=
  match (s.core site).walks[k]? with
  | none => .next s
  | some r =>
    let d := State.dieOf site
    let c := s.slotOf r.slot.toNat
    let s1 := s.walkSeen c.root.toNat r.va
    if s.walking d r = false then .next s
    else match s.walk c.root.toNat r.va with
      | none => .next (s1.walkEnds d r.page none)
      | some l =>
        let e := (tlbOf c.tenant r.va l).orPerm aBit
        .next (((s1.orLeaf l.addr aBit).addShared site e).walkEnds d r.page (some e))

/-- UNASSIGNED_MESSAGE: a message with an unassigned type code is discarded with a record (R152). -/
def execUnassignedMessage (msg : Nat) (s : State) : Host.Outcome State Fault Refusal :=
  match s.deliver msg with
  | some m =>
    if MT.assigned.contains m.typ then .next s
    else
      .next ((s.dropMsg msg).discard (State.siteOfAgent m.dest) m)
  | none => .next s

end Sys2Proof.Machine
end

