-- ==== Sys2Proof/Machine/Relay.lean ====
section
/-! DEFINITION. Handles, promise slots, held results and the HND instructions; the messages of the Relay (R259 to R277). -/

namespace Sys2Proof.Machine

/-! ### Handles and names (R226, R259) -/

/-- DEV of a handle. -/
def hDev (h : Word) : BitVec 11 := h.extractLsb' 50 11
/-- CORE of a handle. -/
def hCore (h : Word) : Nat := (h.extractLsb' 38 12).toNat
/-- SLOT of a handle. -/
def hSlot (h : Word) : Nat := (h.extractLsb' 29 9).toNat
/-- GEN of a handle. -/
def hGen (h : Word) : BitVec 24 := h.extractLsb' 5 24
/-- Bit 61, which makes a handle a reply token. -/
def tokenBit : Word := 0x2000000000000000#64
/-- A handle without its token bit. -/
def asHandle (t : Word) : Word := t &&& ~~~tokenBit
/-- Well formed as a handle. -/
def wellHandle (h : Word) : Bool := h.extractLsb' 61 3 == 4#3 && h.extractLsb' 0 5 == 0#5 && decide (hCore h < 4000)
/-- Well formed as a reply token. -/
def wellToken (h : Word) : Bool := h.extractLsb' 61 3 == 5#3 && h.extractLsb' 0 5 == 0#5 && decide (hCore h < 4000)
/-- A handle. -/
def mkHandle (dev : BitVec 11) (core : BitVec 12) (slot : Nat) (gen : BitVec 24) : Word :=
  (4#3 ++ dev ++ core ++ BitVec.ofNat 9 slot ++ gen ++ 0#5).setWidth 64

/-- INDEX of a group name. -/
def nmIdx (n : BitVec 48) : Nat := (n.extractLsb' 24 13).toNat
/-- GEN of a group name. -/
def nmGen (n : BitVec 48) : BitVec 24 := n.setWidth 24
/-- DEV of a group name. -/
def nmDev (n : BitVec 48) : BitVec 11 := n.extractLsb' 37 11
/-- The target word of a member (R219). -/
def memberWord (g : BitVec 48) (m : BitVec 12) : Word := (m ++ g).setWidth 64
/-- The group name of a target word. -/
def grpOf (t : Word) : BitVec 48 := t.setWidth 48
/-- The member index of a target word. -/
def memOf (t : Word) : BitVec 12 := t.extractLsb' 48 12
/-- The name of a group. -/
def Group.name (g : Group) : BitVec 48 := (g.dev ++ BitVec.ofNat 13 g.idx ++ g.gen).setWidth 48

/-! ### Fields of an invocation's message (log 10): w0 target, w1 handle, w2 kind and marks, w3 the member it goes to -/

/-- Kind code (R218). -/
def InvKind.code : InvKind → BitVec 2
  | .g => 0 | .m => 1 | .h => 2 | .p => 3
/-- Kind of an invocation. -/
def Msg.kind (m : Msg) : BitVec 2 := m.w[2].setWidth 2
/-- Sent with the sticky bit. -/
def Msg.sticky (m : Msg) : Bool := m.w[2].getLsbD 2
/-- A result travels with it (R265). -/
def Msg.carries (m : Msg) : Bool := m.w[2].getLsbD 3
/-- Its handle; 0 for a post. -/
def Msg.handle (m : Msg) : Word := m.w[1]
/-- Its target word (R219). -/
def Msg.target (m : Msg) : Word := m.w[0]
/-- The member it is for: group name and index. -/
def Msg.member (m : Msg) : Word := (if m.kind = 0 ∨ m.kind = 2 then m.w[3] else m.w[0]) &&& 0x0FFFFFFFFFFFFFFF#64
/-- BOUNCES after one more bounce: it stays at 15 (R251). -/
def Msg.bounced (m : Msg) : BitVec 4 := if m.bounces = 15 then 15 else m.bounces + 1
/-- Argument flits (R218). -/
def Msg.argFlits (m : Msg) : Nat := if m.typ = MT.invx then 3 else if m.typ = MT.pass ∧ m.w[2].getLsbD 5 then 3 else 1
/-- It came as FWD, from a Relay or a group root; the copy for a twin says in w2 bit 6 how the primary's came (R217, R368). -/
def Msg.forwarded (m : Msg) : Bool := if m.fl.twin then m.w[2].getLsbD 6 else m.cls == .fwd
/-- What a record about an arrival names: tag, and the sender's core, thread and device (R214). -/
def Msg.sender (m : Msg) : Word := (m.src.dev ++ m.src.thr ++ m.src.core ++ (0 : BitVec 2) ++ m.rtag).setWidth 64
/-- The sender whose order an invocation or an RSTV keeps: the Relay, of one on a handle, and else the thread (R240, R267). -/
def Msg.stream (m : Msg) : Bool × Who :=
  if m.typ ≠ MT.rstv ∧ m.kind = 2 then (true, ⟨hDev m.target, BitVec.ofNat 12 (hCore m.target), 0⟩) else (false, m.src)
/-- The name that a message for a group carries. -/
def Msg.groupName (m : Msg) : BitVec 48 := if m.typ = MT.inv ∨ m.typ = MT.invx then grpOf m.member else grpOf m.w[0]
/-- The agent that awaits the answer to a message, and its number of it (R237). -/
def Msg.asker (m : Msg) : Agent × Nat := m.back.getD (m.frm, m.id)
/-- An argument word. -/
def Msg.arg (m : Msg) (j : Nat) : Word := m.pay.extractLsb' (64 * j) 64
/-- The code of an argument word in the header (R220). -/
def argCode (hdr : Word) (j : Nat) : Nat := hdr.toNat / 4 ^ (j - 1) % 4
/-- The argument words marked resolve. -/
def Msg.resolves (m : Msg) : List Nat := ((List.range (8 * m.argFlits)).drop 1).filter fun j => argCode (m.arg 0) j == 1
/-- The result that travels with it. -/
def Msg.carried (m : Msg) : BitVec 512 := m.pay.extractLsb' (512 * m.argFlits) 512

namespace State

/-! ### Where messages of the Relay go -/

/-- The agent at a core that a header names. -/
def agentOf (s : State) (site : Nat) (sup : Bool) (ten : BitVec 12) (dev : BitVec 11) (core : Nat) : Agent :=
  if s.ownDev sup ten dev then
    match s.siteOf site core with
    | some p => .core p
    | none => .router site
  else match s.nodeOf sup ten dev with
    | some n => .out (n.toNat + 2048 * (core + 1))
    | none => .router site
/-- The Relay that keeps a handle. -/
def relayAgent (s : State) (site : Nat) (sup : Bool) (ten : BitVec 12) (h : Word) : Agent := s.agentOf site sup ten (hDev h) (hCore h)
/-- A message of the device about message m, toward the Relay of handle h. -/
def toRelay (s : State) (frm : Agent) (site : Nat) (m : Msg) (h : Word) (typ : BitVec 6) : Msg :=
  { id := 0, frm := frm, dest := s.relayAgent site m.fl.sup m.tenant h, cls := .rsp, typ := typ
    dst := ⟨hDev h, BitVec.ofNat 12 (hCore h), m.src.thr⟩, src := ⟨s.devId m.fl.sup m.tenant, s.coreId site, 0⟩
    tenant := m.tenant, fl := { sup := m.fl.sup }, w := #v[h, 0, 0, 0, 0, 0] }
/-- A corrected-rank record of a Relay or an arrival queue, with what it names in ERRSYND (R214, R261, R270). -/
def relayRecord (s : State) (site : Nat) (ten : BitVec 12) (names : Word) : State :=
  s.record (bankOf site) { rank := 1, source := 7, tenant := ten, synd := names, unit := (s.coreId site).toNat }
/-- Break the handle of an invocation with a code and an origin; a post has none (R269). -/
def breakInv (s : State) (frm : Agent) (site : Nat) (m : Msg) (code : Nat) (origin : Word) : State :=
  if m.handle = 0 then s
  else s.send { s.toRelay frm site m m.handle MT.brk with w := #v[m.handle, BitVec.ofNat 64 code, origin, 0, 0, 0] }
/-- The same with the handle itself as origin; a post writes the record. -/
def breakOrRecord (s : State) (frm : Agent) (site : Nat) (m : Msg) (code : Nat) (origin : Word) : State :=
  if m.handle = 0 then s.relayRecord site m.tenant m.rtag.toNat else s.breakInv frm site m code origin

/-! ### Promise slots (R260, R261) -/

/-- A promise slot of a core. -/
def pslot (s : State) (site n : Nat) : PSlot := Map.get (fun _ => {}) (s.core site).relay.slots n
/-- The state with a promise slot changed. -/
def modPslot (s : State) (site n : Nat) (f : PSlot → PSlot) : State :=
  s.modCore site fun c => { c with relay := { c.relay with slots := Map.put c.relay.slots n (f (s.pslot site n)) } }
/-- The FREE slots of a core. -/
def freePslots (s : State) (site : Nat) : List Nat := (List.range 512).filter fun n => (s.pslot site n).st == .free
/-- A new handle for a thread, in the lowest FREE slot (R278). The list of FREE slots is not empty. -/
def newHandle (s : State) (key : Nat) (control : Bool) : Word × State :=
  let site := key / 4
  let n := (s.freePslots site).head?.getD 0
  let w := s.whoOf key
  (mkHandle w.dev w.core n (s.pslot site n).gen,
   s.modPslot site n fun p => { gen := p.gen, st := .pending, control := control, dev := w.dev })

/-- A break record (R269). -/
def breakRec (w0 origin : Word) : BitVec 512 := (origin ++ w0).setWidth 512
/-- Answer a FETCH (R268). Its w1 says what asked: 0 the core, 1 an HWAIT, 2 an HTEST. -/
def answerFetch (s : State) (f : Msg) (broken : Bool) (res : BitVec 512) : State :=
  let r := answerTo f MT.value ((f.spec &&& 7) ||| (if broken then 0x800 else 0))
  s.send { r with w := r.w.set 0 f.w[0], pay := res.setWidth 4096, nflit := 1 }
/-- The slot becomes FREE with the next GEN; HRELEASE goes to the holder (R261, R263). -/
def freePslot (s : State) (site n : Nat) (like : Msg) : State :=
  let p := s.pslot site n
  let s1 := s.modPslot site n fun p => { gen := p.gen + 1 }
  match p.holder with
  | none => s1
  | some w =>
    s1.send { s1.toRelay (.core site) site like 0 MT.hrelease with
      dest := s1.agentOf site p.hsup like.tenant w.dev w.core.toNat, dst := w, fl := { like.fl with sup := p.hsup }
      w := #v[mkHandle p.dev (s.coreId site) n p.gen, 0, 0, 0, 0, 0] }
/-- Free a marked slot that is finished (R275). -/
def maybeFree (s : State) (site n : Nat) (like : Msg) : State :=
  let p := s.pslot site n
  if p.freeMark && p.fifo.isEmpty && (p.st == .resolved || p.st == .broken) then s.freePslot site n like else s

end State

/-- A wait on a handle ends: value and flag are written, the instruction completes (R273). -/
def Thread.endWait (t : Thread) (id : Nat) (v : Bool) (d f : BitVec 5) (broken : Bool) (res : BitVec 512) : Thread :=
  let t1 := if v then t.fillV d (res.setWidth 4096) else t.putX d (res.setWidth 64)
  (t1.putX f (if broken then (res.setWidth 8).setWidth 64 else 0)).complete id

namespace State

/-- A slot resolves or breaks: fetchers and waiting threads are answered, and on a break its waiting invocations break (R261, R268 to R270). -/
def settleSlot (s : State) (site n : Nat) (like : Msg) (broken : Bool) (res : BitVec 512) (holder : Option Who) : State :=
  let p := s.pslot site n
  let s1 := s.modPslot site n fun p =>
    { p with st := if broken then .broken else .resolved, result := res, holder := holder, hsup := like.fl.sup, fetchers := [], waiters := []
             fifo := if broken then [] else p.fifo }
  let s2 := p.fetchers.foldl (fun u f => u.answerFetch f broken res) s1
  let s3 := p.waiters.foldl (fun u (w : Nat × Nat × Bool × Nat × Nat) =>
    u.modThread w.1 fun t => t.endWait w.2.1 w.2.2.1 (BitVec.ofNat 5 w.2.2.2.1) (BitVec.ofNat 5 w.2.2.2.2) broken res) s2
  let s4 := if broken then p.fifo.foldl (fun u m => u.breakOrRecord (.core site) site m 6 (res.extractLsb' 64 64)) s3 else s3
  s4.maybeFree site n like

/-! ### Eligibility (R211, R215, R266) -/

end State

/-- The held-result table has a handle's result. -/
def Core.holds (c : Core) (h : Word) : Bool := c.relay.held.any fun e => e.handle == h
/-- An arrival is eligible (R211). -/
def Arrival.eligible (a : Arrival) (c : Core) (t : Thread) : Bool :=
  a.raw || a.kick ||
    (t.ctl.tgen.getLsbD a.msg.rtag.toNat && a.needs.isEmpty && (a.msg.kind != 2 || c.holds a.msg.target))
/-- The count of eligible cycles begins or pauses. -/
def ageStep (now : Word) (e : Bool) (cyc : Nat) (since : Option Word) : Nat × Option Word :=
  match since with
  | none => (cyc, if e then some now else none)
  | some t => if e then (cyc, some t) else (cyc + (now - t).toNat, none)
/-- Bring the ages of a core's arrivals and request bits up to a change of eligibility (R212, R215). -/
def State.settle (s : State) (site : Nat) : State :=
  let c := s.core site
  let arr := c.arrivals.map fun a =>
    let r := ageStep s.time (a.eligible c (s.thread a.key)) a.cyc a.since
    { a with cyc := r.1, since := r.2 }
  let bits := fun (t : Thread) => { t with reqs := t.reqs.map fun b =>
    let r := ageStep s.time (t.ctl.tgen.getLsbD b.tag) b.cyc b.since
    { b with cyc := r.1, since := r.2 } }
  (List.range 4).foldl (fun u i => if (u.thread (4 * site + i)).reqs.isEmpty then u else u.modThread (4 * site + i) bits)
    (s.modCore site fun c => { c with arrivals := arr })

/-! ### Held results (R263) -/

/-- Arrivals of kind H on a handle that are not counted yet. -/
def Core.waitingOn (c : Core) (h : Word) : Nat := (c.arrivals.filter fun a => a.msg.kind == 2 && a.msg.target == h && !a.counted).length
/-- Room for a new entry: a free one, or one with a count of 0. -/
def heldHasRoom (l : List Held) : Bool := decide (l.length < 256) || l.any fun e => e.count == 0
/-- The table without the entry that a new one replaces, when it is full: the oldest with a count of 0. -/
def heldTrim (l : List Held) : List Held :=
  if l.length < 256 then l else match l.find? fun e => e.count == 0 with
    | some v => l.erase v
    | none => l
/-- Install a result at a core and count the arrivals that wait on it (R263, R266). -/
def Core.install (c : Core) (h : Word) (data : BitVec 512) (held : Bool) : Core :=
  let n := c.waitingOn h
  let e : Held := match c.relay.held.find? fun x => x.handle == h with
    | some x => { x with data := data, held := held || x.held, count := x.count + n }
    | none => { handle := h, data := data, held := held, count := n }
  let rest := c.relay.held.filter fun x => x.handle != h
  { c with
    relay := { c.relay with held := (if rest.length < c.relay.held.length then rest else heldTrim rest) ++ [e] }
    arrivals := c.arrivals.map fun a => if a.msg.kind = 2 ∧ a.msg.target = h then { a with counted := true } else a }
/-- An arrival that was counted on an entry dispatches or breaks (R266). -/
def Core.uncount (c : Core) (a : Arrival) : Core :=
  if a.counted then
    { c with relay := { c.relay with held := c.relay.held.filterMap fun e =>
      if e.handle = a.msg.target then (if e.count ≤ 1 ∧ e.held = false then none else some { e with count := e.count - 1 }) else some e } }
  else c

/-- The core sends one FETCH for a handle that an arrival needs (R266, R268). -/
def State.coreFetch (s : State) (site : Nat) (m : Msg) (h : Word) : State :=
  if (s.core site).relay.fetches.contains h then s
  else
    (s.modCore site fun c => { c with relay := { c.relay with fetches := c.relay.fetches ++ [h] } }).send
      { s.toRelay (.core site) site m h MT.fetch with cls := .req }

/-! ### Messages that a core takes (R153, R320) -/

/-- A message of a type arrives at a core. At a site that takes no part, or for another tenant, it is discarded with a record. -/
def State.coreTakes (s : State) (k : Nat) (typ : BitVec 6) (f : State → Nat → Msg → State) : State :=
  match s.deliver k with
  | none => s
  | some m =>
    if m.typ ≠ typ ∨ isOutAgent m.dest = true then s
    else match m.dest with
      | .core site =>
        if !s.present site || !s.tenantOk site m then (s.dropMsg k).discard site m else f ((s.dropMsg k).wake site) site m
      | .router site => (s.dropMsg k).discard site m
      | _ => s

/-- REPLY at the issuer's Relay (R261). -/
def execReply (msg : Nat) (s : State) : Host.Outcome State Fault Refusal :=
  .next (s.coreTakes msg MT.reply fun u site m =>
    let n := hSlot m.w[0]
    let p := u.pslot site n
    if p.gen = hGen m.w[0] ∧ (p.st = .pending ∨ p.st = .bound) then
      u.settleSlot site n m false (m.pay.setWidth 512) (if m.w[1] = 1 then some m.src else none)
    else u.relayRecord site m.tenant n)

/-- BREAK at the issuer's Relay (R261, R270). -/
def execBreak (msg : Nat) (s : State) : Host.Outcome State Fault Refusal :=
  .next (s.coreTakes msg MT.brk fun u site m =>
    let n := hSlot m.w[0]
    let p := u.pslot site n
    if p.gen = hGen m.w[0] ∧ (p.st = .pending ∨ p.st = .bound) then u.settleSlot site n m true (State.breakRec m.w[1] m.w[2]) none
    else u.relayRecord site m.tenant n)

/-- HTEST's word for a slot (R274). -/
def testWord (p : PSlot) (gen : BitVec 24) : Word :=
  if p.gen ≠ gen then 0x703
  else match p.st with
    | .free => 0x703 | .pending => 0 | .bound => 1 | .resolved => 2
    | .broken => 3 ||| ((p.result.setWidth 8).setWidth 64 <<< 8)

/-- FETCH at the issuer's Relay (R268, R277). -/
def execFetch (msg : Nat) (s : State) : Host.Outcome State Fault Refusal :=
  match s.request msg MT.fetch with
  | none => .next s
  | some m =>
    let s0 := s.dropMsg msg
    match m.dest with
    | .core site =>
      .next (s0.delivered site m fun u =>
        let n := hSlot m.w[0]
        let p := u.pslot site n
        if u.mustRefuse m then u.retryMsg m
        else if m.w[1] = 2 then (u.acceptMsg m).answerFetch m false ((testWord p (hGen m.w[0])).setWidth 512)
        else if p.gen ≠ hGen m.w[0] ∨ p.st = .free then (u.acceptMsg m).answerFetch m true (State.breakRec 7 m.w[0])
        else if p.st = .resolved ∨ p.st = .broken then (u.acceptMsg m).answerFetch m (p.st == .broken) p.result
        else if 128 ≤ ((u.core site).relay.slots.map fun e => e.2.fetchers.length).sum then u.retryMsg m
        else (u.acceptMsg m).modPslot site n fun p => { p with fetchers := p.fetchers ++ [m] })
    | _ => .next (s0.reply m (s.lostStatus m))

/-- An arrival whose resolve arguments on a handle receive their value (R268). -/
def Arrival.supply (a : Arrival) (h v : Word) : Arrival :=
  if a.needs.contains h then
    { a with needs := a.needs.filter (fun x => x != h), vals := a.vals ++ (a.msg.resolves.filter fun j => a.msg.arg j == h).map fun j => (j, v) }
  else a
/-- A result or a break record reaches a core that asked for it (R266, R268, R270). -/
def State.coreValue (u : State) (site : Nat) (h : Word) (broken : Bool) (res : BitVec 512) : State :=
  let s1 := u.modCore site fun c => { c with relay := { c.relay with fetches := c.relay.fetches.filter fun x => x != h } }
  let c := s1.core site
  let hit := fun (a : Arrival) => a.needs.contains h || (a.msg.kind == 2 && a.msg.target == h && !a.counted)
  if broken then
    let s2 := s1.modCore site fun c =>
      ((c.arrivals.filter hit).foldl (fun (x : Core) a => x.uncount a) { c with arrivals := c.arrivals.filter fun a => !hit a })
    ((c.arrivals.filter hit).foldl (fun v a => v.breakOrRecord (.core site) site a.msg 6 (res.extractLsb' 64 64)) s2).settle site
  else
    let s2 := s1.modCore site fun c => { c with arrivals := c.arrivals.map fun a => a.supply h (res.setWidth 64) }
    if c.waitingOn h = 0 then s2.settle site
    else if c.holds h || heldHasRoom c.relay.held then (s2.modCore site fun c => c.install h res false).settle site
    else
      -- no entry can be taken for the result: it is asked for again (log 38)
      match c.arrivals.find? fun a => a.msg.kind == 2 && a.msg.target == h && !a.counted with
      | some a => (s2.settle site).coreFetch site a.msg h
      | none => s2.settle site

/-- VALUE at the core that asked (R268, R273, R274). -/
def execValue (msg : Nat) (s : State) : Host.Outcome State Fault Refusal :=
  .next (s.coreTakes msg MT.value fun u site m =>
    let broken := m.spec.getLsbD 11
    let res : BitVec 512 := m.pay.setWidth 512
    let key := m.threadAt site
    if m.w[1] = 1 then (u.modThread key fun t =>
      match t.slots[m.slot]?.getD none with
      | some q => match q.op with
        | .hwait v d f => (t.freeSlot m.slot).endWait q.id v d f broken res
        | .loadX _ _ | .loadV _ _ | .store _ | .ldfe _ _ | .stfe _ _ | .atomic _ _ _ _ => t.freeSlot m.slot
      | none => t).slotFreed key m.slot
    else if m.w[1] = 2 then u.modThread key fun t => if t.asked then { t with answer := some (res.setWidth 64) } else t
    else u.coreValue site m.w[0] broken res)

/-- HRELEASE at the holder (R263). -/
def execHrelease (msg : Nat) (s : State) : Host.Outcome State Fault Refusal :=
  .next (s.coreTakes msg MT.hrelease fun u site m =>
    u.modCore site fun c => { c with relay := { c.relay with held := c.relay.held.filterMap fun e =>
      if e.handle = m.w[0] then (if e.count = 0 then none else some { e with held := false }) else some e } })

/-! ### Invocations on handles at the Relay (R261, R265, R267, R277) -/

/-- Entries that an invocation takes in the wait store. -/
def storeSize (m : Msg) : Nat := if m.argFlits = 3 then 2 else 1
/-- Entries of a Relay's wait store in use. -/
def Core.storeUsed (c : Core) : Nat := (c.relay.slots.map fun e => (e.2.fifo.map storeSize).sum).sum

/-- The forwarded form of an invocation on a handle: to the consumer, with the result where there is one (R265). -/
def State.forwardH (s : State) (site : Nat) (p : PSlot) (m : Msg) : State :=
  match p.consumer with
  | none => s
  | some c =>
    let carry := p.st == .resolved
    s.send { m with
      frm := .core site, cls := .fwd, dest := s.agentOf site p.csup m.tenant c.core.dev c.core.core.toNat, dst := c.core
      nflit := BitVec.ofNat 4 (m.argFlits + (if carry then 1 else 0)), fl := { m.fl with resent := false }, tries := 0
      pay := if carry then (m.pay &&& (BitVec.ofNat 4096 (2 ^ (512 * m.argFlits) - 1))) ||| (p.result.setWidth 4096 <<< (512 * m.argFlits)) else m.pay
      w := (m.w.set 3 (memberWord c.grp c.member)).set 2 (if carry then m.w[2] ||| 8 else m.w[2]) }

/-- An invocation on a handle reaches the issuer's Relay (R261). -/
def State.onHandle (u : State) (site : Nat) (m : Msg) : State :=
  let h := m.target
  let n := hSlot h
  let p := u.pslot site n
  let ok := (u.acceptMsg m).reply m 0
  let fwd := fun (v : State) => ((v.acceptMsg m).reply m 0).forwardH site p m
  if p.gen ≠ hGen h ∨ p.st = .free then (if m.handle = 0 then ok.relayRecord site m.tenant n else ok.breakInv (.core site) site m 7 m.handle)
  else if p.st = .broken then ok.breakOrRecord (.core site) site m 6 (p.result.extractLsb' 64 64)
  else if p.control then ok.breakOrRecord (.core site) site m 1 m.handle
  else if p.consumer.isSome ∧ p.fifo = [] then u.withEgress (.core site) m fwd
  else if 64 < (u.core site).storeUsed + storeSize m then u.retryMsg m
  else ok.modPslot site n fun p => { p with fifo := p.fifo ++ [m] }

/-- RELAY_FORWARD: the first invocation that waits on a slot goes to the consumer (R261, R265). -/
def execRelayForward (site slot : Nat) (s : State) : Host.Outcome State Fault Refusal :=
  let p := s.pslot site slot
  match p.consumer, p.fifo with
  | some _, m :: r =>
    let go := fun (u : State) => ((u.forwardH site p m).modPslot site slot fun p => { p with fifo := r }).maybeFree site slot m
    if s.fwdHeld (.core site) then
      match s.drawBool with
      | (true, u) => .next u
      | (false, u) => .next (go u)
    else .next (go s)
  | _, _ => .next s

/-! ### Sticky passes and ACCEPT (R222, R261, R262) -/

/-- The accept of a sticky pass: its entry binds to the acceptor, and the passes that waited go to it (R222). -/
def State.bindSticky (s : State) (key : Nat) (member : Word) (cls : BitVec 2) (send : State → Msg → State) : State :=
  let t := s.thread key
  match t.sticky.find? fun e => e.grp == grpOf member && e.cls == cls with
  | none => s
  | some e =>
    let s1 := s.modThread key fun t => { t with sticky := t.sticky.map fun x =>
      if x.grp = e.grp ∧ x.cls = e.cls then { x with acceptor := some (memOf member), waiting := [] } else x }
    e.waiting.foldl (fun u m => send u { m with typ := if m.argFlits = 3 then MT.invx else MT.inv, w := m.w.set 3 member }) s1

/-! ### The instructions (R272 to R276) -/

/-- The handle names the executing core and device (R273, R275). -/
def State.ownHandle (u : State) (h : Word) : Bool :=
  u.ownDev u.src.sup u.src.ctl.tenant (hDev h) && u.siteOf u.site (hCore h) == some u.site
/-- A message as its issuer sends it to the Relay of a handle. -/
def State.askRelay (u : State) (h : Word) (what : Word) (slot : Nat) : State :=
  u.send { id := 0, frm := .core u.site, dest := u.relayAgent u.site u.cur.sup u.cur.ctl.tenant h, cls := .req, typ := MT.fetch
           dst := ⟨hDev h, BitVec.ofNat 12 (hCore h), 0⟩, src := u.whoOf u.ctx.key, tenant := u.coreTenant u.site
           fl := { sup := u.cur.sup }, spec := BitVec.ofNat 19 (slot % 8), w := #v[h, what, 0, 0, 0, 0] }
/-- The tracked instruction with a number is an acquire. -/
def State.markAcq (u : State) (id : Nat) : State :=
  u.modCur fun t => { t with outst := t.outst.map fun o => if o.id = id then { o with acq := true } else o }

/-- HWAIT and HWAITV (R273). -/
def State.hwait (u : State) (i : Instr) (v : Bool) (d : BitVec 5) (xh xf : XReg) (dst : List RegRef) : SlotRes :=
  let h := u.rx xh
  if wellHandle h = false then u.operand
  else if u.ownHandle h then
    let p := u.pslot u.site (hSlot h)
    let (id, u1) := u.track i dst
    if p.gen ≠ hGen h ∨ p.st = .free then .done (u1.modCur fun t => t.endWait id v d xf true (State.breakRec 7 h))
    else if p.st = .resolved ∨ p.st = .broken then .done (u1.modCur fun t => t.endWait id v d xf (p.st == .broken) p.result)
    else .done ((u1.markAcq id).modPslot u.site (hSlot h) fun p =>
      { p with waiters := p.waiters ++ [(u.ctx.key, id, v, d.toNat, xf.toNat)] })
  else match u.cur.freeSlots with
    | [] => u.hold
    | n :: _ =>
      let (id, u1) := u.track i dst
      let q : Req := { id := id, op := .hwait v d xf, el := ⟨0, 0, 0⟩, addr := h, home := u.relayAgent u.site u.src.sup u.src.ctl.tenant h, loc := 0 }
      .done (((u1.markAcq id).modCur fun t => { t with slots := t.slots.setIfInBounds n (some q) }).askRelay h 1 n)

/-- HWAIT (R273). -/
def execHwait (d xh xf : XReg) (la : BitVec 4) (st : State) : Host.Outcome State Fault Refusal :=
  slot (.hwait d xh xf la) (fun u => u.hwait (.hwait d xh xf la) false d xh xf (xRef d ++ xRef xf)) st
/-- HWAITV (R273). -/
def execHwaitv (d : VReg) (xh xf : XReg) (la : BitVec 4) (st : State) : Host.Outcome State Fault Refusal :=
  slot (.hwaitv d xh xf la) (fun u => u.hwait (.hwaitv d xh xf la) true d xh xf (vRef d ++ xRef xf)) st

/-- Hold the bundle until an agent has answered, and ask it once. -/
def State.await (u : State) (ask : State → State) (f : Word → SlotRes) : SlotRes :=
  match u.src.answer with
  | some v => f v
  | none => .wait fun s => if s.cur.asked then s else (ask s).modCur fun t => { t with asked := true }

/-- HTEST (R274). -/
def execHtest (d xh : XReg) (st : State) : Host.Outcome State Fault Refusal :=
  slot (.htest d xh) (fun u =>
    let h := u.rx xh
    if wellHandle h = false then u.operand
    else if u.ownHandle h then .done (u.wx d (testWord (u.pslot u.site (hSlot h)) (hGen h)))
    else u.await (fun s => s.askRelay h 2 0) fun v => .done (u.wx d v)) st

/-- The header fields that a message of the issuing thread would carry, for messages its core sends on its account. -/
def State.mineMsg (u : State) : Msg :=
  { id := 0, frm := .core u.site, dest := .core u.site, cls := .rsp, typ := 0, dst := ⟨0, 0, 0⟩, src := u.whoOf u.ctx.key
    tenant := u.coreTenant u.site, fl := { sup := u.cur.sup } }

/-- HFREE (R275). -/
def execHfree (xh : XReg) (st : State) : Host.Outcome State Fault Refusal :=
  slot (.hfree xh) (fun u =>
    let h := u.rx xh
    if wellHandle h = false ∨ u.ownHandle h = false then u.operand
    else
      let p := u.pslot u.site (hSlot h)
      if p.gen ≠ hGen h ∨ p.st = .free then .done u
      else .done ((u.modPslot u.site (hSlot h) fun p => { p with freeMark := true }).maybeFree u.site (hSlot h) u.mineMsg)) st

/-- The activation has sent its reply (R225). -/
def Thread.didReply (t : Thread) (h : Word) : Thread :=
  match t.act with
  | some a => if a.handle = h then { t with act := some { a with replied := true } } else t
  | none => t

/-- The mode in which a token's device is read: that of the invocation for the token of the thread's own activation, else the thread's (R14, R259). -/
def State.tokenSup (u : State) (t : Word) : Bool :=
  match u.cur.act with
  | some a => if a.handle = asHandle t then a.sup else u.cur.sup
  | none => u.cur.sup
/-- Send a reply through a token (R263, R276). -/
def State.hreply (u : State) (t : Word) (r : BitVec 512) : SlotRes :=
  if wellToken t = false then u.fault .token t
  else if u.drained u.ctx.key = false then u.hold
  else
    let h := asHandle t
    let room := heldHasRoom u.myCore.relay.held || u.myCore.holds h
    let u1 := if room then u.modMyCore fun c => c.install h r true else u
    let like := { u.mineMsg with fl := { sup := u.tokenSup t } }
    let m := { u.toRelay (.core u.site) u.site like h MT.reply with
      src := { u.whoOf u.ctx.key with dev := u.devId like.fl.sup like.tenant }, w := #v[h, if room then 1 else 0, 0, 0, 0, 0], pay := r.setWidth 4096, nflit := 1 }
    .done (((u1.send m).modCur fun t => t.didReply h).settle u.site)

/-- HREPLY (R276). -/
def execHreply (xt xv : XReg) (st : State) : Host.Outcome State Fault Refusal :=
  slot (.hreply xt xv) (fun u => u.hreply (u.rx xt) ((u.rx xv).setWidth 512)) st
/-- HREPLYV (R276). -/
def execHreplyv (xt : XReg) (vs : VReg) (st : State) : Host.Outcome State Fault Refusal :=
  slot (.hreplyv xt vs) (fun u => u.hreply (u.rx xt) ((u.rv vs).setWidth 512)) st
/-- HBREAK (R276). -/
def execHbreak (xt xc : XReg) (st : State) : Host.Outcome State Fault Refusal :=
  slot (.hbreak xt xc) (fun u =>
    let t := u.rx xt
    if wellToken t = false then u.fault .token t
    else
      let h := asHandle t
      let m := { u.toRelay (.core u.site) u.site { u.mineMsg with fl := { sup := u.tokenSup t } } h MT.brk with
        w := #v[h, 2 ||| (((u.rx xc).setWidth 8).setWidth 64 <<< 8), h, 0, 0, 0] }
      .done ((u.send m).modCur fun t => t.didReply h)) st

end Sys2Proof.Machine
end

