-- ==== Sys2Proof/Machine/Arrive.lean ====
section
/-! DEFINITION. How invocations are sent, and how arrivals are accepted at a member's core, at a Relay and at a group root
(R157, R209 to R211, R214, R218 to R224, R236 to R238, R265, R266, R393). -/

namespace Sys2Proof.Machine

/-! ### Device memory by virtual addresses of a context (R299, R301, R315) -/

/-- Pieces of a range, one per line of 128 bytes: address, offset, length. -/
def linesOf (va n : Nat) : List (Nat × Nat × Nat) :=
  (List.range (n / 128 + 2)).filterMap fun i =>
    let lo := max va ((va / 128 + i) * 128)
    let hi := min (va + n) ((va / 128 + i + 1) * 128)
    if lo < hi then some (lo, lo - va, hi - lo) else none

namespace State

/-- Write n bytes at a virtual address of a context slot, under its tenant's key; true when a line could not be written. -/
def devWrite (s : State) (site sl va n v : Nat) : State × Bool :=
  let c := s.slotOf sl
  match s.keyOf c.tenant with
  | none => (s, true)
  | some key =>
    (linesOf va n).foldl (fun (u : State × Bool) (p : Nat × Nat × Nat) =>
      let u1 := u.1.xlDone site c.root.toNat c.tenant (p.1 % 2 ^ 48) true
      match u.1.xlOf site c.root.toNat c.tenant (p.1 % 2 ^ 48) with
      | none => (u1, true)
      | some e =>
        if leafOk e.perm .write = false then (u1, true)
        else
          let a := e.phys (p.1 % 2 ^ 48)
          let u2 := u1.mendSeen c.tenant key a p.2.2 true
          match u2.hbm.write key a p.2.2 (v / 2 ^ (8 * p.2.1) % 2 ^ (8 * p.2.2)) false with
          | some h => ({ u2 with hbm := h }, u.2)
          | none => (u2.flawSeen c.tenant (u2.hbm.flaws key a p.2.2 true), true)) (s, false)

/-- What such a read does: the translations of its lines, with A set in the leaves that are loaded (R329), the records of what ECC and the tags say
(R333). -/
def devSeen (s : State) (site sl va n : Nat) : State :=
  let c := s.slotOf sl
  match s.keyOf c.tenant with
  | none => s
  | some key =>
    (linesOf va n).foldl (fun (u : State) (p : Nat × Nat × Nat) =>
      let u1 := u.xlDone site c.root.toNat c.tenant (p.1 % 2 ^ 48) false
      match u.xlOf site c.root.toNat c.tenant (p.1 % 2 ^ 48) with
      | none => u1
      | some e => if leafOk e.perm .read then u1.secSeen c.tenant key (e.phys (p.1 % 2 ^ 48)) p.2.2 else u1) s
/-- Read n bytes at a virtual address of a context slot; true when a line could not be read, or is poisoned. -/
def devRead (s : State) (site sl va n : Nat) : Nat × Bool :=
  let c := s.slotOf sl
  match s.keyOf c.tenant with
  | none => (0, true)
  | some key =>
    (linesOf va n).foldl (fun (u : Nat × Bool) (p : Nat × Nat × Nat) =>
      match s.xlOf site c.root.toNat c.tenant (p.1 % 2 ^ 48) with
      | none => (u.1, true)
      | some e =>
        if leafOk e.perm .read = false then (u.1, true)
        else
          let r := s.hbm.read key (e.phys (p.1 % 2 ^ 48)) p.2.2
          (u.1 + r.1 * 2 ^ (8 * p.2.1), u.2 || r.2)) (0, false)

end State

namespace State

/-! ### Groups as messages find them -/

/-- A message may not act on a group: it is of another tenant (R248, R303). -/
def denied (g : Group) (m : Msg) : Bool := m.tenant != g.tenant
/-- The group of a name, when the name is not stale and the group has not ended (R226). -/
def groupOf (s : State) (n : BitVec 48) : Option Group :=
  match Map.find s.groups (nmIdx n) with
  | some g => if g.gen = nmGen n then some g else none
  | none => none
/-- The state with a group changed. -/
def modGroup (s : State) (i : Nat) (f : Group → Group) : State :=
  match Map.find s.groups i with
  | some g => { s with groups := Map.put s.groups i (f g) }
  | none => s
/-- The root of a group takes messages: it has been placed and has not ended (R229). -/
def liveRoot (s : State) (gi : Nat) (n : BitVec 48) : Option Group :=
  match Map.find s.groups gi with
  | some g => if g.gen = nmGen n ∧ g.st ≠ .allocated ∧ g.st ≠ .ended then some g else none
  | none => none
/-- This device allocated a name: DEV is its logical id in a tenant's map (R14, R226). Tenant 0, which has no map, names a live group by its whole name. -/
def ownName (s : State) (ten : BitVec 12) (n : BitVec 48) : Bool :=
  s.ownDev false ten (nmDev n) || (ten == 0 && (match s.groupOf n with | some g => g.name == n | none => false))
/-- The agent that is the root of a group, for a tenant's messages from a site. -/
def rootAgent (s : State) (site : Nat) (ten : BitVec 12) (n : BitVec 48) : Agent :=
  if s.ownName ten n then .root (nmIdx n)
  else match s.nodeOf false ten (nmDev n) with
    | some d => .out d.toNat
    | none => .router site
/-- The thread of a site that holds a member. -/
def residentAt (s : State) (site : Nat) (t : Word) : Option Nat :=
  ((List.range 4).map fun i => 4 * site + i).find? fun k =>
    match (s.thread k).res with
    | some r => r.name == grpOf t && r.member == memOf t && !r.isTwin
    | none => false

/-! ### Acceptance (R209, R210, R214, R224) -/

/-- Entries of the input buffer that are not reserved and are taken. -/
def bufUsed (c : Core) : Nat := (c.arrivals.filter fun a => a.spill.isNone && !a.resv).length
/-- A free entry of a member's spill area; the last entry is the receiver record (R209, R264). -/
def freeSpill (c : Core) (key : Nat) (r : Resident) : Option Nat :=
  (List.range (r.spillN - 1)).find? fun e => !(c.arrivals.any fun a => a.key == key && a.spill == some e)
/-- Where an arrival for a member goes: the input buffer or a spill entry; none when both are full. -/
def placeFor (s : State) (key : Nat) (r : Resident) : Option (Option Nat) :=
  let c := s.core (key / 4)
  if bufUsed c < 28 then some none else (freeSpill c key r).map some
/-- An entry of the method table (R73). -/
def method (tab : VWord) (tag : Nat) : Word := tab.extractLsb' (64 * tag) 64
/-- V of an entry. -/
def methodV (e : Word) : Bool := e.getLsbD 42

/-- Count an arrival on the entry that holds its target's result (R266). -/
def recount (c : Core) (h : Word) : Core :=
  match c.relay.held.find? fun e => e.handle == h with
  | some e => c.install h e.data e.held
  | none => c
/-- The invocation that produces a handle is queued or running on a member (R266). -/
def producing (s : State) (key : Nat) (h : Word) : Bool :=
  (match (s.thread key).act with | some a => a.handle == h | none => false) ||
    (s.core (key / 4)).arrivals.any fun a => a.key == key && a.msg.handle == h

/-- What a primary's core accepts for its member goes to the twin's core as well (R368). -/
def twinCopy (s : State) (key : Nat) (m : Msg) (kick : Bool) : State :=
  match (s.thread key).res with
  | none => s
  | some r => match r.twin, r.isTwin with
    | some tk, false => s.send { m with
        frm := .core (key / 4), dest := .core (tk / 4), cls := .fwd, typ := if kick then MT.kick else m.typ
        back := none, tries := 0, fl := { m.fl with twin := true, resent := false, last := false }, dst := { m.dst with thr := BitVec.ofNat 2 tk }
        w := if m.cls = .fwd then m.w.set 2 (m.w[2] ||| 0x40) else m.w }
    | _, _ => s

/-- The core has accepted an arrival in this cycle: it takes no other (R210). -/
def accepting (s : State) (site : Nat) : Bool := (s.core site).lastAcc == some s.time
/-- The state once a core has accepted an arrival (R210). -/
def accepted (s : State) (site : Nat) : State := s.modCore site fun c => { c with lastAcc := some s.time }

/-- An arrival joins a member's queue: a spill entry is written, the values it needs are asked for (R209, R210, R265, R266, R268). -/
def addArrival (s : State) (key : Nat) (m : Msg) (kick : Bool) (spill : Option Nat) : State :=
  let site := key / 4
  let c := s.core site
  let needs := if kick then [] else ((m.resolves.map fun j => m.arg j).eraseDups)
  let a : Arrival := { msg := m, key := key, ord := c.arrOrd, tacc := s.time, kick := kick, spill := spill, needs := needs }
  let s1 := (s.accepted site).modCore site fun c => { c with arrivals := c.arrivals ++ [a], arrOrd := c.arrOrd + 1 }
  let s2 := match spill, (s.thread key).res with
    | some e, some r => s1.locStore site (r.spillOff + 256 * e) 256 m.spillBytes false
    | _, _ => s1
  let s3 := if kick = false ∧ m.kind = 2 then
      if m.carries then s2.modCore site fun c => c.install m.target m.carried false
      else if (s2.core site).holds m.target then s2.modCore site fun c => recount c m.target
      else if s.producing key m.target then s2
      else s2.coreFetch site m m.target
    else s2
  ((needs.foldl (fun u h => u.coreFetch site m h) s3).settle site).twinCopy key m kick

/-- The held-result table can take the result that travels with an invocation (R265). -/
def hasRoom (s : State) (site : Nat) (m : Msg) : Bool :=
  !(m.kind == 2 && m.carries) || (s.core site).holds m.target || heldHasRoom (s.core site).relay.held

/-- The copy of an arrival reaches the twin's core, in the order in which the primary's core accepted; a pass takes from the readiness there as well
(R250, R368). One that the site turns away names nothing in its answer: the Referee finds the difference (log 105). -/
def twinArrival (s : State) (site : Nat) (m : Msg) (kick : Bool) : State :=
  let key := 4 * site + m.dst.thr.toNat
  let before := fun (o : Msg) => o.fl.twin && o.cls == .fwd && o.dest == m.dest && o.dst.thr == m.dst.thr && decide (o.id < m.id)
  match s.refusal site m, (s.thread key).res with
  | some st, _ => (s.acceptMsg m).send { statusMsg m st with w := Vector.replicate 6 0 }
  | none, none => s
  | none, some r =>
    if r.isTwin = false then s
    else match if (s.resend.any fun e => before e.1) || s.net.any before || !s.hasRoom site m then none else s.placeFor key r with
      | some sp =>
        let s1 := s.addArrival key m kick sp
        if m.typ = MT.pass then s1.modThread key fun t =>
          let c := (m.target.extractLsb' 48 2).toNat
          { t with ready := t.ready.setIfInBounds c (t.ready[c]?.getD 0 - 1) }
        else s1
      | none => { s with resend := s.resend ++ [(m, s.time + 64)] }

/-- An accepted arrival joins the queue, unless its tag has V = 0: it is removed at once, with a record (R214). -/
def joinQueue (s : State) (key : Nat) (r : Resident) (m : Msg) (spill : Option Nat) : State :=
  let site := key / 4
  if methodV (method r.mtab m.rtag.toNat) then s.addArrival key m false spill
  else ((s.accepted site).relayRecord site m.tenant m.sender).breakInv (.core site) site m 1 m.handle
/-- The LAST message of a sender has been taken (R238). -/
def tookLast (s : State) (key : Nat) (m : Msg) : State :=
  if m.fl.last then s.modThread key fun t => { t with res := t.res.map fun r => { r with lastOf := r.lastOf.filter fun w => w != m.stream } }
  else s
/-- A member's core takes an invocation for it (R209, R214, R265); the answer goes back to the sender. -/
def acceptMember (s : State) (key : Nat) (r : Resident) (m : Msg) : State :=
  if s.mustRefuse m = true ∨ s.hasRoom (key / 4) m = false then s.retryMsg m
  else match s.placeFor key r with
    | none => s.retryMsg m
    | some sp => (((s.tookLast key m).acceptMsg m).reply m 0).joinQueue key r m sp

/-- A raw arrival takes its thread's reserved entry or a free one (R223, R224). -/
def acceptRaw (s : State) (site : Nat) (m : Msg) : State :=
  let c := s.core site
  let key := 4 * site + m.dst.thr.toNat
  let resvFree := !(c.arrivals.any fun a => a.key == key && a.resv)
  if s.mustRefuse m then s.retryMsg m
  else if resvFree = false ∧ 28 ≤ bufUsed c then s.retryMsg m
  else
    let a : Arrival := { msg := m, key := key, ord := c.arrOrd, tacc := s.time, raw := true, resv := resvFree }
    (((s.acceptMsg m).reply m 0).accepted site).modCore site fun c => { c with arrivals := c.arrivals ++ [a], arrOrd := c.arrOrd + 1 }

/-- A message for a member that is not here goes on to the group root (R237, R320). -/
def toRoot (s : State) (site : Nat) (m : Msg) : State :=
  if s.mustRefuse m then s.retryMsg m
  else s.withEgress (.core site) m fun s => (s.acceptMsg m).send { m with
    frm := .core site, dest := s.rootAgent site m.tenant (grpOf m.member), cls := .fwd, tries := 0
    fl := { m.fl with resent := false, last := false }, back := some (m.back.getD (m.frm, m.id)) }

/-! ### At the group root (R236 to R238) -/

/-- Entries of a member's redirect queue (R227). -/
def queueDepth (g : Group) : Nat := if g.desc.qdepth = 0 then 64 else g.desc.qdepth
/-- The 256-byte entry of a message at an offset of the root area is written, in the group's context (R227, R315); true when that fails. -/
def rootPut (s : State) (g : Group) (off : Nat) (m : Msg) : State × Bool :=
  s.devWrite g.root g.desc.slot.toNat (g.desc.qbase.toNat + off) 256 m.spillBytes
/-- A message as its entry holds it; what the entry has no room for, the rest of an RSTV's data, stays beside it (log 44). None when the entry
cannot be read (R227). -/
def rootGet (s : State) (g : Group) (off : Nat) (m : Msg) : Option Msg :=
  let x := s.devRead g.root g.desc.slot.toNat (g.desc.qbase.toNat + off) 256
  if x.2 then none else some { m.unspill x.1 with typ := m.typ, cls := m.cls, ent := none }
/-- The records of what such a read finds (R333). -/
def rootSeen (s : State) (g : Group) (off : Nat) : State := s.devSeen g.root g.desc.slot.toNat (g.desc.qbase.toNat + off) 256
/-- The lowest entry that none of some messages takes. -/
def freeEntry (q : List Msg) (n : Nat) : Option Nat := (List.range n).find? fun e => !(q.any fun m => m.ent == some e)
/-- Offset of an entry of a member's redirect queue in the root area (R227). -/
def queueOff (g : Group) (mem n : Nat) : Nat := 256 * (g.desc.benchsp + queueDepth g * mem + n)
/-- A message of a member's queue as its entry holds it; one beyond QDEPTH, which has joined at a park, has no entry (log 49). -/
def queueGet (s : State) (g : Group) (mem : Nat) (m : Msg) : Option Msg :=
  match m.ent with
  | none => some m
  | some e => s.rootGet g (queueOff g mem e) m
/-- The records of what such a read finds. -/
def queueSeen (s : State) (g : Group) (mem : Nat) (m : Msg) : State :=
  match m.ent with
  | none => s
  | some e => s.rootSeen g (queueOff g mem e)
/-- The sender's core need no longer count an invocation that a root has taken (R157). -/
def rootTook (s : State) (m : Msg) : State :=
  match m.asker.1 with
  | .core p => s.modCore p fun c => { c with sent := c.sent.map fun e => if e.id = m.asker.2 then { e with counts := false } else e }
  | _ => s
/-- A member's record in its group. -/
def memberRec (g : Group) (i : Nat) : Option MemberRec := g.members[i]?
/-- The state with a member's record changed. -/
def modMember (s : State) (gi i : Nat) (f : MemberRec → MemberRec) : State :=
  s.modGroup gi fun g => { g with members := g.members.mapIdx fun k r => if k = i then f r else r }

/-- A message joins a member's redirect queue, at its end or at a place in it: its entry in the root area is written (R227, R238). None when that
fails; with every entry taken, which a park alone can meet, the message has none (log 49). -/
def queueJoin (s : State) (g : Group) (mem : Nat) (m : Msg) (place : Option Nat) : Option State :=
  match memberRec g mem with
  | none => some s
  | some r =>
    let e := freeEntry r.queue (queueDepth g)
    let a := match e with
      | none => (s, false)
      | some n => s.rootPut g (queueOff g mem n) m
    let x := { m with ent := e }
    if a.2 then none
    else some (a.1.modMember g.idx mem fun r => { r with queue := match place with
      | some i => r.queue.take i ++ x :: r.queue.drop i
      | none => r.queue ++ [x] })
/-- The member that a message for a member names. -/
def memIdx (m : Msg) : Nat := (memOf (if m.typ = MT.rstv then m.w[0] else m.member)).toNat
/-- A message that a drain has sent for a member awaits its answer (R237). -/
def drainOut (g : Group) (mem : Nat) : Bool := g.fwds.any fun e => memIdx e.2 == mem
/-- A message at its group's root: whether a core has sent back what a drain had sent it, and the message as its sender sent it. The root
answers the original sender, and applies R157 to it, as if it were the receiver (R237, R238). -/
def rootTakes (s : State) (g : Group) (m : Msg) : Bool × Msg × State :=
  match m.back with
  | none => (false, m, s)
  | some (a, i) =>
    match if a = .root g.idx then g.fwds.find? (fun e => e.1 == i) else none with
    | some e => (true, e.2, s.modGroup g.idx fun g => { g with fwds := g.fwds.filter fun x => x.1 != i })
    | none => (false, { m with frm := a, id := i, cls := .req, back := none }, s)
/-- A former root site sends a message on to the root as FWD (R156, R229). -/
def formerRoot (s : State) (k site : Nat) (m : Msg) : State :=
  let u := s.dropMsg k
  if u.mustRefuse m then u.retryMsg m
  else u.withEgress (.former site) m fun v => (v.acceptMsg m).send { m with
    frm := .former site, dest := .root (nmIdx m.groupName), cls := .fwd, tries := 0, fl := { m.fl with resent := false }, back := some m.asker }

/-- An invocation for a member reaches its group's root, which queues it for the member or answers for it (R236 to R238). -/
def invAtRoot (s0 : State) (g : Group) (m0 : Msg) : State :=
  let came := (s0.rootTakes g m0).1
  let m := (s0.rootTakes g m0).2.1
  let s := (s0.rootTakes g m0).2.2
  let ok := ((s.acceptMsg m).rootTook m).reply m 0
  let post := fun (u : State) => if m.handle = 0 then u.relayRecord g.root m.tenant m.rtag.toNat else u
  if m.fl.sup = false ∧ m.tenant ≠ g.tenant then (post ok).breakInv (.root g.idx) g.root m 9 m.handle
  else if g.st = .draining ∧ m.kept = false then (post ok).breakInv (.root g.idx) g.root m 5 m.handle
  else match memberRec g (memOf m.member).toNat with
    | none => ok.breakInv (.root g.idx) g.root m 4 m.handle
    | some r =>
      if r.st ≠ .active then
        if m.kind = 0 then
          -- a sticky pass whose member has left is steered anew (R222)
          ok.send { m with frm := .root g.idx, dest := .root g.idx, cls := .fwd, typ := MT.pass, bounces := m.bounced, back := none, tries := 0 }
        else ok.breakInv (.root g.idx) g.root m 4 m.handle
      else if came = false ∧ (queueDepth g ≤ r.queue.length ∨ s.mustRefuse m = true) then s.retryMsg m
      else match s.queueJoin g (memOf m.member).toNat m (if came then some r.ahead else none) with
        | none => (post ok).breakInv (.root g.idx) g.root m 1 m.handle
        | some u => (u.acceptMsg m).rootTook m

/-- An invocation at a core (R209, R236, R237, R265, R320). -/
def invAtCore (s : State) (site : Nat) (m : Msg) : State :=
  if m.fl.twin then s.twinArrival site m false
  else if m.fl.raw then s.delivered site m fun u => u.acceptRaw site m
  else if m.kind = 2 ∧ m.cls = .req then
    s.delivered site m fun u => if u.mustRefuse m then u.retryMsg m else u.onHandle site m
  else if !s.present site then s.turnAway site m 2
  else match s.residentAt site m.member with
    | none => s.toRoot site m
    | some key =>
      match (s.thread key).res with
      | none => s.toRoot site m
      | some r =>
        if !s.tenantOk site m then s.turnAway site m 3
        else if r.st ≠ .active then
          if m.kind = 0 then s.toRoot site m
          else ((s.acceptMsg m).reply m 0).breakInv (.core site) site m 4 m.handle
        else if r.saving ∨ r.late then s.toRoot site m
        else match s.groupOf (grpOf m.member) with
          | some g =>
            if g.st = .draining ∧ m.kept = false then ((s.acceptMsg m).reply m 0).breakInv (.core site) site m 5 m.handle
            else (s.wake site).acceptMember key r m
          | none => (s.wake site).acceptMember key r m

/-- An earlier message of the sender for the member is still on its way to the group's root, in the member's redirect queue there, or on its way back
from it (R240, R267). -/
def goesBefore (s : State) (g : Group) (mem : Nat) (m : Msg) : Bool :=
  let same := fun (o : Msg) => [MT.inv, MT.invx, MT.rstv].contains o.typ && o.stream == m.stream && o.groupName == g.name && memIdx o == mem
  let back := fun (o : Msg) => (match o.dest with | .root gi => gi == g.idx | .former _ => true | _ => false) && same o
  s.net.any back || s.refused.any back || (s.resend.any fun e => back e.1) || g.fwds.any (fun e => same e.2) ||
    ((memberRec g mem).map fun r => r.queue.any same) == some true
/-- A message that comes to a member's core from its sender, or from a Relay, and not from the member's redirect queue. -/
def isDirect (m : Msg) : Bool :=
  !m.fl.raw && !m.fl.twin && (m.cls == .req || (m.cls == .fwd && (match m.frm with | .root _ => false | _ => true)))
/-- The core holds a direct message for a member until the sender's LAST message has been accepted (R238), and what the sender sent before it (R240). -/
def heldForLast (s : State) (m : Msg) : Bool :=
  match m.dest with
  | .core site =>
    if isDirect m = false then false
    else match s.residentAt site m.member with
      | some key => match (s.thread key).res with
        | some r => r.lastOf.contains m.stream || ((Map.find s.groups r.grp).map fun g => s.goesBefore g r.member.toNat m) == some true
        | none => false
      | none => false
  | _ => false

/-! ### The order of acceptance (R210) -/

/-- SDEV, SCORE and STHR of a header as one number. -/
def whoKey (w : Who) : Nat := w.dev.toNat * 2 ^ 14 + w.core.toNat * 4 + w.thr.toNat
/-- A message has been ready at a core since an earlier cycle. -/
def readyAt (s : State) (site : Nat) (m : Msg) : Bool :=
  (s.core site).offered.any fun e => e.1 == m.id && e.2.1 == m.tries && e.2.2 != s.time
/-- The core may accept a message in this cycle: it has been ready, and none that is ready comes before it by its sender (R210). -/
def mayTake (s : State) (site : Nat) (m : Msg) : Bool :=
  !s.accepting site && s.readyAt site m &&
    s.net.all fun o => !s.readyAt site o || s.heldForLast o || decide (whoKey m.src ≤ whoKey o.src)
/-- A message becomes ready at a core. -/
def offer (s : State) (site : Nat) (m : Msg) : State :=
  s.modCore site fun c =>
    let still := c.offered.filter fun e => s.net.any fun o => o.id == e.1 && o.tries == e.2.1
    { c with offered := if still.any fun e => e.1 == m.id then still else still ++ [(m.id, m.tries, s.time)] }
/-- A message that would join the arrivals of a core waits for its turn (R210); one for a Relay, or that the site turns away, does not. -/
def waitsTurn (s : State) (site : Nat) (m : Msg) : Bool :=
  !(m.kind == 2 && m.cls == .req) && (s.refusal site m).isNone && !s.mayTake site m

/-- An invocation of a type arrives. -/
def invArrives (s : State) (k : Nat) (typ : BitVec 6) : State :=
  match s.request k typ with
  | none => s
  | some m =>
    let s0 := s.dropMsg k
    match m.dest with
    | .core site => if s.heldForLast m then s else if s.waitsTurn site m then s.offer site m else s0.invAtCore site m
    | .root gi =>
      match s.liveRoot gi (grpOf m.member) with
      | some g => s0.invAtRoot g m
      | none => s
    | .former site => s.formerRoot k site m
    | _ => s0.reply m (s.lostStatus m)

end State

/-- INV_MSG (R209). -/
def execInvMsg (msg : Nat) (s : State) : Host.Outcome State Fault Refusal := .next (s.invArrives msg MT.inv)
/-- INVX_MSG (R209). -/
def execInvxMsg (msg : Nat) (s : State) : Host.Outcome State Fault Refusal := .next (s.invArrives msg MT.invx)

/-! ### Sending (R157, R218 to R223, R237) -/

/-- A handle by the test of R219. -/
def isHandleWord (h : Word) : Bool := h.extractLsb' 61 3 == 4#3 && h.extractLsb' 0 5 == 0#5
/-- The target word passes its check (R219, R223). -/
def targetOk (kind : InvKind) (t : Word) : Bool :=
  match kind with
  | .g => t.extractLsb' 50 14 == 0#14
  | .h => isHandleWord t
  | .m | .p => if t.getLsbD 63 then t.extractLsb' 14 49 == 0#49 else t.extractLsb' 60 3 == 0#3
/-- The raw form (R223). -/
def rawForm (kind : InvKind) (t : Word) : Bool :=
  match kind with
  | .m | .p => t.getLsbD 63
  | .g | .h => false
/-- The argument header passes its check (R220), for n argument flits. -/
def headerOk (n : Nat) (v : VWord) : Bool :=
  let hdr : Word := v.setWidth 64
  decide (hdr.toNat < 4 ^ (8 * n - 1)) &&
    ((List.range (8 * n)).drop 1).all fun j =>
      let c := argCode hdr j
      c == 0 || (c != 3 && isHandleWord (v.extractLsb' (64 * j) 64))

/-- Invocations of a core that are not accepted (R157): sent ones, and sticky passes that wait for an accept. -/
def State.unaccepted (s : State) (site : Nat) : Nat :=
  ((s.core site).sent.filter fun e => e.counts).length +
    ((List.range 4).map fun i => ((s.thread (4 * site + i)).sticky.map fun e => e.waiting.length).sum).sum

/-- The cached location of a member (R237). -/
def Core.findLoc (c : Core) (t : Word) : Option Who :=
  (c.loc.find? fun e => e.grp == grpOf t && e.member == memOf t).map fun e => e.loc
/-- The location cache with an entry used or filled: newest first, 64 entries (R237). -/
def Core.useLoc (c : Core) (t : Word) (w : Who) : Core :=
  { c with loc := (⟨grpOf t, memOf t, w⟩ :: c.loc.filter fun e => !(e.grp == grpOf t && e.member == memOf t)).take 64 }

/-- Where a message for a group's root goes: the site that the location cache gives it under member 0xFFF, filled from the directory on a miss
(R229, R248). A group without a live root, or of another device whose root's answer has not yet come, is named as a whole (R393, log 97). -/
def State.rootLoc (s : State) (site : Nat) (n : BitVec 48) : Agent × Who :=
  let a := s.rootAgent site (s.coreTenant site) n
  let whole : Who := ⟨nmDev n, 0xFFF, 0⟩
  match a with
  | .root gi =>
    match s.liveRoot gi n with
    | none => (a, whole)
    | some g =>
      match (s.core site).findLoc (memberWord n 0xFFF) with
      | some w => match s.siteOf site w.core.toNat with
        | some p => (if p = g.root then a else .former p, w)
        | none => (a, ⟨nmDev n, s.coreId g.root, 0⟩)
      | none => (a, ⟨nmDev n, s.coreId g.root, 0⟩)
  | .out _ =>
    match (s.core site).findLoc (memberWord n 0xFFF) with
    | some w => (s.agentOf site false (s.coreTenant site) w.dev w.core.toNat, w)
    | none => (a, whole)
  | _ => (a, whole)
/-- Where a message for a member goes: its cached core, or the group root (R237). -/
def State.memberAgent (s : State) (key : Nat) (t : Word) : Agent × Who :=
  let site := key / 4
  match (s.core site).findLoc t with
  | some w => (s.agentOf site false (s.coreTenant site) w.dev w.core.toNat, w)
  | none => s.rootLoc site (grpOf t)
/-- The location cache when a message goes to an address: the entry used or filled, the target's own or else the root's, is its newest (R237, R248). -/
def State.usedLoc (s : State) (site : Nat) (t : Word) (who : Who) : State :=
  if who.core = 0xFFF then s
  else s.modCore site fun c => c.useLoc (if (c.findLoc t).isSome then t else memberWord (grpOf t) 0xFFF) who
/-- Earlier messages of the thread to the member went elsewhere and are not acknowledged (R237). -/
def State.mustStay (s : State) (key : Nat) (t : Word) (dest : Agent) : Bool :=
  (s.core (key / 4)).sent.any fun e => e.key == key && e.target == t && e.dest != dest

/-- Send a message to a member or another invocation, remembering it until its answer (R157, R237). -/
def State.sendKept (s : State) (key : Nat) (target : Word) (counts : Bool) (m : Msg) : State :=
  let e : Sent := { id := s.nextId, key := key, target := target, dest := m.dest, counts := counts }
  (s.modCore (key / 4) fun c => { c with sent := c.sent ++ [e] }).send m

/-- Send an invocation to a member, using its cached location (R237). -/
def State.sendMember (s : State) (key : Nat) (t : Word) (m : Msg) : State :=
  let (dest, who) := s.memberAgent key t
  (s.usedLoc (key / 4) t who).sendKept key t true { m with dest := dest, dst := who }
/-- Send an invocation to a group's root (R248, R303). -/
def State.sendToRoot (s : State) (key : Nat) (g : BitVec 48) (m : Msg) : State :=
  let (dest, who) := s.rootLoc (key / 4) g
  (s.usedLoc (key / 4) (memberWord g 0xFFF) who).sendKept key (memberWord g 0xFFF) true { m with dest := dest, dst := who }

/-- The sticky entry of a thread for a group and class (R222). -/
def Thread.stickyOf (t : Thread) (g : BitVec 48) (c : BitVec 2) : Option Sticky := t.sticky.find? fun e => e.grp == g && e.cls == c
/-- The entries with room for a new key: fewer than 8, or without the least recently used entry whose accept has returned (R222). -/
def stickyRoom (l : List Sticky) : Option (List Sticky) :=
  if l.length < 8 then some l
  else
    let done := l.filter fun e => e.acceptor.isSome
    match (done.map fun e => e.used).min? with
    | none => none
    | some u => some (l.filter fun e => !(e.acceptor.isSome && e.used == u))

/-- INV and INVX as a slot (R221). -/
def State.inv (u : State) (d xt : XReg) (va : VReg) (tag : BitVec 6) (kind : InvKind) (sticky : Bool) (n : Nat) : SlotRes :=
  let t := u.rx xt
  let v := u.rv va
  let key := u.ctx.key
  let raw := rawForm kind t
  if raw = true ∧ u.src.sup = false then u.fault .privilege u.wordVal
  else if targetOk kind t = false ∨ headerOk n v = false then u.operand
  else if (kind ≠ .p ∧ u.freePslots u.site = []) ∨ 16 ≤ u.unaccepted u.site then u.hold
  else
    let (h, u1) := if kind = .p then (0, u) else u.newHandle key false
    let u2 := u1.wx d h
    let w2 : Word := (kind.code.setWidth 64) ||| (if sticky then 4 else 0) ||| (if n = 3 then 0x20 else 0)
    let m : Msg := { u.mineMsg with
      cls := .req, typ := if kind = .g then MT.pass else if n = 3 then MT.invx else MT.inv, rtag := tag
      nflit := BitVec.ofNat 4 n, pay := BitVec.ofNat 4096 (v.toNat % 2 ^ (512 * n)), w := #v[t, h, w2, 0, 0, 0] }
    match kind with
    | .h => .done (u2.sendKept key 0 true { m with
        dest := u.relayAgent u.site u.src.sup u.src.ctl.tenant t, dst := ⟨hDev t, BitVec.ofNat 12 (hCore t), 0⟩ })
    | .m | .p =>
      if raw then .done (u2.sendKept key 0 true { m with
        dest := .core (t.toNat % 4096), dst := ⟨0x7FF, t.setWidth 12, t.extractLsb' 12 2⟩, fl := { m.fl with raw := true, sup := true } })
      else
        let tm := t &&& 0x0FFFFFFFFFFFFFFF#64
        if u.mustStay key tm (u.memberAgent key tm).1 then u.hold else .done (u2.sendMember key tm m)
    | .g =>
      let g := grpOf t
      let c : BitVec 2 := t.extractLsb' 48 2
      let toGroup := fun (x : State) => x.sendToRoot key g m
      if sticky = false then .done (toGroup u2)
      else match u.cur.stickyOf g c with
        | some e =>
          let touch := fun (x : State) (f : Sticky → Sticky) => x.modThread key fun t => { t with
            sticky := t.sticky.map fun y => if y.grp = g ∧ y.cls = c then f { y with used := u.nextId } else y }
          match e.acceptor with
          | some a =>
            let tm := memberWord g a
            if u.mustStay key tm (u.memberAgent key tm).1 then u.hold
            else .done ((touch u2 id).sendMember key tm { m with typ := if n = 3 then MT.invx else MT.inv, w := m.w.set 3 tm })
          | none => .done (touch u2 fun y => { y with waiting := y.waiting ++ [m] })
        | none =>
          match stickyRoom u.cur.sticky with
          | none => u.hold
          | some l =>
            let e : Sticky := { grp := g, cls := c, acceptor := none, handle := h, used := u.nextId, waiting := [] }
            .done (toGroup (u2.modThread key fun t => { t with sticky := l ++ [e] }))

/-- INV (R221). -/
def execInv (d xt : XReg) (va : VReg) (tag : BitVec 6) (kind : InvKind) (sticky : Bool) (st : State) : Host.Outcome State Fault Refusal :=
  slot (.inv d xt va tag kind sticky) (fun u => u.inv d xt va tag kind sticky 1) st
/-- INVX (R221). -/
def execInvx (d xt : XReg) (va : VReg) (tag : BitVec 6) (kind : InvKind) (sticky : Bool) (st : State) : Host.Outcome State Fault Refusal :=
  slot (.invx d xt va tag kind sticky) (fun u => u.inv d xt va tag kind sticky 3) st

/-- ACCEPT_NOTICE: an ACCEPT reaches the issuer's Relay; w1 names the consumer, w2 the class of a sticky pass (R222, R261, R262). -/
def execAcceptNotice (msg : Nat) (s : State) : Host.Outcome State Fault Refusal :=
  .next (s.coreTakes msg MT.accept fun u site m =>
    let n := hSlot m.w[0]
    let p := u.pslot site n
    let key := m.threadAt site
    let u1 := if m.w[2] = 0 then u
      else u.bindSticky key m.w[1] (m.w[2].setWidth 2) fun x y => x.sendMember key m.w[1] y
    if p.gen = hGen m.w[0] ∧ p.control = false ∧ (p.st = .pending ∨ (p.st = .resolved ∧ p.consumer = none)) then
      u1.modPslot site n fun p => { p with
        st := if p.st = .pending then .bound else p.st
        csup := m.fl.sup
        consumer := some ⟨grpOf m.w[1], memOf m.w[1], m.src⟩ }
    else u1.relayRecord site m.tenant n)

end Sys2Proof.Machine
end

