-- ==== Sys2Proof/Machine/Scalar.lean ====
section
/-! DEFINITION. Scalar integer and scalar F32 instructions (R94 to R97). -/

namespace Sys2Proof.Machine

/-! ### Shared operations -/

/-- An instruction that writes x[d] with a function of x[s] and x[t]. -/
def xOp2 (i : Instr) (d s t : XReg) (f : Word → Word → Word) (st : State) : Host.Outcome State Fault Refusal :=
  slot i (fun u => .done (u.wx d (f (u.rx s) (u.rx t)))) st
/-- An instruction that writes x[d] with a function of x[s]. -/
def xOp1 (i : Instr) (d s : XReg) (f : Word → Word) (st : State) : Host.Outcome State Fault Refusal :=
  slot i (fun u => .done (u.wx d (f (u.rx s)))) st

/-- 1 when the condition holds, else 0. -/
def boolWord (b : Bool) : Word := if b then 1 else 0
/-- High 64 bits of the signed product (R94). -/
def mulHigh (a b : Word) : Word := BitVec.ofInt 64 (a.toInt * b.toInt / 2 ^ 64)
/-- High 64 bits of the unsigned product (R94). -/
def mulHighU (a b : Word) : Word := BitVec.ofNat 64 (a.toNat * b.toNat / 2 ^ 64)
/-- Signed quotient, truncated toward zero; all ones for a zero divisor (R94, R95). -/
def divS (a b : Word) : Word := if b = 0 then BitVec.allOnes 64 else BitVec.ofInt 64 (a.toInt.tdiv b.toInt)
/-- Unsigned quotient (R94, R95). -/
def divU (a b : Word) : Word := if b = 0 then BitVec.allOnes 64 else BitVec.ofNat 64 (a.toNat / b.toNat)
/-- Signed remainder with the sign of the dividend (R94, R95). -/
def remS (a b : Word) : Word := if b = 0 then a else BitVec.ofInt 64 (a.toInt.tmod b.toInt)
/-- Unsigned remainder (R94, R95). -/
def remU (a b : Word) : Word := if b = 0 then a else BitVec.ofNat 64 (a.toNat % b.toNat)
/-- Shift amount: s2[5:0] (R94). -/
def shAmt (b : Word) : Nat := b.toNat % 64
/-- Number of leading zero bits among the low `n` bits; `n` when none is set. -/
def clzFrom (a : Word) : Nat → Nat
  | 0 => 0
  | n + 1 => if a.getLsbD n then 0 else 1 + clzFrom a n
/-- Number of trailing zero bits, counted from bit `64 − n`; at most `n`. -/
def ctzFrom (a : Word) : Nat → Nat
  | 0 => 0
  | n + 1 => if a.getLsbD (63 - n) then 0 else 1 + ctzFrom a n
/-- Number of one bits among the low `n` bits. -/
def popFrom (a : Word) : Nat → Nat
  | 0 => 0
  | n + 1 => (if a.getLsbD n then 1 else 0) + popFrom a n
/-- IMM13 sign-extended (R96). -/
def imm13 (i : BitVec 13) : Word := i.signExtend 64

/-- Rounding controls of an instruction with an FL field: FL, or VCTL.RM when FL is 0; FTZ from VCTL (R78, R80). -/
def rctlOf (vctl : BitVec 3) (fl : BitVec 2) : RCtl :=
  ⟨RMode.ofCode (if fl = 0 then vctl.setWidth 2 else fl), vctl.getLsbD 2⟩
/-- Rounding controls of the bundle. -/
def State.rctl (s : State) (fl : BitVec 2) : RCtl := rctlOf s.src.ctl.vctl fl
/-- The F32 in x[31:0] (R97). -/
def f32Of (w : Word) : Nat := w.toNat % 2 ^ 32

/-- A scalar F32 instruction of two sources: the result zero-extended, the flags added (R97). -/
def fOp2 (i : Instr) (d s t : XReg) (fl : BitVec 2) (f : RCtl → Nat → Nat → Nat × FFlags) (st : State) :
    Host.Outcome State Fault Refusal :=
  slot i (fun u =>
    let r := f (u.rctl fl) (f32Of (u.rx s)) (f32Of (u.rx t))
    .done ((u.wx d (BitVec.ofNat 64 r.1)).wflags r.2)) st
/-- A scalar F32 instruction of one source (R97). -/
def fOp1 (i : Instr) (d s : XReg) (fl : BitVec 2) (f : RCtl → Nat → Nat × FFlags) (st : State) :
    Host.Outcome State Fault Refusal :=
  slot i (fun u =>
    let r := f (u.rctl fl) (f32Of (u.rx s))
    .done ((u.wx d (BitVec.ofNat 64 r.1)).wflags r.2)) st

/-! ### Scalar integer instructions (R94, R95) -/

/-- ADD (R94): x[s] + x[t]. -/
def execAdd (d s t : XReg) (st : State) : Host.Outcome State Fault Refusal :=
  xOp2 (.add d s t) d s t (fun a b => a + b) st
/-- SUB (R94): x[s] − x[t]. -/
def execSub (d s t : XReg) (st : State) : Host.Outcome State Fault Refusal :=
  xOp2 (.sub d s t) d s t (fun a b => a - b) st
/-- AND (R94): bitwise AND. -/
def execAnd (d s t : XReg) (st : State) : Host.Outcome State Fault Refusal :=
  xOp2 (.and d s t) d s t (fun a b => a &&& b) st
/-- OR (R94): bitwise OR. -/
def execOr (d s t : XReg) (st : State) : Host.Outcome State Fault Refusal :=
  xOp2 (.or d s t) d s t (fun a b => a ||| b) st
/-- XOR (R94): bitwise XOR. -/
def execXor (d s t : XReg) (st : State) : Host.Outcome State Fault Refusal :=
  xOp2 (.xor d s t) d s t (fun a b => a ^^^ b) st
/-- SLL (R94): shift left by x[t][5:0]. -/
def execSll (d s t : XReg) (st : State) : Host.Outcome State Fault Refusal :=
  xOp2 (.sll d s t) d s t (fun a b => a <<< shAmt b) st
/-- SRL (R94): shift right logically. -/
def execSrl (d s t : XReg) (st : State) : Host.Outcome State Fault Refusal :=
  xOp2 (.srl d s t) d s t (fun a b => a >>> shAmt b) st
/-- SRA (R94): shift right arithmetically. -/
def execSra (d s t : XReg) (st : State) : Host.Outcome State Fault Refusal :=
  xOp2 (.sra d s t) d s t (fun a b => a.sshiftRight (shAmt b)) st
/-- SLT (R94): signed less than. -/
def execSlt (d s t : XReg) (st : State) : Host.Outcome State Fault Refusal :=
  xOp2 (.slt d s t) d s t (fun a b => boolWord (a.slt b)) st
/-- SLTU (R94): unsigned less than. -/
def execSltu (d s t : XReg) (st : State) : Host.Outcome State Fault Refusal :=
  xOp2 (.sltu d s t) d s t (fun a b => boolWord (a.ult b)) st
/-- MUL (R94): low 64 bits of the product. -/
def execMul (d s t : XReg) (st : State) : Host.Outcome State Fault Refusal :=
  xOp2 (.mul d s t) d s t (fun a b => a * b) st
/-- MULH (R94): high 64 bits of the signed product. -/
def execMulh (d s t : XReg) (st : State) : Host.Outcome State Fault Refusal :=
  xOp2 (.mulh d s t) d s t (mulHigh) st
/-- MULHU (R94): high 64 bits of the unsigned product. -/
def execMulhu (d s t : XReg) (st : State) : Host.Outcome State Fault Refusal :=
  xOp2 (.mulhu d s t) d s t (mulHighU) st
/-- DIV (R94): signed quotient. -/
def execDiv (d s t : XReg) (st : State) : Host.Outcome State Fault Refusal :=
  xOp2 (.div d s t) d s t (divS) st
/-- DIVU (R94): unsigned quotient. -/
def execDivu (d s t : XReg) (st : State) : Host.Outcome State Fault Refusal :=
  xOp2 (.divu d s t) d s t (divU) st
/-- REM (R94): signed remainder. -/
def execRem (d s t : XReg) (st : State) : Host.Outcome State Fault Refusal :=
  xOp2 (.rem d s t) d s t (remS) st
/-- REMU (R94): unsigned remainder. -/
def execRemu (d s t : XReg) (st : State) : Host.Outcome State Fault Refusal :=
  xOp2 (.remu d s t) d s t (remU) st
/-- MIN (R94): signed minimum. -/
def execMin (d s t : XReg) (st : State) : Host.Outcome State Fault Refusal :=
  xOp2 (.min d s t) d s t (fun a b => if b.slt a then b else a) st
/-- MAX (R94): signed maximum. -/
def execMax (d s t : XReg) (st : State) : Host.Outcome State Fault Refusal :=
  xOp2 (.max d s t) d s t (fun a b => if a.slt b then b else a) st
/-- MINU (R94): unsigned minimum. -/
def execMinu (d s t : XReg) (st : State) : Host.Outcome State Fault Refusal :=
  xOp2 (.minu d s t) d s t (fun a b => if b.ult a then b else a) st
/-- MAXU (R94): unsigned maximum. -/
def execMaxu (d s t : XReg) (st : State) : Host.Outcome State Fault Refusal :=
  xOp2 (.maxu d s t) d s t (fun a b => if a.ult b then b else a) st
/-- CLZ (R94): leading zero bits, 64 for 0. -/
def execClz (d s : XReg) (st : State) : Host.Outcome State Fault Refusal :=
  xOp1 (.clz d s) d s (fun a => BitVec.ofNat 64 (clzFrom a 64)) st
/-- CTZ (R94): trailing zero bits, 64 for 0. -/
def execCtz (d s : XReg) (st : State) : Host.Outcome State Fault Refusal :=
  xOp1 (.ctz d s) d s (fun a => BitVec.ofNat 64 (ctzFrom a 64)) st
/-- POPC (R94): number of one bits. -/
def execPopc (d s : XReg) (st : State) : Host.Outcome State Fault Refusal :=
  xOp1 (.popc d s) d s (fun a => BitVec.ofNat 64 (popFrom a 64)) st

/-! ### Immediate forms (R96) -/

/-- ADDI (R96): x[s] + si. -/
def execAddi (d s : XReg) (imm : BitVec 13) (st : State) : Host.Outcome State Fault Refusal :=
  xOp1 (.addi d s imm) d s (fun a => a + imm13 imm) st
/-- ANDI (R96): x[s] AND si. -/
def execAndi (d s : XReg) (imm : BitVec 13) (st : State) : Host.Outcome State Fault Refusal :=
  xOp1 (.andi d s imm) d s (fun a => a &&& imm13 imm) st
/-- ORI (R96): x[s] OR si. -/
def execOri (d s : XReg) (imm : BitVec 13) (st : State) : Host.Outcome State Fault Refusal :=
  xOp1 (.ori d s imm) d s (fun a => a ||| imm13 imm) st
/-- XORI (R96): x[s] XOR si. -/
def execXori (d s : XReg) (imm : BitVec 13) (st : State) : Host.Outcome State Fault Refusal :=
  xOp1 (.xori d s imm) d s (fun a => a ^^^ imm13 imm) st
/-- SLTI (R96): 1 if x[s] < si signed. -/
def execSlti (d s : XReg) (imm : BitVec 13) (st : State) : Host.Outcome State Fault Refusal :=
  xOp1 (.slti d s imm) d s (fun a => boolWord (a.slt (imm13 imm))) st
/-- SLLI (R96): shift left by IMM13[5:0]. -/
def execSlli (d s : XReg) (sh : BitVec 6) (st : State) : Host.Outcome State Fault Refusal :=
  xOp1 (.slli d s sh) d s (fun a => a <<< sh.toNat) st
/-- SRLI (R96): shift right logically. -/
def execSrli (d s : XReg) (sh : BitVec 6) (st : State) : Host.Outcome State Fault Refusal :=
  xOp1 (.srli d s sh) d s (fun a => a >>> sh.toNat) st
/-- SRAI (R96): shift right arithmetically. -/
def execSrai (d s : XReg) (sh : BitVec 6) (st : State) : Host.Outcome State Fault Refusal :=
  xOp1 (.srai d s sh) d s (fun a => a.sshiftRight sh.toNat) st
/-- LUI (R96): si × 2^13. -/
def execLui (d : XReg) (imm : BitVec 13) (st : State) : Host.Outcome State Fault Refusal :=
  slot (.lui d imm) (fun u => .done (u.wx d (imm13 imm <<< 13))) st
/-- LCAT (R96): d × 2^13 + zi. -/
def execLcat (d : XReg) (imm : BitVec 13) (st : State) : Host.Outcome State Fault Refusal :=
  xOp1 (.lcat d imm) d d (fun a => (a <<< 13) + imm.setWidth 64) st

/-! ### Scalar F32 instructions (R97) -/

/-- FADD (R97): one rounding of the exact result. -/
def execFadd (d s t : XReg) (fl : BitVec 2) (st : State) : Host.Outcome State Fault Refusal :=
  fOp2 (.fadd d s t fl) d s t fl (fAdd .f32) st
/-- FSUB (R97): one rounding of the exact result. -/
def execFsub (d s t : XReg) (fl : BitVec 2) (st : State) : Host.Outcome State Fault Refusal :=
  fOp2 (.fsub d s t fl) d s t fl (fSub .f32) st
/-- FMUL (R97): one rounding of the exact result. -/
def execFmul (d s t : XReg) (fl : BitVec 2) (st : State) : Host.Outcome State Fault Refusal :=
  fOp2 (.fmul d s t fl) d s t fl (fMulTo .f32 .f32) st
/-- FDIV (R97): one rounding of the exact result. -/
def execFdiv (d s t : XReg) (fl : BitVec 2) (st : State) : Host.Outcome State Fault Refusal :=
  fOp2 (.fdiv d s t fl) d s t fl (fDiv .f32) st
/-- FMA (R97): RoundF32(s × t + u) with one rounding, under VCTL.RM. -/
def execFma (d s t u : XReg) (st : State) : Host.Outcome State Fault Refusal :=
  slot (.fma d s t u) (fun m =>
    let r := fMaTo .f32 .f32 (m.rctl 0) (f32Of (m.rx s)) (f32Of (m.rx t)) (f32Of (m.rx u))
    .done ((m.wx d (BitVec.ofNat 64 r.1)).wflags r.2)) st
/-- FSQRT (R97). -/
def execFsqrt (d s : XReg) (fl : BitVec 2) (st : State) : Host.Outcome State Fault Refusal :=
  fOp1 (.fsqrt d s fl) d s fl (fSqrt .f32) st
/-- FMIN (R76, R97). -/
def execFmin (d s t : XReg) (st : State) : Host.Outcome State Fault Refusal :=
  fOp2 (.fmin d s t) d s t 0 (fun c => fMinMax .f32 c.ftz false) st
/-- FMAX (R76, R97). -/
def execFmax (d s t : XReg) (st : State) : Host.Outcome State Fault Refusal :=
  fOp2 (.fmax d s t) d s t 0 (fun c => fMinMax .f32 c.ftz true) st
/-- FCMP (R76, R97): 1 if the condition holds, else 0. -/
def execFcmp (d s t : XReg) (cond : Cond) (st : State) : Host.Outcome State Fault Refusal :=
  fOp2 (.fcmp d s t cond) d s t 0 (fun c a b => let r := fCmp .f32 c.ftz cond a b; (if r.1 then 1 else 0, r.2)) st
/-- FCVTI (R84, R97): to I32, sign-extended to 64 bits. -/
def execFcvti (d s : XReg) (fl : BitVec 2) (st : State) : Host.Outcome State Fault Refusal :=
  fOp1 (.fcvti d s fl) d s fl (fun c a =>
    let r := fToInt .f32 c 32 false a
    (((BitVec.ofNat 32 r.1).signExtend 64).toNat, r.2)) st
/-- FCVTF (R84, R97): I32 in x[31:0] to F32. -/
def execFcvtf (d s : XReg) (fl : BitVec 2) (st : State) : Host.Outcome State Fault Refusal :=
  fOp1 (.fcvtf d s fl) d s fl (fun c a => intToF .f32 c (readInt 32 false a)) st

end Sys2Proof.Machine
end

