-- ==== Sys2Proof/Machine/Vector.lean ====
section
/-! DEFINITION. Vector and mask instructions (R118 to R133, R137). -/

namespace Sys2Proof.Machine

/-! ### Elements and masks (R118, R124) -/

/-- Element i of width w. -/
def elem (w : Nat) (v : VWord) (i : Nat) : Nat := v.toNat / 2 ^ (w * i) % 2 ^ w
/-- The first n elements of width w, packed, element 0 lowest (R2). -/
def packFn (w : Nat) : Nat → (Nat → Nat) → Nat
  | 0, _ => 0
  | n + 1, f => packFn w n f + f n % 2 ^ w * 2 ^ (w * n)
/-- A register of n elements of width w. -/
def vOf (w n : Nat) (f : Nat → Nat) : VWord := BitVec.ofNat 4096 (packFn w n f)
/-- A mask whose element i of width w is set when c i (R25). -/
def mOf (w n : Nat) (c : Nat → Bool) : MWord := BitVec.ofNat 1024 (packFn (w / 4) n fun i => if c i then 2 ^ (w / 4) - 1 else 0)
/-- The mask bit of element i at width w (R25). -/
def mBit (m : MWord) (w i : Nat) : Bool := m.getLsbD (i * (w / 4))
/-- Number of elements of width w in a register (R118). -/
def lanes (w : Nat) : Nat := 4096 / w
/-- Register j of a group. -/
def grpReg (d : VReg) (j : Nat) : VReg := d + BitVec.ofNat 5 j
/-- Element i of a group of k registers (R124). -/
def State.gElem (s : State) (w k : Nat) (r : VReg) (i : Nat) : Nat := elem w (s.rv (grpReg r (i % k))) (i / k)
/-- The flags of the elements that take part. -/
def orFlags (n : Nat) (on : Nat → Bool) (f : Nat → FFlags) : FFlags :=
  (List.range n).foldl (fun a i => if on i then a ||| f i else a) 0

/-- Write n elements of width dw into a group of dk registers at d: element i takes (f i).1 where its mask bit at width mw is 1, and keeps
its old value elsewhere; the flags of the elements written are added (R118). -/
def State.vWrite (s : State) (d : VReg) (dw dk n mw : Nat) (mk : MReg) (f : Nat → Nat × FFlags) : State :=
  let m := s.rm mk
  let s1 := (List.range dk).foldl (fun a j =>
    a.wv (grpReg d j) (vOf dw (n / dk) fun p =>
      let i := p * dk + j
      if mBit m mw i then (f i).1 else elem dw (s.rv (grpReg d j)) p)) s
  s1.wflags (orFlags n (mBit m mw) fun i => (f i).2)

/-- U of FL (R47). -/
def flU (fl : BitVec 2) : Bool := fl.getLsbD 1
/-- S of FL (R47). -/
def flS (fl : BitVec 2) : Bool := fl.getLsbD 0
/-- A result without flags. -/
def noFlag (n : Nat) : Nat × FFlags := (n, 0)

/-- Exact integer operation of two elements, delivered by U and S (R83). -/
def intBin (w : Nat) (fl : BitVec 2) (op : Int → Int → Int) (a b : Nat) : Nat × FFlags :=
  noFlag (deliverInt w (flU fl) (flS fl) (op (readInt w (flU fl) a) (readInt w (flU fl) b)))
/-- Addition, subtraction or multiplication at a type (R120). -/
def arith (ty : Ty) (fl : BitVec 2) (c : RCtl) (iop : Int → Int → Int) (fop : Fmt → RCtl → Nat → Nat → Nat × FFlags)
    (a b : Nat) : Nat × FFlags :=
  if ty.isFloat then fop (fmtOf ty) c a b else intBin ty.width fl iop a b
/-- Minimum or maximum at a type (R76, R120). -/
def minMax (ty : Ty) (fl : BitVec 2) (ftz isMax : Bool) (a b : Nat) : Nat × FFlags :=
  if ty.isFloat then fMinMax (fmtOf ty) ftz isMax a b
  else
    let x := readInt ty.width (flU fl) a; let y := readInt ty.width (flU fl) b
    noFlag (if (if isMax then decide (x < y) else decide (y < x)) then b else a)
/-- s1 × s2 + s3 at a type: exact, delivered or rounded once (R121, R139). -/
def mulAdd (ty : Ty) (fl : BitVec 2) (c : RCtl) (a b d : Nat) : Nat × FFlags :=
  if ty.isFloat then fMaTo (fmtOf ty) (fmtOf ty) c a b d
  else
    let r := readInt ty.width (flU fl)
    noFlag (deliverInt ty.width (flU fl) (flS fl) (r a * r b + r d))

/-- An elementwise instruction of two sources of one width (R120). -/
def vOp2 (i : Instr) (d s t : VReg) (ty : Ty) (mk : MReg) (f : State → Nat → Nat → Nat × FFlags) (st : State) :
    Host.Outcome State Fault Refusal :=
  slot i (fun u =>
    .done (u.vWrite d ty.width 1 (lanes ty.width) ty.width mk fun k =>
      f u (elem ty.width (u.rv s) k) (elem ty.width (u.rv t) k))) st
/-- An elementwise instruction of one source (R120). -/
def vOp1 (i : Instr) (d s : VReg) (ty : Ty) (mk : MReg) (f : State → Nat → Nat × FFlags) (st : State) :
    Host.Outcome State Fault Refusal :=
  slot i (fun u =>
    .done (u.vWrite d ty.width 1 (lanes ty.width) ty.width mk fun k => f u (elem ty.width (u.rv s) k))) st

/-! ### Elementwise arithmetic (R120 to R122) -/

/-- VADD (R120). -/
def execVadd (d s t : VReg) (ty : Ty) (mk : MReg) (fl : BitVec 2) (st : State) : Host.Outcome State Fault Refusal :=
  vOp2 (.vadd d s t ty mk fl) d s t ty mk (fun u => arith ty fl (u.rctl fl) (· + ·) (fAdd)) st
/-- VSUB (R120). -/
def execVsub (d s t : VReg) (ty : Ty) (mk : MReg) (fl : BitVec 2) (st : State) : Host.Outcome State Fault Refusal :=
  vOp2 (.vsub d s t ty mk fl) d s t ty mk (fun u => arith ty fl (u.rctl fl) (· - ·) (fSub)) st
/-- VMUL (R120). -/
def execVmul (d s t : VReg) (ty : Ty) (mk : MReg) (fl : BitVec 2) (st : State) : Host.Outcome State Fault Refusal :=
  vOp2 (.vmul d s t ty mk fl) d s t ty mk (fun u => arith ty fl (u.rctl fl) (· * ·) (fun f => fMulTo f f)) st
/-- VMA (R121): s1 × s2 + s3, at a float type rounded once under VCTL.RM. -/
def execVma (d s t w : VReg) (ty : Ty) (st : State) : Host.Outcome State Fault Refusal :=
  slot (.vma d s t w ty) (fun u =>
    .done (u.vWrite d ty.width 1 (lanes ty.width) ty.width 0 fun k =>
      mulAdd ty 0 (u.rctl 0) (elem ty.width (u.rv s) k) (elem ty.width (u.rv t) k) (elem ty.width (u.rv w) k))) st
/-- VMIN (R76, R120). -/
def execVmin (d s t : VReg) (ty : Ty) (mk : MReg) (fl : BitVec 2) (st : State) : Host.Outcome State Fault Refusal :=
  vOp2 (.vmin d s t ty mk fl) d s t ty mk (fun u => minMax ty fl (u.rctl 0).ftz false) st
/-- VMAX (R76, R120). -/
def execVmax (d s t : VReg) (ty : Ty) (mk : MReg) (fl : BitVec 2) (st : State) : Host.Outcome State Fault Refusal :=
  vOp2 (.vmax d s t ty mk fl) d s t ty mk (fun u => minMax ty fl (u.rctl 0).ftz true) st
/-- VAND (R120). -/
def execVand (d s t : VReg) (ty : Ty) (mk : MReg) (fl : BitVec 2) (st : State) : Host.Outcome State Fault Refusal :=
  vOp2 (.vand d s t ty mk fl) d s t ty mk (fun _ a b => noFlag (a &&& b)) st
/-- VOR (R120). -/
def execVor (d s t : VReg) (ty : Ty) (mk : MReg) (fl : BitVec 2) (st : State) : Host.Outcome State Fault Refusal :=
  vOp2 (.vor d s t ty mk fl) d s t ty mk (fun _ a b => noFlag (a ||| b)) st
/-- VXOR (R120). -/
def execVxor (d s t : VReg) (ty : Ty) (mk : MReg) (fl : BitVec 2) (st : State) : Host.Outcome State Fault Refusal :=
  vOp2 (.vxor d s t ty mk fl) d s t ty mk (fun _ a b => noFlag (a ^^^ b)) st
/-- VSLL (R120). -/
def execVsll (d s t : VReg) (ty : Ty) (mk : MReg) (fl : BitVec 2) (st : State) : Host.Outcome State Fault Refusal :=
  vOp2 (.vsll d s t ty mk fl) d s t ty mk (fun _ a b => noFlag (a * 2 ^ (b % ty.width))) st
/-- VSRL (R120). -/
def execVsrl (d s t : VReg) (ty : Ty) (mk : MReg) (fl : BitVec 2) (st : State) : Host.Outcome State Fault Refusal :=
  vOp2 (.vsrl d s t ty mk fl) d s t ty mk (fun _ a b => noFlag (a / 2 ^ (b % ty.width))) st
/-- VSRA (R120). -/
def execVsra (d s t : VReg) (ty : Ty) (mk : MReg) (fl : BitVec 2) (st : State) : Host.Outcome State Fault Refusal :=
  vOp2 (.vsra d s t ty mk fl) d s t ty mk (fun _ a b => noFlag (wrapInt ty.width (readInt ty.width false a / 2 ^ (b % ty.width)))) st
/-- |a| or −a at a type (R120). -/
def absNeg (ty : Ty) (fl : BitVec 2) (ftz isNeg : Bool) (a : Nat) : Nat × FFlags :=
  if ty.isFloat then fSignOp (fmtOf ty) ftz isNeg a
  else
    let x := readInt ty.width false a
    noFlag (deliverInt ty.width false (flS fl) (if isNeg then -x else x.natAbs))
/-- VABS (R120). -/
def execVabs (d s : VReg) (ty : Ty) (mk : MReg) (fl : BitVec 2) (st : State) : Host.Outcome State Fault Refusal :=
  vOp1 (.vabs d s ty mk fl) d s ty mk (fun u => absNeg ty fl (u.rctl 0).ftz false) st
/-- VNEG (R120). -/
def execVneg (d s : VReg) (ty : Ty) (mk : MReg) (fl : BitVec 2) (st : State) : Host.Outcome State Fault Refusal :=
  vOp1 (.vneg d s ty mk fl) d s ty mk (fun u => absNeg ty fl (u.rctl 0).ftz true) st
/-- Comparison of two elements (R76, R122). -/
def cmpElem (ty : Ty) (cond : Cond) (un ftz : Bool) (a b : Nat) : Bool × FFlags :=
  if ty.isFloat then fCmp (fmtOf ty) ftz cond a b
  else (intCmp cond (readInt ty.width un a) (readInt ty.width un b), 0)
/-- VCMP (R122): every element; with md = m0 only the flags are set. -/
def execVcmp (md : MReg) (s t : VReg) (cond : Cond) (ty : Ty) (un : Bool) (st : State) : Host.Outcome State Fault Refusal :=
  slot (.vcmp md s t cond ty un) (fun u =>
    let w := ty.width
    let f := fun k => cmpElem ty cond un (u.rctl 0).ftz (elem w (u.rv s) k) (elem w (u.rv t) k)
    .done ((u.wm md (mOf w (lanes w) fun k => (f k).1)).wflags (orFlags (lanes w) (fun _ => true) fun k => (f k).2))) st

/-! ### Moving elements (R123) -/

/-- VSEL: s1 where the mask bit is 1, else s2. -/
def execVsel (d s t : VReg) (ty : Ty) (mk : MReg) (st : State) : Host.Outcome State Fault Refusal :=
  slot (.vsel d s t ty mk) (fun u =>
    let w := ty.width
    .done (u.wv d (vOf w (lanes w) fun k => if mBit (u.rm mk) w k then elem w (u.rv s) k else elem w (u.rv t) k))) st
/-- VMOV. -/
def execVmov (d s : VReg) (ty : Ty) (mk : MReg) (st : State) : Host.Outcome State Fault Refusal :=
  vOp1 (.vmov d s ty mk) d s ty mk (fun _ a => noFlag a) st
/-- VBCAST. -/
def execVbcast (d : VReg) (s : XReg) (ty : Ty) (mk : MReg) (st : State) : Host.Outcome State Fault Refusal :=
  slot (.vbcast d s ty mk) (fun u =>
    .done (u.vWrite d ty.width 1 (lanes ty.width) ty.width mk fun _ => noFlag (u.rx s).toNat)) st
/-- VINS: an index beyond the elements raises OPERAND. -/
def execVins (d : VReg) (s t : XReg) (ty : Ty) (st : State) : Host.Outcome State Fault Refusal :=
  slot (.vins d s t ty) (fun u =>
    let w := ty.width
    let idx := (u.rx t).toNat
    if lanes w ≤ idx then u.operand
    else .done (u.wv d (vOf w (lanes w) fun k => if k = idx then (u.rx s).toNat else elem w (u.rv d) k))) st
/-- VEXT: sign-extended, or zero-extended for U or a float type; an index beyond the elements raises OPERAND. -/
def execVext (d : XReg) (s : VReg) (t : XReg) (ty : Ty) (un : Bool) (st : State) : Host.Outcome State Fault Refusal :=
  slot (.vext d s t ty un) (fun u =>
    let w := ty.width
    let idx := (u.rx t).toNat
    if lanes w ≤ idx then u.operand
    else .done (u.wx d (BitVec.ofInt 64 (readInt w (un || ty.isFloat) (elem w (u.rv s) idx))))) st
/-- VPERM. -/
def execVperm (d s t : VReg) (ty : Ty) (mk : MReg) (st : State) : Host.Outcome State Fault Refusal :=
  slot (.vperm d s t ty mk) (fun u =>
    let w := ty.width
    .done (u.vWrite d w 1 (lanes w) w mk fun k => noFlag (elem w (u.rv s) (elem w (u.rv t) k % lanes w)))) st
/-- VSLIDE. -/
def execVslide (d s : VReg) (t : XReg) (ty : Ty) (mk : MReg) (st : State) : Host.Outcome State Fault Refusal :=
  slot (.vslide d s t ty mk) (fun u =>
    let w := ty.width
    .done (u.vWrite d w 1 (lanes w) w mk fun k =>
      let j : Int := k + (u.rx t).toInt
      noFlag (if 0 ≤ j ∧ j < lanes w then elem w (u.rv s) j.toNat else 0))) st

/-! ### Widening, narrowing and conversion (R124 to R128) -/

/-- The first register of a group of n is aligned (R124). -/
def grpOk (r : VReg) (n : Nat) : Bool := r.toNat % n == 0

/-- A widening instruction into the pair at d: OPERAND for a misaligned pair (R124, R125). -/
def vWiden (i : Instr) (d s t : VReg) (ty : Ty) (mk : MReg) (f : State → Nat → Nat → Nat → Nat × FFlags) (st : State) :
    Host.Outcome State Fault Refusal :=
  slot i (fun u =>
    let w := ty.width
    if grpOk d 2 then
      .done (u.vWrite d (2 * w) 2 (lanes w) w mk fun k =>
        f u (u.gElem (2 * w) 2 d k) (elem w (u.rv s) k) (elem w (u.rv t) k))
    else u.operand) st
/-- VWADD (R125). -/
def execVwadd (d s t : VReg) (ty : Ty) (mk : MReg) (fl : BitVec 2) (st : State) : Host.Outcome State Fault Refusal :=
  vWiden (.vwadd d s t ty mk fl) d s t ty mk (fun u _ a b =>
    if ty.isFloat then
      let c := u.rctl fl
      let x := (fmtOf ty).source c.ftz a; let y := (fmtOf ty).source c.ftz b
      roundSum .f32 c false (x.isSig || y.isSig) [x, y]
    else noFlag (wrapInt (2 * ty.width) (readInt ty.width (flU fl) a + readInt ty.width (flU fl) b))) st
/-- VWMUL (R125). -/
def execVwmul (d s t : VReg) (ty : Ty) (mk : MReg) (fl : BitVec 2) (st : State) : Host.Outcome State Fault Refusal :=
  vWiden (.vwmul d s t ty mk fl) d s t ty mk (fun u _ a b =>
    if ty.isFloat then fMulTo (fmtOf ty) .f32 (u.rctl 0) a b
    else noFlag (wrapInt (2 * ty.width) (readInt ty.width (flU fl) a * readInt ty.width (flU fl) b))) st
/-- VWMA (R125): the pair at d is the accumulator. -/
def execVwma (d s t : VReg) (ty : Ty) (mk : MReg) (fl : BitVec 2) (st : State) : Host.Outcome State Fault Refusal :=
  vWiden (.vwma d s t ty mk fl) d s t ty mk (fun u old a b =>
    if ty.isFloat then fMaTo (fmtOf ty) .f32 (u.rctl fl) a b old
    else
      let w2 := 2 * ty.width
      noFlag (deliverInt w2 (flU fl) (flS fl)
        (readInt w2 (flU fl) old + readInt ty.width (flU fl) a * readInt ty.width (flU fl) b))) st

/-- One element narrowed to a type from twice its width (R126, R139). -/
def narrow (ty : Ty) (fl : BitVec 2) (c : RCtl) (a : Nat) : Nat × FFlags :=
  if ty.isFloat then fCvt .f32 (fmtOf ty) c a
  else noFlag (deliverInt ty.width (flU fl) (flS fl) (readInt (2 * ty.width) (flU fl) a))
/-- VNARROW (R126): the source is the pair at s. -/
def execVnarrow (d s : VReg) (ty : Ty) (mk : MReg) (fl : BitVec 2) (st : State) : Host.Outcome State Fault Refusal :=
  slot (.vnarrow d s ty mk fl) (fun u =>
    let w := ty.width
    if grpOk s 2 then
      .done (u.vWrite d w 1 (lanes w) w mk fun k => narrow ty fl (u.rctl fl) (u.gElem (2 * w) 2 s k))
    else u.operand) st

/-- One element converted between two types (R84, R127). -/
def convert (u : State) (sty : Ty) (fl : BitVec 2) (dty : Ty) (du ds : Bool) (a : Nat) : Nat × FFlags :=
  if sty.isFloat then
    if dty.isFloat then fCvt (fmtOf sty) (fmtOf dty) (u.rctl fl) a
    else fToInt (fmtOf sty) (u.rctl fl) dty.width du a
  else
    let i := readInt sty.width (flU fl) a
    if dty.isFloat then intToF (fmtOf dty) (u.rctl 0) i else noFlag (deliverInt dty.width du ds i)
/-- VCVT (R127). -/
def execVcvt (d s : VReg) (sty : Ty) (fl : BitVec 2) (dty : Ty) (du ds : Bool) (mk : MReg) (st : State) :
    Host.Outcome State Fault Refusal :=
  slot (.vcvt d s sty fl dty du ds mk) (fun u =>
    let sk := srcCount sty.width dty.width
    let dk := dstCount sty.width dty.width
    let nw := min sty.width dty.width
    if grpOk s sk && grpOk d dk then
      .done (u.vWrite d dty.width dk (lanes nw) nw mk fun k => convert u sty fl dty du ds (u.gElem sty.width sk s k))
    else u.operand) st
/-- VQUANT (R128): the exact product with the scale, rounded once. -/
def execVquant (d s : VReg) (x : XReg) (ty : Ty) (mk : MReg) (un : Bool) (st : State) : Host.Outcome State Fault Refusal :=
  slot (.vquant d s x ty mk un) (fun u =>
    let sk := quantCount ty
    let c := u.rctl 0
    let sc := Fmt.f32.source c.ftz (f32Of (u.rx x))
    if grpOk s sk then
      .done (u.vWrite d ty.width 1 (lanes ty.width) ty.width mk fun k =>
        fvalToInt c.mode ty.width un ((Fmt.f32.source c.ftz (u.gElem 32 sk s k)).mul sc).1)
    else u.operand) st

/-! ### Bit planes (R85, R86, R129, R130) -/

/-- VPLANE: plane j, bit 7 − j of every element, in bytes 64j to 64j + 63. -/
def execVplane (d s : VReg) (st : State) : Host.Outcome State Fault Refusal :=
  slot (.vplane d s) (fun u =>
    .done (u.wv d (vOf 1 4096 fun b => elem 8 (u.rv s) (b % 512) / 2 ^ (7 - b / 512) % 2))) st
/-- The p-bit view of an element from its planes, plane 0 first (R86). -/
def bpiView (p : Nat) (cent : Bool) (plane : Nat → Bool) : Int :=
  let t := (List.range p).foldl (fun (a : Nat) j => 2 * a + (if plane j then 1 else 0)) 0
  readInt p false t * 2 ^ (8 - p) + (if cent && decide (p < 8) then 2 ^ (7 - p) else 0)
/-- VUNPLANE (R130). -/
def execVunplane (d s : VReg) (p : BitVec 4) (cent : Bool) (mk : MReg) (st : State) : Host.Outcome State Fault Refusal :=
  slot (.vunplane d s p cent mk) (fun u =>
    .done (u.vWrite d 8 1 512 8 mk fun k =>
      noFlag (wrapInt 8 (bpiView p.toNat cent fun j => (u.rv s).getLsbD (512 * j + k))))) st

/-! ### Reductions and the four-way dot (R131, R132) -/

/-- One level of the fixed tree: node j combines nodes 2j and 2j + 1; a lone child passes unchanged. -/
def treeLevel (f : Nat → Nat → Nat × FFlags) : List (Option Nat) → List (Option Nat) × FFlags
  | a :: b :: r =>
    let (t, g) := treeLevel f r
    match a, b with
    | some x, some y => let z := f x y; (some z.1 :: t, z.2 ||| g)
    | some x, none => (some x :: t, g)
    | none, some y => (some y :: t, g)
    | none, none => (none :: t, g)
  | [a] => ([a], 0)
  | [] => ([], 0)
/-- The root of the tree after n levels. -/
def treeRoot (f : Nat → Nat → Nat × FFlags) : Nat → List (Option Nat) → Option Nat × FFlags
  | 0, l => (l.headD none, 0)
  | n + 1, l => let (t, g) := treeLevel f l; let (r, h) := treeRoot f n t; (r, g ||| h)
/-- A float reduction: the present elements widened to F32, then the tree (R131). -/
def floatReduce (ty : Ty) (c : RCtl) (m : MWord) (v : VWord) (f : Nat → Nat → Nat × FFlags) : Option Nat × FFlags :=
  let w := ty.width
  let wide := fun k => fCvt (fmtOf ty) .f32 c (elem w v k)
  let r := treeRoot f 8 ((List.range (lanes w)).map fun k => if mBit m w k then some (wide k).1 else none)
  (r.1, r.2 ||| orFlags (lanes w) (mBit m w) fun k => (wide k).2)
/-- The present elements of an integer register (R131). -/
def presentInts (ty : Ty) (un : Bool) (m : MWord) (v : VWord) : List Int :=
  ((List.range (lanes ty.width)).filter (mBit m ty.width)).map fun k => readInt ty.width un (elem ty.width v k)
/-- VRSUM (R131). -/
def execVrsum (d : XReg) (s : VReg) (ty : Ty) (mk : MReg) (fl : BitVec 2) (st : State) : Host.Outcome State Fault Refusal :=
  slot (.vrsum d s ty mk fl) (fun u =>
    if ty.isFloat then
      let r := floatReduce ty (u.rctl fl) (u.rm mk) (u.rv s) (fAdd .f32 (u.rctl fl))
      .done ((u.wx d (BitVec.ofNat 64 (r.1.getD 0))).wflags r.2)
    else .done (u.wx d (BitVec.ofInt 64 (presentInts ty (flU fl) (u.rm mk) (u.rv s)).sum))) st
/-- VRMAX (R131). -/
def execVrmax (d : XReg) (s : VReg) (ty : Ty) (mk : MReg) (fl : BitVec 2) (st : State) : Host.Outcome State Fault Refusal :=
  slot (.vrmax d s ty mk fl) (fun u =>
    if ty.isFloat then
      let c := u.rctl 0
      let r := floatReduce ty c (u.rm mk) (u.rv s) (fMinMax .f32 c.ftz true)
      .done ((u.wx d (BitVec.ofNat 64 (r.1.getD (Fmt.f32.withSign true Fmt.f32.infBits)))).wflags r.2)
    else .done (u.wx d (BitVec.ofInt 64
      ((presentInts ty (flU fl) (u.rm mk) (u.rv s)).foldl max (intMin ty.width (flU fl)))))) st
/-- VDOT4 (R132). -/
def execVdot4 (d s t : VReg) (mk : MReg) (fl : BitVec 2) (st : State) : Host.Outcome State Fault Refusal :=
  slot (.vdot4 d s t mk fl) (fun u =>
    let b := fun (v : VWord) k => readInt 8 (flU fl) (elem 8 v k)
    .done (u.vWrite d 32 1 128 32 mk fun k =>
      let p := fun j => b (u.rv s) (4 * k + j) * b (u.rv t) (4 * k + j)
      noFlag (deliverInt 32 (flU fl) (flS fl) (readInt 32 (flU fl) (elem 32 (u.rv d) k) + p 0 + p 1 + p 2 + p 3)))) st

/-! ### VRAND (R133) -/

/-- One round of Philox4x32 on the counter words, with the key of the round. -/
def philoxRound (k0 k1 : Nat) (c : Nat × Nat × Nat × Nat) : Nat × Nat × Nat × Nat :=
  let p := 0xD2511F53 * c.1
  let q := 0xCD9E8D57 * c.2.2.1
  ((q / 2 ^ 32) ^^^ c.2.1 ^^^ k0, q % 2 ^ 32, (p / 2 ^ 32) ^^^ c.2.2.2 ^^^ k1, p % 2 ^ 32)
/-- n rounds, the key advancing before every round but the first. -/
def philox : Nat → Nat → Nat → Nat × Nat × Nat × Nat → Nat × Nat × Nat × Nat
  | 0, _, _, c => c
  | n + 1, k0, k1, c => philox n ((k0 + 0x9E3779B9) % 2 ^ 32) ((k1 + 0xBB67AE85) % 2 ^ 32) (philoxRound k0 k1 c)
/-- Lane l of VRAND as 128 bits, word 0 lowest. -/
def randLane (key ctr : Word) (l : Nat) : Nat :=
  let c := philox 10 (key.toNat % 2 ^ 32) (key.toNat / 2 ^ 32)
    ((ctr.toNat % 2 ^ 32 + l) % 2 ^ 32, ctr.toNat / 2 ^ 32, 0, 0)
  c.1 + 2 ^ 32 * c.2.1 + 2 ^ 64 * c.2.2.1 + 2 ^ 96 * c.2.2.2
/-- VRAND. -/
def execVrand (d : VReg) (s t : XReg) (st : State) : Host.Outcome State Fault Refusal :=
  slot (.vrand d s t) (fun u => .done (u.wv d (vOf 128 32 (randLane (u.rx s) (u.rx t))))) st

/-! ### Mask instructions (R137) -/

/-- MAND. -/
def execMand (d s t : MReg) (st : State) : Host.Outcome State Fault Refusal :=
  slot (.mand d s t) (fun u => .done (u.wm d (u.rm s &&& u.rm t))) st
/-- MOR. -/
def execMor (d s t : MReg) (st : State) : Host.Outcome State Fault Refusal :=
  slot (.mor d s t) (fun u => .done (u.wm d (u.rm s ||| u.rm t))) st
/-- MXOR. -/
def execMxor (d s t : MReg) (st : State) : Host.Outcome State Fault Refusal :=
  slot (.mxor d s t) (fun u => .done (u.wm d (u.rm s ^^^ u.rm t))) st
/-- MNOT. -/
def execMnot (d s : MReg) (st : State) : Host.Outcome State Fault Refusal :=
  slot (.mnot d s) (fun u => .done (u.wm d (~~~ (u.rm s)))) st
/-- MPOP: number of elements whose bit is 1. -/
def execMpop (d : XReg) (s : MReg) (ty : Ty) (st : State) : Host.Outcome State Fault Refusal :=
  slot (.mpop d s ty) (fun u =>
    .done (u.wx d (BitVec.ofNat 64 ((List.range (lanes ty.width)).countP (mBit (u.rm s) ty.width))))) st
/-- MFIRST: the least such element, −1 if none. -/
def execMfirst (d : XReg) (s : MReg) (ty : Ty) (st : State) : Host.Outcome State Fault Refusal :=
  slot (.mfirst d s ty) (fun u =>
    .done (u.wx d (match (List.range (lanes ty.width)).find? (mBit (u.rm s) ty.width) with
      | some k => BitVec.ofNat 64 k
      | none => BitVec.allOnes 64))) st
/-- MFROMX: element i is set when i < 64 and bit i of x[s] is 1. -/
def execMfromx (d : MReg) (s : XReg) (ty : Ty) (st : State) : Host.Outcome State Fault Refusal :=
  slot (.mfromx d s ty) (fun u =>
    .done (u.wm d (mOf ty.width (lanes ty.width) fun k => (u.rx s).getLsbD k))) st

end Sys2Proof.Machine
end

