-- ==== Sys2Proof/Machine/Special.lean ====
section
/-! DEFINITION. The special functions, correctly rounded (R134), and the special-function unit (R135, R136).

Transcendental values are enclosed in fixed point with 256 fraction bits and an error far below the distance `slack`; both ends are rounded, and
where they agree the rounding is correct. Where they do not agree the choice is free (log 12). -/

namespace Sys2Proof.Machine

/-- Fraction bits of the fixed-point work. -/
def fixP : Nat := 256
/-- The scale 2^256. -/
def fixOne : Nat := 2 ^ 256
/-- Bound of the error of the series below, in units of 2^−256; their true error is below 2^12 units. -/
def slack : Nat := 2 ^ 20

/-- Σ 1/(k·2^k) from the k-th term on, n terms. -/
def ln2Series : Nat → Nat → Nat
  | 0, _ => 0
  | n + 1, k => fixOne / (k * 2 ^ k) + ln2Series n (k + 1)
/-- ln 2. -/
def ln2Fix : Nat := ln2Series 264 1

/-- The exponential series from term t = y^k/k! on, n terms. -/
def expSeries (y : Nat) : Nat → Nat → Nat → Nat
  | 0, _, _ => 0
  | n + 1, k, t => t + expSeries y n (k + 1) (t * y / fixOne / (k + 1))
/-- 2^f for a fixed-point f in [0, 1). -/
def exp2Fix (f : Nat) : Nat := expSeries (f * ln2Fix / fixOne) 64 0 fixOne

/-- The series of atanh from the odd power t = z^(2k+1) on, n terms. -/
def atanhSeries (z2 : Nat) : Nat → Nat → Nat → Nat
  | 0, _, _ => 0
  | n + 1, k, t => t / (2 * k + 1) + atanhSeries z2 n (k + 1) (t * z2 / fixOne)
/-- log2 of M/2^L in [1, 2). -/
def log2Fix (m l : Nat) : Nat :=
  let z := (m - 2 ^ l) * fixOne / (m + 2 ^ l)
  2 * atanhSeries (z * z / fixOne) 90 0 z * fixOne / ln2Fix

/-- Round an irrational magnitude known to lie between lo·2^e and hi·2^e by RNE; a free choice where the ends differ. -/
def roundBetween (f : Fmt) (ftz neg : Bool) (lo hi : Nat) (e : Int) : Nat × FFlags :=
  let a := roundF f .rne ftz neg lo e true
  let b := roundF f .rne ftz neg hi e true
  if a = b then a else if Config.roundsUp lo hi then b else a

/-- The fixed-point floor and fraction of (−1)^neg · m · 2^e. -/
def fixSplit (neg : Bool) (m : Nat) (e : Int) : Int × Nat :=
  let x : Int := FVal.int neg m * 2 ^ (e + fixP).toNat / 2 ^ (-(e + fixP)).toNat
  (x / fixOne, (x % fixOne).toNat)

/-- 2^a (R134). -/
def fExp2 (f : Fmt) (ftz : Bool) (a : Nat) : Nat × FFlags :=
  let c : RCtl := ⟨.rne, ftz⟩
  match f.source ftz a with
  | .nan s => outNan f s
  | .inf n => (if n then 0 else f.infBits, 0)
  | .fin n m e =>
    if m = 0 then outFin f c false 1 0
    else if e > 10 ∨ Nat.log2 m + e > 10 then
      -- at least 2^11 in magnitude: far beyond every format
      if n then roundF f .rne ftz false 1 (-3000) true else roundF f .rne ftz false 1 3000 true
    else
      let (k, fr) := fixSplit n m e
      if m % 2 ^ (-e).toNat = 0 then outFin f c false 1 k
      else roundBetween f ftz false (exp2Fix fr - slack) (exp2Fix fr + slack) (k - fixP)

/-- log2 a (R134). -/
def fLog2 (f : Fmt) (ftz : Bool) (a : Nat) : Nat × FFlags :=
  let c : RCtl := ⟨.rne, ftz⟩
  match f.source ftz a with
  | .nan s => outNan f s
  | .inf true => outNan f true
  | .inf false => (f.infBits, 0)
  | .fin n m e =>
    if m = 0 then (f.withSign true f.infBits, FFlags.dz)
    else if n then outNan f true
    else
      let l := Nat.log2 m
      let k : Int := e + l
      if m = 2 ^ l then intToF f c k
      else
        let x : Int := k * fixOne + log2Fix m l
        if x < 0 then roundBetween f ftz true (x.natAbs - slack) (x.natAbs + slack) (-(fixP : Int))
        else roundBetween f ftz false (x.natAbs - slack) (x.natAbs + slack) (-(fixP : Int))

/-- 1/a (R134). -/
def fRcp (f : Fmt) (ftz : Bool) (a : Nat) : Nat × FFlags :=
  fDiv f ⟨.rne, ftz⟩ (f.infBits / 2 ^ (f.fb + 1) * 2 ^ f.fb) a

/-- 1/√a (R134). -/
def fRsq (f : Fmt) (ftz : Bool) (a : Nat) : Nat × FFlags :=
  match f.source ftz a with
  | .nan s => outNan f s
  | .inf true => outNan f true
  | .inf false => (0, 0)
  | .fin n m e =>
    if m = 0 then (f.withSign n f.infBits, FFlags.dz)
    else if n then outNan f true
    else
      -- √(2^−e / m), with e made even
      let m1 := if e % 2 = 0 then m else 2 * m
      let e1 : Int := if e % 2 = 0 then e else e - 1
      let r := Nat.sqrt (2 ^ 200 / m1)
      roundF f .rne ftz false r (-100 - e1 / 2) (r * r * m1 != 2 ^ 200)

/-- 1/(1 + e^(−a)) (R134). -/
def fSig (f : Fmt) (ftz : Bool) (a : Nat) : Nat × FFlags :=
  match f.source ftz a with
  | .nan s => outNan f s
  | .inf n => (if n then 0 else f.infBits / 2 ^ (f.fb + 1) * 2 ^ f.fb, 0)
  | .fin n m e =>
    if m = 0 then outFin f ⟨.rne, ftz⟩ false 1 (-1)
    else if e > 9 ∨ Nat.log2 m + e > 9 then
      if n then roundF f .rne ftz false 1 (-3000) true
      else roundF f .rne ftz false (2 ^ 300 - 1) (-300) true
    else
      -- y = −a / ln 2 = k + fr; E = e^(−a) = 2^k · 2^fr
      let x : Int := FVal.int (!n) m * 2 ^ (e + fixP).toNat / 2 ^ (-(e + fixP)).toNat
      let y : Int := x * fixOne / ln2Fix
      let k := y / fixOne
      let v := exp2Fix (y % fixOne).toNat
      let up := k.toNat
      let dn := (-k).toNat
      -- the error of y grows with |a| < 2^10, so the enclosure of E is wider
      let d := fun w => w * 2 ^ up / 2 ^ dn + fixOne
      let num := 2 ^ (2 * fixP + up)
      roundBetween f ftz false (num / (d (v + slack * 2 ^ 20) + 1) - 1) (num / d (v - slack * 2 ^ 20) + 1) (-(fixP : Int) - up)

/-- The function of a special-function instruction. -/
def sfuFn (i : Instr) : Option (VReg × VReg × Ty × MReg × (Fmt → Bool → Nat → Nat × FFlags)) :=
  match i with
  | .vexp2 d s ty mk => some (d, s, ty, mk, fExp2)
  | .vlog2 d s ty mk => some (d, s, ty, mk, fLog2)
  | .vrcp d s ty mk => some (d, s, ty, mk, fRcp)
  | .vrsq d s ty mk => some (d, s, ty, mk, fRsq)
  | .vsig d s ty mk => some (d, s, ty, mk, fSig)
  | _ => none

/-- Issue a special-function instruction: it enters the FIFO of the core, or waits while the FIFO is full (R135). -/
def sfuIssue (i : Instr) (d s : VReg) (mk : MReg) (st : State) : Host.Outcome State Fault Refusal :=
  slot i (fun u =>
    if 8 ≤ u.myCore.sfu.length then u.hold
    else
      let (id, u1) := u.track i (vRef d)
      let r : SfuReq := { key := u.ctx.key, id := id, instr := i, src := u.rv s, mask := u.rm mk, ftz := (u.rctl 0).ftz }
      .done (u1.modMyCore fun c => { c with sfu := c.sfu ++ [r] })) st

/-- VEXP2. -/
def execVexp2 (d s : VReg) (ty : Ty) (mk : MReg) (st : State) : Host.Outcome State Fault Refusal :=
  sfuIssue (.vexp2 d s ty mk) d s mk st
/-- VLOG2. -/
def execVlog2 (d s : VReg) (ty : Ty) (mk : MReg) (st : State) : Host.Outcome State Fault Refusal :=
  sfuIssue (.vlog2 d s ty mk) d s mk st
/-- VRCP. -/
def execVrcp (d s : VReg) (ty : Ty) (mk : MReg) (st : State) : Host.Outcome State Fault Refusal :=
  sfuIssue (.vrcp d s ty mk) d s mk st
/-- VRSQ. -/
def execVrsq (d s : VReg) (ty : Ty) (mk : MReg) (st : State) : Host.Outcome State Fault Refusal :=
  sfuIssue (.vrsq d s ty mk) d s mk st
/-- VSIG. -/
def execVsig (d s : VReg) (ty : Ty) (mk : MReg) (st : State) : Host.Outcome State Fault Refusal :=
  sfuIssue (.vsig d s ty mk) d s mk st

end Sys2Proof.Machine
end

