-- ==== Sys2Proof/Machine/Units.lean ====
section
/-! DEFINITION. Memory-to-memory instructions and the events of the special-function unit (R135, R136, R138 to R141). -/

namespace Sys2Proof.Machine

/-! ### Issue of a memory-to-memory instruction (R138) -/

/-- The checks of its three blocks: each cause over d, s1 and s2 before the next cause (R35, R138). -/
def mmFault (rs : List (ARegV × (Byte → Bool))) : Option (Cause × Word) :=
  match rs.find? fun r => r.1.ptr.toNat % 128 != 0 with
  | some r => some (.align, r.1.ptr)
  | none =>
    match rs.find? fun r => !(boundOk r.1 r.1.ptr.toNat 512) with
    | some r => some (.bound, r.1.ptr)
    | none =>
      match rs.find? fun r => !(r.2 r.1.perm) with
      | some r => some (.perm, r.1.ptr)
      | none =>
        match rs.find? fun r => windowOf r.1.ptr.toNat != 0 || !(windowOk r.1.ptr.toNat 512) with
        | some r => some (.window, r.1.ptr)
        | none => none

/-- Its destination is also a source. -/
def readsDest : Instr → Bool
  | .mmma _ _ _ _ _ => true
  | _ => false
/-- Issue (R138): checks, the advance of each distinct register, a scoreboard entry, the operation. -/
def mmIssue (i : Instr) (ad s t : AReg) (dOk : Byte → Bool) (fl : BitVec 2) (st : State) : Host.Outcome State Fault Refusal :=
  slot i (fun u =>
    let d := u.ra ad; let a := u.ra s; let b := u.ra t
    match mmFault [(d, dOk), (a, permR), (b, permR)] with
    | some (c, v) => u.fault c v
    | none =>
      if u.acqPending then u.hold
      else
        let (id, u1) := u.track i []
        let c := u.rctl fl
        let op : MmOp := { key := u.ctx.key, id := id, instr := i, d := d.ptr.toNat, s1 := a.ptr.toNat, s2 := b.ptr.toNat
                           mode := c.mode, ftz := c.ftz }
        let u2 := u1.modMyCore fun c => { c with mm := c.mm ++ [op] }
        let adv := fun (v : State) (r : AReg) => v.wa r { u.ra r with ptr := (u.ra r).ptr + 512 }
        let u3 := adv (adv (adv u2 ad) s) t
        let u4 := (((u3.watch u.site d.ptr.toNat 512 true).watch u.site a.ptr.toNat 512 false).watch u.site b.ptr.toNat 512 false)
        .done (if readsDest i then u4.watch u.site d.ptr.toNat 512 false else u4)) st

/-- MMADD (R139). -/
def execMmadd (ad s t : AReg) (ty : Ty) (fl : BitVec 2) (st : State) : Host.Outcome State Fault Refusal :=
  mmIssue (.mmadd ad s t ty fl) ad s t permW (if ty.isFloat then fl else 0) st
/-- MMSUB (R139). -/
def execMmsub (ad s t : AReg) (ty : Ty) (fl : BitVec 2) (st : State) : Host.Outcome State Fault Refusal :=
  mmIssue (.mmsub ad s t ty fl) ad s t permW (if ty.isFloat then fl else 0) st
/-- MMMUL (R139). -/
def execMmmul (ad s t : AReg) (ty : Ty) (fl : BitVec 2) (st : State) : Host.Outcome State Fault Refusal :=
  mmIssue (.mmmul ad s t ty fl) ad s t permW (if ty.isFloat then fl else 0) st
/-- MMMA (R139): d needs R and W. -/
def execMmma (ad s t : AReg) (ty : Ty) (fl : BitVec 2) (st : State) : Host.Outcome State Fault Refusal :=
  mmIssue (.mmma ad s t ty fl) ad s t (fun p => permR p && permW p) (if ty.isFloat then fl else 0) st
/-- MMMAX (R139). -/
def execMmmax (ad s t : AReg) (ty : Ty) (fl : BitVec 2) (st : State) : Host.Outcome State Fault Refusal :=
  mmIssue (.mmmax ad s t ty fl) ad s t permW 0 st
/-- MMCVT (R139). -/
def execMmcvt (ad s t : AReg) (ty : Ty) (fl : BitVec 2) (st : State) : Host.Outcome State Fault Refusal :=
  mmIssue (.mmcvt ad s t ty fl) ad s t permW (if ty.isFloat then fl else 0) st

/-! ### MM_COMPLETE (R139, R141) -/

/-- Element i of width w of a line. -/
def lineElem (w x i : Nat) : Nat := x / 2 ^ (w * i) % 2 ^ w

/-- One destination line: d the old line, a and b the source lines (R139). -/
def mmLine (i : Instr) (c : RCtl) (d a b : Nat) : Nat × FFlags :=
  let fold := fun (w n : Nat) (f : Nat → Nat × FFlags) =>
    (packFn w n fun k => (f k).1, (List.range n).foldl (fun (g : FFlags) k => g ||| (f k).2) 0)
  let each := fun (ty : Ty) (f : Nat → Nat → Nat → Nat × FFlags) =>
    fold ty.width (1024 / ty.width) fun k => f (lineElem ty.width d k) (lineElem ty.width a k) (lineElem ty.width b k)
  match i with
  | .mmadd _ _ _ ty fl => each ty fun _ x y => arith ty fl c (· + ·) fAdd x y
  | .mmsub _ _ _ ty fl => each ty fun _ x y => arith ty fl c (· - ·) fSub x y
  | .mmmul _ _ _ ty fl => each ty fun _ x y => arith ty fl c (· * ·) (fun f => fMulTo f f) x y
  | .mmma _ _ _ ty fl => each ty fun z x y => mulAdd ty fl c x y z
  | .mmmax _ _ _ ty fl => each ty fun _ x y => minMax ty fl c.ftz true x y
  | .mmcvt _ _ _ ty fl =>
    let w := ty.width
    let h := 512 / w
    fold w (1024 / w) fun k => narrow ty fl c (if k < h then lineElem (2 * w) a k else lineElem (2 * w) b (k - h))
  | _ => (d, 0)

/-- Beats b, b + 1, … of an operation: the flags, and the line address of the first poisoned source, in a beat that of d, s1, s2 (R139, R141, log 93). -/
def State.mmBeats (s : State) (site : Nat) (o : MmOp) (n b : Nat) (fl : FFlags) (pz : Option Nat) : State × FFlags × Option Nat :=
  match n with
  | 0 => (s, fl, pz)
  | n + 1 =>
    let m := (s.core site).mem
    let (d, pd) := m.read (o.d + 128 * b) 128
    let (x, pa) := m.read (o.s1 + 128 * b) 128
    let (y, pb) := m.read (o.s2 + 128 * b) 128
    let bad := if readsDest o.instr && pd then some (o.d + 128 * b) else if pa then some (o.s1 + 128 * b) else if pb then some (o.s2 + 128 * b)
      else none
    let (v, f) := mmLine o.instr ⟨o.mode, o.ftz⟩ d x y
    let s1 := match bad with
      | some a => s.localPoison site a
      | none => s
    (s1.locStore site (o.d + 128 * b) 128 v bad.isSome).mmBeats site o n (b + 1) (fl ||| f) (pz.or bad)

/-- The operation may be performed: no earlier access of its thread to one of its bytes is to be performed, no acquire is pending (R141, R170, R195). -/
def State.mmReady (s : State) (site k : Nat) : Option MmOp :=
  let c := s.core site
  match c.mm[k]? with
  | none => none
  | some o =>
    let t := s.thread o.key
    if t.accs.any (fun a => decide (a.ord < o.id) && elsMeetRanges a.els o.ranges) ||
       t.outst.any (fun x => x.acq && !x.fin && decide (x.id < o.id)) ||
       (c.mm.take k).any (fun p => p.key == o.key && p.ranges.any fun r => o.ranges.any fun q => meets r.1 r.2 q.1 q.2) ||
       c.eng.any (fun p => p.key == o.key && decide (p.ord < o.id) && p.ranges.any fun r => o.ranges.any fun q => meets r.1 r.2 q.1 q.2)
    then none else some o

/-- MM_COMPLETE: the k-th memory-to-memory operation of a core performs its beats and completes (R140, R141). -/
def execMmComplete (site k : Nat) (s : State) : Host.Outcome State Fault Refusal :=
  match s.mmReady site k with
  | none => .next s
  | some o =>
    let (s1, fl, pz) := s.mmBeats site o 4 0 0 none
    let s2 := s1.modCore site fun c => { c with mm := c.mm.eraseIdx k }
    .next (s2.modThread o.key fun t =>
      let t1 := match pz with
        | some a => t.failOutst o.id { cause := .poison, slot := true, val := BitVec.ofNat 64 a }
        | none => t
      (t1.flag fl).complete o.id)

/-! ### The special-function unit (R135, R136) -/

/-- The oldest request that has not started starts. -/
def sfuStartFirst : List SfuReq → List SfuReq
  | [] => []
  | r :: t => if r.started then r :: sfuStartFirst t else { r with started := true } :: t
/-- SFU_START: the oldest request that has not started starts (R135). -/
def execSfuStart (site : Nat) (s : State) : Host.Outcome State Fault Refusal :=
  .next (s.modCore site fun c => { c with sfu := sfuStartFirst c.sfu })

/-- The destination and flags of a request: masked-off elements keep the old value (R118, R134). -/
def sfuResult (r : SfuReq) (old : VWord) : Option (VReg × VWord × FFlags) :=
  match sfuFn r.instr with
  | none => none
  | some (d, _, ty, _, f) =>
    let w := ty.width
    let n := lanes w
    let on := fun i => mBit r.mask w i
    let res := fun i => f (fmtOf ty) r.ftz (elem w r.src i)
    some (d, vOf w n (fun i => if on i then (res i).1 else elem w old i), orFlags n on fun i => (res i).2)

/-- SFU_COMPLETE: the oldest started request writes its destination and frees its entries (R135). -/
def execSfuComplete (site : Nat) (s : State) : Host.Outcome State Fault Refusal :=
  match (s.core site).sfu with
  | [] => .next s
  | r :: q =>
    if r.started then
      let s1 := s.modCore site fun c => { c with sfu := q }
      .next (s1.modThread r.key fun t =>
        match sfuFn r.instr with
        | none => t
        | some (d, _, _, _, _) =>
          match sfuResult r (t.getV d) with
          | some (d, v, fl) => ((t.fillV d v).flag fl).complete r.id
          | none => t)
    else .next s

end Sys2Proof.Machine
end

