-- ==== Sys2Proof/Machine/Matrix.lean ====
section
/-! DEFINITION. The matrix engine: MTILE, jobs, accumulator transfers and the events of the engine (R88 to R91, R186 to R205). -/

namespace Sys2Proof.Machine

/-! ### Numbers of the engine (R86 to R90, R189) -/

/-- Element k of width w of a stored row. -/
def rowElem (w : Nat) (rows : List Nat) (r k : Nat) : Nat := (rows[r]?.getD 0) / 2 ^ (w * k) % 2 ^ w
/-- A[i][k] of a float operand. -/
def aFloat (ta : Bool) (rows : List Nat) (i k : Nat) : Nat := if ta then rowElem 16 rows k i else rowElem 16 rows i k
/-- B[k][j] of a float operand. -/
def bFloat (tb : Bool) (rows : List Nat) (k j : Nat) : Nat := if tb then rowElem 16 rows j k else rowElem 16 rows k j
/-- A[i][k] of an I8 operand. -/
def aInt (ta : Bool) (rows : List Nat) (i k : Nat) : Int := readInt 8 false (if ta then rowElem 8 rows k i else rowElem 8 rows i k)
/-- The view of B[k][n] of a BPI operand (R86, R87, R189). -/
def bView (p : Nat) (cent tb : Bool) (rows : List Nat) (k n : Nat) : Int :=
  bpiView p cent fun j => (rows[j]?.getD 0).testBit (if tb then 32 * k + n else 64 * n + k)
/-- The integer dot of a k-step (R89). -/
def kDot (p : Nat) (cent ta tb : Bool) (ra rb : List Nat) (i j : Nat) : Int :=
  ((List.range 64).map fun k => aInt ta ra i k * bView p cent tb rb k j).sum
/-- An operand element as the engine reads it: a BF16 subnormal is a zero of the same sign (R81). -/
def engIn (f : Fmt) (x : Nat) : Nat := if f = Fmt.bf16 ∧ x / 2 ^ 7 % 2 ^ 8 = 0 then x / 2 ^ 15 * 2 ^ 15 else x
/-- The exact products of a k-step, and whether one is invalid or has a signalling operand (R88). -/
def kTerms (f : Fmt) (ta tb : Bool) (ra rb : List Nat) (i j : Nat) : List FVal × Bool :=
  let ps := (List.range 32).map fun k =>
    let x := f.value (engIn f (aFloat ta ra i k)); let y := f.value (engIn f (bFloat tb rb k j))
    let m := x.mul y
    (m.1, m.2 || x.isSig || y.isSig)
  (ps.map fun p => p.1, ps.any fun p => p.2)

/-- Modes of an update (R90). -/
def updElem (mode : BitVec 2) (g c : BitVec 32) (p : List FVal × Bool) : BitVec 32 :=
  let cv := Fmt.f32.value c.toNat
  let out := fun (ts : List FVal) (bad : Bool) => BitVec.ofNat 32 (roundSum Fmt.f32 .engine bad false ts).1
  if mode = 0 then out p.1 p.2
  else if mode = 1 then out (cv :: p.1) (p.2 || cv.isSig)
  else if mode = 2 then
    let gv := Fmt.f32.value g.toNat
    let m := gv.mul cv
    out (m.1 :: p.1) (p.2 || m.2 || gv.isSig || cv.isSig)
  else out (cv :: p.1.map FVal.neg) (p.2 || cv.isSig)

/-- The term s × I of an integer operation (R89). -/
def scaled (sa sb : BitVec 32) (i : Int) : List FVal × Bool :=
  let s := Fmt.f32.value (fMulTo .f32 .f32 .engine sa.toNat sb.toNat).1
  let m := s.mul (.fin (decide (i < 0)) i.natAbs 0)
  ([m.1], m.2)

/-- 48-bit saturating addition (R89). -/
def sat48 (a b : Int) : Int × Bool :=
  let s := a + b
  if s > 2 ^ 47 - 1 then (2 ^ 47 - 1, true) else if s < -(2 ^ 47) then (-(2 ^ 47), true) else (s, false)

/-! ### The accumulator store (R186, R187) -/

/-- Row and column of a tile's origin. -/
def tileRow (t : Nat) : Nat := 32 * (t % 8)
/-- Column of a tile's origin. -/
def tileCol (t : Nat) : Nat := 32 * (t / 8)
/-- An element of a tile. -/
def tileElem (acc : Map (BitVec 32)) (t i j : Nat) : BitVec 32 := Map.get (fun _ => 0) acc (64 * (tileRow t + i) + tileCol t + j)
/-- The 1,024 elements of a tile, row by row. -/
def tileList (acc : Map (BitVec 32)) (t : Nat) : List (BitVec 32) := (List.range 1024).map fun n => tileElem acc t (n / 32) (n % 32)
/-- Write elements of a tile from the n-th on. -/
def tileWrite (acc : Map (BitVec 32)) (t n : Nat) : List (BitVec 32) → Map (BitVec 32)
  | [] => acc
  | v :: r => tileWrite (Map.set (fun _ => 0) acc (64 * (tileRow t + n / 32) + tileCol t + n % 32) v) t (n + 1) r
/-- The tile of an accumulator address word; none when it breaks the layout (R187). -/
def tileOf (w : Word) : Option Nat :=
  let row := (w.extractLsb' 0 8).toNat
  let col := (w.extractLsb' 8 6).toNat
  if w.toNat < 2 ^ 14 ∧ row % 32 = 0 ∧ (col = 0 ∨ col = 32) then some (row / 32 + 8 * (col / 32)) else none
/-- The thread owns the rows of a tile (R186). -/
def ownsTile (c : Ctl) (t : Nat) : Bool := decide (c.accbase.toNat ≤ tileRow t) && decide (tileRow t + 32 ≤ c.accbase.toNat + c.acclen.toNat)
/-- The tile named by a word, when the thread may use it (R187). -/
def checkTile (c : Ctl) (w : Word) : Option Nat :=
  match tileOf w with
  | some t => if ownsTile c t then some t else none
  | none => none

/-! ### Checks of operands and formats (R188, R190, R191, R193) -/

/-- The combinations that the engine accepts (R188). -/
def formatsOk (fa : BitVec 2) (fb : BitVec 7) : Bool :=
  let tb := fb.extractLsb' 0 2
  let p := (fb.extractLsb' 2 4).toNat
  ((fa == 0 && tb == 0) || (fa == 1 && tb == 1)) && fb.extractLsb' 2 5 == 0 || fa == 2 && tb == 2 && decide (2 ≤ p) && decide (p ≤ 8)

/-- The format is BPI. -/
def isBpi (fb : BitVec 7) : Bool := fb.extractLsb' 0 2 == 2
/-- OPERAND of a local operand (R190). -/
def operandBad (bpi : Bool) (rowLen rot rpitch : Nat) : Bool := decide (3 ≤ rot) || (bpi && rot != 0) || (!bpi && decide (rpitch < rowLen))
/-- ALIGN of a local operand. -/
def operandMis (bpi : Bool) (base tpitch rpitch : Nat) : Bool := base % 32 != 0 || (!bpi && (rpitch % 32 != 0 || tpitch % 32 != 0))
/-- A byte of the stored rows leaves local memory. -/
def rowsOut (bpi : Bool) (shape : Nat × Nat) (base rot rpitch : Nat) : Bool :=
  (List.range shape.1).any fun r => decide (localTop < rowAddr bpi base rot rpitch r + shape.2)

/-- A local operand as a pair of words (R190). -/
def pairOperand (x0 x1 : Word) : MOperand :=
  .rows x0.toNat (x1.extractLsb' 32 4).toNat (x1.extractLsb' 16 16).toNat (x1.extractLsb' 0 16).toNat

/-- The faults of an operand: OPERAND, then ALIGN, then WINDOW. -/
def MOperand.faults (o : MOperand) (bpi : Bool) (shape : Nat × Nat) (word : Word) : List (Cause × Word) :=
  match o with
  | .group _ => []
  | .rows base rot tp rp =>
    (if operandBad bpi shape.2 rot rp then [(.operand, word)] else []) ++
    (if operandMis bpi base tp rp then [(.align, BitVec.ofNat 64 base)] else []) ++
    (if rowsOut bpi shape base rot rp then [(.window, BitVec.ofNat 64 base)] else [])
/-- The faults of a scale pointer in integer mode (R193). -/
def scaleFaults (w : Word) : List (Cause × Word) :=
  if w = 0 then []
  else (if w.toNat % 4 ≠ 0 then [(.align, w)] else []) ++ (if localTop < w.toNat + 128 then [(.window, w)] else [])

/-- The fault of the least rank, the first of equals. -/
def leastFault : List (Cause × Word) → Option (Cause × Word)
  | [] => none
  | f :: r => match leastFault r with
    | none => some f
    | some g => if g.1.rank < f.1.rank then some g else some f

/-! ### Enqueueing (R91, R201) -/

/-- A command with the registers sampled at its issue (R91). -/
def sampled (u : State) (kind : MKind) : MCmd :=
  let c := u.src.ctl
  { key := u.ctx.key, id := 0, ord := 0, kind := kind, prio := c.mprio.toNat, since := u.time, fmta := c.fmta, fmtb := c.fmtb
    scla := c.scla, sclb := c.sclb, fade := c.fade, word := u.ctx.word }
/-- Put a command in the engine's queue (R201). -/
def State.enqueue (u : State) (c : MCmd) : State :=
  { u with nextId := u.nextId + 1 }.modMyCore fun k => { k with eng := k.eng ++ [{ c with ord := u.nextId }] }
/-- The queue is full, or an acquire is pending (R170, R201). -/
def State.engWait (u : State) : Bool := decide (8 ≤ u.myCore.eng.length) || u.acqPending

/-- The register group of an operand field (R191). -/
def State.groupAt (u : State) (op : BitVec 6) : Vector VWord 4 :=
  let r : VReg := op.setWidth 5
  #v[u.rv r, u.rv (r + 1), u.rv (r + 2), u.rv (r + 3)]
/-- An operand of MTILE (R190, R191). -/
def State.tileOperand (u : State) (op : BitVec 6) : MOperand :=
  let n : XReg := op.setWidth 5
  if op.getLsbD 5 then pairOperand (u.rx n) (u.rx (n + 1)) else .group (u.groupAt op)
/-- An operand field that is misaligned: an odd pair, or a group that is no multiple of 4 (R51, R191). -/
def fieldBad (op : BitVec 6) : Bool := if op.getLsbD 5 then op.getLsbD 0 else op.setWidth 5 % 4 != (0 : BitVec 5)

/-- MTILE (R193). -/
def execMtile (xc : XReg) (opA opB : BitVec 6) (tb ta : Bool) (mode : BitVec 2) (st : State) : Host.Outcome State Fault Refusal :=
  slot (.mtile xc opA opB tb ta mode) (fun u =>
    let c := u.src.ctl
    let a := u.tileOperand opA
    let b := u.tileOperand opB
    let int := c.fmta == 2
    let bad : List (Cause × Word) :=
      (if fieldBad opA || fieldBad opB || (checkTile c (u.rx xc)).isNone || !(formatsOk c.fmta c.fmtb) then [(.operand, u.wordVal)] else []) ++
      a.faults false (rowShape true c.fmta c.fmtb ta) u.wordVal ++ b.faults (isBpi c.fmtb) (rowShape false c.fmta c.fmtb tb) u.wordVal ++
      (if int then scaleFaults c.scla ++ scaleFaults c.sclb else [])
    match leastFault bad, checkTile c (u.rx xc) with
    | some f, _ => u.fault f.1 f.2
    | none, none => u.operand
    | none, some t =>
      if u.engWait then u.hold
      else
        let n : XReg := opA.setWidth 5
        let k : XReg := opB.setWidth 5
        .done (u.enqueue { sampled u .mtile with
          mode := mode, ta := ta, tb := tb, opA := a, opB := b, tile := t
          xs := #v[u.rx xc, if opA.getLsbD 5 then u.rx n else 0, if opA.getLsbD 5 then u.rx (n + 1) else 0,
                   if opB.getLsbD 5 then u.rx k else 0, if opB.getLsbD 5 then u.rx (k + 1) else 0] })) st

/-! ### Jobs (R196 to R198) -/

/-- A field of a card: n bits from a bit of the word at a byte offset. -/
def cardField (card : BitVec 1024) (off bit n : Nat) : Nat := card.toNat / 2 ^ (8 * off + bit) % 2 ^ n
/-- A signed field. -/
def cardInt (card : BitVec 1024) (off bit n : Nat) : Int := readInt n false (cardField card off bit n)

/-- The loop levels of a card. -/
def cardLevels (card : BitVec 1024) : List Level :=
  (List.range (min 5 (cardField card 0x20 6 3))).map fun l =>
    { count := max 1 (cardField card (0x28 + 8 * l) 0 16), sa := cardInt card (0x28 + 8 * l) 16 16, sb := cardInt card (0x28 + 8 * l) 32 16
      sc := cardInt card (0x28 + 8 * l) 48 8, k := cardField card (0x28 + 8 * l) 56 1 == 1 }
/-- Formats and scale pointers in force (R196). -/
def cardFmt (card : BitVec 1024) (c : MCmd) : MCmd :=
  let c1 := if cardField card 0x20 4 1 = 1 then
      { c with fmta := BitVec.ofNat 2 (cardField card 0x08 16 2), fmtb := BitVec.ofNat 7 (cardField card 0x18 16 7) } else c
  if cardField card 0x20 5 1 = 1 then
    { c1 with scla := BitVec.ofNat 64 (cardField card 0x08 32 32), sclb := BitVec.ofNat 64 (cardField card 0x18 32 32) } else c1
/-- A command with the formats and scale pointers in force (R91, R196). -/
def MCmd.inForce (c : MCmd) : MCmd := if c.kind = .job then cardFmt c.card c else c
/-- A job from its card and the sampled registers. -/
def jobOf (card : BitVec 1024) (c : MCmd) : MCmd :=
  let opd := fun (o : Nat) => MOperand.rows (cardField card o 0 32) (cardField card (o + 8) 0 4) (cardField card o 48 16) (cardField card o 32 16)
  let lv := cardLevels card
  { c with
    kind := .job, card := card, mode := BitVec.ofNat 2 (cardField card 0x20 0 2), ta := cardField card 0x20 2 1 == 1
    tb := cardField card 0x20 3 1 == 1, opA := opd 0x00, opB := opd 0x10, tile := cardField card 0x20 9 4, levels := lv
    idx := lv.map fun _ => 0 }

/-- Reserved bits of a card (R196). -/
def cardReserved (card : BitVec 1024) : Bool :=
  let n := cardField card 0x20 6 3
  cardField card 0x00 19 13 != 0 || cardField card 0x08 4 12 != 0 || cardField card 0x10 19 13 != 0 || cardField card 0x18 4 12 != 0 ||
  cardField card 0x20 13 51 != 0 ||
  ((List.range 5).any fun l => cardField card (0x28 + 8 * l) 57 7 != 0 || (decide (n ≤ l) && cardField card (0x28 + 8 * l) 0 64 != 0)) ||
  (card.toNat / 2 ^ (8 * 0x50) != 0)

/-- The values of Σ il·step at the corner index vectors. -/
def corners : List (Nat × Int) → List Int
  | [] => [0]
  | (n, st) :: r => (corners r).flatMap fun x => if n ≤ 1 then [x] else [x, x + (n - 1 : Int) * st]
/-- The tile numbers that the walk reaches, from those of the corners: each lies in 0 to 15. -/
def tilesOf (base : Int) (ls : List Level) : List Int :=
  ls.foldl (fun (acc : List Int) l =>
    (acc.flatMap fun x => if l.sc = 0 then [x] else (List.range (min l.count 17)).map fun (i : Nat) => x + (i : Int) * l.sc).eraseDups) [base]

/-- Steps of A or B in bytes, or of the scales. -/
def stepsOf (ls : List Level) (tp : Nat) (isA : Bool) : List (Nat × Int) := ls.map fun l => (l.count, (if isA then l.sa else l.sb) * tp)
/-- Steps of a scale array: only non-K levels move it. -/
def scaleSteps (ls : List Level) (isA : Bool) : List (Nat × Int) :=
  ls.map fun l => (l.count, if l.k then 0 else (if isA then l.sa else l.sb) * 128)

/-- The first misaligned address that the walk meets. -/
def walkMis (base : Int) (unit : Nat) (steps : List (Nat × Int)) : Option Int :=
  if base % unit ≠ 0 then some base
  else (steps.find? fun p => decide (1 < p.1) && p.2 % (unit : Int) != 0).map fun p => base + p.2

/-- The faults of an operand of a job over its walk (R190, R197). -/
def jobOperandFaults (o : MOperand) (bpi : Bool) (shape : Nat × Nat) (ls : List Level) (isA : Bool) (word : Word) : List (Cause × Word) :=
  match o with
  | .group _ => []
  | .rows base rot tp rp =>
    let st := stepsOf ls tp isA
    (if operandBad bpi shape.2 rot rp then [(.operand, word)] else []) ++
    (if operandMis bpi base tp rp then [(.align, BitVec.ofNat 64 base)]
     else match walkMis base 32 st with
       | some a => [(.align, BitVec.ofInt 64 a)]
       | none => []) ++
    (match (corners st).find? fun d => decide ((base : Int) + d < 0) || rowsOut bpi shape ((base : Int) + d).toNat rot rp with
     | some d => [(.window, BitVec.ofInt 64 (base + d))]
     | none => [])
/-- The faults of a scale array over the walk. -/
def jobScaleFaults (w : Word) (ls : List Level) (isA : Bool) : List (Cause × Word) :=
  if w = 0 then []
  else
    let st := scaleSteps ls isA
    (match walkMis w.toNat 4 st with
     | some a => [(.align, BitVec.ofInt 64 a)]
     | none => []) ++
    (match (corners st).find? fun d => decide ((w.toNat : Int) + d < 0) || decide ((localTop : Int) < w.toNat + d + 128) with
     | some d => [(.window, BitVec.ofInt 64 (w.toNat + d))]
     | none => [])

/-- A K level stands outside a non-K level, or there is none (R197). -/
def levelsBad (ls : List Level) : Bool :=
  !(ls.any fun l => l.k) || (ls.dropWhile fun l => l.k).any fun l => l.k

/-- The fault of a job's contents (R197). -/
def jobFault (c : Ctl) (j : MCmd) (word : Word) : Option (Cause × Word) :=
  let n := cardField j.card 0x20 6 3
  let cs := corners (j.levels.map fun l => (l.count, l.sc))
  let tileBad := cs.any (fun d => decide ((j.tile : Int) + d < 0) || decide (15 < (j.tile : Int) + d)) ||
    (tilesOf j.tile j.levels).any fun t => !(ownsTile c t.toNat)
  let fmtBits := cardField j.card 0x20 4 1 = 1 ∧ (cardField j.card 0x08 18 14 ≠ 0 ∨ cardField j.card 0x18 23 9 ≠ 0)
  leastFault (
    (if cardReserved j.card || n == 0 || decide (5 < n) || levelsBad j.levels || !(formatsOk j.fmta j.fmtb) || decide fmtBits || tileBad
     then [(.operand, word)] else []) ++
    jobOperandFaults j.opA false (rowShape true j.fmta j.fmtb j.ta) j.levels true word ++
    jobOperandFaults j.opB (isBpi j.fmtb) (rowShape false j.fmta j.fmtb j.tb) j.levels false word ++
    (if j.fmta = 2 then jobScaleFaults j.scla j.levels true ++ jobScaleFaults j.sclb j.levels false else []))

/-- Earlier accesses of a thread to one of some bytes are still to be performed. -/
def State.ownPending (s : State) (key ord : Nat) (rs : List (Nat × Nat)) : Bool :=
  let c := s.core (key / 4)
  (s.thread key).accs.any (fun a => decide (a.ord < ord) && elsMeetRanges a.els rs) ||
  c.mm.any (fun o => o.key == key && decide (o.id < ord) && o.ranges.any fun r => rs.any fun q => meets r.1 r.2 q.1 q.2) ||
  c.eng.any (fun o => o.key == key && decide (o.ord < ord) && o.ranges.any fun r => rs.any fun q => meets r.1 r.2 q.1 q.2)

/-- A block read from local memory at issue: its address is checked, then the thread's earlier accesses to it are awaited (R35, R195). -/
def State.readBlock (u : State) (addr : Word) (align n : Nat) (f : Nat → SlotRes) : SlotRes :=
  if addr.toNat % align ≠ 0 then u.fault .align addr
  else if localTop < addr.toNat + n then u.fault .window addr
  else if u.acqPending || u.ownPending u.ctx.key u.nextId [(addr.toNat, n)] then u.hold
  else
    let (x, p) := u.myCore.mem.read addr.toNat n
    if p then .raise { u.trapOf .poison addr with found := some addr.toNat } else f x

/-- MJOB (R197). -/
def execMjob (d s : XReg) (st : State) : Host.Outcome State Fault Refusal :=
  slot (.mjob d s) (fun u =>
    u.readBlock (u.rx s) 128 128 fun x =>
      let j := jobOf (BitVec.ofNat 1024 x) (sampled u .job)
      match jobFault u.src.ctl j.inForce u.wordVal with
      | some f => u.fault f.1 f.2
      | none =>
        if u.engWait then u.hold
        else
          let id := u.src.jobCtr
          let u1 := u.enqueue { j with jobId := id }
          .done ((u1.wx d (id.setWidth 64)).modCur fun t => { t with jobCtr := t.jobCtr + 1, jobHist := (0 :: t.jobHist).take 16 })) st

/-! ### Status (R199, R200) -/

/-- A status word. -/
def statusWord (steps : Nat) (psn : Bool) (st : Nat) : Word :=
  BitVec.ofNat 64 (steps * 65536) ||| (if psn then 8 else 0) ||| BitVec.ofNat 64 (st % 8)
/-- The status word of a job in the queue. -/
def MCmd.status (c : MCmd) : Word :=
  statusWord c.steps c.psn (match c.st with | .queued => 0 | .running => 1 | .suspended => 2 | .ending => 1)
/-- The status of a thread's job (R199). -/
def State.jobStatus (s : State) (key : Nat) (id : BitVec 16) : Word :=
  match (s.core (key / 4)).eng.find? fun c => c.key == key && c.kind == .job && c.jobId == id && !c.orphan with
  | some c => c.status
  | none =>
    let t := s.thread key
    match t.jobHist[(t.jobCtr - 1 - id).toNat]? with
    | some w => w
    | none => 5
/-- The status is final: DONE, CANCELLED or UNKNOWN. -/
def finalStatus (w : Word) : Bool := decide (3 ≤ (w.extractLsb' 0 3).toNat)

/-- A job ends with a status: it enters the history, and the threads that wait for it go on (R199, R200). -/
def State.jobEnds (s : State) (c : MCmd) (state : Nat) : State :=
  let w := statusWord c.steps c.psn state
  let site := c.key / 4
  let s1 := if c.orphan then s else s.modThread c.key fun t => { t with jobHist := t.jobHist.set (t.jobCtr - 1 - c.jobId).toNat w }
  let mine := fun (m : MWaiter) => m.key == c.key && m.job == c.jobId && !c.orphan
  let s2 := ((s1.core site).mwaits.filter mine).foldl (fun u m => u.modThread m.key fun t => (t.putX m.dst w).complete m.id) s1
  s2.modCore site fun k => { k with mwaits := k.mwaits.filter fun m => !mine m, eng := k.eng.filter fun x => x.ord != c.ord }

/-- MWAIT (R200). -/
def execMwait (d s : XReg) (la : BitVec 4) (st : State) : Host.Outcome State Fault Refusal :=
  slot (.mwait d s la) (fun u =>
    let id := (u.rx s).setWidth 16
    let w := u.jobStatus u.ctx.key id
    let (n, u1) := u.track (.mwait d s la) (xRef d)
    if finalStatus w then .done (u1.modCur fun t => (t.putX d w).complete n)
    else .done (u1.modMyCore fun c => { c with mwaits := c.mwaits ++ [⟨u.ctx.key, n, id, d⟩] })) st
/-- MSTAT (R200). -/
def execMstat (d s : XReg) (st : State) : Host.Outcome State Fault Refusal :=
  slot (.mstat d s) (fun u => .done (u.wx d (u.jobStatus u.ctx.key ((u.rx s).setWidth 16)))) st
/-- MCANCEL (R200): a job that does not run stops at once, a running one before its next k-step. -/
def execMcancel (s : XReg) (st : State) : Host.Outcome State Fault Refusal :=
  slot (.mcancel s) (fun u =>
    match u.myCore.eng.find? fun c => c.key == u.ctx.key && c.kind == .job && c.jobId == (u.rx s).setWidth 16 && !c.orphan with
    | none => .done u
    | some c =>
      match c.st with
      | .queued | .suspended => .done (u.jobEnds c 4)
      | .running => .done (u.modMyCore fun k => { k with eng := k.eng.map fun x => if x.ord = c.ord then { x with cancel := true } else x })
      | .ending => .done u) st

/-! ### Accumulator transfers (R203) -/

/-- Issue of a transfer: the checks of R203. -/
def acop (i : Instr) (kind : MKind) (xp xc xl : XReg) (len : Nat) (st : State) : Host.Outcome State Fault Refusal :=
  slot i (fun u =>
    let pitch := ((u.rx xp).extractLsb' 0 16).toNat
    let addr := u.rx xl
    let bad : List (Cause × Word) :=
      (if (checkTile u.src.ctl (u.rx xc)).isNone || decide (pitch < len) then [(.operand, u.wordVal)] else []) ++
      (if addr.toNat % len ≠ 0 ∨ pitch % len ≠ 0 then [(.align, addr)] else []) ++
      (if localTop < addr.toNat + 31 * pitch + len then [(.window, addr)] else [])
    match leastFault bad, checkTile u.src.ctl (u.rx xc) with
    | some f, _ => u.fault f.1 f.2
    | none, none => u.operand
    | none, some t =>
      if u.engWait then u.hold
      else
        let (n, u1) := u.track i []
        .done (u1.enqueue { sampled u kind with
          id := n, tile := t, addr := addr.toNat, pitch := pitch, mul := (u.rx xp).extractLsb' 32 32
          xs := #v[u.rx xp, u.rx xc, addr, 0, 0] })) st
/-- ACST (R203). -/
def execAcst (xp xc xl : XReg) (la : BitVec 4) (st : State) : Host.Outcome State Fault Refusal := acop (.acst xp xc xl la) .acst xp xc xl 128 st
/-- ACSTB (R203). -/
def execAcstb (xp xc xl : XReg) (la : BitVec 4) (st : State) : Host.Outcome State Fault Refusal := acop (.acstb xp xc xl la) .acstb xp xc xl 64 st
/-- ACLD (R203). -/
def execAcld (xp xc xl : XReg) (la : BitVec 4) (st : State) : Host.Outcome State Fault Refusal := acop (.acld xp xc xl la) .acld xp xc xl 128 st
/-- ACSTSC (R203). -/
def execAcstsc (xp xc xl : XReg) (la : BitVec 4) (st : State) : Host.Outcome State Fault Refusal := acop (.acstsc xp xc xl la) .acstsc xp xc xl 128 st
/-- ACZERO (R203, R204). -/
def execAczero (xc : XReg) (st : State) : Host.Outcome State Fault Refusal :=
  slot (.aczero xc) (fun u =>
    match checkTile u.src.ctl (u.rx xc) with
    | none => u.operand
    | some t => if u.engWait then u.hold else .done (u.enqueue { sampled u .aczero with tile := t, xs := #v[0, u.rx xc, 0, 0, 0] })) st

/-! ### The engine chooses (R201, R202) -/

/-- Effective priority at a time: one level for every 4,096 cycles that a command has waited; a running job keeps the one it started with. -/
def MCmd.eff (now : Word) (c : MCmd) : Nat :=
  c.prio + c.aged + (if c.st = .queued ∨ c.st = .suspended then now - c.since else c.cyc).toNat / 4096
/-- A command may start: it is queued or suspended and not stopped by a park, and every earlier command of its thread is gone (R201, R206). -/
def Core.eligible (k : Core) (c : MCmd) : Bool :=
  !c.frozen && (c.st == .queued || c.st == .suspended) && !(k.eng.any fun x => x.key == c.key && decide (x.ord < c.ord))
/-- The better of two candidates: higher priority, then issued first. -/
def betterCmd (now : Word) (a b : MCmd) : MCmd := if a.eff now < b.eff now ∨ (a.eff now = b.eff now ∧ b.ord < a.ord) then b else a
/-- The command the engine would take. -/
def Core.nextCmd (now : Word) (k : Core) : Option MCmd :=
  match (k.eng.take 8).filter k.eligible with
  | [] => none
  | c :: r => some (r.foldl (betterCmd now) c)
/-- The running command. -/
def Core.running (k : Core) : Option MCmd := k.eng.find? fun c => c.st == .running
/-- The queue with one command replaced. -/
def Core.putCmd (k : Core) (c : MCmd) : Core := { k with eng := k.eng.map fun x => if x.ord = c.ord then c else x }

/-- MATRIX_DISPATCH: a free engine takes the best eligible command (R201). -/
def execMatrixDispatch (site : Nat) (s : State) : Host.Outcome State Fault Refusal :=
  let k := s.core site
  match k.running, k.nextCmd s.time with
  | none, some c => .next (s.modCore site fun k => k.putCmd { c with st := .running, cyc := s.time - c.since })
  | _, _ => .next s

/-- MATRIX_AGEING: the k-th command of the queue gains a priority level after 4,096 cycles (R201). -/
def execMatrixAgeing (site k : Nat) (s : State) : Host.Outcome State Fault Refusal :=
  match (s.core site).eng[k]? with
  | some c =>
    if (c.st = .queued ∨ c.st = .suspended) ∧ 4096 ≤ s.time - c.since then
      .next (s.modCore site fun x => x.putCmd { c with aged := c.aged + 1, since := c.since + 4096 })
    else .next s
  | none => .next s

/-! ### A k-step (R189 to R198) -/

/-- The lines of a range that hold a poisoned byte of it. -/
def poisLines (m : LocalMem) (a n : Nat) : List Nat :=
  if poisoned m.pois a n then
    (List.range (n / 128 + 2)).filterMap fun i =>
      let l := a / 128 + i
      let lo := max a (128 * l)
      if poisoned m.pois lo (min (a + n) (128 * l + 128) - lo) then some (128 * l) else none
  else []
/-- The stored rows of an operand and their poisoned lines (R189, R205). -/
def readRows (m : LocalMem) (o : MOperand) (bpi : Bool) (shape : Nat × Nat) : List Nat × List Nat :=
  match o with
  | .group v =>
    let all := v[0].toNat + 2 ^ 4096 * v[1].toNat + 2 ^ 8192 * v[2].toNat + 2 ^ 12288 * v[3].toNat
    ((List.range shape.1).map fun r => all / 2 ^ (8 * shape.2 * r) % 2 ^ (8 * shape.2), [])
  | .rows base rot _ rp =>
    let rs := (List.range shape.1).map fun r => rowAddr bpi base rot rp r
    (rs.map fun a => (m.read a shape.2).1, (rs.flatMap fun a => poisLines m a shape.2).eraseDups)

/-- Σ il·step of the levels. -/
def walkSum (ls : List Level) (idx : List Nat) (f : Level → Int) : Int := ((ls.zip idx).map fun p => (p.2 : Int) * f p.1).sum
/-- The operand of a job at its indices. -/
def MOperand.moved (o : MOperand) (d : Int) : MOperand :=
  match o with
  | .rows base rot tp rp => .rows ((base : Int) + d).toNat rot tp rp
  | .group v => .group v
/-- Bytes between k-steps. -/
def MOperand.tp : MOperand → Nat
  | .rows _ _ tp _ => tp
  | .group _ => 0
/-- The command as its present k-step sees it: operands, scale pointers and tile at the indices (R198). -/
def MCmd.now (c : MCmd) : MCmd :=
  if c.kind = .job then
    let c := c.inForce
    { c with
      opA := c.opA.moved (walkSum c.levels c.idx fun l => l.sa * c.opA.tp)
      opB := c.opB.moved (walkSum c.levels c.idx fun l => l.sb * c.opB.tp)
      tile := ((c.tile : Int) + walkSum c.levels c.idx fun l => l.sc).toNat
      scla := if c.scla = 0 then 0 else BitVec.ofInt 64 (c.scla.toNat + walkSum c.levels c.idx fun l => if l.k then 0 else l.sa * 128)
      sclb := if c.sclb = 0 then 0 else BitVec.ofInt 64 (c.sclb.toNat + walkSum c.levels c.idx fun l => if l.k then 0 else l.sb * 128) }
  else c
/-- The next index vector, level 0 fastest; none at the end (R198). -/
def nextIdx : List Level → List Nat → Option (List Nat)
  | l :: ls, i :: is =>
    if i + 1 < l.count then some ((i + 1) :: is) else (nextIdx ls is).map fun r => 0 :: r
  | _, _ => none
/-- Every K index is 0. -/
def MCmd.first (c : MCmd) : Bool := (c.levels.zip c.idx).all fun p => !p.1.k || p.2 == 0
/-- Every K index is at its maximum. -/
def MCmd.last (c : MCmd) : Bool := (c.levels.zip c.idx).all fun p => !p.1.k || p.2 + 1 == p.1.count

/-- The bytes that a k-step reads. -/
def MCmd.reads (c : MCmd) : List (Nat × Nat) := { c.now with kind := .mtile }.ranges

/-- Address of scale i of an operation: 0 to 31 of A, 32 to 63 of B; none where the pointer is 0 and supplies 1.0 (R89). -/
def MCmd.scaleAt (n : MCmd) (i : Nat) : Option Nat :=
  if i < 32 then (if n.scla = 0 then none else some (n.scla.toNat + 4 * i))
  else if n.sclb = 0 then none else some (n.sclb.toNat + 4 * (i - 32))
/-- Scale i as the operation uses it. -/
def MCmd.scale (n : MCmd) (i : Nat) : BitVec 32 :=
  match n.scaleAt i with
  | none => 0x3F800000
  | some _ => Map.get (fun _ => 0) n.scales i
/-- The scales that an integer operation still has to read before its first k-step (R91). -/
def MCmd.unread (c : MCmd) : List Nat :=
  let n := c.now
  if n.fmta = 2 then (List.range 64).filter fun i => (n.scaleAt i).isSome && (Map.find n.scales i).isNone else []

/-- What a k-step makes: the command with its sums, an update when there is one, whether a sum saturated, the poisoned lines. -/
structure KRes where
  cmd : MCmd
  upd : Option (List (BitVec 32))
  sat : Bool
  pois : List Nat

/-- One k-step (R88 to R90, R193, R198). -/
def kstep (k : Core) (c : MCmd) : KRes :=
  let n := c.now
  let ra := readRows k.mem n.opA false (rowShape true n.fmta n.fmtb n.ta)
  let rb := readRows k.mem n.opB (isBpi n.fmtb) (rowShape false n.fmta n.fmtb n.tb)
  let old := fun (i j : Nat) => tileElem k.acc n.tile i j
  if n.fmta = 2 then
    let p := (n.fmtb.extractLsb' 2 4).toNat
    let parts := (List.range 1024).map fun e =>
      sat48 (if c.first then 0 else c.sums[e]?.getD 0) (kDot p (n.fmtb.getLsbD 6) n.ta n.tb ra.1 rb.1 (e / 32) (e % 32))
    let sums := parts.map fun x => x.1
    let upd := if c.last then some ((List.range 1024).map fun e =>
        updElem n.mode n.fade (old (e / 32) (e % 32)) (scaled (n.scale (e / 32)) (n.scale (32 + e % 32)) (sums[e]?.getD 0)))
      else none
    { cmd := { c with sums := sums }, upd := upd, sat := parts.any fun x => x.2, pois := (ra.2 ++ rb.2).eraseDups }
  else
    let f := if n.fmta = 0 then Fmt.bf16 else Fmt.f16
    let m := if c.first then n.mode else 1
    { cmd := c, sat := false, pois := (ra.2 ++ rb.2).eraseDups
      upd := some ((List.range 1024).map fun e =>
        updElem m n.fade (old (e / 32) (e % 32)) (kTerms f n.ta n.tb ra.1 rb.1 (e / 32) (e % 32))) }

/-- Write an update into a tile, its poison bit with it: SET from clean data clears it (R205). -/
def Core.applyUpd (k : Core) (t : Nat) (els : List (BitVec 32)) (set pois : Bool) : Core :=
  let bit : BitVec 16 := 1 <<< t
  { k with
    acc := tileWrite k.acc t 0 els
    tilePois := if pois then k.tilePois ||| bit else if set then k.tilePois &&& ~~~bit else k.tilePois }

/-- Poisoned lines that the engine read: the deferred-rank record of each (R205). -/
def State.engPoison (s : State) (site : Nat) : List Nat → State
  | [] => s
  | a :: r => (s.record (bankOf site)
      { rank := 2, source := 3, tenant := s.coreTenant site, addr := BitVec.ofNat 64 a, unit := (s.coreId site).toNat }).engPoison site r
/-- The poison bit of the tile being updated is set (R205). -/
def Core.markTile (k : Core) (t : Nat) (bad : Bool) : Core := if bad then { k with tilePois := k.tilePois ||| (1 <<< t) } else k

/-- The engine reads one scale of the operation that begins, a 4-byte read; which one comes next is open (R91). -/
def State.readScale (s : State) (site : Nat) (c : MCmd) : State :=
  let (r, s1) := s.drawWord
  let n := c.now
  let i := c.unread[r.toNat % c.unread.length]?.getD 0
  let a := (n.scaleAt i).getD 0
  let (v, p) := (s.core site).mem.read a 4
  let line := a / 128 * 128
  let c1 := { c with
    scales := Map.put c.scales i (BitVec.ofNat 32 v), opPois := c.opPois || p, psn := c.psn || p
    sclPois := if p && !c.sclPois.contains line then c.sclPois ++ [line] else c.sclPois }
  (s1.engPoison site (if p && !c.sclPois.contains line then [line] else [])).modCore site fun k => (k.markTile n.tile p).putCmd c1

/-- After a k-step: the command's state, its last update held back until the command completes (R194, R198, R202). -/
def State.afterStep (s : State) (site : Nat) (c : MCmd) (r : KRes) : State :=
  let n := c.now
  let pois := c.opPois || !r.pois.isEmpty
  let set := n.mode = 0 ∧ (c.kind = .mtile ∨ n.fmta = 2 ∨ c.first)
  let s1 := ((s.engPoison site r.pois).modCore site fun k => k.markTile n.tile (!r.pois.isEmpty)).modThread c.key fun t =>
    if r.sat && !c.orphan then { t with ctl := { t.ctl with msat := 1 } } else t
  let c0 := { r.cmd with steps := c.steps + 1, psn := c.psn || !r.pois.isEmpty }
  let c1 := if r.upd.isSome then { c0 with opPois := false, scales := [], sclPois := [] } else { c0 with opPois := pois }
  let nxt := if c.kind = .mtile then none else nextIdx c.levels c.idx
  match nxt with
  | none => s1.modCore site fun k => k.putCmd { c1 with st := .ending, update := r.upd.map fun e => (n.tile, e, pois), opPois := decide set }
  | some ix =>
    let s2 := s1.modCore site fun k =>
      let k1 := match r.upd with
        | some e => k.applyUpd n.tile e set pois
        | none => k
      k1.putCmd { c1 with idx := ix }
    if c1.cancel then s2.jobEnds { c1 with idx := ix } 4
    else if c1.frozen then s2.modCore site fun k => k.putCmd { c1 with idx := ix, st := .suspended, since := s.time - c1.cyc }
    else
      let k := s2.core site
      let susp := (k.eng.filter fun x => x.st == .suspended && !x.restored).length
      match k.nextCmd s.time with
      | some o =>
        if c1.eff s.time < o.eff s.time ∧ susp < 2 then s2.modCore site fun k => k.putCmd { c1 with idx := ix, st := .suspended, since := s.time - c1.cyc }
        else s2
      | none => s2

/-- KSTEP_END: the running MTILE or job reads the scales of an operation that begins, or ends a k-step, once the thread's earlier accesses to the
bytes it reads are performed and the last update of an earlier command is written (R91, R194, R195). -/
def execKstepEnd (site : Nat) (s : State) : Host.Outcome State Fault Refusal :=
  match (s.core site).running with
  | none => .next s
  | some c =>
    if (c.kind ≠ .mtile ∧ c.kind ≠ .job) ∨ s.ownPending c.key c.ord c.reads = true ∨ (s.core site).eng.any (fun x => x.st == .ending) then .next s
    else if c.unread ≠ [] then .next (s.readScale site c)
    else .next (s.afterStep site c (kstep (s.core site) c))

/-! ### Completion (R194, R204) -/

/-- Rows of a transfer to local memory (R204). -/
def storeRows (k : Core) (c : MCmd) (len : Nat) (f : BitVec 32 → Nat) (w : Nat) : LocalMem :=
  let pois := k.tilePois.getLsbD c.tile
  (List.range 32).foldl (fun (m : LocalMem) r =>
    m.write (c.addr + r * c.pitch) len (packFn w 32 fun j => f (tileElem k.acc c.tile r j)) pois) k.mem
/-- Perform a transfer or an ACZERO (R204, R205). -/
def State.transfer (s : State) (site : Nat) (c : MCmd) : State :=
  let k := s.core site
  match c.kind with
  | .acst => s.modCore site fun k => { k with mem := storeRows k c 128 (fun x => x.toNat) 32 }
  | .acstb => s.modCore site fun k => { k with mem := storeRows k c 64 (fun x => (fCvt .f32 .bf16 .engine x.toNat).1) 16 }
  | .acstsc => s.modCore site fun k => { k with mem := storeRows k c 128 (fun x => (fMulTo .f32 .f32 .engine x.toNat c.mul.toNat).1) 32 }
  | .aczero => s.modCore site fun k => k.applyUpd c.tile (List.replicate 1024 0) true false
  | .acld =>
    let rows := (List.range 32).map fun r => k.mem.read (c.addr + r * c.pitch) 128
    let bad := ((List.range 32).flatMap fun r => poisLines k.mem (c.addr + r * c.pitch) 128).eraseDups
    let els := rows.flatMap fun x => (List.range 32).map fun j => BitVec.ofNat 32 (lineElem 32 x.1 j)
    (s.engPoison site bad).modCore site fun k => k.applyUpd c.tile els true (!bad.isEmpty)
  | .mtile | .job => s

/-- The command that completes next: one whose last update is to be written, else a running transfer whose bytes are free. -/
def State.completing (s : State) (site : Nat) : Option MCmd :=
  let k := s.core site
  match k.eng.find? fun c => c.st == .ending with
  | some c => some c
  | none => match k.running with
    | some c => if c.kind = .mtile ∨ c.kind = .job ∨ s.ownPending c.key c.ord c.ranges then none else some c
    | none => none

/-- MATRIX_COMMAND_COMPLETE: a command's last update or its transfer is written, and it leaves the queue (R194, R204). -/
def execMatrixCommandComplete (site : Nat) (s : State) : Host.Outcome State Fault Refusal :=
  match s.completing site with
  | none => .next s
  | some c =>
    if c.st = .ending then
      let s1 := match c.update with
        | some (t, e, p) => s.modCore site fun k => k.applyUpd t e c.opPois p
        | none => s
      if c.kind = .job then .next (s1.jobEnds c 3)
      else .next (s1.modCore site fun k => { k with eng := k.eng.filter fun x => x.ord != c.ord })
    else
      .next (((s.transfer site c).modCore site fun k => { k with eng := k.eng.filter fun x => x.ord != c.ord }).modThread c.key fun t =>
        if c.id = 0 then t else t.complete c.id)

end Sys2Proof.Machine
end

