-- ==== Sys2Proof/Machine/Image.lean ====
section
/-! DEFINITION. Members and their places; the save image of a member, written and read (R19, R227, R228, R232, R233, R301, R315). -/

namespace Sys2Proof.Machine

/-! ### Where a member runs (R11, R19, R228) -/

/-- The thread slots of a team, by member slot. -/
def Team.slots (t : Team) : List Nat := (List.range 4).filter fun i => t.tmask.getLsbD i
/-- The sites of a team, in row-major order. -/
def Team.sites (t : Team) : List Nat :=
  (List.range t.h).flatMap fun y => (List.range t.w).map fun x => t.site.toNat + 64 * y + x
/-- Members of a team. -/
def Team.size (t : Team) : Nat := t.w * t.h * t.slots.length
/-- A member's place. -/
structure Seat where
  key : Nat
  acc : Nat
  spillOff : Nat
  team : Nat
  deriving DecidableEq, Repr, Inhabited
/-- The seat of a member in a team; none when it is not of this team. -/
def Team.seat (t : Team) (spill ti mem : Nat) : Option Seat :=
  let n := mem - t.first
  if mem < t.first ∨ t.size ≤ n then none
  else
    let j := n % t.slots.length
    let p := n / t.slots.length
    let k := t.slots[j]?.getD 0
    some { key := 4 * (t.site.toNat + 64 * (p / t.w) + p % t.w) + k, acc := (t.accb.extractLsb' (8 * k) 8).toNat
           spillOff := t.spillOff + j * 256 * spill, team := ti }
/-- The seat of a member in a placement. -/
def seatIn (ts : List Team) (spill ti mem : Nat) : Option Seat :=
  match ts with
  | [] => none
  | t :: r => match t.seat spill ti mem with
    | some x => some x
    | none => seatIn r spill (ti + 1) mem
/-- The seat of a member, and of its twin. -/
def Group.seat (g : Group) (mem : Nat) : Option Seat := seatIn g.teams g.desc.spill 0 mem
/-- The seat of the twin of a member. -/
def Group.twinSeat (g : Group) (mem : Nat) : Option Seat := seatIn g.twins g.desc.spill 0 mem

/-! ### The save image (R233) -/

/-- Put a field of n bytes at an offset. -/
def fieldAt (off n v : Nat) : Nat := v % 2 ^ (8 * n) * 2 ^ (8 * off)
/-- Read a field of n bytes at an offset. -/
def getField (x off n : Nat) : Nat := x / 2 ^ (8 * off) % 2 ^ (8 * n)
/-- Put equal fields one after the other. -/
def fieldsAt (off n : Nat) : List Nat → Nat
  | [] => 0
  | v :: r => fieldAt off n v + fieldsAt (off + n) n r

/-- Bytes of an image. -/
def imageSize (vallot acclen jobs : Nat) : Nat := 0x880 + 512 * vallot + 256 * acclen + 128 + 6400 * jobs

/-- The registers an engine command sampled. -/
def MCmd.regsAt (c : MCmd) : Nat :=
  fieldsAt 128 8 [c.fmta.toNat, c.fmtb.toNat, c.scla.toNat, c.sclb.toNat, c.fade.toNat, c.prio]
/-- The bytes of a register group. -/
def MOperand.groupBytes : MOperand → Nat
  | .group v => fieldsAt 0 512 (v.toList.map fun x => x.toNat)
  | .rows _ _ _ _ => 0
/-- A command record (R233). -/
def MCmd.toRecord (c : MCmd) : Nat :=
  match c.kind with
  | .job =>
    fieldAt 0 128 c.card.toNat + c.regsAt + fieldsAt 176 2 c.idx + fieldAt 192 8 c.status.toNat + fieldAt 200 2 c.jobId.toNat +
      fieldsAt 208 6 (c.sums.map fun i => (BitVec.ofInt 48 i).toNat)
  | .mtile =>
    fieldAt 0 4 c.word.toNat + fieldAt 8 8 c.xs[0].toNat + fieldsAt 16 8 [c.xs[1].toNat, c.xs[2].toNat, c.xs[3].toNat, c.xs[4].toNat] +
      c.regsAt + fieldAt 208 2048 c.opA.groupBytes + fieldAt 2256 2048 c.opB.groupBytes + fieldAt 6352 1 1
  | .acst | .acstb | .acld | .aczero | .acstsc =>
    fieldAt 0 4 c.word.toNat + fieldAt 8 8 c.xs[0].toNat + fieldsAt 16 8 [c.xs[1].toNat, c.xs[2].toNat] + fieldAt 6352 1 2

/-- The commands of a thread that its image records, in queue order. -/
def Core.recordsOf (k : Core) (key : Nat) : List MCmd := k.eng.filter fun c => c.key == key && c.frozen && !c.orphan

/-- The save image of a member (R233), and its size. -/
def State.imageOf (s : State) (key : Nat) (r : Resident) : Nat × Nat :=
  let t := s.thread key
  let k := s.core (key / 4)
  let c := t.ctl
  let recs := k.recordsOf key
  let used := t.tagUsed.toNat
  let vm : BitVec 32 := r.vmask &&& BitVec.ofNat 32 (2 ^ c.vallot.toNat - 1)
  let isKick : Bool := match t.act with | some a => a.kind == .kick | none => false
  let flags := (if t.act.isSome then 1 else 0) + (if isKick then 2 else 0) + (if r.isTwin then 4 else 0) + (if t.storelate.isSome then 8 else 0)
  let nt := c.acclen.toNat / 32
  let tiles := (List.range (2 * nt)).map fun i => c.accbase.toNat / 32 + i % nt + 8 * (i / nt)
  let psn := ((tiles.zipIdx).map fun e => if k.tilePois.getLsbD e.1 then 2 ^ e.2 else 0).sum
  let head :=
    fieldAt 0 4 0x45564153 + fieldAt 4 2 1 + fieldAt 6 2 flags + fieldAt 8 8 r.name.toNat + fieldAt 16 2 r.member.toNat +
    fieldAt 18 2 c.acclen.toNat + fieldAt 20 1 c.vallot.toNat + fieldAt 21 1 recs.length + fieldAt 22 2 psn + fieldAt 24 8 t.pc.toNat +
    fieldAt 32 4 vm.toNat + fieldAt 36 4 c.sbhold.toNat + fieldAt 40 8 used +
    fieldAt 48 8 ((t.reqs.map fun b => 2 ^ b.tag).sum) + fieldAt 56 8 (t.storelate.getD 0).toNat
  let words := [c.vctl.toNat, c.vflags.toNat, c.fmta.toNat, c.fmtb.toNat, c.scla.toNat, c.sclb.toNat, c.fade.toNat, c.mprio.toNat, c.msat.toNat,
    (k.tags.tdone &&& t.tagUsed).toNat, (k.tags.terr &&& t.tagUsed).toNat, c.cpa[0].toNat, c.cpa[1].toNat, c.cpa[2].toNat, c.cpa[3].toNat,
    c.tgen.toNat, c.acttag.toNat, c.bartmo.toNat, t.sys.wdog.toNat, t.sys.issued.toNat, t.sys.rgnpc.toNat, t.jobCtr.toNat,
    t.ready[0].toNat + 2 ^ 16 * t.ready[1].toNat + 2 ^ 32 * t.ready[2].toNat + 2 ^ 48 * t.ready[3].toNat]
  let regs := fieldsAt 0x180 8 ((List.range 32).map fun i => if i = 0 then 0 else (t.regs.x[i]?.getD 0).toNat) +
    fieldsAt 0x280 32 (t.regs.a.toList.map fun a =>
      fieldsAt 0 8 [a.ptr.toNat, a.base.toNat, a.limit.toNat % 2 ^ 64] + fieldAt 24 1 a.perm.toNat + fieldAt 25 1 (a.limit.toNat / 2 ^ 64)) +
    fieldsAt 0x480 128 ((List.range 8).map fun i => if i = 0 then 0 else (t.regs.m[i]?.getD 0).toNat) +
    fieldsAt 0x880 512 ((List.range c.vallot.toNat).map fun i => if vm.getLsbD i then (t.regs.v[i]?.getD 0).toNat else 0)
  let o1 := 0x880 + 512 * c.vallot.toNat
  let o2 := o1 + 256 * c.acclen.toNat
  let rows := fieldsAt o1 4 ((List.range (64 * c.acclen.toNat)).map fun i => (Map.get (fun _ => 0) k.acc (64 * c.accbase.toNat + i)).toNat)
  let hist := fieldsAt o2 8 ((List.range 16).map fun i => (s.jobStatus key (t.jobCtr - 16 + BitVec.ofNat 16 i)).toNat)
  (head + fieldsAt 0x80 8 words + regs + rows + hist + fieldsAt (o2 + 128) 6400 (recs.map MCmd.toRecord),
   imageSize c.vallot.toNat c.acclen.toNat recs.length)

/-! ### Restoring (R206, R233) -/

/-- The sampled registers of a record. -/
def recRegs (x key now : Nat) (kind : MKind) : MCmd :=
  { key := key, id := 0, ord := 0, kind := kind, restored := true, prio := getField x 168 8 % 4, since := BitVec.ofNat 64 now
    fmta := BitVec.ofNat 2 (getField x 128 8), fmtb := BitVec.ofNat 7 (getField x 136 8), scla := BitVec.ofNat 64 (getField x 144 8)
    sclb := BitVec.ofNat 64 (getField x 152 8), fade := BitVec.ofNat 32 (getField x 160 8) }
/-- The operand of a restored MTILE: stored rows by its x words, or the group's bytes. -/
def recOperand (op : BitVec 6) (x0 x1 : Word) (x off : Nat) : MOperand :=
  if op.getLsbD 5 then pairOperand x0 x1
  else .group (Vector.ofFn fun i : Fin 4 => BitVec.ofNat 4096 (getField x (off + 512 * i.val) 512))
/-- The tile of an accumulator address word; 0 for a word that names none. -/
def recTile (w : Word) : Nat := (tileOf w).getD 0
/-- A command from its record (R233). -/
def MCmd.ofRecord (x key now : Nat) : MCmd :=
  let w : IWord := BitVec.ofNat 32 (getField x 0 4)
  let xs : Vector Word 5 := Vector.ofFn fun i : Fin 5 => BitVec.ofNat 64 (getField x (8 + 8 * i.val) 8)
  match getField x 6352 1 with
  | 0 =>
    let j := jobOf (BitVec.ofNat 1024 (getField x 0 128)) (recRegs x key now .job)
    let st := getField x 192 8
    { j with
      idx := (List.range j.levels.length).map fun i => getField x (176 + 2 * i) 2, steps := st / 65536, psn := st / 8 % 2 == 1
      st := if st / 65536 = 0 then .queued else .suspended, jobId := BitVec.ofNat 16 (getField x 200 2)
      sums := (List.range 1024).map fun i => (BitVec.ofNat 48 (getField x (208 + 6 * i) 6)).toInt }
  | 1 =>
    match (decodeWord w).toOption with
    | some (.mtile _ opA opB tb ta mode) =>
      { recRegs x key now .mtile with
        word := w, xs := xs, mode := mode, ta := ta, tb := tb, tile := recTile xs[0]
        opA := recOperand opA xs[1] xs[2] x 208, opB := recOperand opB xs[3] xs[4] x 2256 }
    | _ => { recRegs x key now .mtile with word := w, xs := xs }
  | _ =>
    let kind : MKind := match (decodeWord w).toOption with
      | some (.acst _ _ _ _) => .acst | some (.acstb _ _ _ _) => .acstb | some (.acld _ _ _ _) => .acld
      | some (.acstsc _ _ _ _) => .acstsc | _ => .aczero
    { recRegs x key now kind with
      word := w, xs := xs, prio := 0, tile := recTile xs[1]
      addr := xs[2].toNat, pitch := xs[0].toNat % 2 ^ 16, mul := BitVec.ofNat 32 (xs[0].toNat / 2 ^ 32) }

end Sys2Proof.Machine
end

