-- ==== Sys2Proof/Machine/Member.lean ====
section
/-! DEFINITION. How activations end, and how members become resident and leave (R33, R116, R117, R206, R212, R225, R228, R231 to R235, R299, R306, R375). -/

namespace Sys2Proof.Machine

namespace State

/-- The header fields of a message that a thread sends, or its core on its account. -/
def keyMsg (s : State) (key : Nat) : Msg :=
  { id := 0, frm := .core (key / 4), dest := .core (key / 4), cls := .rsp, typ := 0, dst := s.whoOf key, src := s.whoOf key
    tenant := s.coreTenant (key / 4), fl := { sup := (s.thread key).sup } }

/-- READYDELTA to a steering node (R247): w0 the group, w1 the child; pool index, total and class in SPEC. -/
def readyMsg (s : State) (frm dest : Agent) (name : Word) (pool child cls total : Nat) (ten : BitVec 12) : State :=
  s.send {
    id := 0, frm := frm, dest := dest, cls := .rsp, typ := MT.readydelta, dst := ⟨0x7FF, s.coreId (s.siteAt dest), 0⟩
    src := ⟨s.devId false ten, s.coreId (siteOfAgent frm), 0⟩, tenant := ten
    spec := BitVec.ofNat 19 (pool % 256 * 2 ^ 11 + total % 256 * 8 + cls % 4), w := #v[name, BitVec.ofNat 64 child, 0, 0, 0, 0] }
/-- The report of a member's readiness for a class to its core's node (R247). -/
def sendReady (s : State) (key cls total : Nat) : State :=
  match (s.thread key).res with
  | none => s
  | some r =>
    match Map.find s.groups r.grp with
    | none => s
    | some g =>
      match g.pool, r.isTwin with
      | some p, false =>
        let t := (g.teams.find? fun t => t.sites.contains (key / 4)).map fun t => t.site.toNat
        let node := if key / 4 = g.root ∧ t = some g.root then Agent.root g.idx else .router (key / 4)
        s.readyMsg (.core (key / 4)) node (r.name.setWidth 64) p (key % 4) cls (min total 255) g.tenant
      | _, _ => s
/-- Readiness of a member for a class. -/
def readyOf (s : State) (key cls : Nat) : Nat := ((s.thread key).ready[cls]?.getD 0).toNat
/-- The readiness of a resident member becomes n, and is reported (R245, R247). -/
def setReady (s : State) (key : Nat) (cls n : Nat) : State :=
  (s.modThread key fun t => { t with ready := t.ready.setIfInBounds cls (BitVec.ofNat 16 n) }).sendReady key cls n
/-- 0 is reported for every class, the member's own counts as they stand (R232, R235, R245). -/
def withdrawReady (s : State) (key : Nat) : State :=
  (List.range 4).foldl (fun u c => if u.readyOf key c = 0 then u else u.sendReady key c 0) s
/-- The member's counts are reported again (R231, R245). -/
def offerReady (s : State) (key : Nat) : State :=
  (List.range 4).foldl (fun u c => if u.readyOf key c = 0 then u else u.sendReady key c (u.readyOf key c)) s

/-! ### The end of an activation (R225, R306, R375) -/

/-- BREAK of the handle of a thread's activation (R269). -/
def breakAct (s : State) (key : Nat) (a : Activation) (code : Nat) : State :=
  if a.handle = 0 ∨ a.replied then s
  else
    let m := { s.keyMsg key with fl := { sup := a.sup } }
    s.sendOf key { s.toRelay (.core (key / 4)) (key / 4) m a.handle MT.brk with w := #v[a.handle, BitVec.ofNat 64 code, a.handle, 0, 0, 0] }

/-- A report to a node of a Kickoff tree (R306): w0 started, w1 faulted, w2 the KICK, w3 the group, w4 the node (4096 × team + site),
w5 the thread whose accesses it follows, plus 1. -/
def kickReport (s : State) (site : Nat) (like : Msg) (kick node : Nat) (name : Word) (started faulted after : Nat) : State :=
  s.send { like with
    frm := .core site, dest := .router (node % 4096), cls := .rsp, typ := MT.kickend, dst := ⟨like.src.dev, s.coreId (node % 4096), 0⟩
    w := #v[BitVec.ofNat 64 started, BitVec.ofNat 64 faulted, BitVec.ofNat 64 kick, name, BitVec.ofNat 64 node, BitVec.ofNat 64 after] }

/-- The activation of a thread ends: how it ended (R373), the break code of its handle, and whether a KICK counts it as faulted (R306). -/
def finishAct (s : State) (key how : Nat) (code : Option Nat) : State :=
  let t := s.thread key
  match t.act with
  | none => s
  | some a =>
    let s1 := match code with
      | some c => s.breakAct key a c
      | none => s
    let name : Word := match t.res with | some r => r.name.setWidth 64 | none => 0
    let s2 := if a.kind = .kick ∧ (match t.res with | some r => r.isTwin | none => false) = false then
        let e : EndReport := { msg := s1.nextId, key := key, ids := t.pendSet, ord := s1.nextId }
        (s1.modCore (key / 4) fun c => { c with ends := c.ends ++ [e] }).kickReport (key / 4) (s1.keyMsg key) a.kickId a.kickNode name 1
          (if code.isSome then 1 else 0) (key + 1)
      else s1
    let s3 := s2.trace (key / 4) 2 (a.tag.toNat + 64 * (key % 4)) a.entry s.time (t.sys.issued - a.issued) (BitVec.ofNat 64 how)
    s3.modThread key fun t => { t with
      act := none
      sys := { t.sys with
        qwait := t.sys.qwait + (a.start - a.acc), srch := t.sys.srch + a.search, runc := t.sys.runc + (s.time - a.start)
        wdog := 0, armed := none } }

/-- The core reports to a group's root: w0 what (1 resident, 2 parked, 3 gone), w1 the group, w2 the member,
w3 whether its twin (R230). -/
def coreReport (s : State) (site : Nat) (what : Nat) (r : Resident) : State :=
  s.send { s.keyMsg (4 * site) with
    dest := .root r.grp, typ := MT.grpstat, dst := ⟨(s.whoOf (4 * site)).dev, s.coreId (s.siteAt (.root r.grp)), 0⟩
    w := #v[BitVec.ofNat 64 what, r.name.setWidth 64, r.member.setWidth 64, if r.isTwin then 1 else 0, 0, 0] }

/-- A core's note to itself that a slot has gone idle: a late load, or a withdrawing member that leaves (R228, R235). -/
def noteIdle (s : State) (key : Nat) : State :=
  match (s.thread key).res with
  | none => s
  | some r =>
    if r.late || r.st == .withdrawing then
      s.send { s.keyMsg key with typ := MT.grpctl, spec := 9, w := #v[BitVec.ofNat 64 (key % 4), 0, r.name.setWidth 64, 0, 0, 0] }
    else s

/-- The thread stops issuing, in user mode (R117). -/
def goIdle (s : State) (key : Nat) : State :=
  (s.modThread key fun t => { t with running := false, sup := false, rep := none, viaEret := false }).noteIdle key

/-- An arrival of kind H whose target was being produced here is no longer expected from a local reply (R266). -/
def refetch (s : State) (key : Nat) (h : Word) : State :=
  let site := key / 4
  let c := s.core site
  if h = 0 ∨ c.holds h ∨ s.producing key h then s
  else match c.arrivals.find? fun a => a.msg.kind == 2 && a.msg.target == h && !a.counted with
    | some a => s.coreFetch site a.msg h
    | none => s

/-- The activation of a thread ends, and an arrival that awaited its reply here no longer does (R225, R266). -/
def closeAct (s : State) (key how : Nat) (code : Option Nat) : State :=
  let h := match (s.thread key).act with | some a => a.handle | none => 0
  (s.finishAct key how code).refetch key h
/-- End an activation and leave the thread idle, no region open (R225, R366). -/
def endAct (s : State) (key how : Nat) (code : Option Nat) : State :=
  ((s.closeAct key how code).modThread key fun t => { t with sys := { t.sys with rgnpc := 0 } }).goIdle key

end State

/-! ### Becoming resident (R206, R228, R231, R233, R234) -/

/-- The registers a new member starts with: zeros, TGEN from the method table's EN bits (R231). -/
def tgenOf (tab : VWord) : Word :=
  (List.range 64).foldl (fun (w : Word) i => if (State.method tab i).getLsbD 43 then w ||| (1#64 <<< i) else w) 0
/-- The registers marked "loaded" (R26, R231). -/
def Thread.loaded (t : Thread) (g : Group) (r : Resident) (acc site : Nat) : Thread :=
  { t with ctl := { t.ctl with
      tenant := g.tenant, gname := r.name, member := r.member, physxy := BitVec.ofNat 12 site
      accbase := BitVec.ofNat 8 acc, acclen := g.desc.acclen } }
/-- A new member, with the allotment of its group (R227). Its registers are zero; the trap registers TVEC, EPC, ECAUSE, EVAL, ESTATUS and ACCTX,
which R234 does not name, are left as the slot has them, and BARTMO takes its reset value (DESIGN CHOICE, log 96). -/
def Thread.fresh (t : Thread) (r : Resident) (vallot : BitVec 6) : Thread :=
  { t with
    regs := {}, ctl := { tgen := tgenOf r.mtab, vallot := vallot }, marks := [], storelate := none, reqs := [], jobCtr := 0, jobHist := [], tagUsed := 0
    outst := t.outst.filter fun o => !o.fin
    ready := Vector.replicate 4 0, running := false, act := none, hostW := false
    sys := { t.sys with rgnpc := 0, wdog := 0, armed := none, issued := 0, repcnt := 0 } }

/-- Request bits of an image: those that were set before keep their ages (R215, R233). -/
def reqsOf (old : List ReqBit) (bits now : Nat) : List ReqBit :=
  (old.filter fun b => bits.testBit b.tag) ++
    ((List.range 64).filter fun i => bits.testBit i && !(old.any fun b => b.tag == i)).map fun i =>
      { tag := i, ord := now, tacc := BitVec.ofNat 64 now }

/-- A restored address register; the upper two bits of PERM are zero (R23). -/
def aregOf (x : Nat) : ARegV :=
  { ptr := BitVec.ofNat 64 (getField x 0 8), base := BitVec.ofNat 64 (getField x 8 8)
    limit := BitVec.ofNat 65 (getField x 16 8 + 2 ^ 64 * getField x 25 1), perm := BitVec.ofNat 8 (getField x 24 1 % 64) }
/-- A value of CPA: bit 56 is zero (R175). -/
def cpaOf (x : Word) : Word := x &&& ~~~(1#64 <<< 56)
/-- The registers of a member's image (R233); a field shown as zero keeps zero (R3), and the pc is 4-aligned (R36). A lookahead window that was
open at the park point goes on, with the bundles it still had; an entry whose command no record holds is dropped (DESIGN CHOICE, log 96). -/
def Thread.restored (t : Thread) (x allot : Nat) (bar : BarBits) (m : Saved) (now : Nat) : Thread :=
  let flags := getField x 6 2
  let w := fun i => BitVec.ofNat 64 (getField x (0x80 + 8 * i) 8)
  let rd := getField x (0x80 + 8 * 22) 8
  let inAct := flags.testBit 0
  { t with
    regs := {
      x := Vector.ofFn fun i : Fin 32 => BitVec.ofNat 64 (getField x (0x180 + 8 * i.val) 8)
      v := Vector.ofFn fun i : Fin 32 =>
        if i.val < allot ∧ (getField x 32 4).testBit i.val then BitVec.ofNat 4096 (getField x (0x880 + 512 * i.val) 512) else 0
      a := Vector.ofFn fun i : Fin 16 => aregOf (getField x (0x280 + 32 * i.val) 32)
      m := Vector.ofFn fun i : Fin 8 => BitVec.ofNat 1024 (getField x (0x480 + 128 * i.val) 128) }
    ctl := {
      vctl := (w 0).setWidth 3, vflags := (w 1).setWidth 5, fmta := (w 2).setWidth 2, fmtb := (w 3).setWidth 7, scla := w 4, sclb := w 5
      fade := (w 6).setWidth 32, mprio := (w 7).setWidth 2, msat := (w 8).setWidth 1, cpa := #v[cpaOf (w 11), cpaOf (w 12), cpaOf (w 13), cpaOf (w 14)], tgen := w 15
      vallot := BitVec.ofNat 6 allot, acttag := (w 16).setWidth 6, bartmo := w 17, sbhold := BitVec.ofNat 32 (getField x 36 4) }
    sys := { t.sys with
      tvec := m.sys.tvec, epc := m.sys.epc, ecause := m.sys.ecause, eval := m.sys.eval, estatus := m.sys.estatus, repcnt := m.sys.repcnt, acctx := m.sys.acctx
      wdog := w 18, issued := w 19, rgnpc := w 20, armed := if inAct then some (m.armed.getD (w 18)) else none }
    pc := BitVec.ofNat 64 (getField x 24 8) &&& ~~~3#64, running := inAct, sup := false
    act := if inAct then m.act else none
    storelate := if flags.testBit 3 then some (BitVec.ofNat 64 (getField x 56 8)) else none
    reqs := reqsOf m.reqs (getField x 48 8) now
    jobCtr := (w 21).setWidth 16
    jobHist := (List.range 16).map fun i => BitVec.ofNat 64 (getField x (0x880 + 512 * allot + 256 * (min (getField x 18 2) 256) + 8 * (15 - i)) 8)
    ready := Vector.ofFn fun i : Fin 4 => BitVec.ofNat 16 (rd / 2 ^ (16 * i.val))
    bar := bar, tagUsed := BitVec.ofNat 64 (getField x 40 8), marks := m.marks, hostW := m.hostW
    outst := (t.outst.filter fun o => !o.fin) ++ m.outst.filter fun o => o.fin || (m.cmds.take (min (getField x 21 1) 8)).any fun c => c.2.2 == o.id }

/-- The allotment that an image records; the group's when it records none that R26 knows (log 23). -/
def imageAllot (g : Group) (x : Nat) : Nat :=
  let a := getField x 20 1
  if a = 8 ∨ a = 16 ∨ a = 24 ∨ a = 32 then a else g.desc.vallot.toNat

namespace State

/-- Address of a member's image (R233); the twins' images follow those of every possible member (log 22). -/
def imageVa (g : Group) (r : Resident) : Nat :=
  g.desc.savebase.toNat + (r.member.toNat + (if r.isTwin then 4095 else 0)) * g.desc.savestride.toNat

/-- Read an image; bytes that cannot be read are free values (log 23). -/
def readImage (s : State) (g : Group) (r : Resident) : Nat × State :=
  let va := imageVa g r
  let sl := g.desc.slot.toNat
  let head := s.devRead g.root sl va 128
  let n := imageSize (imageAllot g head.1) (min (getField head.1 18 2) 256) 0
  let jobs := min (getField head.1 21 1) 8
  let x := s.devRead g.root sl va (n + 6400 * jobs)
  let s := s.devSeen g.root sl va (n + 6400 * jobs)
  if x.2 then
    let v := fieldsAt 0 8 ((List.range (n / 8)).map fun i => (Config.freeWord (s.fresh + i)).toNat)
    (v - getField v 21 1 * 2 ^ (8 * 21), { s with fresh := s.fresh + n / 8 })
  else (x.1, s)

/-- What an image restores in the core beside the thread: rows and their poison, tag bits, command records (R178, R205, R206). -/
def restoreCore (s : State) (key acc : Nat) (g : Group) (x : Nat) (kept : List (Bool × Nat × Nat)) : State :=
  let saved := min (getField x 18 2) 256
  let n := min saved (256 - acc)
  let nt := n / 32
  let o1 := 0x880 + 512 * imageAllot g x
  let o2 := o1 + 256 * saved
  let used : Word := BitVec.ofNat 64 (getField x 40 8)
  let rows := (List.range (64 * n)).map fun i => BitVec.ofNat 32 (getField x (o1 + 4 * i) 4)
  let tiles := (List.range (2 * nt)).map fun i => acc / 32 + i % nt + 8 * (i / nt)
  let psn := fun (b : BitVec 16) => tiles.zipIdx.foldl (fun (b : BitVec 16) (e : Nat × Nat) =>
    if (getField x 22 2).testBit e.2 then b ||| (1#16 <<< e.1) else b &&& ~~~(1#16 <<< e.1)) b
  let recs := (List.range (min (getField x 21 1) 8)).map fun i => MCmd.ofRecord (getField x (o2 + 128 + 6400 * i) 6400) key s.time.toNat
  let cmds := recs.zipIdx.map fun (e : MCmd × Nat) =>
    let k := kept[e.2]?.getD (false, e.1.prio, 0)
    { e.1 with ord := s.nextId + e.2, opPois := k.1, prio := if e.1.kind = .job ∨ e.1.kind = .mtile then e.1.prio else k.2.1, id := k.2.2 }
  { s with nextId := s.nextId + cmds.length }.modCore (key / 4) fun c => { c with
    acc := rows.zipIdx.foldl (fun (a : Map (BitVec 32)) (e : BitVec 32 × Nat) => Map.set (fun _ => 0) a (64 * acc + e.2) e.1) c.acc
    tilePois := psn c.tilePois
    tags := { c.tags with
      tdone := c.tags.tdone ||| (BitVec.ofNat 64 (getField x (0x80 + 72) 8) &&& used)
      terr := c.tags.terr ||| (BitVec.ofNat 64 (getField x (0x80 + 80) 8) &&& used) }
    eng := c.eng ++ cmds }

/-- The registers of a member that becomes resident are loaded: new, or from its image (R231, R233). -/
def loadMember (s : State) (key : Nat) : State :=
  match (s.thread key).res with
  | none => s
  | some r =>
    match Map.find s.groups r.grp with
    | none => s
    | some g =>
      match memberRec g r.member.toNat, (if r.isTwin then g.twinSeat r.member.toNat else g.seat r.member.toNat) with
      | some m, some seat =>
        let now := s.modThread key fun t => { t with res := t.res.map fun r => { r with late := false } }
        if m.image then
          let (x, s1) := now.readImage g r
          let v := if r.isTwin then m.dual else m.own
          let s2 := s1.modThread key fun t => (t.restored x (imageAllot g x) m.bar v s.time.toNat).loaded g r seat.acc (key / 4)
          (((s2.restoreCore key seat.acc g x v.cmds).offerReady key).settle (key / 4))
        else
          (now.modThread key fun t => { t.fresh r g.desc.vallot with bar := m.bar }.loaded g r seat.acc (key / 4)).settle (key / 4)
      | _, _ => s

/-- All command records of a member are back in the queue (R206). -/
def recordsIn (s : State) (key : Nat) : Bool := !(((s.core (key / 4)).eng.drop 8).any fun c => c.key == key && c.restored)

/-- A member becomes resident in a slot; a slot that runs supervisor code loads its registers when it goes idle (R228, R231). -/
def makeResident (s : State) (key : Nat) (r : Resident) : State :=
  let busy := (s.thread key).running
  let s1 := s.modThread key fun t => { t with res := some { r with late := busy } }
  if busy then s1 else s1.loadMember key

/-! ### Leaving (R232, R235, R236) -/

/-- Pairs end with either of their members: what the Referee has paired already goes on; the partner of the rest goes past it (R368). -/
def endPairs (s : State) (key : Nat) : State :=
  let mine := fun (p : Pair) => p.pkey == key || p.tkey == key
  let s1 := (s.pairs.filter mine).foldl (fun (u : State) p =>
    (p.prim.zip p.twin).foldl (fun (v : State) e => if e.1.1.refereeCrc = e.2.1.refereeCrc then v.emit e.1.1 else v) u) s
  { s1 with pairs := s1.pairs.filter fun p => !mine p }
/-- A slot holds no member any more; a twin pair ends with either of its members. -/
def vacate (s0 : State) (key : Nat) : State :=
  let s := s0.endPairs key
  ({ s with pairs := s.pairs.filter fun p => p.pkey != key && p.tkey != key }.modCore (key / 4) fun c => { c with
    eng := c.eng.map fun (x : MCmd) => if x.key = key then { x with orphan := true } else x }).modThread key fun t => { t with
    res := none, act := none, bar := {}, ready := Vector.replicate 4 0, reqs := [], jobHist := [], jobCtr := 0, storelate := none, park := .none
    ctl := { t.ctl with tenant := 0, gname := 0, member := 0 }, sys := { t.sys with rgnpc := 0 } }

/-- A withdrawing member whose activation has ended is GONE (R235). -/
def memberGone (s : State) (key : Nat) : State :=
  match (s.thread key).res with
  | none => s
  | some r => ((s.coreReport (key / 4) 3 r).vacate key)

end State

end Sys2Proof.Machine
end

