-- ==== Sys2Proof/Machine/Activation.lean ====
section
/-! DEFINITION. Starts and ends of activations: dispatch, raw and KICK starts, ageing, DONE and IDLE, tag enables and request bits, register
holds (R32 to R34, R117, R212 to R217, R223 to R225, R242, R262, R264, R305, R382). -/

namespace Sys2Proof.Machine

/-! ### Dispatch (R212, R215, R224, R305) -/

/-- Waiting work of a thread. -/
inductive Work where
  | arr (a : Arrival)
  | req (b : ReqBit)
  deriving DecidableEq, Repr

/-- Acceptance time of waiting work. -/
def Work.tacc : Work → Word
  | .arr a => a.tacc | .req b => b.tacc
/-- Its place among work accepted in one cycle: arrivals first (R212). -/
def Work.rank : Work → Nat
  | .arr a => a.ord | .req b => 2 ^ 64 + b.ord
/-- Cycles counted toward the next level of a waiting item (R212). -/
def counted (now : Word) (cyc : Nat) (since : Option Word) : Nat :=
  match since with
  | some t => cyc + (now - t).toNat
  | none => cyc
/-- Its effective priority: the method's, and one level for every full 65,536 cycles in which it was eligible (R212). -/
def Work.eff (now : Word) (tab : VWord) : Work → Nat
  | .arr a => ((State.method tab a.msg.rtag.toNat).extractLsb' 32 2).toNat + a.lvl + counted now a.cyc a.since / 65536
  | .req b => ((State.method tab b.tag).extractLsb' 32 2).toNat + b.lvl + counted now b.cyc b.since / 65536
/-- The one that starts first of two (R212). -/
def Work.better (now : Word) (tab : VWord) (a b : Work) : Work :=
  if a.eff now tab < b.eff now tab then b
  else if b.eff now tab < a.eff now tab then a
  else if b.tacc.toNat < a.tacc.toNat ∨ (b.tacc = a.tacc ∧ b.rank < a.rank) then b else a

namespace State

/-- The thread is free (R212). -/
def freeThread (s : State) (key : Nat) : Bool :=
  let t := s.thread key
  s.present (key / 4) && !t.running && t.act.isNone && !t.sup && t.trap.isNone && !(s.core (key / 4)).trace.dbgctl.getLsbD 0
/-- Its raw arrivals, in acceptance order. -/
def rawOf (s : State) (key : Nat) : List Arrival := (s.core (key / 4)).arrivals.filter fun a => a.key == key && a.raw
/-- Its KICK starts, in acceptance order. -/
def kickOf (s : State) (key : Nat) : List Arrival := (s.core (key / 4)).arrivals.filter fun a => a.key == key && a.kick
/-- The member of the slot may start work. -/
def memberReady (r : Resident) : Bool := !r.late && r.st == .active && !r.parkReq && !r.saving
/-- The work that starts next on a thread that has no raw arrival and no KICK start (R212, R215). -/
def nextWork (s : State) (key : Nat) (r : Resident) : Option Work :=
  let c := s.core (key / 4)
  let t := s.thread key
  let ws := ((c.arrivals.filter fun a => a.key == key && !a.raw && !a.kick && a.eligible c t).map Work.arr) ++
    ((t.reqs.filter fun b => t.ctl.tgen.getLsbD b.tag).map Work.req)
  match ws with
  | [] => none
  | w :: l => some (l.foldl (Work.better s.time r.mtab) w)

/-- An arrival leaves its queue. -/
def takeArrival (s : State) (site : Nat) (a : Arrival) : State :=
  s.modCore site fun c => ({ c with arrivals := c.arrivals.filter fun x => x.ord != a.ord }).uncount a

end State

/-! ### Start (R217) -/

/-- The sender's identity (R217). -/
def senderWord (w : Who) (sup fwd self : Bool) : Word :=
  (BitVec.ofBool fwd ++ BitVec.ofBool self ++ BitVec.ofBool sup ++ w.thr ++ w.core ++ w.dev).setWidth 64
/-- The address at which a program's text starts in local memory (R72, log 24). -/
def textBase : Word := 0
/-- Handler address of a method entry (R299): a pc is 4-aligned, so that the low two bits of an entry are taken as zero (R36, log 24). -/
def handlerPc (e : Word) : Word := (textBase + (e.setWidth 32).setWidth 64) &&& ~~~3#64
/-- The budget of a deadline code (R32). -/
def budgetOf (dl : BitVec 8) : Word := (dl.setWidth 64 + 1) * 64
/-- The argument area: the argument flits, resolved words replaced (R217). -/
def argArea (m : Msg) (vals : List (Nat × Word)) : VWord :=
  vals.foldl (fun (v : VWord) (e : Nat × Word) => vPlace v (8 * e.1) 8 e.2.toNat) (BitVec.ofNat 4096 (m.pay.toNat % 2 ^ (512 * m.argFlits)))

/-- The registers that a start writes (R217, R305). -/
def Thread.startRegs (t : Thread) (x2 x3 x4 x5 : Word) (v0 : VWord) : Thread :=
  ((((t.setX 2 x2).setX 3 x3).setX 4 x4).setX 5 x5).setV 0 v0
/-- An activation begins at an address with a budget (R32, R217). -/
def Thread.begin (t : Thread) (a : Activation) (pc : Word) (dl : BitVec 8) : Thread :=
  { t with
    act := some a, pc := pc, running := true, sup := false, viaEret := false, rep := none
    ctl := { t.ctl with acttag := a.tag }
    sys := { t.sys with wdog := budgetOf dl, armed := some (budgetOf dl) } }

namespace State

/-- Record ACT_START (R373). -/
def traceStart (s : State) (key : Nat) (a : Activation) : State :=
  s.trace (key / 4) 1 (a.tag.toNat + 64 * (key % 4)) a.entry a.acc a.start a.search

/-- Start an arrival (R212, R217, R262, R264, R374). -/
def startArrival (s : State) (key : Nat) (r : Resident) (a : Arrival) : State :=
  let site := key / 4
  let c := s.core site
  let m := match a.spill with
    | some e => a.msg.unspill ((c.mem.read (r.spillOff + 256 * e) 256).1)
    | none => a.msg
  let e := method r.mtab m.rtag.toNat
  let isH : Bool := m.kind == (2 : BitVec 2)
  let recAddr := r.spillOff + 256 * (r.spillN - 1)
  let res : BitVec 512 := match c.relay.held.find? fun h => h.handle == m.target with
    | some h => h.data
    | none => 0
  let s1 := if isH then s.locStore site recAddr 256 (res.toNat + 2 ^ 512 * m.target.toNat) false else s
  let act : Activation := {
    kind := .arrival, tag := m.rtag, handle := m.handle, sup := m.fl.sup, acc := a.tacc, start := s.time, issued := (s.thread key).sys.issued
    search := if m.typ = MT.pass then a.tacc - m.w[5] else 0, entry := e.setWidth 32 }
  let s2 := (s1.modThread key fun t =>
    (t.startRegs (if m.handle = 0 then 0 else m.handle ||| tokenBit) (senderWord m.src m.fl.sup m.forwarded false)
      (if isH then BitVec.ofNat 64 recAddr else 0) (m.rtag.setWidth 64) (argArea m a.vals)).begin act (handlerPc e) (e.extractLsb' 34 8)).takeArrival site a
  let s3 := if m.handle = 0 ∨ r.isTwin then s2
    else s2.send { s2.toRelay (.core site) site m m.handle MT.accept with
      src := { s2.whoOf key with dev := s2.devId m.fl.sup m.tenant }
      w := #v[m.handle, memberWord r.name r.member, if m.kind = 0 ∧ m.sticky = true then 4 ||| (m.target.extractLsb' 48 2).setWidth 64 else 0, 0, 0, 0] }
  (s3.traceStart key act).settle site

/-- Start a request bit (R215, R217). -/
def startRequest (s : State) (key : Nat) (r : Resident) (b : ReqBit) : State :=
  let e := method r.mtab b.tag
  let act : Activation := {
    kind := .request, tag := BitVec.ofNat 6 b.tag, handle := 0, acc := b.tacc, start := s.time, issued := (s.thread key).sys.issued, entry := e.setWidth 32 }
  ((s.modThread key fun t =>
    ({ t with reqs := t.reqs.filter fun x => x.tag != b.tag }.startRegs 0 (senderWord (s.whoOf key) false false true) 0 (BitVec.ofNat 64 b.tag) 0).begin
      act (handlerPc e) (e.extractLsb' 34 8)).traceStart key act).settle (key / 4)

/-- Start a KICK's activation (R305): w0 the kick word, w1 the handle, w2 the PC, w3 the argument pointer, w4 the node, w5 the KICK. -/
def startKick (s : State) (key : Nat) (a : Arrival) : State :=
  let m := match a.spill, (s.thread key).res with
    | some e, some r => a.msg.unspill (((s.core (key / 4)).mem.read (r.spillOff + 256 * e) 256).1)
    | _, _ => a.msg
  let act : Activation := {
    kind := .kick, tag := 0, handle := 0, kickId := m.w[5].toNat, kickNode := m.w[4].toNat, acc := s.time, start := s.time, issued := (s.thread key).sys.issued
    entry := m.w[2].setWidth 32 }
  let v0 : VWord := (m.w[1] ++ m.w[0] ++ m.w[3] ++ m.w[2]).setWidth 4096
  ((s.modThread key fun t =>
    (t.startRegs 0 (senderWord m.src m.fl.sup false false) m.w[3] (BitVec.allOnes 64) v0).begin act m.w[2] (m.w[0].extractLsb' 54 8)).takeArrival
      (key / 4) a).traceStart key act

end State

/-- ACTIVATION_START: a free thread starts its best eligible arrival or request bit (R212, R217). -/
def execActivationStart (site thr : Nat) (s : State) : Host.Outcome State Fault Refusal :=
  let key := keyAt site thr
  match (s.thread key).res with
  | none => .next s
  | some r =>
    if s.freeThread key = false ∨ State.memberReady r = false ∨ s.rawOf key ≠ [] ∨ s.kickOf key ≠ [] then .next s
    else match s.nextWork key r with
      | some (.arr a) => .next (s.startArrival key r a)
      | some (.req b) => .next (s.startRequest key r b)
      | none => .next s

/-- RAW_ARRIVAL_START: a free thread starts its oldest raw arrival in supervisor mode at TVEC (R223, R224); none while the dies are held in reset (R387). -/
def execRawArrivalStart (site thr : Nat) (s : State) : Host.Outcome State Fault Refusal :=
  let key := keyAt site thr
  match s.rawOf key with
  | [] => .next s
  | a :: _ =>
    if s.freeThread key = false ∨ s.boot.st ≠ .running then .next s
    else
      let m := a.msg
      .next ((s.modThread key fun t =>
        { t.startRegs 0 (senderWord m.src true (m.cls == .fwd) false) 0 (m.rtag.setWidth 64) (argArea m []) with
          pc := t.sys.tvec &&& ~~~3#64, running := true, sup := true, viaEret := false, rep := none }).takeArrival site a)

/-- KICK_START: a free thread starts its oldest KICK start (R305). -/
def execKickStart (site thr : Nat) (s : State) : Host.Outcome State Fault Refusal :=
  let key := keyAt site thr
  match (s.thread key).res, s.kickOf key with
  | some r, a :: _ =>
    if s.freeThread key = false ∨ State.memberReady r = false ∨ s.rawOf key ≠ [] then .next s else .next (s.startKick key a)
  | _, _ => .next s

/-- A waiting item is eligible, and has been for 65,536 cycles since its last level was entered (R212). -/
def ripe (now : Word) (cyc : Nat) (since : Option Word) : Bool := since.isSome && decide (65536 ≤ counted now cyc since)
/-- What is left toward the next level. -/
def ripen (now : Word) (cyc : Nat) (since : Option Word) : Nat := counted now cyc since - 65536

/-- ARRIVAL_AGEING: a level that the k-th waiting arrival of a core has gained is entered, which leaves its effective priority as it is; beyond the arrivals, the request bits of its threads follow (R212, R215). -/
def execArrivalAgeing (site k : Nat) (s : State) : Host.Outcome State Fault Refusal :=
  let c := s.core site
  match c.arrivals[k]? with
  | some a =>
    if ripe s.time a.cyc a.since && !a.raw && !a.kick then
      .next (s.modCore site fun c => { c with arrivals := c.arrivals.map fun x =>
        if x.ord = a.ord then { x with lvl := x.lvl + 1, cyc := ripen s.time x.cyc x.since, since := some s.time } else x })
    else .next s
  | none =>
    let bits := (List.range 4).flatMap fun i => (s.thread (4 * site + i)).reqs.map fun b => (4 * site + i, b)
    match bits[k - c.arrivals.length]? with
    | some (key, b) =>
      if ripe s.time b.cyc b.since then
        .next (s.modThread key fun t => { t with reqs := t.reqs.map fun x =>
          if x.tag = b.tag then { x with lvl := x.lvl + 1, cyc := ripen s.time x.cyc x.since, since := some s.time } else x })
      else .next s
    | none => .next s

/-! ### Completion points (R31, R34, R109, R161) -/

/-- The errors of the thread that no bundle has raised yet, STORELATE among them where a form raises it (R31, R161). -/
def State.pendingErrors (u : State) (late : Bool) : List Trap :=
  (u.src.outst.filterMap fun o => o.err.map fun e => u.trapOf e.cause e.val) ++
    (if late then (u.src.storelate.map fun a => u.trapOf .storelate a).toList else [])
/-- The waits of R109, then the first pending completion error in the order of R35; of one cause the oldest instruction's (log 93). -/
def State.completion (u : State) (late : Bool) (k : SlotRes) : SlotRes :=
  if u.src.quiet = false then u.hold
  else match firstTrap (u.pendingErrors late) with
    | some t => .raise t
    | none => k

/-- The interrupted activation of a supervisor that ends it (R117, R225). -/
def Thread.interrupted (t : Thread) : Bool := t.sup && t.sys.estatus.getLsbD 3 && t.act.isSome
/-- Control moves by DONE or IDLE (R117, R225): the end of an activation, or the thread only stops. -/
def State.finishNow (u : State) (key how : Nat) : State :=
  let t := u.thread key
  if t.sup = false ∧ t.act.isSome then u.endAct key how none
  else if t.interrupted then u.endAct key 2 (some 1)
  else (u.modThread key fun t => { t with sys := { t.sys with rgnpc := 0 } }).goIdle key
/-- DONE, IDLE or YIELD of a bundle whose A-slot is complete: control moves (R40, R109). -/
def State.leaveNow (s : State) (key : Nat) : State :=
  match (s.thread key).leave with
  | none => s
  | some l =>
    if (s.thread key).quiet = false then s
    else
      let u := s.modThread key fun t => { t with leave := none }
      match l with
      | .finish how => u.finishNow key how
      | .yield live => u.modThread key fun t => t.afterBundle t.pc (.yield live)
/-- In a pair control moves only once the A-slot is complete (R40). -/
def State.leaving (u : State) (l : Leave) (alone : State → State) : State :=
  if u.ctx.form = .cslot then u.modCur fun t => { t with leave := some l } else alone u
/-- DONE and IDLE (R117, R225). A KICK's activation waits for the member's stores (R306). -/
def State.finish (u : State) (how : Nat) : SlotRes :=
  u.completion true (
    let t := u.cur
    if t.sup = false ∧ (match t.act with | some a => a.kind == .kick | none => false) = true ∧ u.drained u.ctx.key = false then u.hold
    else .done (u.leaving (.finish how) fun v => v.finishNow v.ctx.key how))

/-- DONE (R216, R225). -/
def execDone (st : State) : Host.Outcome State Fault Refusal := slot .done (fun u => u.finish 0) st
/-- IDLE (R117). -/
def execIdle (st : State) : Host.Outcome State Fault Refusal := slot .idle (fun u => u.finish 1) st

/-! ### Tag enables and request bits (R215, R216) -/

/-- Set TGEN (R108, R216). -/
def State.setTgen (u : State) (f : Word → Word) : State :=
  (u.modCur fun t => { t with ctl := { t.ctl with tgen := f t.ctl.tgen } }).settle u.site
/-- TGON. -/
def execTgon (s : XReg) (st : State) : Host.Outcome State Fault Refusal :=
  slot (.tgon s) (fun u => .done (u.setTgen fun w => w ||| u.rx s)) st
/-- TGOFF. -/
def execTgoff (s : XReg) (st : State) : Host.Outcome State Fault Refusal :=
  slot (.tgoff s) (fun u => .done (u.setTgen fun w => w &&& ~~~(u.rx s))) st
/-- TGSET: bits of tags with V = 0 are ignored (R215). -/
def execTgset (s : XReg) (st : State) : Host.Outcome State Fault Refusal :=
  slot (.tgset s) (fun u =>
    match u.src.res with
    | none => .done u
    | some r =>
      let add := (List.range 64).filter fun i =>
        (u.rx s).getLsbD i && State.methodV (State.method r.mtab i) && !(u.src.reqs.any fun b => b.tag == i)
      .done ((u.modCur fun t => { t with reqs := t.reqs ++ add.map fun i => ({ tag := i, ord := u.nextId, tacc := u.time } : ReqBit) }).settle u.site)) st
/-- TGCLR. -/
def execTgclr (s : XReg) (st : State) : Host.Outcome State Fault Refusal :=
  slot (.tgclr s) (fun u => .done (u.modCur fun t => { t with reqs := t.reqs.filter fun b => !(u.rx s).getLsbD b.tag })) st
/-- TGPEND (R215). -/
def State.tgpend (s : State) (key : Nat) : Word :=
  let t := s.thread key
  let bits := (t.reqs.map fun b => b.tag) ++ (((s.core (key / 4)).arrivals.filter fun a =>
    a.key == key && !a.raw && !a.kick && !t.ctl.tgen.getLsbD a.msg.rtag.toNat).map fun a => a.msg.rtag.toNat)
  bits.foldl (fun (w : Word) i => w ||| (1#64 <<< i)) 0

/-! ### Holds (R242) -/

/-- Change the hold bit of a vector register; one at or above the allotment raises REGRANGE. -/
def holdBit (i : Instr) (n : VReg) (b : Bool) (st : State) : Host.Outcome State Fault Refusal :=
  slot i (fun u =>
    if u.src.ctl.vallot.toNat ≤ n.toNat then u.fault .regrange (n.setWidth 64)
    else
      let m : BitVec 32 := 1#32 <<< n.toNat
      .done (u.modCur fun t => { t with ctl := { t.ctl with sbhold := if b then t.ctl.sbhold ||| m else t.ctl.sbhold &&& ~~~m } })) st
/-- VHOLD. -/
def execVhold (n : VReg) (st : State) : Host.Outcome State Fault Refusal := holdBit (.vhold n) n true st
/-- VHCLR. -/
def execVhclr (n : VReg) (st : State) : Host.Outcome State Fault Refusal := holdBit (.vhclr n) n false st
/-- VHTEST. -/
def execVhtest (d : XReg) (st : State) : Host.Outcome State Fault Refusal :=
  slot (.vhtest d) (fun u => .done (u.wx d (u.src.ctl.sbhold.setWidth 64))) st

end Sys2Proof.Machine
end

