-- ==== Sys2Proof/Machine/Pass.lean ====
section
/-! DEFINITION. Passes: the steering tree, decisions at its nodes and at slots, bounces, the Bench; READY, UNREADY, RDYQ (R244 to R258). -/

namespace Sys2Proof.Machine

/-! ### The tree (R246) -/

/-- The number of the root's node; the others are numbered by site. -/
def rootNode : Nat := 4096
/-- The team of a node: the first that holds its site (log 27). -/
def Group.teamAt (g : Group) (site : Nat) : Option (Nat × Team) :=
  ((List.range g.teams.length).zip g.teams).find? fun e => e.2.sites.contains site
/-- The node of a site's router: the root's where it is a team root at the group root (R246). -/
def Group.nodeAt (g : Group) (site : Nat) : Nat :=
  match g.teamAt site with
  | some (_, t) => if site = g.root ∧ t.site.toNat = g.root then rootNode else site
  | none => site
/-- Site of a node. -/
def Group.nodeSite (g : Group) (n : Nat) : Nat := if n = rootNode then g.root else n
/-- Parent of a node other than the root's, and the child number the node has there (R246). -/
def Group.parentOf (g : Group) (site : Nat) : Nat × Nat :=
  match g.teamAt site with
  | none => (rootNode, 70)
  | some (i, t) =>
    if t.site.toNat % 64 < site % 64 then (g.nodeAt (site - 1), 4)
    else if t.site.toNat / 64 < site / 64 then (g.nodeAt (site - 64), 5)
    else (rootNode, 6 + i)
/-- The slots of a site that hold members. -/
def Group.slotsAt (g : Group) (site : Nat) : List Nat :=
  (List.range 4).filter fun i => g.teams.any fun t => t.sites.contains site && t.tmask.getLsbD i
/-- A site is the child of a node with a number. -/
def Group.isBelow (g : Group) (n site child : Nat) : Bool :=
  (g.teamAt site).isSome && g.nodeAt site != rootNode && g.parentOf site == (n, child)
/-- Children of a node, in the order of choice (R246). -/
def Group.children (g : Group) (n : Nat) : List Nat :=
  let site := g.nodeSite n
  let isCore := n ≠ rootNode ∨ g.nodeAt site = rootNode
  (if isCore then
    g.slotsAt site ++ (if site % 64 < 63 ∧ g.isBelow n (site + 1) 4 = true then [4] else []) ++
      (if g.isBelow n (site + 64) 5 then [5] else [])
   else []) ++
  (if n = rootNode then
    (g.teams.zipIdx.filter fun (e : Team × Nat) => g.isBelow rootNode e.1.site.toNat (6 + e.2)).map fun (e : Team × Nat) => 6 + e.2
   else [])

/-- The agent of a node. -/
def Group.nodeAgent (g : Group) (n : Nat) : Agent := if n = rootNode then .root g.idx else .router n
/-- The agent of a child. -/
def Group.childAgent (g : Group) (n child : Nat) : Agent :=
  let site := g.nodeSite n
  if child < 4 then .core site
  else if child = 4 then .router (site + 1)
  else if child = 5 then .router (site + 64)
  else .router ((g.teams[child - 6]?.map fun t => t.site.toNat).getD site)

/-- A report or a bounce comes from a child of a node in the tree as it now stands: one sent in an earlier tree does not (R246, R247). -/
def Group.fromChild (g : Group) (n : Nat) (child : Nat) (m : Msg) : Bool :=
  (g.children n).contains child && g.childAgent n child == m.frm && decide (g.treeAt ≤ m.id)

/-! ### Counts (R247, R249) -/

/-- The count and credit of a child. -/
def Group.steerOf (g : Group) (n cls child : Nat) : Steer :=
  (g.steer.find? fun e => e.node == n && e.cls == cls && e.child == child).getD { node := n, cls := cls, child := child }
/-- The group with a count and credit replaced. -/
def Group.putSteer (g : Group) (e : Steer) : Group :=
  { g with steer := (g.steer.filter fun x => !(x.node == e.node && x.cls == e.cls && x.child == e.child)) ++ [e] }
/-- A node's sum over its children for a class. -/
def Group.sumOf (g : Group) (n cls : Nat) : Nat := ((g.children n).map fun c => (g.steerOf n cls c).count).sum

namespace State

/-- The group with an index. -/
def grp (s : State) (gi : Nat) : Option Group := Map.find s.groups gi

/-- A child's count is set; a changed sum is reported to the parent (R247). -/
def setCount (s : State) (gi n cls child count : Nat) : State :=
  match s.grp gi with
  | none => s
  | some g =>
    let e := { g.steerOf n cls child with count := count }
    let g1 := g.putSteer e
    let s1 := s.modGroup gi fun _ => g1
    if n = rootNode ∨ g1.sumOf n cls = g.sumOf n cls then s1
    else
      let p := g.parentOf n
      s1.readyMsg (.router n) (g.nodeAgent p.1) (g.name.setWidth 64) (g.pool.getD 0) p.2 cls (min (g1.sumOf n cls) 255) g.tenant

/-- Credits are refilled when every child with a nonzero count has none (R249). -/
def refill (g : Group) (n cls : Nat) : Group :=
  let cs := g.children n
  let es := cs.map fun c => g.steerOf n cls c
  if (es.filter fun e => e.count != 0).all fun e => e.credit == 0 then
    es.foldl (fun h e => h.putSteer { e with credit := min e.count 4 }) g
  else g
/-- The choice of a node: the first child after the last one chosen with a count and a credit (R249). -/
def choose (g : Group) (n cls : Nat) : Option Nat :=
  let cs := g.children n
  let start := match g.last.find? fun e => e.1 == (n, cls) with
    | some e => (cs.idxOf e.2 + 1) % max cs.length 1
    | none => 0
  (cs.drop start ++ cs.take start).find? fun c => let e := g.steerOf n cls c; e.count != 0 && e.credit != 0

/-- Class of a pass (R244). -/
def passClass (m : Msg) : Nat := (m.target.extractLsb' 48 2).toNat

/-- A pass descends from a node, when a child qualifies (R249). Credits are refilled when a choice is made, and not in the moment in which a report
makes the condition true (DESIGN CHOICE, log 27). -/
def descend (s : State) (gi n : Nat) (m : Msg) : Option State :=
  match s.grp gi with
  | none => none
  | some g =>
    let cls := passClass m
    let g1 := refill g n cls
    match choose g1 n cls with
    | none => none
    | some c =>
      let e := g1.steerOf n cls c
      let g2 := g1.putSteer { e with credit := e.credit - 1 }
      let s1 := s.modGroup gi fun _ => { g2 with last := (g2.last.filter fun x => x.1 != (n, cls)) ++ [((n, cls), c)] }
      let s2 := s1.setCount gi n cls c (e.count - 1)
      some (s2.send { m with
        frm := g.nodeAgent n, dest := g.childAgent n c, cls := .fwd, typ := MT.pass, back := none, tries := 0
        dst := { m.dst with thr := BitVec.ofNat 2 c }, fl := { m.fl with resent := false } })

/-- A pass moves up to a parent as BOUNCE; w4 names the child it came from (R251). -/
def bounceUp (s : State) (frm : Agent) (g : Group) (p : Nat × Nat) (m : Msg) : State :=
  s.send { m with
    frm := frm, dest := g.nodeAgent p.1, cls := .fwd, typ := MT.bounce, back := none, tries := 0, bounces := m.bounced
    fl := { m.fl with resent := false }, w := m.w.set 4 (BitVec.ofNat 64 p.2) }

/-! ### The root (R248, R252) -/

/-- A parked pass as its Bench entry holds it: in the root's core, or in the root area (R227, R252); none when that cannot be read. -/
def benched (s : State) (g : Group) (m : Msg) : Option Msg :=
  match m.ent with
  | none => some m
  | some e => s.rootGet g (256 * e) m
/-- Release passes from the Bench while counts allow (R252). -/
def releaseBench (s : State) (gi : Nat) : Nat → State
  | 0 => s
  | n + 1 =>
    match s.grp gi with
    | none => s
    | some g =>
      if g.st ≠ .running then s
      else match g.bench.find? fun m => g.sumOf rootNode (passClass m) != 0 with
        | none => s
        | some m =>
          let s0 := s.modGroup gi fun g => { g with bench := g.bench.erase m }
          let s1 := match m.ent with | some e => s0.rootSeen g (256 * e) | none => s0
          match s.benched g m with
          | none => (s1.breakInv (.root gi) g.root m 1 m.handle).releaseBench gi n
          | some x =>
            match s1.descend gi rootNode x with
            | some s2 => s2.releaseBench gi n
            | none => s
/-- A pass parks on the Bench, or breaks with BENCH_FULL (R252). -/
def park (s : State) (gi : Nat) (m : Msg) : State :=
  match s.grp gi with
  | none => s
  | some g =>
    let n := g.bench.length
    let ent := if (g.bench.filter fun b => b.ent.isNone).length < 32 then none else freeEntry g.bench g.desc.benchsp
    let x := { m with bounces := 0, ent := ent }
    let a := match ent with
      | none => (s, false)
      | some e => s.rootPut g (256 * e) x
    if 32 + g.desc.benchsp ≤ n then s.breakInv (.root gi) g.root m 8 m.handle
    else if a.2 then a.1.breakInv (.root gi) g.root m 1 m.handle
    else
      let s1 := a.1.modGroup gi fun g => { g with bench := g.bench ++ [x] }
      (s1.trace g.root 4 m.rtag.toNat ((method g.mtab m.rtag.toNat).setWidth 32) s.time m.handle (BitVec.ofNat 64 (n + 1))).releaseBench gi (n + 1)

/-- The rows of R248 that a group's state decides, before the RUNNING rows; none when the group runs. -/
def rootRows (s : State) (g : Group) (m : Msg) : Option State :=
  if denied g m then some (s.breakInv (.root g.idx) g.root m 9 m.handle)
  else if g.st = .draining then some (s.breakInv (.root g.idx) g.root m 5 m.handle)
  else if g.pool.isNone then some ((s.relayRecord g.root m.tenant m.rtag.toNat).breakInv (.root g.idx) g.root m 1 m.handle)
  else if g.st ≠ .running ∨ m.bounces = 15 then some (s.park g.idx m)
  else none
/-- A pass at the root from its sender, or returned by R255 (R248). -/
def passAtRoot (s : State) (g : Group) (m : Msg) : State :=
  let m1 := if m.w[5] = 0 then { m with w := m.w.set 5 s.time } else m
  match s.rootRows g m1 with
  | some u => u
  | none =>
    if g.bench.any fun b => passClass b == passClass m then s.park g.idx m1
    else match s.descend g.idx rootNode m1 with
      | some u => u
      | none => s.park g.idx m1

/-- A bounce reaches a node: the child's count is 0, and the node chooses again (R251). -/
def bounceAt (s : State) (g : Group) (n : Nat) (m : Msg) : State :=
  let s1 := if g.fromChild n m.w[4].toNat m then s.setCount g.idx n (passClass m) m.w[4].toNat 0 else s
  if n = rootNode then
    match s1.rootRows g m with
    | some u => u.releaseBench g.idx (g.bench.length + 1)
    | none => match s1.descend g.idx rootNode m with
      | some u => u.releaseBench g.idx (g.bench.length + 1)
      | none => s1.park g.idx m
  else match s1.descend g.idx n m with
    | some u => u
    | none => s1.bounceUp (.router n) g (g.parentOf n) m

end State

/-- PASS: a pass reaches a group's root (R248). -/
def execPass (msg : Nat) (s : State) : Host.Outcome State Fault Refusal :=
  match s.request msg MT.pass with
  | none => .next s
  | some m =>
    match m.dest with
    | .root gi =>
      match s.liveRoot gi (grpOf m.target) with
      | none => .next s
      | some g =>
        let u := s.dropMsg msg
        if u.mustRefuse m then .next (u.retryMsg m)
        else .next (u.withEgress (.root gi) m fun v =>
          let v1 := v.acceptMsg m
          (if m.cls = .req ∨ m.back.isSome = true then (v1.rootTook m).reply m 0 else v1).passAtRoot g { m with back := none })
    | .former site => .next (s.formerRoot msg site m)
    | .router _ => if m.cls = .req then .next ((s.dropMsg msg).reply m (s.lostStatus m)) else .next s
    | _ => .next s

/-- PASS_FORWARD: a pass at a node below the root (R249, R251). -/
def execPassForward (msg : Nat) (s : State) : Host.Outcome State Fault Refusal :=
  match s.request msg MT.pass with
  | none => .next s
  | some m =>
    match m.dest, m.cls with
    | .router site, .fwd =>
      let u := s.dropMsg msg
      match s.groupOf (grpOf m.target) with
      | none => .next (u.send { m with frm := .router site, dest := .root (nmIdx (grpOf m.target)) })
      | some g =>
        if u.mustRefuse m then .next (u.retryMsg m)
        else .next (u.withEgress (.router site) m fun v =>
          let v1 := v.acceptMsg m
          match v1.descend g.idx site m with
          | some x => x
          | none => v1.bounceUp (.router site) g (g.parentOf site) m)
    | _, _ => .next s

/-- A pass bounces from a slot, with its trace record (R251, R373). -/
def State.bounceSlot (s : State) (g : Group) (key : Nat) (m : Msg) : State :=
  let site := key / 4
  (s.bounceUp (.core site) g (g.nodeAt site, key % 4) m).trace site 3 (m.rtag.toNat + 64 * (key % 4)) ((State.method g.mtab m.rtag.toNat).setWidth 32) s.time m.handle
    (BitVec.ofNat 64 (m.bounced.toNat + 16 * State.passClass m))
/-- The decision of a slot about a pass (R250). -/
def State.passAtSlot (u : State) (g : Group) (key : Nat) (m : Msg) : State :=
  let cls := State.passClass m
  match (u.thread key).res with
  | none => u.bounceSlot g key m
  | some r =>
    if r.grp ≠ g.idx ∨ r.st ≠ .active ∨ r.saving ∨ r.late ∨ g.st = .draining ∨ u.readyOf key cls = 0 then u.bounceSlot g key m
    else match u.placeFor key r with
      | none => (u.bounceSlot g key m).sendReady key cls (u.readyOf key cls)
      | some sp => (u.setReady key cls (u.readyOf key cls - 1)).joinQueue key r m sp

/-- PASS_AT_SLOT: a pass reaches a slot, in the order of R210; its router takes it only with an egress slot for a bounce (R156, R250). One that is
sent to a core that is no root goes on to it (R229). -/
def execPassAtSlot (msg : Nat) (s : State) : Host.Outcome State Fault Refusal :=
  match s.request msg MT.pass with
  | none => .next s
  | some m =>
    match m.dest with
    | .core site =>
      let u := s.dropMsg msg
      if m.cls = .req then .next (s.formerRoot msg site m)
      else if m.fl.twin then .next (if s.waitsTurn site m then s.offer site m else u.twinArrival site m false)
      else match s.refusal site m with
      | some st => .next (u.turnAway site m st)
      | none =>
      if s.waitsTurn site m then .next (s.offer site m)
      else if u.mustRefuse m then .next (u.retryMsg m)
      else match s.groupOf (grpOf m.target) with
        | none => .next ((u.acceptMsg m).send { m with frm := .core site, dest := .root (nmIdx (grpOf m.target)) })
        | some g => .next (u.withEgress (.core site) m fun v => ((v.acceptMsg m).wake site).passAtSlot g (4 * site + m.dst.thr.toNat) m)
    | _ => .next s

/-- BOUNCE: a pass comes back to a node or to the root (R251). -/
def execBounce (msg : Nat) (s : State) : Host.Outcome State Fault Refusal :=
  match s.request msg MT.bounce with
  | none => .next s
  | some m =>
    let u := s.dropMsg msg
    match m.dest with
    | .root gi => match s.liveRoot gi (grpOf m.target) with
      | none => .next s
      | some g =>
        if u.mustRefuse m then .next (u.retryMsg m)
        else .next (u.withEgress (.root gi) m fun v => (v.acceptMsg m).bounceAt g rootNode m)
    | .router site => match s.groupOf (grpOf m.target) with
      | none => .next ((u.acceptMsg m).send { m with frm := .router site, dest := .root (nmIdx (grpOf m.target)) })
      | some g =>
        if u.mustRefuse m then .next (u.retryMsg m)
        else .next (u.withEgress (.router site) m fun v => (v.acceptMsg m).bounceAt g site m)
    | _ => .next s

/-- READYDELTA: a child's total reaches a node (R247); at the root it may release passes (R252). -/
def execReadydelta (msg : Nat) (s : State) : Host.Outcome State Fault Refusal :=
  match s.answer msg MT.readydelta with
  | none => .next s
  | some m =>
    let u := s.dropMsg msg
    let total := (m.spec.extractLsb' 3 8).toNat
    let cls := (m.spec.extractLsb' 0 2).toNat
    match s.groupOf (grpOf m.w[0]) with
    | none => .next u
    | some g =>
      let of := fun (n : Nat) => g.fromChild n m.w[1].toNat m
      match m.dest with
      | .root gi => if gi = g.idx ∧ of rootNode = true then .next ((u.setCount gi rootNode cls m.w[1].toNat total).releaseBench gi (g.bench.length + 1)) else .next u
      | .router site => if of site then .next (u.setCount g.idx site cls m.w[1].toNat total) else .next u
      | _ => .next u

/-! ### READY, UNREADY, RDYQ (R256 to R258) -/

/-- The class word names the thread's own group, of which it is a member (R256). -/
def State.classOk (u : State) (w : Word) : Bool :=
  w.extractLsb' 50 14 == 0#14 && u.src.ctl.gname == grpOf w && match u.src.res with
    | some r => r.name == grpOf w
    | none => false
/-- READY and UNREADY (R245, R257). -/
def ready (i : Instr) (xc xn : XReg) (f : Nat → Nat → Nat) (st : State) : Host.Outcome State Fault Refusal :=
  slot i (fun u =>
    let w := u.rx xc
    let n := (u.rx xn).toNat
    let cls := (w.extractLsb' 48 2).toNat
    if u.classOk w = false then u.operand
    else if n = 0 then .done u
    else .done (u.setReady u.ctx.key cls (f (u.readyOf u.ctx.key cls) n))) st
/-- READY. -/
def execReady (xc xn : XReg) (st : State) : Host.Outcome State Fault Refusal := ready (.ready xc xn) xc xn (fun r n => min (r + n) 65535) st
/-- UNREADY. -/
def execUnready (xc xn : XReg) (st : State) : Host.Outcome State Fault Refusal := ready (.unready xc xn) xc xn (fun r n => r - n) st

/-- RDYQ (R258): w1 of the query names the instruction, w2 carries the member's own field. -/
def execRdyq (d xc : XReg) (la : BitVec 4) (st : State) : Host.Outcome State Fault Refusal :=
  slot (.rdyq d xc la) (fun u =>
    let w := u.rx xc
    if u.classOk w = false then u.operand
    else
      let (id, u1) := u.track (.rdyq d xc la) (xRef d)
      let own := u.readyOf u.ctx.key (w.extractLsb' 48 2).toNat
      let (dest, who) := u.rootLoc u.site (grpOf w)
      let pool := ((u.groupOf (grpOf w)).bind fun g => g.pool).getD 0
      .done ((u1.usedLoc u.site (memberWord (grpOf w) 0xFFF) who).send { u.mineMsg with
        dest := dest, dst := who, cls := .req, typ := MT.rdyquery
        spec := BitVec.ofNat 19 (2 ^ 11 * pool + (w.extractLsb' 48 2).toNat)
        w := #v[w, BitVec.ofNat 64 id, BitVec.ofNat 64 own, d.setWidth 64, 0, 0] })) st

/-- RDYQUERY at the root (R258). -/
def execRdyquery (msg : Nat) (s : State) : Host.Outcome State Fault Refusal :=
  match s.request msg MT.rdyquery with
  | none => .next s
  | some m =>
    match m.dest with
    | .root gi => match s.liveRoot gi (grpOf m.w[0]) with
      | none => .next s
      | some g =>
        let u := s.dropMsg msg
        if u.mustRefuse m then .next (u.retryMsg m)
        else
          let cls := State.passClass m
          let v : Word := BitVec.ofNat 64 (2 ^ 32 * (min (g.bench.filter fun b => State.passClass b == cls).length 65535) +
            2 ^ 16 * (min (g.sumOf rootNode cls) 255)) ||| m.w[2]
          let a := State.answerTo m MT.rdyanswer 0
          .next ((u.acceptMsg m).send { a with w := a.w.set 0 v })
    | .former site => .next (s.formerRoot msg site m)
    | _ => .next s

/-- RDYANSWER at the thread (R258). -/
def execRdyanswer (msg : Nat) (s : State) : Host.Outcome State Fault Refusal :=
  .next (s.coreTakes msg MT.rdyanswer fun u site m =>
    u.modThread (m.threadAt site) fun t =>
      if t.outst.any fun o => o.id == m.w[1].toNat && !o.fin then (t.putX (m.w[3].setWidth 5) m.w[0]).complete m.w[1].toNat else t)

end Sys2Proof.Machine
end

