-- ==== Sys2Proof/Machine/Kick.lean ====
section
/-! DEFINITION. KICK, its Kickoff tree, and the end reports that resolve its handle (R302 to R306). -/

namespace Sys2Proof.Machine

/-! ### KICK (R302, R303): w0 the kick word, w1 the handle, w2 the PC, w3 the argument pointer, SPEC[17] FN -/

/-- KICK. -/
def kick (i : Instr) (d s a : XReg) (fn : Bool) (st : State) : Host.Outcome State Fault Refusal :=
  slot i (fun u =>
    let k := u.rx d
    let pc := u.rx s
    if k.extractLsb' 62 2 ≠ 0#2 ∨ (fn = true ∧ k.extractLsb' 48 6 ≠ 0#6) then u.operand
    else if u.src.sup = false ∧ (u.src.res.isNone = true ∨ grpOf k ≠ u.src.ctl.gname) then u.operand
    else if pc &&& 3 ≠ 0 then u.fault .align pc
    else if u.freePslots u.site = [] ∨ 16 ≤ u.unaccepted u.site then u.hold
    else
      let (h, u1) := u.newHandle u.ctx.key true
      let g := grpOf k
      .done ((u1.wx d h).sendToRoot u.ctx.key g { u.mineMsg with
        cls := .req, typ := MT.kick
        spec := if fn then 0x20000 else 0, w := #v[k, h, pc, u.rx a, 0, 0] })) st
/-- KICK.TEAM. -/
def execKickTeam (d s a : XReg) (st : State) : Host.Outcome State Fault Refusal := kick (.kickTeam d s a) d s a false st
/-- KICK.GROUP. -/
def execKickGroup (d s a : XReg) (st : State) : Host.Outcome State Fault Refusal := kick (.kickGroup d s a) d s a true st

namespace State

/-! ### The tree (R304) -/

/-- The nodes of a team's tree below a site (R246, R304). -/
def kickBelow (t : Team) (site : Nat) : List Nat :=
  (if t.sites.contains (site + 1) ∧ site % 64 + 1 < 64 then [site + 1] else []) ++
  (if site % 64 = t.site.toNat % 64 ∧ t.sites.contains (site + 64) then [site + 64] else [])
/-- A start goes to a node of a team's tree; w4 names the node it comes from. -/
def kickTo (s : State) (frm dest : Agent) (m : Msg) (node spec : Nat) : State :=
  s.send { m with
    frm := frm, dest := dest, cls := .fwd, back := none, tries := 0, fl := { m.fl with resent := false }
    spec := BitVec.ofNat 19 spec, w := m.w.set 4 (BitVec.ofNat 64 node) }
/-- The group root fans a KICK out to its teams (R303, R304). -/
def fanOut (s : State) (gi : Nat) (m : Msg) : State :=
  match s.grp gi with
  | none => s
  | some g =>
    let ts := if m.spec.getLsbD 17 then List.range g.teams.length else [(m.w[0].extractLsb' 48 6).toNat]
    let n : KNode := { kick := m.id, site := 4096, pend := ts.length, msg := m }
    ts.foldl (fun u i => match g.teams[i]? with
      | some t => u.kickTo (.root gi) (.router t.site.toNat) { m with w := m.w.set 5 (BitVec.ofNat 64 m.id) } (4096 * 4096 * (i + 1) + 4096) 0
      | none => u)
      (s.modGroup gi fun g => { g with knodes := g.knodes ++ [n], ktrees := g.ktrees ++ [(m.id, g.teams)] })
/-- The teams whose trees a KICK goes down: those of its start, whatever moves later (R304). -/
def kickTeams (g : Group) (kick : Nat) : List Team := ((g.ktrees.find? fun e => e.1 == kick).map fun e => e.2).getD g.teams
/-- Held KICKs fan out at a GRUN (R303). -/
def releaseKicks (s : State) (gi : Nat) : State :=
  match s.grp gi with
  | none => s
  | some g => g.kicks.foldl (fun u m => u.fanOut gi m) (s.modGroup gi fun g => { g with kicks := [] })

/-- A KICK at its group's root (R303). -/
def kickAtRoot (s : State) (g : Group) (m : Msg) : State :=
  let brk := fun (c : Nat) => s.breakInv (.root g.idx) g.root m c m.handle
  if denied g m then brk 9
  else if g.st = .draining then brk 5
  else if m.spec.getLsbD 17 = false ∧ g.teams.length ≤ (m.w[0].extractLsb' 48 6).toNat then brk 1
  else if g.st = .running then s.fanOut g.idx m
  else s.modGroup g.idx fun g => { g with kicks := g.kicks ++ [m] }

/-- A pass that an activation has not started goes back to the root (R235, R254, R255). -/
def returnPass (s : State) (frm : Agent) (gi : Nat) (m : Msg) : State :=
  s.send { m with
    frm := frm, dest := .root gi, cls := .fwd, typ := MT.pass, back := none, tries := 0, bounces := m.bounced, ent := none
    fl := { m.fl with resent := false, last := false } }
/-- A message that a root holds for a member is answered: RSTV by NACK, a KICK start as not started, an invocation breaks; a sticky pass whose
member has left is steered anew (R254). -/
def queueBreak (g : Group) (code : Nat) (s : State) (m : Msg) : State :=
  if m.typ = MT.rstv then s.reply m (if code = 1 then 4 else 2)
  else if m.typ = MT.kick then
    let s1 := s.kickReport g.root m m.w[5].toNat m.w[4].toNat (g.name.setWidth 64) 0 0 0
    if code = 1 then s1.breakInv (.root g.idx) g.root m 1 m.handle else s1
  else if code = 4 ∧ m.kind = 0 then (s.reply m 0).returnPass (.root g.idx) g.idx m
  else (s.reply m 0).breakInv (.root g.idx) g.root m code m.handle
/-- A start for one member, sent by a core that does not hold it, joins the member's redirect queue (R238, R304). -/
def kickQueued (s : State) (g : Group) (m : Msg) : State :=
  let mem := (m.spec.extractLsb' 5 12).toNat
  match memberRec g mem with
  | none => s
  | some r =>
    if r.st ≠ .active then s.kickReport g.root m m.w[5].toNat m.w[4].toNat (g.name.setWidth 64) 0 0 0
    else if queueDepth g ≤ r.queue.length then { s with resend := s.resend ++ [(m, s.time + 64)] }
    else match s.queueJoin g mem m none with
      | none => queueBreak g 1 s m
      | some u => u

/-- How a start ends at a member (R304). -/
inductive KickEnd where
  /-- the core has no room for it, or no egress slot to send it on (R156) -/
  | full (s : State)
  /-- the start is taken, or answered for -/
  | done (s : State)

/-- A start reaches a member's core (R304, R305): a member that is not there receives it through its redirect queue. -/
def kickMember (s : State) (g : Group) (site mem : Nat) (m : Msg) : KickEnd :=
  let no := KickEnd.done (s.kickReport site m m.w[5].toNat m.w[4].toNat (g.name.setWidth 64) 0 0 0)
  let on := fun (u : State) => KickEnd.done (u.send { m with
    frm := .core site, dest := .root g.idx, cls := .fwd, back := none, tries := 0, spec := 0x10 ||| (BitVec.ofNat 19 mem <<< 5) })
  let away := if s.fwdHeld (.core site) then (match s.drawBool with | (true, u) => .full u | (false, u) => on u) else on s
  match memberRec g mem with
  | none => no
  | some rec =>
    if rec.st ≠ .active then no
    else match s.residentAt site (memberWord g.name (BitVec.ofNat 12 mem)) with
      | none => away
      | some key => match (s.thread key).res with
        | none => away
        | some r =>
          if r.st ≠ .active then no
          else if r.saving then away
          else match s.placeFor key r with
            | none => .full s
            | some sp => .done ((s.wake site).addArrival key m true sp)
/-- The member of a team's tree at a slot of a core. -/
def kickSeat (g : Group) (ts : List Team) (site j team : Nat) : Option Nat :=
  ts[team]?.bind fun t => (List.range g.members.length).find? fun i => ((t.seat g.desc.spill team i).map fun x => x.key) == some (4 * site + j)
/-- A start reaches the slots of a core in order, one acceptance in a cycle (R210, R304): the state, the slots it has still to reach, and whether
the core had no room. -/
def kickSlots (s : State) (g : Group) (site team : Nat) (m : Msg) : List Nat → State × List Nat × Bool
  | [] => (s, [], false)
  | j :: r =>
    match kickSeat g (kickTeams g m.w[5].toNat) site j team with
    | none => (s.kickReport site m m.w[5].toNat m.w[4].toNat (g.name.setWidth 64) 0 0 0).kickSlots g site team m r
    | some mem => match s.kickMember g site mem m with
      | .full u => (u, j :: r, true)
      | .done u => if u.accepting site then (u, r, false) else u.kickSlots g site team m r
/-- A start at a site that turns it away is answered NACK, with what names the members that it does not reach: w0 the KICK, w2 the group, w3 the node,
w5 the slots (R9, R153, R304, log 106). -/
def kickTurned (s : State) (m : Msg) (status : Nat) : State :=
  (s.acceptMsg m).send { statusMsg m status with
    w := if m.fl.twin then Vector.replicate 6 0 else #v[m.w[5], m.w[1], m.w[0], m.w[4], MT.kick.setWidth 64, (m.spec &&& 0x1F).setWidth 64] }
/-- The sender of such a start reports them as not started. -/
def kickRefused (s : State) (site : Nat) (m : Msg) : State :=
  let n := if m.w[5].getLsbD 4 then 1 else ((List.range 4).filter fun i => m.w[5].getLsbD i).length
  (List.range n).foldl (fun u _ => u.kickReport site m m.w[0].toNat m.w[3].toNat ((grpOf m.w[2]).setWidth 64) 0 0 0) s
/-- An earlier start of the sender to the core is still to come: a later one may not go ahead of it (R304). -/
def kickBehind (s : State) (m : Msg) : Bool :=
  let before := fun (o : Msg) => o.typ == MT.kick && o.frm == m.frm && o.dest == m.dest && o.cls == m.cls && decide (o.id < m.id)
  (s.resend.any fun e => before e.1) || s.net.any before

/-! ### Ends (R306) -/

/-- The node of a report changes; once every child has reported, it reports up, or the handle resolves. -/
def kickDone (s : State) (gi team site : Nat) (m : Msg) : State :=
  match s.grp gi with
  | none => s
  | some g =>
    let same := fun (n : KNode) => n.kick == m.w[2].toNat && n.site == site && (site == 4096 || n.team == team)
    match g.knodes.find? same with
    | none => s
    | some n =>
      let n1 : KNode := { n with pend := n.pend - 1, started := n.started + m.w[0].toNat, faulted := n.faulted + m.w[1].toNat }
      let rest := g.knodes.filter fun x => !same x
      if 0 < n1.pend then s.modGroup gi fun g => { g with knodes := rest ++ [n1] }
      else
        let s1 := s.modGroup gi fun g => { g with
          knodes := rest, ktrees := if site = 4096 then g.ktrees.filter fun e => e.1 != n.kick else g.ktrees }
        if site = 4096 then
          s1.send { s1.toRelay (.root gi) g.root n.msg n.msg.handle MT.reply with
            nflit := 1, w := #v[n.msg.handle, 0, 0, 0, 0, 0]
            pay := BitVec.ofNat 4096 (n1.started + 2 ^ 64 * n1.faulted) }
        else
          s1.send { m with
            frm := .router site, dest := if n.parent = 4096 then .root gi else .router n.parent
            w := #v[BitVec.ofNat 64 n1.started, BitVec.ofNat 64 n1.faulted, m.w[2], m.w[3], BitVec.ofNat 64 (4096 * team + n.parent), 0] }

end State

/-- KICK_MSG: a KICK reaches its group's root, which starts it only with an egress slot for its starts (R156, R303); or a start for a member that is not resident (R304). -/
def execKickMsg (msg : Nat) (s : State) : Host.Outcome State Fault Refusal :=
  match s.request msg MT.kick with
  | none => .next s
  | some m =>
    match m.dest with
    | .root gi =>
      match s.liveRoot gi (grpOf m.w[0]) with
      | none => .next s
      | some g =>
        let u := s.dropMsg msg
        let k := (u.rootTakes g m).2.1
        if m.cls = .fwd ∧ m.back.isNone = true then .next (u.kickQueued g m)
        else if u.mustRefuse k then .next (u.retryMsg k)
        else
          let go := fun (v : State) => (((v.acceptMsg k).rootTook k).reply k 0).kickAtRoot g k
          .next (if g.st = .running then u.withEgress (.root gi) k go else go u)
    | .former site => .next (s.formerRoot msg site m)
    | .router _ => if m.cls = .req then .next ((s.dropMsg msg).reply m (s.lostStatus m)) else .next s
    | _ => .next s

/-- KICKOFF_FANOUT: a start reaches a node of the tree, which sends it to its children at once, or a core, which starts its members (R304). -/
def execKickoffFanout (msg : Nat) (s : State) : Host.Outcome State Fault Refusal :=
  match s.request msg MT.kick with
  | none => .next s
  | some m =>
    if m.cls ≠ .fwd then .next s
    else
      let u := s.dropMsg msg
      match s.groupOf (grpOf m.w[0]) with
      | none => match m.dest with
        | .router _ => .next u
        | .core site => .next (match s.refusal site m with | some st => u.kickTurned m st | none => u)
        | _ => .next s
      | some g =>
        match m.dest with
        | .router site =>
          -- w4 is 4096 × 4096 × (team + 1) + the parent's site on its way down
          let team := m.w[4].toNat / (4096 * 4096) - 1
          match (State.kickTeams g m.w[5].toNat)[team]? with
          | none => .next u
          | some t =>
            let below := State.kickBelow t site
            let n : KNode := {
              kick := m.w[5].toNat, site := site, team := team, parent := m.w[4].toNat % (4096 * 4096), pend := t.slots.length + below.length, msg := m }
            let u1 := u.modGroup g.idx fun g => { g with knodes := g.knodes ++ [n] }
            let u2 := u1.kickTo (.router site) (.core site) m (4096 * team + site) ((t.slots.map fun i => 2 ^ i).sum)
            .next (below.foldl (fun v p => v.kickTo (.router site) (.router p) m (4096 * 4096 * (team + 1) + site) 0) u2)
        | .core site =>
          let team := m.w[4].toNat / 4096
          let later := fun (v : State) (x : Msg) => { v with resend := v.resend ++ [(x, v.time + 64)] }
          match s.refusal site m with
          | some st => .next (u.kickTurned m st)
          | none =>
          if s.waitsTurn site m then .next (s.offer site m)
          else if m.fl.twin then .next (u.twinArrival site m true)
          else if u.kickBehind m then .next (later u m)
          else if m.spec.getLsbD 4 then
            match u.kickMember g site (m.spec.extractLsb' 5 12).toNat m with
            | .done v => .next v
            | .full v => .next (later v m)
          else
            let (v, rest, full) := u.kickSlots g site team m ((List.range 4).filter fun i => m.spec.getLsbD i)
            let x := { m with spec := BitVec.ofNat 19 ((rest.map fun i => 2 ^ i).sum) }
            if full then .next (later v x)
            else if rest = [] then .next v
            else .next { v with net := v.net.take msg ++ x :: v.net.drop msg }
        | _ => .next s

/-- KICKEND: a report reaches a node (R306); the accesses of the member whose activation ended are performed first. -/
def execKickend (msg : Nat) (s : State) : Host.Outcome State Fault Refusal :=
  match s.answer msg MT.kickend with
  | none => .next s
  | some m =>
    let site := (m.w[5].toNat - 1) / 4
    let waits := m.w[5] ≠ 0 ∧ ((s.core site).ends.any fun e => e.msg == m.id && !s.endClear e) = true
    if waits then .next s
    else
      let v := s.dropMsg msg
      let u := if m.w[5] = 0 then v else v.modCore site fun c => { c with ends := c.ends.filter fun e => e.msg != m.id }
      match s.groupOf (grpOf m.w[3]) with
      | none => .next u
      | some g =>
        match m.dest with
        | .router site => .next (u.kickDone g.idx (m.w[4].toNat / 4096) site m)
        | .root gi => if gi = g.idx then .next (u.kickDone gi 0 4096 m) else .next u
        | _ => .next u

end Sys2Proof.Machine
end

