-- ==== Sys2Proof/Machine/Barrier.lean ====
section
/-! DEFINITION. Barriers: Huddles at three levels, the BAR forms, withdrawal, timeout, configuration (R279 to R288). -/

namespace Sys2Proof.Machine

/-! ### Huddles (R279, R281) -/

/-- The Huddle of a level: 0 a team, 1 a die, 2 the package. -/
def Barrier.huddle (b : Barrier) (lvl i : Nat) : Huddle :=
  match lvl with
  | 0 => Map.get (fun _ => {}) b.team i
  | 1 => Map.get (fun _ => {}) b.die i
  | _ => b.pkg
/-- The barrier with a Huddle replaced. -/
def Barrier.setHuddle (b : Barrier) (lvl i : Nat) (h : Huddle) : Barrier :=
  match lvl with
  | 0 => { b with team := Map.put b.team i h }
  | 1 => { b with die := Map.put b.die i h }
  | _ => { b with pkg := h }
/-- Die of a team's root. -/
def Group.teamDie (g : Group) (i : Nat) : Nat := State.dieOf ((g.teams[i]?.map fun t => t.site.toNat).getD 0)
/-- The teams of a mask, and those of them whose root lies on a die. -/
def Group.teamsOf (g : Group) (mask : BitVec 64) : List Nat := (List.range g.teams.length).filter fun i => mask.getLsbD i
/-- The teams of a mask on a die. -/
def Group.teamsOn (g : Group) (mask : BitVec 64) (d : Nat) : List Nat := (g.teamsOf mask).filter fun i => g.teamDie i == d
/-- The agent of a Huddle: the router of a team's root, of the root of the lowest-numbered of some teams on a die, the group root (R281). -/
def Group.huddleAgent (g : Group) (mask : BitVec 64) (lvl i : Nat) : Agent :=
  let rootOf := fun (t : Nat) => Agent.router ((g.teams[t]?.map fun x => x.site.toNat).getD g.root)
  match lvl with
  | 0 => rootOf i
  | 1 => match g.teamsOn mask i with
    | t :: _ => rootOf t
    | [] => .root g.idx
  | _ => .root g.idx
/-- A set of teams as a mask. -/
def teamMask (l : List Nat) : BitVec 64 := l.foldl (fun (w : BitVec 64) i => w ||| (1#64 <<< i)) 0
/-- A barrier of a group. -/
def Group.bar (g : Group) (id : Nat) : Barrier := g.bars[id % 16]?.getD {}
/-- The group with a barrier replaced. -/
def Group.setBar (g : Group) (id : Nat) (b : Barrier) : Group := { g with bars := g.bars.setIfInBounds (id % 16) b }

namespace State

/-! ### Messages of a barrier: SPEC[3:0] the barrier, w0 the group, w1 the recount and w5 the configuration under which it was sent, w2 the
level, w3 the Huddle there; w4 of BARARRIVE says what is counted: bit 0 a withdrawal, bit 1 of one that had arrived, bit 2 in which phase;
w4 of BARRELEASE the phase that begins (log 48) -/

/-- The configuration that the Huddle of a team holds. -/
def teamEp (g : Group) (id team : Nat) : Nat := ((g.bar id).huddle 0 team).ep
/-- A message of a barrier. -/
def barMsgOf (s : State) (g : Group) (frm dest : Agent) (src : Who) (typ : BitVec 6) (id lvl i what ep : Nat) : Msg :=
  { id := 0, frm := frm, dest := dest, cls := .rsp, typ := typ, dst := ⟨src.dev, s.coreId (s.siteAt dest), 0⟩, src := src, tenant := g.tenant
    spec := BitVec.ofNat 19 (id % 16)
    w := #v[g.name.setWidth 64, BitVec.ofNat 64 (g.bar id).cnt, BitVec.ofNat 64 lvl, BitVec.ofNat 64 i, BitVec.ofNat 64 what, BitVec.ofNat 64 ep] }
/-- It is sent. -/
def barMsg (s : State) (g : Group) (frm dest : Agent) (src : Who) (typ : BitVec 6) (id lvl i what ep : Nat) : State :=
  s.send (s.barMsgOf g frm dest src typ id lvl i what ep)
/-- The site of a Huddle in a header. -/
def huddleWho (s : State) (g : Group) (a : Agent) : Who :=
  ⟨s.devId false g.tenant, s.coreId (match a with | .root _ => g.root | a => siteOfAgent a), 0⟩

/-! ### Barrier bits: in a member's core, or in its group's record while no core holds it (R279, R287) -/

/-- A slot holds a member, which its core has loaded. -/
def holds (s : State) (g : Group) (key mem : Nat) (twin : Bool) : Bool :=
  match (s.thread key).res with
  | some r => r.grp == g.idx && r.name == g.name && r.member.toNat == mem && r.isTwin == twin && !r.late
  | none => false
/-- Change a member's barrier bits wherever they are: in the cores that have loaded it and its twin, and in the record from which one that has not
yet will load them (R280, R287). -/
def modMemberBits (s : State) (g : Group) (mem : Nat) (f : BarBits → BarBits) : State :=
  let inCore := fun (x : Option Seat) (twin : Bool) => x.bind fun x => if s.holds g x.key mem twin then some x.key else none
  let p := inCore (g.seat mem) false
  let t := inCore (g.twinSeat mem) true
  let s1 := if p.isNone || ((g.twinSeat mem).isSome && t.isNone) then s.modMember g.idx mem fun m => { m with bar := f m.bar } else s
  (p.toList ++ t.toList).foldl (fun (u : State) k => u.modThread k fun t => { t with bar := f t.bar }) s1
/-- The members of a team. -/
def membersOf (g : Group) (i : Nat) : List Nat :=
  match g.teams[i]? with
  | none => []
  | some t => ((List.range t.size).map fun n => t.first + n).filter fun m => decide (m < g.members.length)
/-- A member that no core holds. -/
def unheld (s : State) (g : Group) (mem : Nat) : Bool := match g.seat mem with | some x => !s.holds g x.key mem false | none => true
/-- A release at a member: ARRIVED is cleared and PHASE flips, once (R281). -/
def released (id : Nat) (phase : Bool) (b : BarBits) : BarBits :=
  let bit : BitVec 16 := 1#16 <<< id
  if b.part.getLsbD id ∧ b.phase.getLsbD id ≠ phase then { b with arrived := b.arrived &&& ~~~bit, phase := b.phase ^^^ bit } else b
/-- A broken release at a member (R286). -/
def broke (id : Nat) (b : BarBits) : BarBits := { b with broken := b.broken ||| (1#16 <<< id) }
/-- What a release or a broken release does at a member. -/
def barEnds (typ : BitVec 6) (id : Nat) (phase : Bool) : BarBits → BarBits := if typ = MT.barrelease then released id phase else broke id

/-- A release, or a broken release, goes down from a level to those below, and from a team to its cores and the records of members that no
core holds (R281, R286, R287). -/
def barDown (s : State) (g : Group) (id lvl i : Nat) (typ : BitVec 6) (phase : Bool) (ep : Nat) : State :=
  let mask := (g.bar id).parts
  let frm := g.huddleAgent mask lvl i
  let to1 := fun (u : State) (d : Agent) (l j : Nat) => u.barMsg g frm d (s.huddleWho g frm) typ id l j phase.toNat ep
  match lvl with
  | 0 =>
    let sites := ((g.teams[i]?.map Team.sites).getD [] ++ (g.twins[i]?.map Team.sites).getD []).eraseDups
    let s1 := ((membersOf g i).filter fun m => s.unheld g m).foldl (fun u m => u.modMember g.idx m fun r => { r with bar := barEnds typ id phase r.bar }) s
    sites.foldl (fun u p => to1 u (.core p) 3 i) s1
  | 1 => (g.teamsOn mask i).foldl (fun u t => to1 u (g.huddleAgent mask 0 t) 0 t) s
  | _ => ((List.range 4).filter fun d => g.teamsOn mask d != []).foldl (fun u d => to1 u (g.huddleAgent mask 1 d) 1 d) s

/-- A Huddle's arrival or withdrawal goes to the level above (R281, R285). -/
def barUp (s : State) (g : Group) (id lvl i what : Nat) : State :=
  let b := g.bar id
  let up := if lvl = 0 then g.teamDie i else 0
  let frm := g.huddleAgent b.parts lvl i
  s.barMsg g frm (g.huddleAgent b.parts (lvl + 1) up) (s.huddleWho g frm) MT.bararrive id (lvl + 1) up what (if lvl = 0 then teamEp g id i else b.ep)

/-- A level that is complete sends its arrival up, or at the package ends the phase (R281). -/
def barCheck (s : State) (gi id lvl i : Nat) : State :=
  match s.grp gi with
  | none => s
  | some g =>
    let b := g.bar id
    let h := b.huddle lvl i
    if h.exp = 0 ∨ h.arr < h.exp ∨ h.sent = true then s
    else if lvl = 2 then
      let b1 := { b.setHuddle 2 0 { h with arr := 0, phase := !h.phase } with phase := !b.phase }
      (s.modGroup gi fun g => g.setBar id b1).barDown g id 2 0 MT.barrelease (!b.phase) b.ep
    else (s.modGroup gi fun g => g.setBar id (b.setHuddle lvl i { h with arr := 0, sent := true })).barUp g id lvl i 0

/-- An arrival or a withdrawal reaches a Huddle (R281, R285). -/
def barCount (s : State) (gi id lvl i what : Nat) : State :=
  match s.grp gi with
  | none => s
  | some g =>
    let b := g.bar id
    let h := b.huddle lvl i
    if what.testBit 0 = false then
      (s.modGroup gi fun g => g.setBar id (b.setHuddle lvl i { h with arr := h.arr + 1 })).barCheck gi id lvl i
    else
      let had := what.testBit 1 && what.testBit 2 == h.phase && !h.sent
      let h1 : Huddle := { h with exp := h.exp - 1, arr := if had then h.arr - 1 else h.arr }
      let s1 := s.modGroup gi fun g => g.setBar id (b.setHuddle lvl i h1)
      if h.exp = 1 ∧ lvl < 2 then s1.barUp g id lvl i (1 + (if h.sent then 2 else 0) + (if h.phase then 4 else 0))
      else s1.barCheck gi id lvl i

/-- A member's arrival, or its withdrawal, to its team's Huddle. -/
def barOwn (s : State) (key : Nat) (r : Resident) (id what : Nat) : Option Msg :=
  (s.grp r.grp).bind fun g => (g.seat r.member.toNat).map fun x =>
    s.barMsgOf g (.core (key / 4)) (g.huddleAgent 0 0 x.team) (s.whoOf key) MT.bararrive id 0 x.team what (teamEp g id x.team)
/-- It is sent. -/
def barSend (s : State) (key : Nat) (r : Resident) (id what : Nat) : State :=
  match s.barOwn key r id what with
  | none => s
  | some m => s.send m
/-- What a withdrawal says of a member's bits. -/
def leaveWhat (b : BarBits) (id : Nat) : Nat := 1 + (if b.arrived.getLsbD id then 2 else 0) + (if b.phase.getLsbD id then 4 else 0)
/-- A member withdraws from a barrier (R285). -/
def barLeave (s : State) (key : Nat) (r : Resident) (id : Nat) : State :=
  let m : BitVec 16 := 1#16 <<< id
  (s.barSend key r id (leaveWhat (s.thread key).bar id)).modThread key fun t => { t with bar := { t.bar with part := t.bar.part &&& ~~~m } }
/-- The bits of a member that has left every barrier: a wait of it ends with no acquire and no fault (R285). -/
def leftAll (b : BarBits) : BarBits := { b with part := 0, leave := b.leave ||| b.waiting, waiting := 0 }
/-- A slot has not yet loaded the member that it is to hold. -/
def lateAt (s : State) (key : Nat) : Bool := match (s.thread key).res with | some r => r.late | none => false
/-- A member that leaves its group withdraws from every barrier (R285). Its bits are in its group's record while its slot still runs
supervisor code; of a pair of which only one thread has loaded it, the primary's core withdraws alone (log 105). -/
def barLeaveAll (s : State) (key : Nat) : State :=
  match (s.thread key).res with
  | none => s
  | some r =>
    let b := if r.late then (((s.grp r.grp).bind fun g => g.members[r.member.toNat]?).map fun m => m.bar).getD {} else (s.thread key).bar
    let half := r.late || (r.twin.map fun k => s.lateAt k) == some true
    let say := fun (u : State) (i : Nat) => match u.barOwn key r i (leaveWhat b i) with
      | none => u
      | some m => if r.twin.isSome && half then (if r.isTwin then u else u.sendAlone m) else u.send m
    if r.late ∧ r.isTwin then s
    else
      let s1 := ((List.range 16).filter fun i => b.part.getLsbD i).foldl say s
      if r.late then s1.modMember r.grp r.member.toNat fun m => { m with bar := leftAll m.bar }
      else s1.modThread key fun t => { t with bar := leftAll t.bar }

end State

/-! ### The BAR forms (R282 to R285) -/

/-- The thread executes as a member. -/
def Thread.isMember (t : Thread) : Bool := match t.res with | some r => !r.late | none => false

/-- The checks that the forms share (R283); `arrives` for BARR and BARRW. -/
def State.barForm (u : State) (xs : XReg) (arrives : Bool) (k : Resident → Nat → SlotRes) : SlotRes :=
  let w := u.rx xs
  let id := w.toNat % 16
  let b := u.src.bar
  match u.src.res with
  | none => u.operand
  | some r =>
    if w.toNat ≠ id ∨ u.src.isMember = false then u.operand
    else if b.leave.getLsbD id then .done u
    else if b.cut.getLsbD id then u.fault .bartime w
    else if b.part.getLsbD id = false then u.fault .barover w
    else if arrives = true ∧ b.arrived.getLsbD id = true ∧ b.waiting.getLsbD id = false then u.fault .barover w
    else if b.broken.getLsbD id then u.fault .bartime w
    else k r id

/-- Arrive at a barrier (R283). -/
def State.barArrive (s : State) (r : Resident) (id : Nat) : State :=
  (s.barSend s.ctx.key r id 0).modCur fun t => { t with bar := { t.bar with arrived := t.bar.arrived ||| (1#16 <<< id) } }
/-- The bundle is held at a barrier: a park point, with its timer (R286, R287). -/
def State.barHeld (id : Nat) (s : State) : State :=
  s.modCur fun t => { t with
    park := .barrier
    bar := { t.bar with waiting := t.bar.waiting ||| (1#16 <<< id), on := BitVec.ofNat 4 id, since := some (t.bar.since.getD s.time) } }
/-- The wait of BARW and BARRW. -/
def State.barWait (u : State) (id : Nat) (ask : State → State) : SlotRes :=
  let b := u.src.bar
  if b.waiting.getLsbD id then
    if b.arrived.getLsbD id = false then
      .done (u.modCur fun t => { t with bar := { t.bar with waiting := t.bar.waiting &&& ~~~(1#16 <<< id) } })
    else .wait (State.barHeld id)
  else .wait fun s => (ask s).barHeld id

/-- BARR. -/
def execBarr (s : XReg) (st : State) : Host.Outcome State Fault Refusal :=
  slot (.barr s) (fun u => u.barForm s true fun r id =>
    if u.src.bar.waiting.getLsbD id then .done u
    else if u.drained u.ctx.key = false then u.hold
    else .done (u.barArrive r id)) st
/-- BARW. -/
def execBarw (s : XReg) (st : State) : Host.Outcome State Fault Refusal :=
  slot (.barw s) (fun u => u.barForm s false fun _ id =>
    if u.src.bar.arrived.getLsbD id = false ∧ u.src.bar.waiting.getLsbD id = false then .done u else u.barWait id fun s => s) st
/-- BARRW. -/
def execBarrw (s : XReg) (st : State) : Host.Outcome State Fault Refusal :=
  slot (.barrw s) (fun u => u.barForm s true fun r id =>
    if u.src.bar.waiting.getLsbD id = false ∧ u.drained u.ctx.key = false then u.hold
    else u.barWait id fun s => s.barArrive r id) st
/-- BARWD. -/
def execBarwd (s : XReg) (st : State) : Host.Outcome State Fault Refusal :=
  slot (.barwd s) (fun u => u.barForm s false fun r id =>
    if u.drained u.ctx.key = false then u.hold else .done (u.barLeave u.ctx.key r id)) st
/-- BARQ (R284). -/
def execBarq (d s : XReg) (st : State) : Host.Outcome State Fault Refusal :=
  slot (.barq d s) (fun u =>
    let w := u.rx s
    let id := w.toNat % 16
    let b := u.src.bar
    if w.toNat ≠ id ∨ u.src.isMember = false then u.operand
    else .done (u.wx d ((BitVec.ofBool (b.broken.getLsbD id) ++ BitVec.ofBool (b.phase.getLsbD id) ++ BitVec.ofBool (b.arrived.getLsbD id) ++
      BitVec.ofBool (b.part.getLsbD id)).setWidth 64))) st

/-! ### Messages -/

/-- The group of a barrier's message. -/
def State.barGroup (s : State) (m : Msg) : Option Group := s.groupOf (grpOf m.w[0])
/-- The configuration, and above a team the recount, under which a message was sent is still in force (R280, R287, log 48). -/
def State.barNow (g : Group) (m : Msg) : Bool :=
  let id := m.spec.toNat % 16
  let b := g.bar id
  let lvl := m.w[2].toNat
  if lvl = 0 ∨ lvl = 3 then m.w[5].toNat == State.teamEp g id m.w[3].toNat
  else m.w[5].toNat == b.ep && (m.typ != MT.bararrive || m.w[1].toNat == b.cnt)
/-- A release or a break reaches a team's Huddle ahead of the configuration under which it was sent: it waits for that (R280, R286, log 48). -/
def State.barEarly (g : Group) (m : Msg) : Bool :=
  m.w[2] == 0 && decide (State.teamEp g (m.spec.toNat % 16) m.w[3].toNat < m.w[5].toNat)
/-- A release or a broken release at a core: the members of the team there (R281, R286, R287). -/
def State.barAtCore (s : State) (g : Group) (site : Nat) (m : Msg) : State :=
  let here := fun (x : Option Seat) => match x with | some x => x.key / 4 == site | none => false
  ((State.membersOf g m.w[3].toNat).filter fun j => here (g.seat j) || here (g.twinSeat j)).foldl (fun u j =>
    u.modMemberBits g j (State.barEnds m.typ (m.spec.toNat % 16) (m.w[4] != 0))) s

/-- BARARRIVE at a Huddle (R281, R285). -/
def execBararrive (msg : Nat) (s : State) : Host.Outcome State Fault Refusal :=
  match s.answer msg MT.bararrive with
  | none => .next s
  | some m => match s.barGroup m with
    | none => .next (s.dropMsg msg)
    | some g =>
      let u := s.dropMsg msg
      .next (if State.barNow g m then u.barCount g.idx (m.spec.toNat % 16) m.w[2].toNat m.w[3].toNat m.w[4].toNat else u)

/-- BARRELEASE at a Huddle below the package, or at a core (R281). -/
def execBarrelease (msg : Nat) (s : State) : Host.Outcome State Fault Refusal :=
  match s.answer msg MT.barrelease with
  | none => .next s
  | some m => match s.barGroup m with
    | none => .next ((s.dropMsg msg).discard (s.siteAt m.dest) m)
    | some g =>
      let u := s.dropMsg msg
      let id := m.spec.toNat % 16
      let i := m.w[3].toNat
      match m.dest with
      | .core site => .next (u.delivered site m fun v => if State.barNow g m then v.barAtCore g site m else v)
      | _ =>
        if State.barEarly g m then .next s else
        let lvl := m.w[2].toNat
        let b := g.bar id
        let h := b.huddle lvl i
        let phase := m.w[4] != 0
        let ep := State.teamEp g id i
        if State.barNow g m = false then .next u
        else if lvl = 1 then
          let h1 : Huddle := if h.phase = phase then h else { h with sent := false, phase := phase }
          .next ((u.modGroup g.idx fun g => g.setBar id (b.setHuddle 1 i h1)).barDown g id 1 i MT.barrelease phase b.ep)
        else if h.phase = phase then .next u
        else .next ((u.modGroup g.idx fun g => g.setBar id (b.setHuddle 0 i { h with sent := false, phase := phase })).barDown g id 0 i MT.barrelease phase ep)

/-- BARRIER_TIMEOUT: a wait has lasted BARTMO cycles; the core sends a break to the group root (R286). -/
def execBarrierTimeout (site thr : Nat) (s : State) : Host.Outcome State Fault Refusal :=
  let key := keyAt site thr
  let t := s.thread key
  match t.bar.since, t.res with
  | some t0, some r =>
    let id := t.bar.on.toNat
    if t.park = .barrier ∧ t.ctl.bartmo ≠ 0 ∧ t.bar.timedOut = false ∧ t.bar.arrived.getLsbD id = true ∧ t.bar.broken.getLsbD id = false ∧ t.ctl.bartmo.toNat ≤ (t.bar.waited + (s.time - t0)).toNat then
      .next (match s.grp r.grp with
        | none => s
        | some g =>
          let team := ((g.seat r.member.toNat).map fun x => x.team).getD 0
          (s.barMsg g (.core site) (.root r.grp) (s.whoOf key) MT.barbreak id 2 0 0 (State.teamEp g id team)).modThread key fun t =>
            { t with bar := { t.bar with timedOut := true } })
    else .next s
  | _, _ => .next s

/-- BARBREAK: at the root a timeout; below it the broken release (R286). -/
def execBarbreak (msg : Nat) (s : State) : Host.Outcome State Fault Refusal :=
  match s.answer msg MT.barbreak with
  | none => .next s
  | some m => match s.barGroup m with
    | none => .next ((s.dropMsg msg).discard (s.siteAt m.dest) m)
    | some g =>
      let u := s.dropMsg msg
      let id := m.spec.toNat % 16
      let i := m.w[3].toNat
      let b := g.bar id
      let lvl := m.w[2].toNat
      match m.dest with
      | .core site => .next (u.delivered site m fun v => if State.barNow g m then v.barAtCore g site m else v)
      | _ =>
        if State.barEarly g m then .next s
        else if State.barNow g m = false then .next u
        else if lvl = 2 then
          if b.broken then .next u
          else .next ((u.modGroup g.idx fun g => g.setBar id { b with broken := true }).barDown g id 2 0 MT.barbreak false b.ep)
        else .next (u.barDown g id lvl i MT.barbreak false (if lvl = 0 then State.teamEp g id i else b.ep))

/-! ### Configuration (R280) -/

/-- The members of a team that are ACTIVE. -/
def Group.activeIn (g : Group) (i : Nat) : List Nat :=
  match g.teams[i]? with
  | none => []
  | some t => (List.range t.size).map (fun n => t.first + n) |>.filter fun m => match g.members[m]? with
    | some r => r.st == .active
    | none => false
/-- A member's bits after a configuration of the barriers of a mask: a wait on one of them is cut (R280). -/
def BarBits.configured (b : BarBits) (mask : BitVec 16) (part : Bool) : BarBits :=
  { b with
    part := (b.part &&& ~~~mask) ||| (if part then mask else 0), arrived := b.arrived &&& ~~~mask, phase := b.phase &&& ~~~mask
    broken := b.broken &&& ~~~mask, cut := b.cut ||| (b.waiting &&& mask), waiting := b.waiting &&& ~~~mask }
/-- What a member brings from its core into its group's record: the bits, and every break that its group's root has had (R286, R287). -/
def Group.savedBits (g : Group) (mem : Nat) (b : BarBits) : BarBits :=
  let team := ((g.seat mem).map fun x => x.team).getD 0
  (List.range 16).foldl (fun (b : BarBits) id =>
    let r := g.bar id
    if r.broken ∧ r.teams.getLsbD team ∧ State.teamEp g id team = r.ep then State.broke id b else b) b
/-- Expected counts of the levels above the teams: the counts of the teams give them (R280). -/
def Group.upperExp (g : Group) (b : Barrier) (lvl i : Nat) : Nat :=
  let full := fun (d : Nat) => ((g.teamsOn b.teams d).filter fun t => (b.huddle 0 t).exp != 0).length
  if lvl = 1 then full i else ((List.range 4).filter fun d => full d != 0).length

namespace State

/-- The root begins a configuration: it sends BARCONFIG to every Huddle (R280): w0 the group, w1 MASK, w2 and w3 the Huddle, w5 TEAMS. -/
def barConfigure (s : State) (gi : Nat) (mask : BitVec 16) (teams : BitVec 64) (ctl : Msg) : State :=
  match s.grp gi with
  | none => s
  | some g =>
    let ids := (List.range 16).filter fun i => mask.getLsbD i
    let team : Map Huddle := (g.teamsOf teams).map fun t => (t, { exp := (g.activeIn t).length })
    let parts := teamMask ((g.teamsOf teams).filter fun t => !(g.activeIn t).isEmpty)
    let b0 : Barrier := { teams := teams, team := team }
    let die : Map Huddle := ((List.range 4).filter fun d => g.teamsOn parts d != []).map fun d => (d, { exp := g.upperExp b0 1 d })
    let pkg := g.upperExp b0 2 0
    let next := fun (b : Barrier) => { b with teams := teams, parts := parts, die := die, pkg := { exp := pkg }, phase := false, broken := false, ep := b.ep + 1 }
    let s1 := s.modGroup gi fun g => { ids.foldl (fun (g : Group) i => g.setBar i (next (g.bar i))) g with barcfg := some (ctl, g.teams.length) }
    -- the 16-byte block, then the receiver's expected counts: as a team's Huddle, as a die's and as the package's
    let counts := fun (t : Nat) =>
      let d := g.teamDie t
      [(b0.huddle 0 t).exp, if (g.teamsOn parts d).head? = some t then (Map.get (fun _ => ({} : Huddle)) die d).exp else 0, if t = 0 then pkg else 0]
    (List.range g.teams.length).foldl (fun u t =>
      let a := g.huddleAgent 0 0 t
      u.send {
        id := 0, frm := .root gi, dest := a, cls := .req, typ := MT.barconfig, dst := s.huddleWho g a, src := s.huddleWho g (.root gi), tenant := g.tenant
        fl := { sup := true }, nflit := 1, pay := BitVec.ofNat 4096 (mask.toNat + teams.toNat * 2 ^ 64 + fieldsAt 16 2 (counts t))
        w := #v[g.name.setWidth 64, 0, 0, BitVec.ofNat 64 t, 0, 0] }) s1

/-- A Huddle has confirmed; after the last the issuer is answered OK (R280). -/
def barConfirmed (s : State) (gi : Nat) : State :=
  match s.grp gi with
  | none => s
  | some g => match g.barcfg with
    | none => s
    | some (ctl, n) =>
      if 1 < n then s.modGroup gi fun g => { g with barcfg := some (ctl, n - 1) }
      else (s.modGroup gi fun g => { g with barcfg := none }).send { answerTo ctl MT.grpstat 0 with w := #v[ctl.w[0], ctl.w[1], ctl.w[2], ctl.w[3], 0, 0] }

end State

/-- BARCONFIG: a team's Huddle takes its new state, and the members of the team theirs, in their cores or in their records; the Huddle
answers ACK (R280). -/
def execBarconfig (msg : Nat) (s : State) : Host.Outcome State Fault Refusal :=
  match s.request msg MT.barconfig with
  | none => .next s
  | some m =>
    match m.dest with
    | .router _ =>
      let u := (s.dropMsg msg).acceptMsg m
      match s.barGroup m with
      | none => .next (u.reply m 0)
      | some g =>
        let i := m.w[3].toNat
        let mask : BitVec 16 := m.pay.extractLsb' 0 16
        let teams : BitVec 64 := m.pay.extractLsb' 64 64
        let exp := (m.pay.extractLsb' 128 16 : BitVec 16).toNat
        let u1 := u.modGroup g.idx fun g => ((List.range 16).filter fun b => mask.getLsbD b).foldl (fun (g : Group) b =>
          g.setBar b ((g.bar b).setHuddle 0 i { exp := exp, ep := (g.bar b).ep })) g
        let part := fun (j : Nat) => teams.getLsbD i && (g.members[j]?.map fun r => r.st == .active) == some true
        .next (((State.membersOf g i).foldl (fun v j => v.modMemberBits g j fun b => b.configured mask (part j)) u1).reply m 0)
    | _ => .next s

/-! ### Park and move (R287) -/

/-- The upper levels of every barrier are counted anew for a placement (R287). -/
def Group.recount (g : Group) : Group :=
  { g with bars := g.bars.map fun b =>
    let parts := teamMask ((g.teamsOf b.teams).filter fun t => (b.huddle 0 t).exp != 0)
    let die : Map Huddle := ((List.range 4).filter fun d => g.teamsOn parts d != []).map fun d =>
      let ts := (g.teamsOn parts d).map fun t => b.huddle 0 t
      (d, { exp := g.upperExp b 1 d, arr := (ts.filter fun h => h.exp != 0 && h.sent && h.phase == b.phase).length, phase := b.phase })
    let full := die.filter fun e => e.2.exp != 0 && e.2.arr == e.2.exp
    { b with
      parts := parts
      cnt := b.cnt + 1
      die := die.map fun e => if e.2.exp ≠ 0 ∧ e.2.arr = e.2.exp then (e.1, { e.2 with arr := 0, sent := true }) else e
      pkg := { exp := g.upperExp b 2 0, arr := full.length, phase := b.phase } } }
/-- The release of the last phase has not reached every team that took part in it. -/
def Group.releasing (g : Group) (id : Nat) : Bool :=
  let b := g.bar id
  (g.teamsOf b.parts).any fun t => (b.huddle 0 t).phase != b.phase && (b.huddle 0 t).ep == b.ep
/-- After it, a level that is complete sends its arrival at once; the dies' arrivals are counted already. A release that was on its way to
the teams goes down the new tree (R287). -/
def State.recountBars (s : State) (gi : Nat) : State :=
  let down := fun (u : State) (i : Nat) => match u.grp gi with
    | some g => if g.releasing i then u.barDown g i 2 0 MT.barrelease (g.bar i).phase (g.bar i).ep else u
    | none => u
  (List.range 16).foldl (fun u i => (down u i).barCheck gi i 2 0) (s.modGroup gi Group.recount)

end Sys2Proof.Machine
end

