-- ==== Sys2Proof/Machine/Copy.lean ====
section
/-! DEFINITION. Copies, multicasts, completion tags (R171 to R184). -/

namespace Sys2Proof.Machine

/-! ### Pieces of a copy (R176, R179) -/

/-- Where piece i of a row begins: rows are cut wherever the destination, at address b, crosses a line. -/
def pieceStart (b i : Nat) : Nat := if i = 0 then 0 else 128 - b % 128 + 128 * (i - 1)
/-- Numbers of pieces set aside for a row of n bytes. -/
def rowPieces (n : Nat) : Nat := n / 128 + 2
/-- Ranges without one number. -/
def dropNum (l : List (Nat × Nat)) (k : Nat) : List (Nat × Nat) :=
  l.flatMap fun r => if r.1 ≤ k ∧ k < r.2 then [(r.1, k), (k + 1, r.2)].filter (fun p => decide (p.1 < p.2)) else [r]
/-- The i-th number of ranges. -/
def nthNum (l : List (Nat × Nat)) (i : Nat) : Nat :=
  match l with
  | [] => 0
  | r :: t => if i < r.2 - r.1 then r.1 + i else nthNum t (i - (r.2 - r.1))
/-- How many numbers are in ranges. -/
def countNums (l : List (Nat × Nat)) : Nat := (l.map fun r => r.2 - r.1).sum

/-- The sites of a rectangle word: site, width − 1, height − 1 (R171). -/
def rectSites (w : Word) : List Nat :=
  let s := w.toNat % 4096
  (List.range (w.toNat / 2 ^ 18 % 64 + 1)).flatMap fun y => (List.range (w.toNat / 2 ^ 12 % 64 + 1)).map fun x => s + 64 * y + x
/-- A rectangle word lies within the package. -/
def rectOk (w : Word) : Bool :=
  let s := w.toNat % 4096
  decide (s % 64 + w.toNat / 2 ^ 12 % 64 < 64) && decide (s / 64 + w.toNat / 2 ^ 18 % 64 < 64)
/-- The rectangle word of a team. -/
def Team.rect (t : Team) : Word := BitVec.ofNat 64 (t.site.toNat + 2 ^ 12 * (t.w - 1) + 2 ^ 18 * (t.h - 1))

/-- Piece k of a copy: its row, its offset there, its length. -/
def Copy.piece (c : Copy) (k : Nat) : Nat × Nat × Nat :=
  let per := rowPieces c.len
  let row := k / per
  let b := c.dst.ptr.toNat + row * c.dpitch
  let o := pieceStart b (k % per)
  (row, o, min c.len (pieceStart b (k % per + 1)) - o)
/-- Where a row's source begins: a gather entry counts as it was read (R176). -/
def Copy.rowSrc (c : Copy) (row : Nat) : Int :=
  match c.kind with
  | .copygt => c.src.ptr.toNat + (match c.gread.find? fun e => e.1 == row with | some e => e.2.toInt | none => 0)
  | .copy | .copy2d | .copymc | .mcast | .rstv => c.src.ptr.toNat + row * c.spitch
/-- Part n of a copy, the half n % 2 of piece n / 2, cut where the source crosses a line: source address, offset in the piece, length. -/
def Copy.part (c : Copy) (n : Nat) : Nat × Nat × Nat :=
  let (row, o, len) := c.piece (n / 2)
  let a := (c.rowSrc row).toNat + o
  let cut := min len (128 - a % 128)
  if n % 2 = 0 then (a, 0, cut) else (a + cut, cut, len - cut)
/-- The piece of a part, as it stands before any part of it is read. -/
def Copy.blank (c : Copy) (n : Nat) : CopyJob :=
  let (row, o, len) := c.piece (n / 2)
  { line := n / 2, dst := c.dst.ptr.toNat + row * c.dpitch + o, len := len }
/-- The pieces begun, with one more begun. -/
def Copy.begun (c : Copy) (n : Nat) : List CopyJob :=
  if c.lines.any fun j => j.line == n / 2 then c.lines else c.lines ++ [c.blank n]
/-- A part's bytes join their piece. -/
def CopyJob.fill (j : CopyJob) (off len x : Nat) (pois : Bool) : CopyJob :=
  { j with
    data := j.data + 2 ^ (8 * off) * (x % 2 ^ (8 * len)), got := j.got + len
    pz := if pois = false then j.pz else if j.pz.2 = 0 then (off, len) else (0, j.pz.2 + len) }

namespace State

/-- Change a copy of a core. -/
def modCopy (s : State) (site id : Nat) (f : Copy → Copy) : State :=
  s.modCore site fun c => { c with tags := { c.tags with copies := c.tags.copies.map fun p => if p.id = id then f p else p } }
/-- A copy of a core. -/
def findCopy (s : State) (site id : Nat) : Option Copy := (s.core site).tags.copies.find? fun p => p.id == id

/-- An error of a copy: the first one is recorded; all but poison stop it (R181). -/
def copyFails (s : State) (site : Nat) (c : Copy) (addr : Nat) (stop : Bool) : State :=
  let s1 := if c.err then s else s.record (bankOf site)
    { rank := 2, source := 2, tenant := c.ten, addr := BitVec.ofNat 64 addr, synd := c.tag.setWidth 64, unit := (s.coreId site).toNat }
  s1.modCopy site c.id fun p => if stop then { p with err := true, stopped := true, todo := [], lines := [] } else { p with err := true }

/-- Where a piece leads: its home, the address there, the tenant it is made as, the translation it uses; a walk that it must await; or a failure. -/
inductive CopyPlace where
  | ok (h : Agent) (a : Nat) (ten : BitVec 12) (use : Option TlbEnt)
  | miss (slot : BitVec 6) (va : Nat)
  | bad

/-- Where a piece leads (R142, R148, R315, R328). -/
def copyHome (s : State) (site : Nat) (c : Copy) (e n : Nat) (need : Need) : CopyPlace :=
  let xl := fun (slot : BitVec 6) (ten : BitVec 12) (va : Nat) =>
    match s.cached site ten va with
    | some t => if leafOk t.perm need then CopyPlace.ok (.slice (sliceOf (t.phys va))) (t.phys va) ten (some t) else .bad
    | none => if c.xfail.contains (slot, va) then .bad else .miss slot va
  if windowOk e n = false then .bad
  else match placeOf e with
    | .own off => .ok (.core site) off c.ten none
    | .peer dev core off => .ok (s.agentOf site c.sup c.ten dev core) off c.ten none
    | .device va => match c.space with
      | some (slot, ten) => xl slot ten va
      | none => .bad
    | .host a => .ok .bridge a c.ten none
    | .peerDev dev va => match c.space with
      | some (slot, ten) =>
        if s.ownDev c.sup ten dev then xl slot ten va
        else match s.nodeOf c.sup ten dev with
          | some node => .ok (.out node.toNat) va ten none
          | none => .bad
      | none => .bad
/-- The translation of a piece is used (R328, R329). -/
def useCopy (s : State) (site : Nat) (write : Bool) : Option TlbEnt → State
  | some t => s.useXl site t write
  | none => s
/-- A copy asks for a walk: it joins the walk of its page, or needs a walker or a queue entry; its part is tried again until it has them (R328). -/
def copyWalk (s : State) (site : Nat) (c : Copy) (slot : BitVec 6) (va : Nat) : State :=
  s.joinWalk site { key := c.owner, slot := slot, va := va, ord := s.nextId, copy := some c.id }

/-- Bytes of a piece are written to local memory, the poisoned ones as such (R181). -/
def locPiece (s : State) (site a n data : Nat) (pz : Nat × Nat) : State :=
  (s.locStore site a n data false).modMem site fun m => { m with pois := setPois m.pois (a + pz.1) true pz.2 }
/-- Read bytes at a home within the package; none is a failed status (R153, R318, R320). -/
def copyRead (s : State) (c : Copy) (h : Agent) (a n : Nat) (ten : BitVec 12) : Option (Nat × Bool) :=
  match h with
  | .core p => if s.present p && (c.sup || ten == s.coreTenant p) then some ((s.core p).mem.read a n) else none
  | .slice _ => (s.keyOf ten).map fun key => s.hbm.read key a n
  | .bridge => some (s.host.load a n, false)
  | .router _ => none | .root _ => none | .out _ => none | .gate => none | .former _ => none

/-- A message of a copy: w1 its bytes and the poisoned ones among them, w2 the address as the program named it, w3 the copy. -/
def copyMsg (s : State) (site : Nat) (c : Copy) (h : Agent) (typ : BitVec 6) (a : Nat) (j : CopyJob) (ten : BitVec 12) : Msg :=
  { id := 0, frm := .core site, dest := h, cls := .bulk, typ := typ, dst := s.whoAt site h, src := s.whoOf c.owner, tenant := ten
    fl := { sup := c.sup }, nflit := BitVec.ofNat 4 ((j.len + 63) / 64)
    w := #v[BitVec.ofNat 64 a, BitVec.ofNat 64 (j.len + 2 ^ 16 * j.pz.1 + 2 ^ 32 * j.pz.2), BitVec.ofNat 64 j.dst, BitVec.ofNat 64 c.id, c.rect, 0]
    pay := BitVec.ofNat 4096 j.data }
/-- A read that an engine makes at another agent: n bytes, with what they are for (R151). -/
def engineRead (s : State) (site : Nat) (c : Copy) (h : Agent) (a n part what : Nat) (ten : BitVec 12) : State :=
  s.send { s.copyMsg site c h MT.load a { line := 0, dst := 0, len := 0 } ten with
    cls := .req, spec := specOf 0 (sizeCode n) 0 0 0 0, w := #v[BitVec.ofNat 64 a, BitVec.ofNat 64 part, BitVec.ofNat 64 what, BitVec.ofNat 64 c.id, 0, 0] }

/-- Write a piece: at once into the issuer's own local memory, by COPYDATA elsewhere (R176, R179). -/
def copyWrite (s : State) (site : Nat) (c : Copy) (h : Agent) (a : Nat) (j : CopyJob) (ten : BitVec 12) : State :=
  if h = .core site then s.locPiece site a j.len j.data j.pz
  else (s.modCopy site c.id fun p => { p with pend := p.pend + 1 }).send (s.copyMsg site c h MT.copydata a j ten)

/-- Write a piece in every core of a COPYMC's set; an ordered one goes through the set's root (R173, R176). -/
def copyFan (s : State) (site : Nat) (c : Copy) (a : Nat) (j : CopyJob) : State :=
  let sites := rectSites c.rect
  if c.ordered then
    (s.modCopy site c.id fun p => { p with pend := p.pend + sites.length }).send
      (s.copyMsg site c (.router (c.rect.toNat % 4096)) MT.mcast a j c.ten)
  else sites.foldl (fun u p =>
    if p = site then u.locPiece site a j.len j.data j.pz
    else (u.modCopy site c.id fun x => { x with pend := x.pend + 1 }).send (u.copyMsg site c (.core p) MT.mcast a j c.ten)) s

/-- The read of a part ends: its bytes join their piece. -/
def partRead (s : State) (site : Nat) (c : Copy) (n : Nat) (x : Nat × Bool) : State :=
  let (a, off, len) := c.part n
  let s1 := if x.2 then s.copyFails site c a false else s
  s1.modCopy site c.id fun p => { p with lines := (p.begun n).map fun j => if j.line = n / 2 then j.fill off len x.1 x.2 else j }

end State

/-- An access of its thread that the acquire or release of a copy awaits is not performed (R179, R292). -/
def State.copyWaits (s : State) (site : Nat) (c : Copy) : Bool :=
  (c.acqIds.any fun i => i % 2 == 0 || (s.thread c.owner).accs.any fun a => 2 * a.ord + 1 == i) ||
    ((c.cpaAcq || c.cpaRel) && ((s.core site).mm.any (fun o => o.key == c.owner && decide (o.id < c.id)) ||
      (s.core site).eng.any fun o => o.key == c.owner && !o.orphan && o.kind.transfers && decide (o.ord < c.id)))

/-- The engine reads a part of a copy (R179, R181). A poisoned word of a gather list names no source: it stops the copy (log 34). -/
def State.readPart (s : State) (site : Nat) (c0 : Copy) (n : Nat) : State :=
  let row := (c0.piece (n / 2)).1
  let s1 := s.modCopy site c0.id fun p =>
    { p with
      todo := dropNum p.todo n
      gread := if p.kind = .copygt ∧ !(p.gread.any fun e => e.1 == row) then
          p.gread ++ [(row, BitVec.ofNat 64 ((s.core site).mem.read (p.spitch + 8 * row) 8).1)]
        else p.gread }
  match s1.findCopy site c0.id with
  | none => s1
  | some c =>
    let (a, _, len) := c.part n
    let g := c.spitch + 8 * row
    if len = 0 then s1
    else if c.kind = .copygt ∧ (c0.gread.any fun e => e.1 == row) = false ∧ ((s.core site).mem.read g 8).2 = true then
      (s1.localPoison site g).copyFails site c g true
    else if c.kind = .copygt ∧ (boundOk c.src (c.rowSrc row) c.len = false ∨ permR c.src.perm = false) then
      s1.copyFails site c (BitVec.ofInt 64 (c.rowSrc row)).toNat true
    else match s1.copyHome site c a len .read with
      | .bad => s1.copyFails site c a true
      | .miss slot va => (s1.modCopy site c.id fun p => { p with todo := c0.todo }).copyWalk site c slot va
      | .ok h p ten us =>
        let s2 := s1.useCopy site false us
        if State.isOutAgent h then
          -- another device: the whole line is asked for (log 26)
          (s2.modCopy site c.id fun x => { x with lines := x.begun n }).engineRead site c h (p / 128 * 128) 128 n 1 ten
        else match s2.copyRead c h p len ten with
          | some x => (match h, s2.keyOf ten with
            | .slice _, some key => s2.secSeen ten key p len
            | _, _ => s2).partRead site c n x
          | none => s2.copyFails site c a true

/-- The engine writes a piece of a copy, all of which has been read (R176, R179). -/
def State.writePiece (s : State) (site : Nat) (c : Copy) (j : CopyJob) : State :=
  let s1 := s.modCopy site c.id fun p => { p with lines := p.lines.filter fun x => x.line != j.line }
  if c.kind = .copymc then s1.copyFan site c (j.dst % 2 ^ 19) j
  else match s1.copyHome site c j.dst j.len .write with
    | .bad => s1.copyFails site c j.dst true
    | .miss slot va => s.copyWalk site c slot va
    | .ok h p ten us => (s1.useCopy site true us).copyWrite site c h p j ten

/-- COPY_LINE: the k-th copy of a core makes one of the reads or writes that it still has to make; which one is open (R179). -/
def execCopyLine (site k : Nat) (s : State) : Host.Outcome State Fault Refusal :=
  match (s.core site).tags.copies[k]? with
  | none => .next s
  | some c =>
    let ready := c.lines.filter fun j => j.got == j.len
    let nr := if c.cpaAcq && s.copyWaits site c then 0 else countNums c.todo
    if c.stopped ∨ nr + ready.length = 0 then .next s
    else
      let (r, s1) := s.drawWord
      let i := r.toNat % (nr + ready.length)
      if i < nr then .next (s1.readPart site c (nthNum c.todo i))
      else match ready[i - nr]? with
        | none => .next s1
        | some j => .next (s1.writePiece site c j)

/-- COPY_COMPLETE: the k-th copy of a core has nothing left to do, its release included: its slot is freed, its tag counts down (R178, R179,
R181). -/
def execCopyComplete (site k : Nat) (s : State) : Host.Outcome State Fault Refusal :=
  match (s.core site).tags.copies[k]? with
  | none => .next s
  | some c =>
    if s.copyWaits site c = true ∨ c.todo ≠ [] ∨ c.lines ≠ [] ∨ c.pend ≠ 0 then .next s
    else if c.hostRead then
      .next ((s.modCopy site c.id fun p => { p with hostRead := false, pend := 1 }).engineRead site c .bridge (c.dst.ptr.toNat % 2 ^ 60) 8 0 3 c.ten)
    else
      .next (s.modCore site fun x =>
        let t := x.tags
        let n := (t.cnt[c.tag.toNat]?.getD 0) - 1
        let b : Word := 1#64 <<< c.tag.toNat
        { x with tags := { t with
            copies := t.copies.eraseIdx k, cnt := t.cnt.setIfInBounds c.tag.toNat n
            tdone := if n = 0 then t.tdone ||| b else t.tdone
            terr := if c.err then t.terr ||| b else t.terr } })

/-- The bytes of a COPYDATA or MCAST message: address, number, value, and the poisoned ones. -/
def Msg.copyBytes (m : Msg) : Nat × Nat × Nat × (Nat × Nat) :=
  let n := m.w[1].toNat % 2 ^ 16
  (m.w[0].toNat, n, m.pay.toNat % 2 ^ (8 * n), m.w[1].toNat / 2 ^ 16 % 2 ^ 16, m.w[1].toNat / 2 ^ 32 % 2 ^ 16)

/-- COPYDATA at its home (R153, R179, R318, R320). -/
def execCopydata (msg : Nat) (s : State) : Host.Outcome State Fault Refusal :=
  match s.deliver msg with
  | none => .next s
  | some m =>
    if m.typ ≠ MT.copydata ∨ State.isOutAgent m.dest = true then .next s
    else
      let u := s.dropMsg msg
      let (a, n, x, pz) := m.copyBytes
      match m.dest with
      | .core site => .next (u.delivered site m fun v => (v.locPiece site a n x pz).reply m 0)
      | .slice _ =>
        match u.keyOf m.tenant with
        | none => .next (u.reply m 3)
        | some key =>
          let v := u.mendSeen m.tenant key a n true
          match v.hbm.write key a n x false with
          | some h => .next ({ v with hbm := { h with pois := setPois h.pois (a + pz.1) true pz.2 } }.reply m 0)
          | none => .next (v.slicePoison key m)
      | .bridge => .next ({ u with host := u.host.store a n x }.reply m 0)
      | .gate =>
        match u.rootOf m.tenant with
        | none => .next (u.reply m 3)
        | some root =>
          let site := State.siteOfAgent m.frm
          let v := u.xlDone site root m.tenant a true
          match u.xlOf site root m.tenant a with
          | none => .next (v.reply m 4)
          | some e =>
            if leafOk e.perm .write = false then .next (v.reply m 5)
            else
              let pa := e.phys a
              .next { v with net := v.net ++ [{ m with dest := .slice (sliceOf pa), w := m.w.set 0 (BitVec.ofNat 64 pa) }] }
      | .router site => .next (u.turnAway site m (u.lostStatus m))
      | .root _ => .next (u.turnAway 3 m 2)
      | .former site => .next (u.turnAway site m 2)
      | .out _ => .next s

/-- A multicast at a core: a site without an active core discards it and is skipped; a core of another tenant receives nothing, whatever the
mode of the sender (R153, R172). -/
def State.mcastAtCore (u : State) (site : Nat) (m : Msg) : State :=
  let (a, n, x, pz) := m.copyBytes
  if !u.present site then (u.discard site m).reply m 0
  else if !u.tenantOk site m then u.turnAway site m 3
  else if m.tenant ≠ u.coreTenant site then u.reply m 3
  else ((u.wake site).locPiece site a n x pz).reply m 0

/-- MCAST_MSG: a multicast is written at a core, or fans out from the root that orders it (R172, R173). -/
def execMcastMsg (msg : Nat) (s : State) : Host.Outcome State Fault Refusal :=
  match s.deliver msg with
  | none => .next s
  | some m =>
    if m.typ ≠ MT.mcast then .next s
    else
      let u := s.dropMsg msg
      match m.dest with
      | .core site => .next (u.mcastAtCore site m)
      | .router r => .next ((rectSites m.w[4]).foldl (fun v q =>
          v.send { m with frm := .router r, dest := .core q, back := some (m.back.getD (m.frm, m.id)) }) u)
      | .slice _ => .next s | .bridge => .next s | .gate => .next s | .root _ => .next s | .out _ => .next s | .former _ => .next s

/-- An answer to a message of a copy reaches its core: w3 names the copy, w1 the part of a read, w2 what a read was for, or the address of a
write (R172, R179, R181). -/
def State.copyAnswer (s : State) (site : Nat) (m : Msg) : State :=
  match s.findCopy site m.w[3].toNat with
  | none => s
  | some c =>
    let less := s.modCopy site c.id fun p => { p with pend := p.pend - 1 }
    if m.w[4] = MT.load.setWidth 64 then
      if m.w[2] = 3 then less
      else
        let n := m.w[1].toNat
        let (a, _, len) := c.part n
        if c.stopped then s
        else if m.typ = MT.load then s.partRead site c n (m.pay.toNat / 2 ^ (8 * (a % 128)) % 2 ^ (8 * len), false)
        else if m.status = 1 then s.partRead site c n (0, true)
        else s.copyFails site c a true
    else if m.typ = MT.ack then less
    else match c.kind with
      | .mcast | .rstv => less.modCopy site c.id fun p => { p with err := true }
      | .copy | .copy2d | .copymc | .copygt => less.copyFails site c m.w[2].toNat true

/-! ### Issue (R174 to R178) -/

namespace State

/-- A copy slot and a count of its tag are free (R178). -/
def copyRoom (u : State) (tag : BitVec 6) : Bool :=
  decide (u.myCore.tags.copies.length < 96) && (u.myCore.tags.cnt[tag.toNat]?.getD 0) != 255
/-- A copy takes its slot: its tag counts up and is not done (R178, R182). -/
def addCopy (u : State) (c : Copy) : State :=
  let b : Word := 1#64 <<< c.tag.toNat
  ({ u with nextId := u.nextId + 1 }.modMyCore fun x =>
    { x with tags := { x.tags with
      copies := x.tags.copies ++ [{ c with id := u.nextId }], tdone := x.tags.tdone &&& ~~~b
      cnt := x.tags.cnt.setIfInBounds c.tag.toNat ((x.tags.cnt[c.tag.toNat]?.getD 0) + 1) } }).modCur fun t => { t with tagUsed := t.tagUsed ||| b }
/-- The set of a team or rectangle word as a rectangle: PRIVILEGE or OPERAND (R171). -/
def setRect (u : State) (rect : Bool) (w : Word) : Except Cause Word :=
  if rect then
    if u.src.sup = false then .error .privilege
    else if w.extractLsb' 24 39 ≠ 0#39 ∨ rectOk w = false then .error .operand
    else .ok (w.extractLsb' 0 24 |>.setWidth 64)
  else
    match (if u.src.res.isSome then u.groupOf u.src.ctl.gname else none) with
    | none => .error .operand
    | some g =>
      if w.extractLsb' 6 57 ≠ 0#57 then .error .operand
      else match g.teams[(w.toNat % 64)]? with
        | some t => .ok t.rect
        | none => .error .operand

end State

/-- A release at this scope completes a read through the host bridge (R179, R294). -/
def hostScope (sc : BitVec 4) : Bool := sc == 6 || sc == 10 || sc == 11
/-- BOUND, PERM and WINDOW of the extents, each cause over both before the next, the source's before the destination's (R24, R35, R177; the order
of the two operands is the model's choice, log 37). -/
def extentFault (xs : List (ARegV × Nat × Nat × (Byte → Bool))) (localDst : Option (Nat × Nat)) : Option (Cause × Word) :=
  match xs.find? fun x => !boundOk x.1 x.2.1 x.2.2.1 with
  | some x => some (.bound, BitVec.ofNat 64 x.2.1)
  | none => match xs.find? fun x => !x.2.2.2 x.1.perm with
    | some x => some (.perm, BitVec.ofNat 64 x.2.1)
    | none => match xs.find? fun x => !windowOk x.2.1 x.2.2.1 with
      | some x => some (.window, BitVec.ofNat 64 x.2.1)
      | none => match localDst with
        | some d => if windowOf d.1 ≠ 0 then some (.window, BitVec.ofNat 64 d.1) else none
        | none => none

/-- Two ranges of addresses share a byte. -/
def rangesMeet (a b n : Nat) : Bool := decide (0 < n) && meets a n b n

/-- Issue of a copy (R176 to R178); one of 0 bytes checks no extent (log 93). -/
def copyIssue (i : Instr) (kind : CopyKind) (ad asrc : AReg) (xl : XReg) (tag : BitVec 6) (sel : BitVec 2) (st : State) :
    Host.Outcome State Fault Refusal :=
  slot i (fun u =>
    let cpa := u.src.ctl.cpa[sel.toNat]?.getD 0
    let d := u.ra ad
    let a := u.ra asrc
    let n := (u.rx xl).toNat
    let r := if kind = .copy2d ∨ kind = .copygt then (cpa.extractLsb' 44 12).toNat + 1 else 1
    let dp := (cpa.extractLsb' 22 22).toNat
    let sp := (cpa.extractLsb' 0 22).toNat
    let acq := cpa.getLsbD 58
    let rel := cpa.getLsbD 59
    let rect : Except Cause Word :=
      if kind = .copymc then u.setRect (cpa.getLsbD 43) (cpa &&& 0x7FFFFFFFFFF#64) else .ok 0
    let opBad := decide (2 ^ 24 < r * n) || decide (2 ^ 24 < n) || ((acq || rel) && decide (12 ≤ (cpa.extractLsb' 60 4).toNat)) ||
      (kind == .copy2d && decide (1 < r) && decide (dp < n)) ||
      (kind == .copygt && (decide (sp % 8 ≠ 0) || decide (localTop < sp + 8 * r))) ||
      (kind == .copymc && cpa.extractLsb' 24 19 != 0#19) ||
      ((kind == .copy || kind == .copymc) && rangesMeet a.ptr.toNat d.ptr.toNat n)
    let sExt := if kind = .copy2d then (r - 1) * sp + n else n
    let dExt := if kind = .copy2d ∨ kind = .copygt then (r - 1) * dp + n else n
    let ext := if n = 0 then [] else
      (if kind = .copygt then [] else [(a, a.ptr.toNat, sExt, permR)]) ++ [(d, d.ptr.toNat, dExt, permW)]
    match rect with
    | .error .privilege => u.fault .privilege u.wordVal
    | .error _ => u.operand
    | .ok rw =>
      if opBad then u.operand
      else match extentFault ext (if kind = .copymc ∧ n ≠ 0 then some (d.ptr.toNat, n) else none) with
        | some (c, v) => u.fault c v
        | none =>
          if u.copyRoom tag = false then u.hold
          else
            .done (u.addCopy {
              id := 0, owner := u.ctx.key, kind := kind, tag := tag, src := a, dst := d, len := n, rows := r, spitch := sp
              dpitch := if kind = .copy2d ∨ kind = .copygt then dp else 0
              rect := rw, ordered := cpa.getLsbD 57, sup := u.src.sup, ten := u.coreTenant u.site, space := u.dataSpace u.src
              todo := if n = 0 then [] else [(0, 2 * (r * rowPieces n))]
              cpaAcq := acq, cpaRel := rel, acqIds := if acq || rel then u.cur.pendSet else []
              hostRead := rel && hostScope (cpa.extractLsb' 60 4) && windowOf d.ptr.toNat == 4 && kind != .copymc && n != 0 })) st

/-- COPY (R176). -/
def execCopy (ad asrc : AReg) (xl : XReg) (tag : BitVec 6) (cpa : BitVec 2) (st : State) : Host.Outcome State Fault Refusal :=
  copyIssue (.copy ad asrc xl tag cpa) .copy ad asrc xl tag cpa st
/-- COPY2D (R176). -/
def execCopy2d (ad asrc : AReg) (xl : XReg) (tag : BitVec 6) (cpa : BitVec 2) (st : State) : Host.Outcome State Fault Refusal :=
  copyIssue (.copy2d ad asrc xl tag cpa) .copy2d ad asrc xl tag cpa st
/-- COPYMC (R176). -/
def execCopymc (ad asrc : AReg) (xl : XReg) (tag : BitVec 6) (cpa : BitVec 2) (st : State) : Host.Outcome State Fault Refusal :=
  copyIssue (.copymc ad asrc xl tag cpa) .copymc ad asrc xl tag cpa st
/-- COPYGT (R176). -/
def execCopygt (ad asrc : AReg) (xl : XReg) (tag : BitVec 6) (cpa : BitVec 2) (st : State) : Host.Outcome State Fault Refusal :=
  copyIssue (.copygt ad asrc xl tag cpa) .copygt ad asrc xl tag cpa st

/-- MCAST (R171 to R173). -/
def execMcast (vs : VReg) (a : AReg) (xset : XReg) (tag : BitVec 6) (size : BitVec 2) (ordered : Bool) (st : State) :
    Host.Outcome State Fault Refusal :=
  slot (.mcast vs a xset tag size ordered) (fun u =>
    let r := u.ra a
    let n := vszBytes (size.setWidth 3)
    let w := u.rx xset
    match u.setRect (w.getLsbD 63) (w &&& 0x7FFFFFFFFFFFFFFF#64) with
    | .error .privilege => u.fault .privilege u.wordVal
    | .error _ => u.operand
    | .ok rw =>
      if r.ptr.toNat % min n 128 ≠ 0 then u.fault .align r.ptr
      else match extentFault [(r, r.ptr.toNat, n, permW)] (some (r.ptr.toNat, n)) with
        | some (c, v) => u.fault c v
        | none =>
          if u.copyRoom tag = false then u.hold
          else
            let c : Copy := {
              id := u.nextId, owner := u.ctx.key, kind := .mcast, tag := tag, src := r, dst := r, len := n, rect := rw, ordered := ordered
              sup := u.src.sup, ten := u.coreTenant u.site, pend := (rectSites rw).length }
            let u1 := u.addCopy c
            let off := r.ptr.toNat % 2 ^ 19
            let to1 := fun (v : State) (h : Agent) => v.send (v.copyMsg u.site c h MT.mcast off { line := 0, dst := r.ptr.toNat, len := n, data := (u.rv vs).toNat % 2 ^ (8 * n) } c.ten)
            if ordered then .done (to1 u1 (.router (rw.toNat % 4096)))
            else .done ((rectSites rw).foldl (fun v p => to1 v (.core p)) u1)) st

/-! ### Tags (R183, R184) -/

/-- Every tag of a mask has a count of 0. -/
def Tags.idle (t : Tags) (m : Word) : Bool := (List.range 64).all fun j => !m.getLsbD j || (t.cnt[j]?.getD 0) == 0

/-- WAITANY. -/
def execWaitany (d s : XReg) (st : State) : Host.Outcome State Fault Refusal :=
  slot (.waitany d s) (fun u =>
    let m := u.rx s
    let t := u.myCore.tags
    if (m &&& t.tdone) = 0 ∧ t.idle m = false then u.hold
    else if (m &&& t.terr &&& t.tdone) ≠ 0 then u.fault .copyerr (m &&& t.terr &&& t.tdone)
    else .done (u.wx d (m &&& t.tdone))) st
/-- WAITALL. -/
def execWaitall (s : XReg) (st : State) : Host.Outcome State Fault Refusal :=
  slot (.waitall s) (fun u =>
    let m := u.rx s
    let t := u.myCore.tags
    if t.idle m = false then u.hold
    else if (m &&& t.terr) ≠ 0 then u.fault .copyerr (m &&& t.terr)
    else .done u) st
/-- TFIRST. -/
def execTfirst (d s : XReg) (st : State) : Host.Outcome State Fault Refusal :=
  slot (.tfirst d s) (fun u =>
    let w := u.rx s &&& u.myCore.tags.tdone
    .done (u.wx d (match (List.range 64).find? fun j => w.getLsbD j with
      | some j => BitVec.ofNat 64 j
      | none => BitVec.allOnes 64))) st
/-- TCLR. -/
def execTclr (s : XReg) (st : State) : Host.Outcome State Fault Refusal :=
  slot (.tclr s) (fun u =>
    let m := ~~~(u.rx s)
    .done ((u.modMyCore fun c => { c with tags := { c.tags with tdone := c.tags.tdone &&& m, terr := c.tags.terr &&& m } }).modCur fun t =>
      { t with tagUsed := t.tagUsed &&& m })) st
/-- TGET. -/
def execTget (d s : XReg) (st : State) : Host.Outcome State Fault Refusal :=
  slot (.tget d s) (fun u =>
    let j := (u.rx s).toNat % 64
    let t := u.myCore.tags
    .done (u.wx d ((t.cnt[j]?.getD 0).setWidth 64 ||| (if t.tdone.getLsbD j then 0x100 else 0) ||| (if t.terr.getLsbD j then 0x200 else 0)))) st

end Sys2Proof.Machine
end

