-- ==== Sys2Proof/Machine/Placement.lean ====
section
/-! DEFINITION. Names, descriptors, team entries and placements of groups (R226 to R229, R244, R299). -/

namespace Sys2Proof.Machine

/-! ### Names (R226) -/

/-- What a name names. -/
inductive NameSt where
  | live (g : Group)
  | ended
  | stale
namespace State

/-- The directory's entry of an index. -/
def dirEnt (s : State) (i : Nat) : DirEnt := Map.get (fun _ => {}) s.dir i
/-- What a name names (R226, R393). -/
def nameState (s : State) (n : BitVec 48) : NameSt :=
  match s.grp (nmIdx n) with
  | some g => if g.gen = nmGen n then .live g else .stale
  | none => .ended
/-- The lowest free index from i on. -/
def freeIndex (s : State) : Nat → Nat → Option Nat
  | 0, _ => none
  | n + 1, i => if (s.grp i).isNone && !(s.dirEnt i).retired then some i else s.freeIndex n (i + 1)

end State

/-! ### The descriptor (R227) -/

/-- A descriptor from its 64 bytes; none when a field is out of range. The context slot is checked apart. -/
def descOf (x : Nat) : Option Desc :=
  let f := getField x
  let d : Desc := {
    teams := f 0 2, vallot := BitVec.ofNat 6 (f 2 1), duplex := (f 3 1).testBit 0, pool := (f 3 1).testBit 1
    acclen := BitVec.ofNat 9 (f 4 2), spill := if f 6 2 = 0 then 64 else f 6 2, methods := BitVec.ofNat 64 (f 8 8)
    savebase := BitVec.ofNat 64 (f 16 8), savestride := BitVec.ofNat 64 (f 24 8), qbase := BitVec.ofNat 64 (f 32 8)
    benchsp := f 40 4, qdepth := if f 44 2 = 0 then 64 else f 44 2, slot := BitVec.ofNat 6 (f 46 1), job := BitVec.ofNat 64 (f 48 8) }
  if 1 ≤ f 0 2 ∧ f 0 2 ≤ 64 ∧ [8, 16, 24, 32].contains (f 2 1) = true ∧ f 3 1 < 4 ∧ f 4 2 ≤ 256 ∧ f 4 2 % 32 = 0 ∧ f 6 2 ≤ 1024 ∧
     f 16 8 % 65536 = 0 ∧ f 24 8 % 65536 = 0 ∧ f 32 8 % 65536 = 0 ∧ imageSize (f 2 1) (f 4 2) 8 ≤ f 24 8 ∧
     1 ≤ f 46 1 ∧ f 46 1 ≤ 63 ∧ f 47 1 = 0 ∧ f 56 8 = 0
  then some d else none

/-! ### Team entries (R228) -/

/-- A team entry from its 32 bytes; none when it is malformed by itself. -/
def teamOf (d : Desc) (x : Nat) : Option Team :=
  let w0 := getField x 0 8
  let w1 := getField x 8 8
  let t : Team := {
    site := BitVec.ofNat 12 w0, w := w0 / 2 ^ 12 % 64 + 1, h := w0 / 2 ^ 18 % 64 + 1, tmask := BitVec.ofNat 4 (w0 / 2 ^ 24)
    first := w0 / 2 ^ 28 % 4096, accb := BitVec.ofNat 32 w1, spillOff := w1 / 2 ^ 32 % 2 ^ 19 }
  let accOk := t.slots.all fun k =>
    let a := (t.accb.extractLsb' (8 * k) 8).toNat
    decide (a % 32 = 0) && decide (a + d.acclen.toNat ≤ 256)
  if w0 / 2 ^ 40 = 0 ∧ w1 / 2 ^ 51 = 0 ∧ getField x 16 16 = 0 ∧ t.tmask ≠ 0 ∧ rectOk t.rect = true ∧ accOk = true ∧
     t.spillOff + t.slots.length * 256 * d.spill ≤ localTop
  then some t else none
/-- The entries of a table of n entries. -/
def teamsIn (d : Desc) (x n : Nat) : Option (List Team) := (List.range n).mapM fun i => teamOf d (getField x (32 * i) 32)

/-- Members from `base` on are numbered without gaps or overlaps by some teams (R228, R234). -/
def numbered (ts : List Team) (base : Nat) : Bool :=
  let n := (ts.map Team.size).sum
  decide (base + n ≤ 4095) && ts.all (fun t => decide (base ≤ t.first) && decide (t.first + t.size ≤ base + n)) &&
    (List.range n).all fun i => (ts.filter fun t => decide (t.first ≤ base + i) && decide (base + i < t.first + t.size)).length == 1
/-- A twin entry has the shape of its primary. -/
def twinShape (a b : Team) : Bool := a.w == b.w && a.h == b.h && a.first == b.first && a.slots.length == b.slots.length

/-- A table of n teams, with as many twins in a duplex group, as a placement: members from `base` on (R228, R234). -/
def tableOf (d : Desc) (x n base : Nat) : Option (List Team) :=
  match teamsIn d x (if d.duplex then 2 * n else n) with
  | none => none
  | some ts =>
    let tw := ts.drop n
    if numbered (ts.take n) base && ((ts.take n).zip tw).all (fun (e : Team × Team) => twinShape e.1 e.2) then some ts else none

/-! ### Placements (R228, R229, R244) -/

/-- Distance of two sites in hops. -/
def hops (a b : Nat) : Nat := (a % 64 - b % 64) + (b % 64 - a % 64) + ((a / 64 - b / 64) + (b / 64 - a / 64))

/-- Places of the members of an entry: thread key and first accumulator row. -/
def Team.places (t : Team) : List (Nat × Nat) :=
  t.sites.flatMap fun p => t.slots.map fun k => (4 * p + k, (t.accb.extractLsb' (8 * k) 8).toNat)
/-- Two row ranges of one length and another share a row. -/
def rowsMeet (a n b m : Nat) : Bool := decide (max a b < min (a + n) (b + m))

namespace State

/-- Places held on a core by resident members: key, first row, rows; those of one group may be left out. -/
def heldPlaces (s : State) (site : Nat) (but : Option Nat) : List (Nat × Nat × Nat) :=
  (List.range 4).filterMap fun i =>
    match (s.thread (4 * site + i)).res with
    | none => none
    | some r =>
      if but = some r.grp then none
      else match s.grp r.grp with
        | none => none
        | some g => ((if r.isTwin then g.twinSeat r.member.toNat else g.seat r.member.toNat)).map fun x =>
            (4 * site + i, x.acc, g.desc.acclen.toNat)

/-- An entry is refused with RANGE (R228). -/
def entryRange (s : State) (d : Desc) (t : Team) (twin : Option Team) : Bool :=
  let c := s.slotOf d.slot.toNat
  let rect := rectSites ((if c.st = .shrinking then c.newRect else c.rect).setWidth 64)
  t.sites.any (fun p => !rect.contains p || !s.active p) ||
    match twin with
    | none => false
    | some q => (t.sites.zip q.sites).any fun (e : Nat × Nat) => decide (hops e.1 e.2 < 2)
/-- An entry is refused with BUSY: a slot or rows are taken, by a resident member or by an earlier entry (R228). -/
def entryBusy (s : State) (d : Desc) (but : Option Nat) (before : List (Nat × Nat)) (t : Team) : Bool :=
  t.places.any fun (e : Nat × Nat) =>
    let held := s.heldPlaces (e.1 / 4) but ++ ((before.filter fun b => b.1 / 4 == e.1 / 4).map fun b => (b.1, b.2, d.acclen.toNat))
    held.any fun (h : Nat × Nat × Nat) => h.1 == e.1 || rowsMeet e.2 d.acclen.toNat h.2.1 h.2.2

/-- The status of a placement, entry by entry in table order (R228): n teams, then their twins. -/
def placeStatus (s : State) (d : Desc) (n : Nat) (but : Option Nat) (ts : List Team) : Nat :=
  let go := (ts.zipIdx).foldl (fun (a : Nat × List (Nat × Nat)) (e : Team × Nat) =>
    if a.1 ≠ 0 then a
    else
      let st := if s.entryRange d e.1 (if n ≤ e.2 then ts[e.2 - n]? else none) then 3 else if s.entryBusy d but a.2 e.1 then 2 else 0
      (st, a.2 ++ e.1.places)) (0, [])
  go.1
/-- Groups that a site roots, one left out (R229). -/
def rootLoad (s : State) (site but : Nat) : Nat :=
  (s.groups.filter fun e => e.1 != but && e.2.st != .allocated && e.2.st != .ended && e.2.root == site).length
/-- The lowest pool index that is free (R244). -/
def freePool (s : State) : Option Nat :=
  (List.range 256).find? fun p => !(s.groups.any fun e => e.2.pool == some p)

/-- The method table as the root reads it; bytes that cannot be read are free values (R299, log 23). -/
def readMethods (s : State) (site : Nat) (d : Desc) : VWord × State :=
  let x := s.devRead site d.slot.toNat d.methods.toNat 512
  let s := s.devSeen site d.slot.toNat d.methods.toNat 512
  if x.2 then
    (BitVec.ofNat 4096 (fieldsAt 0 8 ((List.range 64).map fun i => (Config.freeWord (s.fresh + i)).toNat)), { s with fresh := s.fresh + 64 })
  else (BitVec.ofNat 4096 x.1, s)

end State

end Sys2Proof.Machine
end

