-- ==== Sys2Proof/Machine/Sys.lean ====
section
/-! DEFINITION. SYS functions and YIELD; entry to traps that waited, region restarts, the watchdog (R32 to R34, R109, R110, R115 to R117, R289,
R293 to R295, R359, R366, R367, R380). -/

namespace Sys2Proof.Machine

/-- NOP (R115). -/
def execNop (st : State) : Host.Outcome State Fault Refusal := slot .nop (fun u => .done u) st
/-- ANOP (R115). -/
def execAnop (st : State) : Host.Outcome State Fault Refusal := slot .anop (fun u => .done u) st
/-- TRAP (R115). -/
def execTrap (code : BitVec 10) (st : State) : Host.Outcome State Fault Refusal :=
  slot (.trap code) (fun u => u.fault .trapinsn (code.setWidth 64)) st
/-- BRK (R380). -/
def execBrk (code : BitVec 10) (st : State) : Host.Outcome State Fault Refusal :=
  slot (.brk code) (fun u => u.fault .break_ (code.setWidth 64)) st

/-- Tag and entry of a thread's activation, for a trace record; 0 when there is none (R373). -/
def State.actEntry (s : State) (key : Nat) : Nat × BitVec 32 :=
  match (s.thread key).act with
  | some a => (a.tag.toNat + 64 * (key % 4), a.entry)
  | none => (64 * (key % 4), 0)
/-- TMARK (R380). -/
def execTmark (s : XReg) (code : BitVec 10) (st : State) : Host.Outcome State Fault Refusal :=
  slot (.tmark s code) (fun u =>
    let e := u.actEntry u.ctx.key
    .done (u.trace u.site 7 e.1 e.2 u.time (u.rx s) (code.setWidth 64))) st

/-- ERET (R116); one that ends the activation leaves RGNPC (log 93). -/
def execEret (st : State) : Host.Outcome State Fault Refusal :=
  slot .eret (fun u =>
    let t := u.src
    let key := u.ctx.key
    if t.sys.epc &&& 3 ≠ 0 then u.fault .align t.sys.epc
    else
      let go := fun (v : State) => (v.modCur Thread.eretTo).jumpTo t.sys.epc
      if t.sys.estatus.getLsbD 3 then
        (if t.act.isSome then .done (go u) else .done ((u.goIdle key).modThread key fun t => { t.trapOver with sup := t.sys.estatus.getLsbD 0 }))
      else if t.act.isSome then .done (go (u.closeAct key 2 (some 1)))
      else .done (go u)) st

/-! ### Fences (R289, R293 to R295) -/

/-- FENCE (R294): the waits, the pending errors, then what its kind waits for. -/
def State.fence (u : State) (kind : FenceKind) (k : SlotRes) : SlotRes :=
  u.completion true (match kind with
    | .acq => k
    | .rel | .full => if u.drained u.ctx.key then k else u.hold)
/-- A release at this scope makes a read through the host bridge (R294). -/
def hostFence : Scope → Bool
  | .host | .io | .system => true
  | .thread | .core | .team | .group | .die | .package | .job | .tenant | .pod => false
/-- One read through the host bridge, whose answer the bundle awaits; w2 says what the read is for (R294). -/
def State.askBridge (u : State) : State :=
  u.send { u.mineMsg with
    dest := .bridge, dst := ⟨0x7FF, 0xFFF, 0⟩, cls := .req, typ := MT.load, spec := specOf 0 (sizeCode 8) 0 0 0 0, w := #v[0, 0, 2, 0, 0, 0] }
/-- FENCE (R293, R294). -/
def execFence (sc : Scope) (kind : FenceKind) (st : State) : Host.Outcome State Fault Refusal :=
  slot (.fence sc kind) (fun u => u.fence kind (
    if kind ≠ .acq ∧ hostFence sc = true ∧ u.src.hostW = true then
      u.await State.askBridge fun _ => .done u
    else .done u)) st

/-- The sites of a thread's team: its twin's team for a twin (R289). -/
def State.teamSites (s : State) (key : Nat) (g : Group) : List Nat :=
  match (s.thread key).res with
  | none => []
  | some r =>
    let of := fun (x : Option Seat) (ts : List Team) => ((x.bind fun x => ts[x.team]?).map Team.sites).getD []
    if r.isTwin then of (g.twinSeat r.member.toNat) g.twins else of (g.seat r.member.toNat) g.teams
/-- The home of a request as the scopes count it: one by the own device's id has its home at a slice, the one to which it was sent, or will be
(R142, R289). -/
def State.homeSlice (s : State) (site : Nat) (q : Req) : Agent :=
  match q.home, q.slice, q.space with
  | .gate, some n, _ => .slice n
  | .gate, none, some (sl, ten) => match s.xlOf site (s.slotOf sl.toNat).root.toNat ten q.loc with
    | some e => .slice (sliceOf (e.phys q.loc))
    | none => .gate
  | h, _, _ => h
/-- A site holds a member of a group. -/
def State.groupSite (_s : State) (g : Group) (site : Nat) : Bool := (g.teams ++ g.twins).any fun t => t.sites.contains site
/-- The homes of a scope instance (R289): the sites whose local memory it holds, and the slices. -/
def State.scopeHome (s : State) (key : Nat) (sc : Scope) (h : Agent) : Bool :=
  let site := key / 4
  let own := h == .core site
  let t := s.thread key
  let mine := s.groupOf t.ctl.gname
  match sc with
  | .thread | .core => own
  | .team => match h, mine with
    | .core p, some g => own || (s.teamSites key g).contains p
    | _, _ => own
  | .group => match h, mine with
    | .core p, some g => own || s.groupSite g p || p == g.root
    | _, _ => own
  | .die => match h with
    | .core p => State.dieOf p == State.dieOf site
    | .slice n => n / 32 == State.dieOf site
    | .gate => true
    | _ => false
  | .package => match h with
    | .core _ => true | .slice _ => true | .gate => true | _ => false
  | .host => own || h == .bridge
  | .job => match h, mine with
    | .slice _, some _ => true
    | .gate, some _ => true
    | .core p, some g => own || s.groups.any fun e =>
        (e.1 == g.idx || (g.desc.job != 0 && e.2.desc.job == g.desc.job && e.2.desc.slot == g.desc.slot)) && s.groupSite e.2 p
    | _, _ => own
  | .tenant => match h with
    | .core p => own || s.coreTenant p == t.ctl.tenant
    | .slice _ => true | .out _ => true | .gate => true | _ => own
  | .pod => match h with
    | .bridge => false | _ => true
  | .io => match h with
    | .core _ => true | .slice _ => true | .gate => true | .bridge => true | _ => false
  | .system => true
/-- DRAINNT (R295). -/
def execDrainnt (sc : Scope) (st : State) : Host.Outcome State Fault Refusal :=
  slot (.drainnt sc) (fun u =>
    let key := u.ctx.key
    let t := u.cur
    let ownBusy := u.scopeHome key sc (.core u.site) && t.accs.any fun a => a.nt
    let farBusy := t.slots.toList.any fun r => match r with
      | some q => q.nt && u.scopeHome key sc (u.homeSlice u.site q)
      | none => false
    if ownBusy || farBusy then u.hold else .done u) st

/-! ### Regions (R366, R367) -/

/-- RGN (R366). -/
def execRgn (st : State) : Host.Outcome State Fault Refusal :=
  slot .rgn (fun u => .done (u.modCur fun t => { t with sys := { t.sys with rgnpc := u.ctx.next &&& ~~~3#64 } })) st
/-- RGNEND (R366): the waits of a full FENCE. -/
def execRgnend (st : State) : Host.Outcome State Fault Refusal :=
  slot .rgnend (fun u => u.fence .full (.done (u.modCur fun t => { t with sys := { t.sys with rgnpc := 0 } }))) st

/-- A region restart (R367): the pending completion errors, STORELATE among them (R225), are discarded, the marks with
them (log 93). -/
def Thread.restart (t : Thread) : Thread :=
  let r := t.sys.rgnpc + 1
  { t with
    pc := r &&& ~~~3#64, rep := none, trap := none, viaEret := false, marks := [], storelate := none
    outst := t.outst.filter fun o => !o.fin
    sys := { t.sys with rgnpc := r } }
/-- REGION_RESTART: POISON in an open region whose count is below 3, the thread's outstanding work done (R367). -/
def execRegionRestart (site thr : Nat) (s : State) : Host.Outcome State Fault Refusal :=
  let key := keyAt site thr
  let t := s.thread key
  match t.trap with
  | some p => if t.quiet && t.restarts p.trap.cause then .next (s.modThread key Thread.restart) else .next s
  | none => .next s

/-! ### Traps that waited, and the watchdog (R31 to R33, R359, R369) -/

/-- TRAP_ENTRY: a thread whose fault waited for its outstanding work enters the trap; DUPLEX ends the activation (R359, R369). -/
def execTrapEntry (site thr : Nat) (s : State) : Host.Outcome State Fault Refusal :=
  let key := keyAt site thr
  let t := s.thread key
  match t.trap with
  | some p =>
    if t.quiet && !t.restarts p.trap.cause then
      let s1 := if p.trap.cause = .duplex then s.closeAct key 2 (some 1) else s
      .next (s1.modThread key fun t => t.enterTrap p)
    else .next s
  | none => .next s

/-- The watchdog of a thread has run out: WATCHDOG comes in place of its next bundle (R32). -/
def Thread.expired (t : Thread) : Bool :=
  t.running && t.act.isSome && !t.sup && t.trap.isNone && t.rep.isNone && t.sys.armed.isSome && t.sys.wdog == 0
/-- WATCHDOG (R32, R33): the activation ends with DEADLINE, and the trap follows once outstanding work is done. -/
def execWatchdog (site thr : Nat) (s : State) : Host.Outcome State Fault Refusal :=
  let key := keyAt site thr
  let t := s.thread key
  if t.expired then
    let p : PendTrap := {
      trap := { cause := .watchdog, slot := false, val := t.sys.armed.getD 0 }, epc := t.pc, rep := none, st := t.statusNow false }
    let s1 := (s.closeAct key 3 (some 3)).modCore site fun c => { c with sfu := sfuReplay key c.sfu }
    .next (s1.modThread key fun t => if t.quiet then t.enterTrap p else { t with trap := some p })
  else .next s

/-! ### YIELD (R109, R110) -/

/-- YIELD. -/
def execYield (dl : BitVec 8) (xm : XReg) (st : State) : Host.Outcome State Fault Refusal :=
  slot (.yield dl xm) (fun u =>
    u.completion false (
      let t := u.cur
      if t.sup = false ∧ t.act.isSome then
        let v := u.modCur fun t => { t with sys := { t.sys with wdog := budgetOf dl, armed := some (budgetOf dl) } }
        .done (v.leaving (.yield ((u.rx xm).setWidth 32)) fun w => { w with ctx := { w.ctx with after := .yield ((u.rx xm).setWidth 32) } })
      else .done u)) st

end Sys2Proof.Machine
end

