-- ==== Sys2Proof/Machine/Groups.lean ====
section
/-! DEFINITION. Transitions of groups: the GRP forms, GRPCTL and GRPSTAT, park and save, withdrawal, the end of a group
(R230 to R238, R243, R255, R280, R287, R299, R303). -/

namespace Sys2Proof.Machine

namespace State

/-! ### Control messages (R152, R230, R243)

GRPCTL to a root: SPEC[3:0] FN, w0 the operand, w1 the handle, w2 the name, w3 MASK of BARCFG. From a root to a core: FN 3 drop, 4 park, 5 become
resident, 7 stop; w0 the address of its save image, w1 whether its twin, w2 the name, w3 its slot, w4 the member. A core's note to itself: 9 a slot went idle, 10 a new member is in; w0 the slot. -/

/-- GRPSTAT answers a GRPCTL with a status (R230). -/
def grpStat (s : State) (m : Msg) (status : Nat) : State :=
  s.send { answerTo m MT.grpstat (BitVec.ofNat 19 (status * 2 ^ 11)) with w := m.w }
/-- The transition ends with a status. -/
def endTrans (s : State) (gi status : Nat) : State :=
  match s.grp gi with
  | none => s
  | some g => match g.trans with
    | none => s
    | some t =>
      let s1 := s.modGroup gi fun g => { g with trans := none }
      match t.msg with
      | some m => s1.grpStat m status
      | none => s1
/-- A root's message to a member's core (R152). -/
def coreCtl (s : State) (g : Group) (fn mem key : Nat) (twin : Bool) : State :=
  let r : Resident := { grp := g.idx, name := g.name, member := BitVec.ofNat 12 mem, isTwin := twin }
  s.send {
    id := 0, frm := .root g.idx, dest := .core (key / 4), cls := .req, typ := MT.grpctl, dst := ⟨s.nodeId, s.coreId (key / 4), BitVec.ofNat 2 key⟩
    src := ⟨s.nodeId, s.coreId g.root, 0⟩, tenant := g.tenant, fl := { sup := true }, spec := BitVec.ofNat 19 fn
    w := #v[BitVec.ofNat 64 (imageVa g r), if twin then 1 else 0, g.name.setWidth 64, BitVec.ofNat 64 (key % 4), BitVec.ofNat 64 mem, 0] }

/-- Members in some states with their threads, and their twins'. -/
def memberKeys (g : Group) (ok : MemberSt → Bool) : List (Nat × Nat × Bool) :=
  ((List.range g.members.length).filter fun m => (g.members[m]?.map fun r => ok r.st) == some true).flatMap fun m =>
    (match g.seat m with | some x => [(m, x.key, false)] | none => []) ++ (match g.twinSeat m with | some x => [(m, x.key, true)] | none => [])
/-- A transition begins: the cores of some members are told, and report. -/
def toCores (s : State) (g : Group) (fn : Nat) (ms : List (Nat × Nat × Bool)) (t : Trans) : State :=
  ms.foldl (fun (u : State) (e : Nat × Nat × Bool) => u.coreCtl g fn e.1 e.2.1 e.2.2)
    (s.modGroup g.idx fun g => { g with trans := some { t with pend := ms.length } })

/-- The method table is read anew, and every core that holds a member has it (R299). -/
def rereadMethods (s : State) (gi : Nat) : State :=
  match s.grp gi with
  | none => s
  | some g =>
    let (tab, s1) := s.readMethods g.root g.desc
    let give := fun (t : Thread) => { t with res := t.res.map fun (r : Resident) => if r.grp = gi then { r with mtab := tab } else r }
    { s1 with threads := s1.threads.map fun (e : Nat × Thread) => (e.1, give e.2) }.modGroup gi fun g => { g with mtab := tab }

/-! ### RSTV of a PARKED member (R239) -/

/-- The register an RSTV writes: w1 holds it, and RELEASE in bit 5 (R241). -/
def rstvReg (m : Msg) : Nat := m.w[1].toNat % 32
/-- RELEASE. -/
def rstvRel (m : Msg) : Bool := m.w[1].getLsbD 5
/-- The root performs an RSTV in the image of a PARKED member (R239): NACK 0x04 when the area cannot be written (R227). -/
def rstvImage (s : State) (g : Group) (m : Msg) : State :=
  let r : Resident := { grp := g.idx, name := g.name, member := memOf m.w[0], twin := none }
  let sl := g.desc.slot.toNat
  let n := rstvReg m
  let one := fun (u : State × Bool) (r : Resident) =>
    let va := imageVa g r
    let head := u.1.devRead g.root sl va 64
    let u := (u.1.devSeen g.root sl va 64, u.2)
    let vm : Word := BitVec.ofNat 64 (getField head.1 32 8) ||| (1#64 <<< n)
    let vm1 := if rstvRel m then vm &&& ~~~(1#64 <<< (32 + n)) else vm
    let a := u.1.devWrite g.root sl (va + 0x880 + 512 * n) 512 m.pay.toNat
    let b := a.1.devWrite g.root sl (va + 32) 8 vm1.toNat
    (b.1, u.2 || head.2 || a.2 || b.2)
  if imageAllot g (s.devRead g.root sl (imageVa g r) 64).1 ≤ n then s.reply m 2
  else
    let s1 := one (s, false) r
    let s2 := if g.desc.duplex then one s1 { r with isTwin := true } else s1
    if s2.2 then s2.1.reply m 4 else s2.1.reply m 0
/-- RSTVs that wait in the queue of a member that is in its image are performed there, in order (R239, R240). -/
def flushRstv (s : State) (gi mem : Nat) : Nat → State
  | 0 => s
  | n + 1 =>
    match s.grp gi with
    | none => s
    | some g => match memberRec g mem with
      | none => s
      | some r =>
        if r.parked = false ∨ r.image = false ∨ g.st = .moving ∨ drainOut g mem = true then s
        else match r.queue.find? fun m => m.typ == MT.rstv with
          | none => s
          | some m =>
            let s1 := (s.modMember gi mem fun r => { r with queue := r.queue.erase m }).queueSeen g mem m
            match s.queueGet g mem m with
            | none => (s1.reply m 4).flushRstv gi mem n
            | some x => (s1.rstvImage g x).flushRstv gi mem n
/-- The same for every member. -/
def flushAll (s : State) (gi : Nat) : State :=
  match s.grp gi with
  | none => s
  | some g => g.members.zipIdx.foldl (fun (u : State) (e : MemberRec × Nat) => u.flushRstv gi e.2 e.1.queue.length) s

/-! ### Run (R231, R287, R303) -/

/-- Every member is resident: the group runs. -/
def finishRun (s : State) (gi : Nat) : State :=
  match s.grp gi with
  | none => s
  | some g =>
    let s1 := (((s.modGroup gi fun g => { g with st := .running }).recountBars gi).releaseKicks gi).releaseBench gi (g.bench.length + 1)
    s1.endTrans gi ((g.trans.map fun t => t.status).getD 0)
/-- A withdrawing member of the group still holds the slot or rows of one of some members (R228, R235). -/
def ownClash (s : State) (g : Group) (ms : List (Nat × Nat × Bool)) : Bool :=
  let row := fun (mem : Nat) (twin : Bool) => ((if twin then g.twinSeat mem else g.seat mem).map fun x => x.acc).getD 0
  let n := g.desc.acclen.toNat
  ms.any fun e => (List.range 4).any fun i =>
    let key := 4 * (e.2.1 / 4) + i
    match (s.thread key).res with
    | none => false
    | some r => r.grp == g.idx && (r.member.toNat != e.1 || r.isTwin != e.2.2) &&
        (key == e.2.1 || rowsMeet (row e.1 e.2.2) n (row r.member.toNat r.isTwin) n)
/-- The ACTIVE members become resident at the group's placement, unless it is refused; the steering tree is built anew (R228, R231, R246). A refused
move of a RUNNING group whose old placement has been taken meanwhile leaves it PARKED, and its RSTVs are performed in the images (R239; DESIGN
CHOICE, log 107). -/
def startRun (s : State) (gi : Nat) (t : Trans) : State :=
  match s.grp gi with
  | none => s
  | some g =>
    let ms := memberKeys g fun st => st == .active
    let st := s.placeStatus g.desc g.teams.length (some gi) (g.teams ++ g.twins)
    let bad := if st = 0 ∧ s.ownClash g ms = true then 2 else st
    if bad ≠ 0 then
      ((s.modGroup gi fun g => { g with trans := some t, st := if g.st = .moving then .parked else g.st }).flushAll gi).endTrans gi
        (if t.status = 0 then bad else t.status)
    else
      let s1 := ((s.modGroup gi fun g => { g with steer := [], treeAt := s.nextId, last := [] }).rereadMethods gi).toCores g 5 ms { t with parking := false }
      if ms = [] then s1.finishRun gi else s1

/-! ### Placement takes effect (R228, R229, R231) -/

/-- The group with a new placement; the steering tree is counted anew, from messages that are sent from now on (R246, R247). -/
def placed (s : State) (g : Group) (n : Nat) (ts : List Team) : Group :=
  { g with teams := ts.take n, twins := ts.drop n, steer := [], treeAt := s.nextId, last := [] }
/-- Site of the root of a placement. -/
def rootOfPlace (ts : List Team) : Nat := (ts.head?.map fun t => t.site.toNat).getD 0

/-- Every member of a park has reported: the group is PARKED, or its move goes on (R231). -/
def finishPark (s : State) (gi : Nat) : State :=
  match s.grp gi with
  | none => s
  | some g => match g.trans with
    | none => s
    | some t =>
      if t.fn = 6 then
        let n := g.teams.length
        let st := s.placeStatus g.desc n (some gi) t.place
        if st = 0 then (s.modGroup gi fun g => s.placed g n t.place).startRun gi t
        else s.startRun gi { t with status := st }
      else ((s.modGroup gi fun g => { g with st := .parked }).flushAll gi).endTrans gi 0

/-! ### Members leave (R235 to R237) -/

/-- A member's redirect queue is emptied. -/
def breakQueue (s : State) (gi mem code : Nat) : State :=
  match s.grp gi with
  | none => s
  | some g => match memberRec g mem with
    | none => s
    | some r => r.queue.foldl (queueBreak g code) (s.modMember gi mem fun r => { r with queue := [], ahead := 0, listed := false })

/-- The waiting arrivals of a member, KICK starts first; raw ones belong to the thread. -/
def memberArrivals (s : State) (key : Nat) : List Arrival :=
  s.kickOf key ++ ((s.core (key / 4)).arrivals.filter fun a => a.key == key && !a.raw && !a.kick)
/-- A waiting arrival with its arguments, wherever it is held. -/
def arrivalMsg (s : State) (key : Nat) (r : Resident) (a : Arrival) : Msg :=
  match a.spill with
  | some e => a.msg.unspill (((s.core (key / 4)).mem.read (r.spillOff + 256 * e) 256).1)
  | none => a.msg

/-- A member withdraws (R235). -/
def dropMember (s : State) (key : Nat) : State :=
  match (s.thread key).res with
  | none => s
  | some r =>
    let site := key / 4
    let s1 := (((s.withdrawReady key).modThread key fun t => { t with res := t.res.map fun r => { r with st := .withdrawing, lastOf := [] }, reqs := [] }).barLeaveAll key)
    let s2 := (s.memberArrivals key).foldl (fun (u : State) a =>
      let m := s.arrivalMsg key r a
      let v := u.takeArrival site a
      if r.isTwin then v
      else if a.kick then v.kickReport site m m.w[5].toNat m.w[4].toNat (r.name.setWidth 64) 0 0 0
      else if m.kind = 0 then v.returnPass (.core site) r.grp m
      else v.breakInv (.core site) site m 4 m.handle) s1
    if (s2.thread key).act.isNone then s2.memberGone key else s2

/-- A thread's waiting full-empty accesses leave their lists, and nothing of them is awaited (R166, R236). -/
def leaveLists (s : State) (key : Nat) : State :=
  let site := key / 4
  let t0 := s.thread key
  let mine := fun (m : Msg) => m.frm == .core site && m.src.thr == BitVec.ofNat 2 key && (m.typ == MT.loadfe || m.typ == MT.storefe)
  let ofEnt := fun (e : RetryEnt) => match e with | .remote m => some m | .own _ _ => none
  let waits := ((s.hbm.retry.map fun e => e.2) ++ s.cores.flatMap fun (c : Nat × Core) => c.2.mem.retry.filterMap ofEnt).filter mine
  let gone := waits.map fun m => m.slot
  let drop := fun (c : Core) => { c with mem := { c.mem with retry := c.mem.retry.filter fun (e : RetryEnt) => match e with
    | .remote m => !mine m | .own k _ => k != key } }
  let s1 := { s with
    hbm := { s.hbm with retry := s.hbm.retry.filter fun e => !mine e.2 }
    cores := s.cores.map fun (c : Nat × Core) => (c.1, drop c.2) }
  let emptied := (List.range 8).filter fun i => gone.contains i && (t0.slots[i]?.getD none).isSome
  let ids := (t0.accs.filter fun a => a.op.isFe).map (fun a => a.id) ++ emptied.filterMap fun i => (t0.slots[i]?.getD none).map fun q => q.id
  let s2 := s1.modThread key fun t => { t with
    outst := t.outst.filter fun o => !ids.contains o.id, accs := t.accs.filter fun a => !a.op.isFe
    slots := t.slots.mapIdx fun i q => if gone.contains i then none else q }
  emptied.foldl (fun (u : State) i => u.slotFreed key i) s2
/-- What a thread still awaits no longer reaches its registers (R236). -/
def orphan (s : State) (key : Nat) : State :=
  ((s.leaveLists key).modThread key fun t => { t with
    outst := [], marks := [], trap := none, rep := none, leave := none, waitedOn := [], xlIds := []
    accs := t.accs.map fun (a : Access) => match a.op with
      | .store _ => a
      | .loadX _ _ | .loadV _ _ | .ldfe _ _ | .stfe _ _ | .hwait _ _ _ => { a with id := 0, op := .loadX 0 3 }
      | .atomic _ op o c => { a with id := 0, op := .atomic 0 op o c }
    slots := t.slots.map fun q => q.map fun (q : Req) => if q.op.isStore then q else { q with id := 0, op := .loadX 0 3 } }).modCore (key / 4) fun c => { c with
    sfu := c.sfu.filter fun r => r.key != key, mwaits := c.mwaits.filter fun w => w.key != key, walks := c.walks.filter fun w => w.key != key
    relay := { c.relay with slots := c.relay.slots.map fun (e : Nat × PSlot) => (e.1, { e.2 with waiters := e.2.waiters.filter fun w => w.1 != key }) } }

/-- A member of a group that ends by force stops at once (R236). -/
def stopMember (s : State) (key : Nat) : State :=
  match (s.thread key).res with
  | none => s
  | some r =>
    let site := key / 4
    let sup := (s.thread key).sup
    let s1 := (s.memberArrivals key).foldl (fun (u : State) a =>
      let m := s.arrivalMsg key r a
      let v := u.takeArrival site a
      if r.isTwin ∨ a.kick then v else v.breakInv (.core site) site m 5 m.handle) s
    let s2 := (s1.withdrawReady key).finishAct key 4 (some 5)
    let s3 := if sup then s2.leaveLists key else (s2.orphan key).modThread key fun t => { t with running := false, viaEret := false }
    s3.memberGone key

/-! ### The end of a group (R226, R231, R236) -/

/-- KICKs and passes that a root holds break GROUP_GONE. -/
def breakHeld (s : State) (gi : Nat) (nodes : Bool) : State :=
  match s.grp gi with
  | none => s
  | some g =>
    let gone := fun (u : State) (m : Msg) => u.breakInv (.root gi) g.root m 5 m.handle
    let roots := (g.knodes.filter fun n => nodes && n.site == 4096).map fun n => n.msg
    (g.bench ++ g.kicks ++ roots).foldl gone
      (s.modGroup gi fun g => { g with bench := [], kicks := [], knodes := if nodes then [] else g.knodes })
/-- Every redirect queue is emptied. -/
def breakQueues (s : State) (gi code : Nat) : State :=
  match s.grp gi with
  | none => s
  | some g => (List.range g.members.length).foldl (fun u m => u.breakQueue gi m code) s
/-- The sender of a message that a drain has sent on is answered when the group ends before the core's answer has come: with that answer when it is
on its way, and otherwise an RSTV by NACK 0x02, an invocation by ACK, as its handle breaks where it is (R237, R393). -/
def answerOut (s : State) (e : Nat × Msg) : State :=
  let st := match s.net.find? fun (m : Msg) => m.cls == .rsp && m.w[5].toNat == e.1 && (m.typ == MT.ack || m.typ == MT.nack) with
    | some m => m.status
    | none => 2
  s.reply e.2 (if e.2.typ = MT.rstv then st else 0)
/-- A configuration of barriers that is under way when its group ends resolves STATE (R236, R280, R287). -/
def cfgEnds (s : State) (g : Group) : State :=
  match g.barcfg with
  | none => s
  | some (ctl, _) => s.grpStat ctl 1
/-- The group is ENDED: its name is tombstoned, what it held is free, the transition's handle resolves. -/
def endGroup (s : State) (gi : Nat) : State :=
  match s.grp gi with
  | none => s
  | some g =>
    let keys := (s.threads.filter fun e => match e.2.res with | some r => r.grp == gi | none => false).map fun e => e.1
    let s1 := keys.foldl (fun u k => ((u.withdrawReady k).leaveLists k).vacate k) (g.fwds.foldl answerOut s)
    let d : DirEnt := if g.gen = 0xFFFFFF then { gen := g.gen, retired := true } else { gen := g.gen + 1 }
    let s2 := (s1.endTrans gi 0).cfgEnds g
    { s2 with groups := Map.erase s2.groups gi, dir := Map.put s2.dir gi d }
/-- A group ends with FORCE (R236). -/
def forceEnd (s : State) (gi : Nat) (t : Trans) : State :=
  match s.grp gi with
  | none => s
  | some g =>
    let s0 := ((s.breakHeld gi true).breakQueues gi 5).cfgEnds g
    let s1 := s0.modGroup gi fun g => { g with st := .draining, barcfg := none, trans := some t }
    match g.st with
    | .allocated | .placed | .parked | .ended => s1.endGroup gi
    | .running | .moving | .draining => s1.toCores g 7 (memberKeys g fun st => st != .gone) t

/-! ### Transitions at the root (R231) -/

/-- A new member's image in a PARKED group: VMASK and PC are 0 (R234). -/
def freshImage (s : State) (g : Group) (key mem acc : Nat) (twin : Bool) : State :=
  let r : Resident := { grp := g.idx, name := g.name, member := BitVec.ofNat 12 mem, isTwin := twin, mtab := g.mtab }
  let t := ({} : Thread)
  let v := (s.setCore (key / 4) {}).setThread key ((t.fresh r g.desc.vallot).loaded g r acc (key / 4))
  let x := v.imageOf key r
  (s.devWrite g.root g.desc.slot.toNat (imageVa g r) x.2 x.1).1

/-- GPLACE at the root (R231). -/
def rootPlace (s : State) (g : Group) (m : Msg) (ts : List Team) : State :=
  let n := g.desc.teams
  if g.st ≠ .allocated then s.grpStat m 1
  else
    let st := s.placeStatus g.desc n none ts
    let root := rootOfPlace ts
    let pool := if g.desc.pool then s.freePool else some 0
    if ts = [] then s.grpStat m 3
    else if st ≠ 0 then s.grpStat m st
    else if 4 ≤ s.rootLoad root g.idx ∨ pool = none then s.grpStat m 2
    else
      let s1 := s.modGroup g.idx fun g => { s.placed g n ts with
        st := .placed, root := root, pool := if g.desc.pool then pool else none
        members := List.replicate (((ts.take n).map Team.size).sum) {} }
      (s1.rereadMethods g.idx).grpStat m 0
/-- GADD at the root (R234). -/
def rootAdd (s : State) (g : Group) (m : Msg) (ts : List Team) : State :=
  if g.st ≠ .running ∧ g.st ≠ .parked then s.grpStat m 1
  else if 64 ≤ g.teams.length then s.grpStat m 5
  else
    let st := s.placeStatus g.desc 1 none ts
    match ts with
    | [] => s.grpStat m 3
    | t :: tw =>
      if st ≠ 0 then s.grpStat m st
      else if t.first ≠ g.members.length then s.grpStat m 1
      else
        let n := g.members.length
        let s1 := (s.modGroup g.idx fun g => { g with
          teams := g.teams ++ [t], twins := g.twins ++ tw
          steer := g.steer.map fun (x : Steer) => { x with credit := 0 }
          last := []
          members := g.members ++ List.replicate t.size { parked := g.st == .parked, image := g.st == .parked } }).rereadMethods g.idx
        match s1.grp g.idx with
        | none => s1
        | some g1 =>
          let ms := (memberKeys g1 fun _ => true).filter fun e => decide (n ≤ e.1)
          if g.st = .running then
            let s2 := s1.toCores g1 5 ms { fn := 2, msg := some m }
            if ms = [] then s2.endTrans g.idx 0 else s2
          else
            (ms.foldl (fun (u : State) (e : Nat × Nat × Bool) =>
              u.freshImage g1 e.2.1 e.1 (((if e.2.2 then g1.twinSeat e.1 else g1.seat e.1).map fun x => x.acc).getD 0) e.2.2) s1).grpStat m 0
/-- GDROP at the root (R235). -/
def rootDrop (s : State) (g : Group) (m : Msg) : State :=
  let mem := m.w[0].toNat % 4096
  match memberRec g mem with
  | none => s.grpStat m 1
  | some r =>
    if (g.st ≠ .running ∧ g.st ≠ .parked) ∨ r.st ≠ .active then s.grpStat m 1
    else if g.st = .parked then
      let s1 := (s.breakQueue g.idx mem 4).modMember g.idx mem fun r => { r with st := .gone, ready := Vector.replicate 4 0, image := false }
      let team := (g.seat mem).map fun x => x.team
      let s2 := ((List.range 16).filter fun i => r.bar.part.getLsbD i).foldl (fun (u : State) i =>
        u.barMsg g (.root g.idx) (g.huddleAgent 0 0 (team.getD 0)) (s.huddleWho g (.root g.idx)) MT.bararrive i 0 (team.getD 0) (leaveWhat r.bar i)
          (teamEp g i (team.getD 0))) s1
      (s2.modMember g.idx mem fun r => { r with bar := leftAll r.bar }).grpStat m 0
    else
      let s1 := (s.breakQueue g.idx mem 4).modMember g.idx mem fun r => { r with st := .withdrawing }
      s1.toCores g 3 ((memberKeys g fun st => st == .active).filter fun e => e.1 == mem) { fn := 3, msg := some m, member := mem }
/-- GPARK at the root, and the first half of GMOVE of a RUNNING group (R231, R232). -/
def rootPark (s : State) (g : Group) (t : Trans) : State :=
  let ms := memberKeys g fun st => st == .active
  let s1 := s.toCores g 4 ms { t with parking := true }
  if ms = [] then s1.finishPark g.idx else s1
/-- GMOVE at the root (R229, R231). A refusal is found before any member parks, and once more when all are parked (DESIGN CHOICE, log 107). -/
def rootMove (s : State) (g : Group) (m : Msg) (ts : List Team) : State :=
  let n := g.teams.length
  let st := s.placeStatus g.desc n (some g.idx) ts
  if g.st ≠ .running ∧ g.st ≠ .parked then s.grpStat m 1
  else if ts = [] then s.grpStat m 3
  else if st ≠ 0 then s.grpStat m st
  else if g.st = .running then (s.modGroup g.idx fun g => { g with st := .moving }).rootPark g { fn := 6, msg := some m, place := ts }
  else
    let root := rootOfPlace ts
    if root ≠ g.root ∧ 4 ≤ s.rootLoad root g.idx then s.grpStat m 2
    else
      ((s.modGroup g.idx fun g => { s.placed g n ts with
        root := root, oldRoots := if root = g.root then g.oldRoots else g.oldRoots ++ [g.root] }).rereadMethods g.idx).grpStat m 0
/-- GEND at the root (R236). -/
def rootEnd (s : State) (g : Group) (m : Msg) : State :=
  let t : Trans := { fn := 7, msg := some m }
  if g.st ≠ .placed ∧ g.st ≠ .running ∧ g.st ≠ .parked then s.grpStat m 1
  else if m.w[0].getLsbD 0 ∨ g.st ≠ .running then s.forceEnd g.idx t
  else (s.breakHeld g.idx false).modGroup g.idx fun g => { g with st := .draining, trans := some t }
/-- BARCFG at the root (R280). -/
def rootBarcfg (s : State) (g : Group) (m : Msg) : State :=
  if g.st = .allocated ∨ g.st = .draining then s.grpStat m 1
  else
    let s1 := s.barConfigure g.idx (m.w[3].setWidth 16) m.w[0] m
    if g.teams = [] then s1.barConfirmed g.idx else s1

/-- A GRPCTL at a root (R230, R243). -/
def ctlAtRoot (s : State) (m : Msg) : State :=
  let fn := m.spec.toNat % 16
  let ts := ((s.tables.find? fun e => e.1 == m.w[1]).map fun e => e.2).getD []
  let s := { s with tables := s.tables.filter fun e => e.1 != m.w[1] }
  match s.nameState (grpOf m.w[2]) with
  | .ended => s.grpStat m (if fn = 8 then 1 else 4)
  | .stale => s.grpStat m 4
  | .live g =>
    if m.tenant ≠ 0 ∧ m.tenant ≠ g.tenant then s.grpStat m 4
    else if fn = 8 then s.rootBarcfg g m
    else if g.trans.isSome then s.grpStat m 1
    else match fn with
      | 1 => s.rootPlace g m ts
      | 2 => s.rootAdd g m ts
      | 3 => s.rootDrop g m
      | 4 => if g.st = .running then s.rootPark g { fn := 4, msg := some m } else s.grpStat m 1
      | 5 => if g.st = .placed ∨ g.st = .parked then s.startRun g.idx { fn := 5, msg := some m } else s.grpStat m 1
      | 6 => s.rootMove g m ts
      | _ => s.rootEnd g m

/-! ### At a member's core -/

/-- The thread of a slot that holds a member of a name. -/
def slotHolds (s : State) (key : Nat) (name : BitVec 48) : Option Resident :=
  match (s.thread key).res with
  | some r => if r.name = name then some r else none
  | none => none
/-- A report for a member that its core does not hold. -/
def reportBare (s : State) (site : Nat) (m : Msg) (what : Nat) : State :=
  s.coreReport site what { grp := nmIdx (grpOf m.w[2]), name := grpOf m.w[2], member := m.w[4].setWidth 12, isTwin := m.w[1] != 0 }
/-- A member becomes resident (R228, R231, R238, R368). -/
def residence (s : State) (site key : Nat) (m : Msg) : State :=
  match s.groupOf (grpOf m.w[2]) with
  | none => s
  | some g =>
    let mem := m.w[4].toNat
    let twin := m.w[1] != 0
    let own := if twin then g.twinSeat mem else g.seat mem
    let other := if twin then g.seat mem else g.twinSeat mem
    match own, memberRec g mem with
    | some x, some rec =>
      let r : Resident := {
        grp := g.idx, name := g.name, member := BitVec.ofNat 12 mem, twin := other.map fun y => y.key, isTwin := twin
        spillOff := x.spillOff, spillN := g.desc.spill, mtab := g.mtab
        lastOf := if twin then [] else ((rec.queue.filter fun q => q.typ != MT.kick).map Msg.stream).eraseDups }
      let s1 := match other, twin with
        | some y, false => { s with pairs := s.pairs ++ [({ pkey := key, tkey := y.key } : Pair)] }
        | _, _ => s
      let s2 := s1.makeResident key r
      let s3 := if twin then s2 else s2.modMember g.idx mem fun r => { r with parked := false, listed := !r.queue.isEmpty }
      s3.send { s3.keyMsg (4 * site) with typ := MT.grpctl, spec := 10, w := #v[BitVec.ofNat 64 (key % 4), 0, m.w[2], 0, 0, 0] }
    | _, _ => s.reportBare site m 1

/-- A GRPCTL at a core; none while its condition does not hold. -/
def ctlAtCore (s : State) (site : Nat) (m : Msg) : Option State :=
  let fn := m.spec.toNat % 16
  let name := grpOf m.w[2]
  if fn = 9 ∨ fn = 10 then
    let key := 4 * site + m.w[0].toNat % 4
    match s.slotHolds key name with
    | none => some s
    | some r =>
      if fn = 9 then
        if (s.thread key).running then some s
        else if r.late then some (s.loadMember key)
        else if r.st = .withdrawing ∧ (s.thread key).act.isNone then some (s.memberGone key)
        else some s
      else if r.late ∨ s.recordsIn key then some (s.coreReport site 1 r)
      else none
  else
    let key := 4 * site + m.w[3].toNat % 4
    match fn, s.slotHolds key name with
    | 3, some _ => some (s.dropMember key)
    | 3, none => some (s.reportBare site m 3)
    | 4, some _ => some (s.modThread key fun t => { t with res := t.res.map fun r => { r with parkReq := true } })
    | 4, none => some (s.reportBare site m 2)
    | 5, some _ => some s
    | 5, none => some (s.residence site key m)
    | 7, some _ => some (s.stopMember key)
    | 7, none => some (s.reportBare site m 3)
    | _, _ => some s

/-- A message of a group's barriers is on its way (R287). -/
def barInFlight (s : State) (name : BitVec 48) : Bool :=
  let bar := fun (m : Msg) => (m.typ == MT.bararrive || m.typ == MT.barrelease) && grpOf m.w[0] == name
  s.net.any bar || s.pairs.any fun p => (p.prim ++ p.twin).any fun e => bar e.1

/-- A core's report at the root; none while it must wait for messages of barriers, and for a configuration, to be absorbed (R280, R287). -/
def reportAtRoot (s : State) (gi : Nat) (m : Msg) : Option State :=
  match s.groupOf (grpOf m.w[1]) with
  | none => some s
  | some g =>
    if g.idx ≠ gi then some s
    else
      let what := m.w[0].toNat
      let s1 := if what = 3 ∧ m.w[3] = 0 then s.modMember gi m.w[2].toNat fun r => { r with st := .gone } else s
      match g.trans with
      | none => some s1
      | some t =>
        let mine := (what = 1 ∧ (t.fn = 2 ∨ t.fn = 5 ∨ (t.fn = 6 ∧ t.parking = false))) ∨ (what = 2 ∧ (t.fn = 4 ∨ (t.fn = 6 ∧ t.parking = true))) ∨
          (what = 3 ∧ (t.fn = 3 ∨ t.fn = 7))
        if ¬ mine then some s1
        else if 1 < t.pend then some (s1.modGroup gi fun g => { g with trans := some { t with pend := t.pend - 1 } })
        else if (what = 2 ∧ s.barInFlight g.name = true) ∨ g.barcfg.isSome = true then none
        else
          let s2 := s1.modGroup gi fun g => { g with trans := some { t with pend := 0 } }
          some (match t.fn with
            | 2 => s2.endTrans gi 0
            | 3 => s2.endTrans gi 0
            | 4 => s2.finishPark gi
            | 5 => s2.finishRun gi
            | 6 => if t.parking then s2.finishPark gi else s2.finishRun gi
            | _ => s2)

end State

/-- GRPCTL at a root or at a core (R230, R243). -/
def execGrpctl (msg : Nat) (s : State) : Host.Outcome State Fault Refusal :=
  match s.deliver msg with
  | none => .next s
  | some m =>
    if m.typ ≠ MT.grpctl then .next s
    else match m.dest with
      | .root gi =>
        let fn := m.spec.toNat % 16
        let cfg := (fn = 3 ∨ fn = 4 ∨ fn = 5 ∨ fn = 6 ∨ fn = 8) ∧ ((s.grp gi).map fun g => g.barcfg.isSome) = some true
        -- what a checkpoint asks waits for the transition under way (R338)
        let later := m.frm = .bridge ∧ ((s.grp gi).map fun g => g.trans.isSome) = some true
        let busy := cfg ∨ later
        if busy then .next s
        else
          let u := s.dropMsg msg
          if u.mustRefuse m then .next (u.retryMsg m) else .next ((u.acceptMsg m).ctlAtRoot m)
      | .core site =>
        if !s.present site then .next ((s.dropMsg msg).turnAway site m 2)
        else match ((s.dropMsg msg).wake site).ctlAtCore site m with
          | some u => .next u
          | none => .next s
      | .former site => .next (s.formerRoot msg site m)
      | .router _ => .next ((s.dropMsg msg).grpStat m 4)
      | _ => .next s

/-- GRPSTAT: a status at the issuer, or a core's report at the root (R230). -/
def execGrpstat (msg : Nat) (s : State) : Host.Outcome State Fault Refusal :=
  match s.answer msg MT.grpstat with
  | none => .next s
  | some m =>
    let u := s.dropMsg msg
    match m.dest with
    | .root gi => match u.reportAtRoot gi m with
      | some v => .next v
      | none => .next s
    | .core site => .next (u.delivered site m fun u =>
      let st : Word := BitVec.ofNat 64 m.status
      if m.w[1] = 0 then
        u.modThread (m.threadAt site) fun t => if t.asked then { t with answer := some st } else t
      else
        let n := hSlot m.w[1]
        let p := u.pslot site n
        if p.gen = hGen m.w[1] ∧ p.st = .pending then u.settleSlot site n m false (st.setWidth 512) none else u)
    | .bridge => .next { u with ckpts := u.ckpts.map fun c =>
        if c.slot = m.w[1].toNat ∧ 0 < c.await then
          { c with await := c.await - 1, parked := if c.ending = none ∧ m.status = 0 then c.parked ++ [m.w[2]] else c.parked }
        else c }
    | _ => .next u

/-! ### The forms (R243) -/

/-- GNEW (R226, R227). -/
def execGnew (d s : XReg) (st : State) : Host.Outcome State Fault Refusal :=
  slot (.gnew d s) (fun u => u.readBlock (u.rx s) 32 64 fun x =>
    match descOf x with
    | none => u.operand
    | some desc =>
      let c := u.slotOf desc.slot.toNat
      if c.st ≠ .active ∧ c.st ≠ .growing ∧ c.st ≠ .shrinking then u.operand
      else match u.freeIndex 8192 0 with
        | none => .done (u.wx d 0)
        | some i =>
          let t := u.tmap c.tenant
          let g : Group := {
            idx := i, gen := (u.dirEnt i).gen, dev := State.idOfNode (State.verOf t t.active) u.nodeId, st := .allocated, desc := desc, tenant := c.tenant }
          .done ({ u with groups := Map.put u.groups i g }.wx d (g.name.setWidth 64))) st

namespace State

/-- The group that a name word names on this device. -/
def namedHere (u : State) (w : Word) : Option Group :=
  if u.ownName (u.coreTenant u.site) (grpOf w) then u.groupOf (grpOf w) else none
/-- A transition is asked of a group's root: its handle, and the table read (R230, R243). -/
def grpSend (u : State) (d : XReg) (fn : Nat) (name operand : Word) (tab : List Team) : SlotRes :=
  if u.freePslots u.site = [] then u.hold
  else
    let (h, u1) := u.newHandle u.ctx.key true
    let u2 := if tab = [] then u1 else { u1 with tables := u1.tables ++ [(h, tab)] }
    .done ((u2.wx d h).send { u.mineMsg with
      dest := u.rootAgent u.site (u.coreTenant u.site) (grpOf name), dst := ⟨nmDev (grpOf name), 0xFFF, 0⟩, cls := .req, typ := MT.grpctl
      spec := BitVec.ofNat 19 fn, w := #v[operand, h, name, 0, 0, 0] })
/-- The name word of a form: its high bits are zero. -/
def nameOk (w : Word) : Bool := w.extractLsb' 48 16 == 0#16
/-- A form with a table of n entries, twice as many in a duplex group, whose members are numbered from `base`; `more` is what else it must satisfy. -/
def grpTable (u : State) (d : XReg) (fn : Nat) (name addr : Word) (n base : Group → Nat) (more : Group → List Team → Bool) : SlotRes :=
  if nameOk name = false then u.operand
  else match u.namedHere name with
    | none => u.readBlock addr 32 32 fun _ => u.grpSend d fn name addr []
    | some g =>
      let k := n g
      u.readBlock addr 32 (32 * (if g.desc.duplex then 2 * k else k)) fun x =>
        match tableOf g.desc x k (base g) with
        | none => u.operand
        | some ts => if more g ts then u.grpSend d fn name addr ts else u.operand

end State

/-- GPLACE (R228). -/
def execGplace (d s t : XReg) (st : State) : Host.Outcome State Fault Refusal :=
  slot (.gplace d s t) (fun u => u.grpTable d 1 (u.rx s) (u.rx t) (fun g => g.desc.teams) (fun _ => 0) fun _ _ => true) st
/-- GADD (R234). -/
def execGadd (d s t : XReg) (st : State) : Host.Outcome State Fault Refusal :=
  slot (.gadd d s t) (fun u => u.grpTable d 2 (u.rx s) (u.rx t) (fun _ => 1) (fun g => g.members.length) fun _ _ => true) st
/-- GMOVE: the members are the ones there are, each with its ACCBASE (R228). -/
def execGmove (d s t : XReg) (st : State) : Host.Outcome State Fault Refusal :=
  slot (.gmove d s t) (fun u => u.grpTable d 6 (u.rx s) (u.rx t) (fun g => g.teams.length) (fun _ => 0) fun g ts =>
    let p := ts.take g.teams.length
    let q := ts.drop g.teams.length
    (p.map Team.size).sum == g.members.length && (List.range g.members.length).all fun m =>
      (seatIn p g.desc.spill 0 m).map (fun x => x.acc) == ((g.seat m).map fun x => x.acc) &&
      (seatIn q g.desc.spill 0 m).map (fun x => x.acc) == ((g.twinSeat m).map fun x => x.acc)) st
/-- GDROP (R235). -/
def execGdrop (d s t : XReg) (st : State) : Host.Outcome State Fault Refusal :=
  slot (.gdrop d s t) (fun u => if State.nameOk (u.rx s) = false then u.operand else u.grpSend d 3 (u.rx s) (u.rx t) []) st
/-- GPARK (R231). -/
def execGpark (d s : XReg) (st : State) : Host.Outcome State Fault Refusal :=
  slot (.gpark d s) (fun u => if State.nameOk (u.rx s) = false then u.operand else u.grpSend d 4 (u.rx s) 0 []) st
/-- GRUN (R231). -/
def execGrun (d s : XReg) (st : State) : Host.Outcome State Fault Refusal :=
  slot (.grun d s) (fun u => if State.nameOk (u.rx s) = false then u.operand else u.grpSend d 5 (u.rx s) 0 []) st
/-- GEND (R236). -/
def execGend (d s t : XReg) (st : State) : Host.Outcome State Fault Refusal :=
  slot (.gend d s t) (fun u =>
    if State.nameOk (u.rx s) = false ∨ (u.rx t).extractLsb' 1 63 ≠ 0#63 then u.operand else u.grpSend d 7 (u.rx s) (u.rx t) []) st
/-- BARCFG (R280): the bundle waits for the root's status. -/
def execBarcfg (d s t : XReg) (st : State) : Host.Outcome State Fault Refusal :=
  slot (.barcfg d s t) (fun u =>
    let name := u.rx s
    if State.nameOk name = false then u.operand
    else match u.src.answer with
      | some v => .done (u.wx d v)
      | none => u.readBlock (u.rx t) 32 16 fun x =>
        let teams : Word := BitVec.ofNat 64 (getField x 8 8)
        let bad : Bool := match u.namedHere name with
          | some g => (List.range 64).any fun i => teams.getLsbD i && Nat.ble (max g.teams.length g.desc.teams) i
          | none => false
        if getField x 2 6 != 0 || bad then u.operand
        else u.await (fun s => s.send { s.mineMsg with
          dest := s.rootAgent s.site (s.coreTenant s.site) (grpOf name), dst := ⟨nmDev (grpOf name), 0xFFF, 0⟩, cls := .req, typ := MT.grpctl
          spec := 8, w := #v[teams, 0, name, BitVec.ofNat 64 (getField x 0 2), 0, 0] }) fun v => .done (u.wx d v)) st

/-! ### Park and save (R109, R182, R206, R232, R233) -/

/-- The commands of a member from its first unfinished job on are frozen; the entries of frozen ACOP commands are dropped (R206). -/
def Core.freeze (k : Core) (key : Nat) : Core :=
  let first := ((k.eng.filter fun c => c.key == key && !c.orphan && c.kind == .job && c.st != .ending).map fun c => c.ord).min?
  match first with
  | none => k
  | some n => { k with eng := k.eng.map fun c => if c.key = key ∧ c.orphan = false ∧ n ≤ c.ord then { c with frozen := true } else c }
/-- A thread stands where a park request is honoured (R232). -/
def Thread.parkable (t : Thread) : Bool :=
  (!t.running && t.act.isNone) || (t.running && !t.sup && t.trap.isNone && t.park != .none)

/-- A waiting arrival of a member that parks: an accepted pass goes back to the root, and is given back to the readiness; the others are copied into
the redirect queue, in order, ahead of what waits there already (R232, R240, R245, R255). -/
def State.parkArrival (v : State) (key : Nat) (r : Resident) (a : Arrival) (m : Msg) : State :=
  let c := State.passClass m
  if r.isTwin then v
  else if a.kick = false ∧ m.typ = MT.pass then
    (v.modThread key fun t => { t with ready := t.ready.setIfInBounds c (BitVec.ofNat 16 (min ((t.ready[c]?.getD 0).toNat + 1) 65535)) }).returnPass
      (.core (key / 4)) r.grp m
  else match v.grp r.grp with
    | none => v
    | some g => match State.memberRec g r.member.toNat with
      | none => v
      | some e =>
        let x := { m with
          frm := .root r.grp, dest := .root r.grp, id := 0, back := none, cls := if a.kick then .fwd else .req, kept := true
          spec := if a.kick then 0x10 ||| (r.member.setWidth 19 <<< 5) else m.spec }
        match v.queueJoin g r.member.toNat x (some e.ahead) with
        | none => State.queueBreak g 1 v x
        | some u => u.modMember r.grp r.member.toNat fun e => { e with ahead := e.ahead + 1 }

/-- MEMBER_PARK: the save of a member begins at its park point (R232). -/
def execMemberPark (site thr : Nat) (s : State) : Host.Outcome State Fault Refusal :=
  let key := keyAt site thr
  let t := s.thread key
  match t.res with
  | none => .next s
  | some r =>
    if r.parkReq = false ∨ r.saving ∨ r.st ≠ .active ∨ (r.late = false ∧ t.parkable = false) then .next s
    else
      let s1 := if r.late then s else s.withdrawReady key
      let s2 := (s.memberArrivals key).foldl (fun (u : State) a => (u.takeArrival site a).parkArrival key r a (s.arrivalMsg key r a)) s1
      if r.late then
        let s3 := s2.trace site 5 (64 * (thr % 4)) 0 s.time s.time (r.member.setWidth 64)
        .next (((s3.coreReport site 2 r).modMember r.grp r.member.toNat fun e => { e with parked := e.image }).vacate key)
      else
        .next ((s2.modCore site fun c => c.freeze key).modThread key fun t => { t with
          res := t.res.map fun r => { r with saving := true, parkAt := s.time, vmask := if t.park = .yield then r.vmask else BitVec.allOnes 32 }
          bar := match t.bar.since with
            | some t0 => { t.bar with waited := t.bar.waited + (s.time - t0), since := none }
            | none => t.bar })

/-- Nothing of a member is under way any more but its frozen commands (R182, R206, R232). -/
def State.saveReady (s : State) (key : Nat) : Bool :=
  let c := s.core (key / 4)
  let t := s.thread key
  t.accs.isEmpty && t.slots.toList.all (fun q => q.isNone) && c.tags.copies.all (fun p => p.owner != key) &&
    c.eng.all (fun e => e.key != key || e.orphan || (e.frozen && e.st != .running && e.st != .ending)) && c.mm.all (fun o => o.key != key) &&
    t.outst.all fun o => o.fin || c.eng.any fun e => e.key == key && e.frozen && e.id == o.id

/-- SAVE_IMAGE_COMPLETE: the image is written, and the slot holds the member no more (R232, R233). A write of the image that fails has no further
effect: the member is parked all the same (DESIGN CHOICE, log 23). The thread keeps its sticky entries, with the passes that wait in them (R222). -/
def execSaveImageComplete (site thr : Nat) (s : State) : Host.Outcome State Fault Refusal :=
  let key := keyAt site thr
  let t := s.thread key
  match t.res with
  | none => .next s
  | some r =>
    if r.saving = false ∨ s.saveReady key = false then .next s
    else match s.grp r.grp with
      | none => .next s
      | some g =>
        let x := s.imageOf key r
        let s1 := (s.devWrite g.root g.desc.slot.toNat (State.imageVa g r) x.2 x.1).1
        let v : Saved := {
          act := t.act, armed := t.sys.armed, reqs := t.reqs, sys := t.sys, hostW := t.hostW, outst := t.outst, marks := t.marks
          cmds := ((s.core site).recordsOf key).map fun c => (c.opPois, c.prio, c.id) }
        let s2 := s1.modMember g.idx r.member.toNat fun e =>
          if r.isTwin then { e with dual := v }
          else { e with parked := true, image := true, bar := g.savedBits r.member.toNat t.bar, ready := t.ready, own := v }
        let e := s.actEntry key
        let s3 := (s2.modCore site fun c => { c with eng := c.eng.filter fun e => !(e.key == key && e.frozen) }).trace site 5 e.1 e.2 r.parkAt s.time
          (r.member.setWidth 64)
        .next (((s3.coreReport site 2 r).vacate key).modThread key fun t => { t with
          running := false, outst := [], marks := [], tagUsed := 0, hostW := false, viaEret := false, asked := false, answer := none })

/-! ### The end of a group that drains (R236) -/

/-- GROUP_ENDED: every member is idle and every queue is empty. -/
def execGroupEnded (grp : Nat) (s : State) : Host.Outcome State Fault Refusal :=
  match s.grp grp with
  | none => .next s
  | some g =>
    let idle := s.threads.all fun e => match e.2.res with
      | none => true
      | some r => r.grp != grp || (!e.2.running && e.2.act.isNone && e.2.quiet && (s.memberArrivals e.1).isEmpty &&
          e.2.reqs.all fun b => !e.2.ctl.tgen.getLsbD b.tag)
    let done := (g.trans.map fun t => t.pend).getD 0 == 0 && g.members.all (fun r => r.queue.isEmpty) && g.fwds.isEmpty && g.knodes.isEmpty
    if g.st = .draining ∧ idle = true ∧ done = true then .next (s.endGroup grp) else .next s

end Sys2Proof.Machine
end

