-- ==== Sys2Proof/Machine/Redirect.lean ====
section
/-! DEFINITION. Reaching a member: RSTV, redirect queues, answers through the group directory (R237 to R241, R393). -/

namespace Sys2Proof.Machine

namespace State

/-! ### RSTV (R239 to R241): w0 the target, w1 the register and RELEASE in bit 5, w2 a member-targeted kind, w3 the copy -/

/-- The register is written between two bundles, and its hold cleared (R241). -/
def putRstv (s : State) (key : Nat) (m : Msg) : State :=
  let n := BitVec.ofNat 5 (rstvReg m)
  s.modThread key fun t =>
    -- a register written while its member stands at a YIELD is live there (R239)
    let t1 := { t.setV n m.pay with res := t.res.map fun r => { r with vmask := r.vmask ||| (1#32 <<< n.toNat) } }
    if rstvRel m then { t1 with ctl := { t1.ctl with sbhold := t1.ctl.sbhold &&& ~~~(1#32 <<< n.toNat) } } else t1
/-- An RSTV at a resident member; a twin's register is written with it (R237, R241, R368). -/
def rstvResident (s : State) (key : Nat) (m : Msg) : State :=
  if s.mustRefuse m then s.retryMsg m
  else
    let s1 := (s.tookLast key m).acceptMsg m
    if (s.thread key).ctl.vallot.toNat ≤ rstvReg m then s1.reply m 2
    else
      let s2 := match (s.thread key).res with
        | some r => match r.twin, r.isTwin with
          | some tk, false => s1.send { m with
              frm := .core (key / 4), dest := .core (tk / 4), cls := .fwd, back := none, tries := 0
              fl := { m.fl with twin := true, resent := false, last := false }, dst := { m.dst with thr := BitVec.ofNat 2 tk } }
          | _, _ => s1
        | none => s1
      (s2.putRstv key m).reply m 0
/-- An RSTV at a core (R237, R320). -/
def rstvAtCore (s : State) (site : Nat) (m : Msg) : State :=
  if m.fl.twin then
    (match (s.thread (4 * site + m.dst.thr.toNat)).res with
     | some r => if r.isTwin then s.putRstv (4 * site + m.dst.thr.toNat) m else s
     | none => s)
  else match s.residentAt site m.member with
    | none => s.toRoot site m
    | some key =>
      match (s.thread key).res with
      | none => s
      | some r =>
        let draining := (s.grp r.grp).map (fun g => g.st == .draining) == some true
        if !s.tenantOk site m then s.turnAway site m 3
        else if r.st ≠ .active ∨ draining then (s.acceptMsg m).reply m 2
        else if r.saving ∨ r.late then s.toRoot site m
        else (s.wake site).rstvResident key m

/-- An RSTV at the group root (R237 to R240); none while its member is being saved. One that the drain has sent before stays ahead of those that
wait. -/
def rstvAtRoot (s0 : State) (g0 : Group) (m0 : Msg) : Option State :=
  let came := (s0.rootTakes g0 m0).1
  let m := (s0.rootTakes g0 m0).2.1
  let s := (s0.rootTakes g0 m0).2.2
  let g := (s.grp g0.idx).getD g0
  let ok := s.acceptMsg m
  if m.fl.sup = false ∧ m.tenant ≠ g.tenant then some (ok.reply m 3)
  else if g.st = .draining then some (ok.reply m 2)
  else
    let mem := (memOf m.w[0]).toNat
    match memberRec g mem with
    | none => some (ok.reply m 2)
    | some r =>
      let saving := (s.threads.any fun e => match e.2.res with
        | some x => x.grp == g.idx && x.member.toNat == mem && x.saving
        | none => false)
      if r.st ≠ .active then some (ok.reply m 2)
      else if came = false ∧ s.mustRefuse m = true then some (s.retryMsg m)
      else if saving then none
      else
        let first := came || !(drainOut g mem || r.queue.any fun q => q.typ == MT.rstv)
        if r.parked ∧ r.image ∧ g.st ≠ .moving ∧ first = true then some ((ok.rstvImage g m).flushRstv g.idx mem r.queue.length)
        else if came = false ∧ queueDepth g ≤ r.queue.length then some (s.retryMsg m)
        else match ok.queueJoin g mem m (if came then some r.ahead else none) with
          | none => some (ok.reply m 4)
          | some u => some u

end State

/-- RSTV (R241). -/
def execRstv (vs : VReg) (xt : XReg) (tag : BitVec 6) (n : VReg) (release : Bool) (st : State) : Host.Outcome State Fault Refusal :=
  slot (.rstv vs xt tag n release) (fun u =>
    let t := u.rx xt
    let key := u.ctx.key
    let (dest, who) := u.memberAgent key t
    if t.extractLsb' 60 4 ≠ 0#4 then u.operand
    else if u.copyRoom tag = false ∨ u.mustStay key t dest = true then u.hold
    else
      let id := u.nextId
      let u1 := u.addCopy {
        id := id, owner := key, kind := .rstv, tag := tag, src := default, dst := default, len := 512, sup := u.src.sup, ten := u.coreTenant u.site, pend := 1 }
      .done ((u1.usedLoc u.site t who).sendKept key t false { u.mineMsg with
        dest := dest, dst := who, cls := .req, typ := MT.rstv, rtag := tag, nflit := 8, pay := u.rv vs
        w := #v[t, (n.setWidth 64) ||| (if release then 32 else 0), 1, BitVec.ofNat 64 id, 0, 0] })) st

/-- RSTV_MSG at a core or at a root (R237 to R241). -/
def execRstvMsg (msg : Nat) (s : State) : Host.Outcome State Fault Refusal :=
  match s.request msg MT.rstv with
  | none => .next s
  | some m =>
    let u := s.dropMsg msg
    match m.dest with
    | .core site =>
      if s.heldForLast m then .next s
      else if !s.present site then .next (u.turnAway site m 2)
      else .next (u.rstvAtCore site m)
    | .root gi =>
      match s.liveRoot gi (grpOf m.w[0]) with
      | none => .next s
      | some g => match u.rstvAtRoot g m with
        | some v => .next v
        | none => .next s
    | .former site => .next (s.formerRoot msg site m)
    | _ => .next (u.reply m (s.lostStatus m))

/-- The first message of a member's queue, as its entry holds it, goes to the member's core (R237, R238); one that cannot be read breaks (R227). -/
def State.drainFirst (s : State) (g : Group) (mem key : Nat) (r : MemberRec) (m : Msg) (rest : List Msg) : State :=
  let s1 := (s.modMember g.idx mem fun r => { r with queue := rest, ahead := r.ahead - 1, listed := r.listed && !rest.isEmpty }).queueSeen g mem m
  match s.queueGet g mem m with
  | none => State.queueBreak g 1 s1 m
  | some x =>
    let f := { x with
      frm := .root g.idx, dest := .core (key / 4), cls := .fwd, back := none, tries := 0, dst := { m.dst with thr := BitVec.ofNat 2 key }
      fl := { x.fl with
        last := r.listed && m.typ != MT.kick && !(rest.any fun q => q.stream == m.stream && q.typ != MT.kick), resent := false, senior := false } }
    let s2 := if m.typ = MT.kick then s1 else s1.modGroup g.idx fun g => { g with fwds := g.fwds ++ [(s1.nextId, { m with ent := none })] }
    s2.send f
/-- REDIRECT_QUEUE_DRAIN: the first message of a member's queue goes to its core, when the one before has been answered and an egress slot is free
(R156, R238, R240); RSTVs for a member that is in its image are performed there (R239). -/
def execRedirectQueueDrain (grp member : Nat) (s : State) : Host.Outcome State Fault Refusal :=
  match s.grp grp with
  | none => .next s
  | some g => match State.memberRec g member, g.seat member with
    | some r, some x =>
      let ready := match s.slotHolds x.key g.name with
        | some res => res.member.toNat == member && !res.saving && !res.late && res.st == .active
        | none => false
      match r.queue with
      | [] => .next s
      | m :: rest =>
        if ready = false then .next (s.flushRstv grp member r.queue.length)
        else if State.drainOut g member then .next s
        else if s.fwdHeld (.root grp) then
          match s.drawBool with
          | (true, u) => .next u
          | (false, u) => .next (u.drainFirst g member x.key r m rest)
        else .next (s.drainFirst g member x.key r m rest)
    | _, _ => .next s

/-- DIRECTORY_ANSWER: a message that names a group without a live root is answered through the directory (R393). -/
def execDirectoryAnswer (msg : Nat) (s : State) : Host.Outcome State Fault Refusal :=
  match s.deliver msg with
  | none => .next s
  | some m =>
    let kinds := [MT.inv, MT.invx, MT.pass, MT.bounce, MT.kick, MT.rstv, MT.rdyquery]
    match m.dest with
    | .root gi =>
      if kinds.contains m.typ = false ∨ (s.liveRoot gi m.groupName).isSome then .next s
      else
        -- the agent that reads the directory and answers: the sender's core, a core or an old root site; for another device's message, which no
        -- core is named for, the router of site 3 (log 97)
        let here : Agent := match m.frm with
          | .core p => .core p
          | .former p => .former p
          | .router p => .router p
          | .slice _ | .bridge | .root _ | .out _ | .gate => .router 3
        let site := State.siteOfAgent here
        let a := { m with dest := here, dst := { m.dst with core := if State.isOutAgent m.frm then 0xFFF else s.coreId site } }
        let code := match s.nameState m.groupName with
          | .live _ => 1 | .ended => 5 | .stale => 7
        let forget := fun (a : Agent) (v : State) => match a with
          | .core p => v.modCore p fun c => { c with loc := c.loc.filter fun e => e.grp != m.groupName }
          | _ => v
        let u := forget m.asker.1 (forget m.frm ((s.dropMsg msg).acceptMsg m))
        if m.typ = MT.rstv then .next (u.reply a 2)
        else if m.typ = MT.rdyquery then
          let r := State.answerTo a MT.rdyanswer 0
          .next (u.send { r with w := r.w.set 0 m.w[2] })
        else
          let v := if m.cls = .req ∨ m.back.isSome then u.reply a 0 else u
          let w := if m.handle = 0 ∨ (m.typ = MT.pass ∧ code = 1) then v.relayRecord site m.tenant m.rtag.toNat else v
          if m.typ = MT.kick ∧ m.cls = .fwd ∧ m.back.isNone = true then .next u else .next (w.breakInv here site m code m.handle)
    | _ => .next s

end Sys2Proof.Machine
end

