-- ==== Sys2Proof/Machine/Context.lean ====
section
/-! DEFINITION. Contexts: creation, growth, shrinking, destruction, scrubbing; key slots (R314, R316, R317, R319, R384). -/

namespace Sys2Proof.Machine

namespace State

/-! ### Checks of a rectangle (R314, R316) -/

/-- North-west column and row of a rectangle, its width and its height. -/
def rectDims (r : BitVec 24) : Nat × Nat × Nat × Nat :=
  (r.toNat % 64, r.toNat / 64 % 64, r.toNat / 2 ^ 12 % 64 + 1, r.toNat / 2 ^ 18 % 64 + 1)
/-- Sites of a context rectangle that the package has. -/
def ctxSites (r : BitVec 24) : List Nat :=
  let (x, y, w, h) := rectDims r
  (List.range h).flatMap fun j => ((List.range w).filter fun i => decide (x + i < 64) && decide (y + j < 64)).map fun i => 64 * (y + j) + x + i
/-- A rectangle lies inside another. -/
def rectIn (a b : BitVec 24) : Bool :=
  let (x, y, w, h) := rectDims a
  let (x1, y1, w1, h1) := rectDims b
  decide (x1 ≤ x) && decide (y1 ≤ y) && decide (x + w ≤ x1 + w1) && decide (y + h ≤ y1 + h1)
/-- A site belongs to another context, or is being bound to one. -/
def ownedElsewhere (s : State) (slot p : Nat) : Bool :=
  ((s.core p).ctx != 0 && (s.core p).ctx.toNat != slot) ||
    s.ctxs.any fun e => e.1 != slot && e.1 != 0 && (e.2.st == .creating || e.2.st == .growing) && (ctxSites e.2.newRect).contains p
/-- The code of the first check that some sites of a rectangle fail, in the order of the codes (log 28). -/
def rectErr (s : State) (slot : Nat) (r : BitVec 24) (sites : List Nat) : BitVec 3 :=
  if sites.any fun p => s.ownedElsewhere slot p then 2
  else if rectOk (r.setWidth 64) = false then 3 else 0
/-- Another slot of the device uses a tenant id. -/
def tenantUsed (s : State) (slot : Nat) (t : BitVec 12) : Bool := s.ctxs.any fun e => e.1 != slot && e.1 != 0 && e.2.st != .free && e.2.tenant == t

/-! ### Commands (R316) -/

/-- CREATE. -/
def ctxCreate (s : State) (slot : Nat) : State :=
  let c := s.slotOf slot
  if slot = 0 then s
  else if c.st ≠ .free then s.modSlot slot fun c => { c with err := 1 }
  else
    let e := s.rectErr slot c.rect (ctxSites c.rect)
    if e ≠ 0 then s.modSlot slot fun c => { c with err := e }
    else if c.tenant = 0 ∨ s.tenantUsed slot c.tenant = true then s.modSlot slot fun c => { c with err := 4 }
    else if c.key = none then s.modSlot slot fun c => { c with err := 5 }
    else s.modSlot slot fun c => { c with st := .creating, newRect := c.rect, err := 0 }

/-- Every group of a slot ends as GEND with FORCE (R316, R236). -/
def endGroups (s : State) (slot : Nat) : State :=
  ((s.groups.filter fun e => e.2.desc.slot.toNat == slot).map fun e => e.1).foldl (fun (u : State) gi =>
    match u.grp gi with
    | none => u
    | some g =>
      if g.st = .draining then u.forceEnd gi { fn := 7, msg := (g.trans.map fun t => t.msg).getD none }
      else (u.endTrans gi 1).forceEnd gi { fn := 7 }) s
/-- DESTROY. -/
def ctxDestroy (s : State) (slot : Nat) : State :=
  let c := s.slotOf slot
  if slot = 0 then s
  else if c.st ≠ .active then s.modSlot slot fun c => { c with err := 1 }
  else (s.modSlot slot fun c => { c with st := .destroying, err := 0 }).endGroups slot

/-- A write of CTXRECT. -/
def ctxRect (s : State) (slot : Nat) (v : BitVec 24) : State :=
  let c := s.slotOf slot
  let err := fun (e : BitVec 3) => s.modSlot slot fun c => { c with err := e }
  if slot = 0 then s
  else match c.st with
    | .free => s.modSlot slot fun c => { c with rect := v, err := if rectOk (v.setWidth 64) then 0 else 3 }
    | .active =>
      let old := ctxSites c.rect
      let new := ctxSites v
      if v = c.rect then err 0
      else if rectIn c.rect v then
        let e := s.rectErr slot v (new.filter fun p => !old.contains p)
        if e ≠ 0 then err e else s.modSlot slot fun c => { c with st := .growing, newRect := v, err := 0 }
      else if rectIn v c.rect then s.modSlot slot fun c => { c with st := .shrinking, newRect := v, err := 0 }
      else err 3
    | .creating | .growing | .shrinking | .destroying => err 1

/-- A function that no slot binds any more loses its channel: the next one that is bound starts at the reset values (R321). -/
def unbind (s : State) (f : Nat) : State := if (s.funcSlot f).isSome then s else s.modChan f fun h => { irqs := h.irqs }

/-! ### Scrubbing (R319) -/

/-- A core begins to be scrubbed: it belongs to no context. -/
def startScrub (s : State) (p : Nat) : State :=
  if s.active p then s.modCore p fun c => { c with ctx := 0, scrub := some (s.time + 1024) } else s.modCore p fun c => { c with ctx := 0 }
/-- What scrubbing leaves of a core: its local memory is zero, the boot ROM's copy included. -/
def scrubbed (c : Core) : Core := { c with
  mem := { bytes := (Memory.empty .localMem).store 0 0x1000 0 }, acc := [], tilePois := 0, arrivals := [], relay := {}, sfu := [], mm := [], eng := [], mwaits := [], sent := [], walks := [], offered := [], scrub := none }

end State

/-- CTXCMD_CREATE: the write of CTXCMD by the issuing thread (R316). -/
def execCtxcmdCreate (s : State) : Host.Outcome State Fault Refusal := .next (s.ctxCreate s.myCore.sel.ctxsel.toNat)
/-- CTXCMD_DESTROY (R316). -/
def execCtxcmdDestroy (s : State) : Host.Outcome State Fault Refusal := .next (s.ctxDestroy s.myCore.sel.ctxsel.toNat)
/-- CTXRECT_WRITE (R316). -/
def execCtxrectWrite (v : Word) (s : State) : Host.Outcome State Fault Refusal :=
  .next (s.ctxRect s.myCore.sel.ctxsel.toNat (v.setWidth 24))

/-- CONTEXT_BOUND: the cores of a creating or growing context are bound, none of them being scrubbed any more; the channel of an ACTIVE slot is
open (R316, R319, R321). -/
def execContextBound (slot : Nat) (s : State) : Host.Outcome State Fault Refusal :=
  let c := s.slotOf slot
  let sites := State.ctxSites c.newRect
  if slot = 0 ∨ (c.st ≠ .creating ∧ c.st ≠ .growing) ∨ sites.any (fun p => (s.core p).scrub.isSome) = true then .next s
  else
    let s1 := sites.foldl (fun u p => u.modCore p fun x => { x with ctx := BitVec.ofNat 6 slot }) s
    .next (s1.modSlot slot fun c => { c with st := .active, rect := c.newRect })

/-- CONTEXT_SHRUNK: no member is placed on a leaving core; those cores are scrubbed and unbound (R316). Copies and jobs that members have left behind
there complete first (R182, DESIGN CHOICE, log 103). -/
def execContextShrunk (slot : Nat) (s : State) : Host.Outcome State Fault Refusal :=
  let c := s.slotOf slot
  let keep := State.ctxSites c.newRect
  let leaving := (State.ctxSites c.rect).filter fun p => !keep.contains p
  let placed := s.groups.any fun e => e.2.desc.slot.toNat == slot &&
    (State.memberKeys e.2 fun st => st != .gone).any fun (x : Nat × Nat × Bool) => leaving.contains (x.2.1 / 4)
  let busy := leaving.any fun p => !(s.core p).tags.copies.isEmpty || !(s.core p).eng.isEmpty
  if slot = 0 ∨ c.st ≠ .shrinking ∨ placed = true ∨ busy = true then .next s
  else .next ((leaving.foldl (fun u p => u.startScrub p) s).modSlot slot fun c => { c with st := .active, rect := c.newRect })

/-- CONTEXT_DESTROYED: once its groups, copies, jobs and frames are gone, the key is erased and the cores are scrubbed; once they are, the slot
is FREE (R316). -/
def execContextDestroyed (slot : Nat) (s : State) : Host.Outcome State Fault Refusal :=
  let c := s.slotOf slot
  let sites := State.ctxSites c.rect
  let h : Chan := if c.func = 0 then {} else s.chan c.func.toNat
  let busy := s.groups.any (fun e => e.2.desc.slot.toNat == slot) ||
    sites.any (fun p => !(s.core p).tags.copies.isEmpty || !(s.core p).eng.isEmpty) || !h.queue.isEmpty || h.injected
  if slot = 0 ∨ c.st ≠ .destroying then .next s
  else if c.key.isSome then
    if busy then .next s else .next ((sites.foldl (fun u p => u.startScrub p) s).modSlot slot fun c => { c with key := none })
  else if busy = true ∨ sites.any (fun p => (s.core p).scrub.isSome) = true then .next s
  else
    let s1 := { s with maps := Map.erase s.maps c.tenant.toNat }.modSlot slot fun c => { c with st := .free, newRect := 0, unbound := false }
    .next (s1.unbind c.func.toNat)

/-- SCRUB_COMPLETE: the 1,024 cycles have passed (R319). -/
def execScrubComplete (site : Nat) (s : State) : Host.Outcome State Fault Refusal :=
  match (s.core site).scrub with
  | none => .next s
  | some due =>
    if due ≤ s.time then
      .next ((List.range 4).foldl (fun u i => u.setThread (4 * site + i) (State.initThread (4 * site + i))) (s.modCore site State.scrubbed))
    else .next s

/-! ### Key slots (R317) -/

/-- KEYSLOT: the operation stands in the register. -/
def keyslot (i : Instr) (d s : XReg) (st : State) : Host.Outcome State Fault Refusal :=
  slot i (fun u =>
    let w := u.rx s
    let n := w.toNat % 64
    let op := w.toNat / 256 % 4
    if n = 0 ∨ op = 3 ∨ w.toNat / 1024 ≠ 0 ∨ w.toNat / 64 % 4 ≠ 0 then u.operand
    else
      let free := (u.slotOf n).st == .free
      let u1 := if op = 1 ∧ free = true then { u with keyCtr := u.keyCtr + 1 }.modSlot n fun c => { c with key := some (u.keyCtr + 1) }
        else if op = 2 ∧ free = true then u.modSlot n fun c => { c with key := none } else u
      .done (u1.wx d ((if op ≠ 0 ∧ free = false then 1 else 0) ||| (if (u1.slotOf n).key.isSome then 0x100 else 0)))) st
/-- KEYSLOT, the row of STAT. -/
def execKeyslotStat (d s : XReg) (st : State) : Host.Outcome State Fault Refusal := keyslot (.keyslotStat d s) d s st
/-- KEYSLOT, the row of GEN. -/
def execKeyslotGen (d s : XReg) (st : State) : Host.Outcome State Fault Refusal := keyslot (.keyslotGen d s) d s st
/-- KEYSLOT, the row of ERASE. -/
def execKeyslotErase (d s : XReg) (st : State) : Host.Outcome State Fault Refusal := keyslot (.keyslotErase d s) d s st

end Sys2Proof.Machine
end

