-- ==== Sys2Proof/Machine/Host.lean ====
section
/-! DEFINITION. The host channel: frames in both directions, its registers, BAR2, function level reset (R300, R301, R321 to R325, R383, R384). -/

namespace Sys2Proof.Machine

/-! ### Frames (R300, R322) -/

/-- A field of a frame. -/
def frameGet (f : BitVec 512) (off n : Nat) : Nat := getField f.toNat off n
/-- SEQ of a frame. -/
def frameSeq (f : BitVec 512) : BitVec 32 := BitVec.ofNat 32 (frameGet f 0 4)
/-- a lies above b, modulo 2^32 (R321). -/
def seqAbove (a b : BitVec 32) : Bool := decide (0 < (a - b).toInt)

namespace State

/-- The channel of a function is bound and open (R316, R321): its slot. -/
def openSlot (s : State) (f : Nat) : Option CtxSlot :=
  match s.funcSlot f with
  | none => none
  | some n => if (s.slotOf n).st = .creating then none else some (s.slotOf n)

/-- The refusal of a host frame (R322). -/
def refuseFrame (s : State) (f : Nat) (frame : BitVec 512) (code : Nat) : State :=
  (s.queueFrame f 0x82 (frameField (frameField (frameField 0 8 8 (frameGet frame 8 8)) 0x10 4 (frameSeq frame).toNat) 0x14 4 code)).1

/-- Frames that wait while the next one is absent: since when (R323). -/
def gapCheck (s : State) (f : Nat) : State :=
  s.modChan f fun c =>
    if c.got.isEmpty || c.injected || c.got.any fun x => frameSeq x == c.hseqack + 1 then { c with gapSince := none, gapSent := false }
    else { c with gapSince := some (c.gapSince.getD s.time) }
/-- Frame HSEQACK + 1 is accepted. -/
def frameTaken (s : State) (f : Nat) : State :=
  (s.modChan f fun c => { c with
    hseqack := c.hseqack + 1, injected := false, got := c.got.filter fun x => seqAbove (frameSeq x) (c.hseqack + 1), gapSince := none, gapSent := false }).gapCheck f
/-- The core's answer to a HOSTFRAME (R301, R322, R323). -/
def hostAnswered (s : State) (f : Nat) (ok : Bool) : State :=
  let c := s.chan f
  let s1 := match c.got.find? fun x => frameSeq x == c.hseqack + 1 with
    | some x => if ok then s else s.refuseFrame f x 3
    | none => s
  s1.frameTaken f

/-! ### Device frames (R324) -/

/-- The thread's frame joins the function's queue. -/
def hfQueue (v : Word) (s : State) : State :=
  let off := v.toNat % 2 ^ 19
  let f := v.toNat / 2 ^ 19 % 128
  let b := BitVec.ofNat 512 (s.myCore.mem.read off 64).1
  s.modChan f fun c => { c with queue := c.queue ++ [{ body := b, sender := some s.ctx.key }] }
/-- A write of HFSEND that is not ignored. -/
def hfOk (v : Word) : Bool :=
  decide (v.toNat % 64 = 0) && decide (v.toNat % 2 ^ 19 + 64 ≤ localTop) && decide (v.toNat / 2 ^ 19 % 128 ≤ 64)
/-- The record of a write of HFSEND that is ignored. -/
def hfBad (s : State) : State := s.record (bankOf s.site) { rank := 1, source := 8, unit := (s.coreId s.site).toNat }
/-- The write of HFSEND as a bundle: the release of a FENCE rel, io, then the wait until the bridge has taken the frame (R294, R324). -/
def hfsend (u : State) (v : Word) (k : State → SlotRes) : SlotRes :=
  -- answers: 0 ends the read through the bridge, after which the frame is queued; 1 says that the bridge has taken the frame
  let ask := fun (q : State → State) => u.await q fun a =>
    if a = 1 then k u else .wait fun s => (hfQueue v s).modCur fun t => { t with answer := none }
  if hfOk v = false then k u.hfBad
  else if (u.openSlot (v.toNat / 2 ^ 19 % 128)).isNone then k u
  else if u.src.asked then ask (hfQueue v)
  else u.fence .rel (ask (if u.src.hostW then State.askBridge else hfQueue v))

end State

/-- HFSEND_WRITE: the issuing thread's frame is handed to the bridge (R324). -/
def execHfsendWrite (v : Word) (s : State) : Host.Outcome State Fault Refusal :=
  if State.hfOk v = false then .next s.hfBad
  else if (s.openSlot (v.toNat / 2 ^ 19 % 128)).isNone then .next s
  else .next (s.hfQueue v)

/-- DEVICE_FRAME: with room in the ring the bridge writes the oldest waiting frame, advances DSEQ and raises MSIXV (R324). -/
def execDeviceFrame (func : Nat) (s : State) : Host.Outcome State Fault Refusal :=
  let c := s.chan func
  match c.queue with
  | [] => .next s
  | q :: rest =>
    let n := c.dseq + 1
    if 2 ^ c.drsize.toNat < (n - c.drhead).toNat then .next s
    else
      let body := State.frameField (State.frameField (q.body &&& ~~~(0xFFFF0000FFFFFFFF#512)) 0 4 n.toNat) 6 2 func
      let addr := c.drbase.toNat / 64 * 64 + 64 * (n.toNat % 2 ^ c.drsize.toNat)
      let s1 := { s with host := s.host.store addr 64 body.toNat }.modChan func fun c => { c with queue := rest, dseq := n, irqs := c.irqs ++ [c.msixv] }
      .next (match q.sender with
        | some k => s1.modThread k fun t => if t.asked then { t with answer := some 1 } else t
        | none => s1)

/-- FRAME_WINDOW_WRITE: the bridge reads a slot of the window once the channel is open (R316, R321, R323). -/
def execFrameWindowWrite (func slot : Nat) (frame : BitVec 512) (s : State) : Host.Outcome State Fault Refusal :=
  match s.openSlot func with
  | none => .next (if (s.funcSlot func).isSome then s.modChan func fun c => { c with window := Map.put c.window (slot % 64) frame } else s)
  | some _ =>
    let s1 := s.modChan func fun c => { c with window := Map.put c.window (slot % 64) frame }
    let c := s1.chan func
    let n := frameSeq frame
    if n.toNat % 64 ≠ slot % 64 ∨ seqAbove n c.hseqack = false then .next s1
    else if seqAbove n (c.hseqack + 64) then .next (s1.refuseFrame func frame 4)
    else .next ((s1.modChan func fun c => { c with got := (c.got.filter fun x => frameSeq x != n) ++ [frame] }).gapCheck func)

/-- HOSTFRAME_INJECT: the next frame goes to its core, or is refused (R301, R322, R323); while the dies are held in reset it waits (R387). -/
def execHostframeInject (func : Nat) (s : State) : Host.Outcome State Fault Refusal :=
  let c := s.chan func
  match s.openSlot func, c.got.find? fun x => frameSeq x == c.hseqack + 1 with
  | some x, some f =>
    if c.injected ∨ s.boot.st ≠ .running then .next s
    else
      let typ := frameGet f 4 1
      let root := frameGet f 0x28 8
      let refuse := fun (code : Nat) => Host.Outcome.next ((s.refuseFrame func f code).frameTaken func)
      let go := fun (site thr : Nat) => Host.Outcome.next ((s.modChan func fun c => { c with injected := true, gapSince := none }).send {
        id := 0, frm := .bridge, dest := .core site, cls := .req, typ := MT.hostframe, dst := ⟨0x7FF, BitVec.ofNat 12 site, BitVec.ofNat 2 thr⟩
        src := ⟨0x7FF, 0xFFF, 0⟩, rtag := if typ = 1 then 0 else BitVec.ofNat 6 typ, tenant := x.tenant, nflit := 1, fl := { sup := true, raw := true }
        w := #v[0, BitVec.ofNat 64 func, 0, 0, 0, 0], pay := f.setWidth 4096 })
      let mine := fun (p : Nat) => if func = 0 then (s.core p).ctx == 0 else (State.ctxSites x.rect).contains p
      if typ ≠ 1 ∧ typ ≠ 2 ∧ typ ≠ 3 then refuse 1
      else if x.st = .destroying then refuse 2
      else if typ = 1 then
        if root / 2 ^ 14 ≠ 0 ∨ mine (root % 4096) = false then refuse 3 else go (root % 4096) (root / 4096 % 4)
      else go (x.chan.toNat % 4096) (x.chan.toNat / 4096 % 4)
  | _, _ => .next s

/-- HOSTFRAME: a host frame reaches its core as a raw supervisor arrival, once the core may accept an arrival (R210), or finds no core (R223, R301). -/
def execHostframe (msg : Nat) (s : State) : Host.Outcome State Fault Refusal :=
  match s.request msg MT.hostframe with
  | none => .next s
  | some m =>
    let u := s.dropMsg msg
    match m.dest with
    | .core site =>
      if s.boot.st ≠ .running then .next s
      else if s.waitsTurn site m then .next (s.offer site m)
      else .next (u.delivered site m fun v => v.acceptRaw site m)
    | _ => .next (u.reply m 2)

/-- GAP: a frame has waited 2^20 cycles for a missing one (R323). -/
def execGap (func : Nat) (s : State) : Host.Outcome State Fault Refusal :=
  let c := s.chan func
  match c.gapSince with
  | none => .next s
  | some t0 =>
    if c.gapSent = false ∧ 2 ^ 20 ≤ (s.time - t0).toNat then
      .next ((s.queueFrame func 0x83 (State.frameField 0 0x10 4 (c.hseqack + 1).toNat)).1.modChan func fun c => { c with gapSent := true })
    else .next s

/-- The number that a list of bytes spells, least significant first. -/
def bytesNat : List Byte → Nat
  | [] => 0
  | b :: r => b.toNat + 256 * bytesNat r

/-! ### Registers of the channel (R321) -/

/-- DRHEAD_WRITE. -/
def execDrheadWrite (func : Nat) (v : BitVec 32) (s : State) : Host.Outcome State Fault Refusal :=
  if (s.funcSlot func).isSome then .next (s.modChan func fun c => { c with drhead := v }) else .next s
/-- DRBASE_WRITE: only while DSEQ = DRHEAD. -/
def execDrbaseWrite (func : Nat) (v : Word) (s : State) : Host.Outcome State Fault Refusal :=
  if (s.funcSlot func).isSome ∧ (s.chan func).dseq = (s.chan func).drhead then .next (s.modChan func fun c => { c with drbase := v }) else .next s
/-- DRSIZE_WRITE: only while DSEQ = DRHEAD; values from 6 to 16. -/
def execDrsizeWrite (func : Nat) (v : BitVec 5) (s : State) : Host.Outcome State Fault Refusal :=
  if (s.funcSlot func).isSome ∧ (s.chan func).dseq = (s.chan func).drhead ∧ 6 ≤ v.toNat ∧ v.toNat ≤ 16 then
    .next (s.modChan func fun c => { c with drsize := v })
  else .next s

/-- MSIXV, as the host writes it. -/
def State.writeMsixv (s : State) (func : Nat) (v : BitVec 11) : State :=
  if (s.funcSlot func).isSome then s.modChan func fun c => { c with msixv := v } else s
/-- A register of the channel as the host reads it; an unbound function's read as zero. -/
def State.chanReg (s : State) (func off : Nat) : Word :=
  let c := s.chan func
  if (s.funcSlot func).isNone then 0
  else match off with
    | 0x1000 => c.hseqack.setWidth 64
    | 0x1004 => c.dseq.setWidth 64
    | 0x1008 => c.drhead.setWidth 64
    | 0x1010 => c.drbase
    | 0x1018 => c.drsize.setWidth 64
    | 0x101C => c.msixv.setWidth 64
    | _ => 0

/-- A register of function 0 beside its channel, by its offset from 0x10_0000, as the host reads 8 bytes of it (R385). -/
def State.bootReg (s : State) (off : Nat) : Word :=
  let b := s.boot
  if off = 0x0008 then (b.code.setWidth 64 <<< 4) ||| BitVec.ofNat 64 b.st.code
  else if off = 0x0010 then Config.svnFuse.setWidth 64
  else if 0x0040 ≤ off ∧ off < 0x0080 then b.meas.extractLsb' (8 * (off - 0x0040)) 64
  else if 0x1000 ≤ off ∧ off < 0x1000 + 16512 then
    BitVec.ofNat 64 (bytesNat ((List.range 8).map fun i => b.stage.getD (off - 0x1000 + i) 0))
  else if 0x6000 ≤ off ∧ off < 0x6040 then b.attreq.extractLsb' (8 * (off - 0x6000)) 64
  else if 0x6040 ≤ off ∧ off < 0x6140 then b.attrep.extractLsb' (8 * (off - 0x6040)) 64
  else 0

/-! ### BAR2 (R383) -/

/-- The bytes lie in BAR2 as the host has sized it; a transaction beyond it does not reach the device. -/
def State.inBar2 (s : State) (pa len : Nat) : Bool := decide (pa + len ≤ 2 ^ (30 + s.boot.bar2))
/-- The host chooses a size from 1 GiB to 512 GiB. -/
def State.sizeBar2 (s : State) (n : Nat) : State := if n ≤ 9 then { s with boot := { s.boot with bar2 := n } } else s
/-- The bytes that the host reads through BAR2, as tenant 0: each line's, or whatever a poisoned one holds (R333). -/
def State.bar2Value (s : State) (pa len : Nat) : Nat := (s.hbm.read 1 pa len).1
/-- The operation of an AtomicOp, as ATOM numbers it (R168, R170). -/
def BarOp.code : BarOp → BitVec 4
  | .fetchAdd => 0 | .swap => 8 | .cas => 9
/-- An AtomicOp of the host: performed at the line's slice as tenant 0; one that meets poison or an uninitialised sector is recorded and not
performed (R168, R170, R333, R334, R383). -/
def State.bar2Op (s : State) (op : BarOp) (pa : Nat) (v cmp : Word) : State :=
  if s.inBar2 pa 8 = false ∨ pa % 8 ≠ 0 then s
  else if (s.hbm.read 1 pa 8).2 then s.secSeen 0 1 pa 8
  else
    let u := s.mendSeen 0 1 pa 8
    match u.hbm.write 1 pa 8 (atomicNew op.code (u.hbm.read 1 pa 8).1 v cmp) false with
    | some h => { u with hbm := h }
    | none => u.writeSeen 0 1 pa 8

/-- BAR2_ACCESS: at each line's slice, as tenant 0; what cannot be done is recorded (R333, R334, R383, log 61). -/
def execBar2Access (write : Bool) (pa len : Nat) (data : List Byte) (s : State) : Host.Outcome State Fault Refusal :=
  let v := bytesNat (data.take len)
  if s.inBar2 pa len = false then .next s
  else .next ((linesOf pa len).foldl (fun (u : State) (p : Nat × Nat × Nat) =>
    if write then
      match u.hbm.write 1 p.1 p.2.2 (v / 2 ^ (8 * p.2.1) % 2 ^ (8 * p.2.2)) false with
      | some h => { u.mendSeen 0 1 p.1 p.2.2 true with hbm := { h with rowErr := (u.mendSeen 0 1 p.1 p.2.2 true).hbm.rowErr } }
      | none => u.writeSeen 0 1 p.1 p.2.2
    else u.secSeen 0 1 p.1 p.2.2) s)

end Sys2Proof.Machine
end

