-- ==== Sys2Proof/Machine/Boot.lean ====
section
/-! DEFINITION. Reset, verification of the image, the flood, the L2P map, measurement and attestation (R12, R308 to R312, R384 to R389). -/

namespace Sys2Proof.Machine

/-! ### Bytes -/

/-- n bytes of a number, least significant first. -/
def bytesOf (v : Nat) : Nat → List Byte
  | 0 => []
  | n + 1 => BitVec.ofNat 8 v :: bytesOf (v / 256) n
/-- Bytes of a staged image from an offset; beyond its end they are zero. -/
def stageBytes (image : List Byte) (off n : Nat) : List Byte := (List.range n).map fun i => image.getD (off + i) 0

namespace State

/-- Site of a die's corner core (R11). -/
def corner (die : Nat) : Nat := 32 * (die % 2) + 2048 * (die / 2)
/-- Site of a die-local index. -/
def dieSite (die i : Nat) : Nat := corner die + 64 * (i / 32) + i % 32
/-- Die-local index of a site. -/
def dieIndex (site : Nat) : Nat := site / 64 % 32 * 32 + site % 32
/-- A die's state. -/
def die (s : State) (d : Nat) : Die := s.dies[d % 4]'(Nat.mod_lt _ (by decide))
/-- The state with a die changed. -/
def modDie (s : State) (d : Nat) (f : Die → Die) : State := { s with dies := s.dies.setIfInBounds (d % 4) (f (s.die d)) }

/-- The package is reset (R308, R384): every state returns to its reset value; what lies outside the package, its fuses, and the model's own
counters stay. -/
def packageReset (s : State) : State :=
  { State.reset with
    fused := s.fused, failedTest := s.failedTest, host := s.host, agenda := s.agenda, fresh := s.fresh, nextId := s.nextId, keyCtr := s.keyCtr + 1 }

/-! ### Verification (R386, R387) -/

/-- The code of the first check that an image fails; 0 when it passes. -/
def imageCode (image : List Byte) : BitVec 4 :=
  let f := fun (off n : Nat) => bytesNat (stageBytes image off n)
  let body := stageBytes image 128 16384
  let key : BitVec 256 := BitVec.ofNat 256 (f 0x20 32)
  let msg := stageBytes image 0 64 ++ bytesOf (Config.sha512 body).toNat 64
  if f 0 4 ≠ 0x544F4F42 ∨ f 6 26 ≠ 0 then 1
  else if (Config.sha512 (stageBytes image 0x20 32)).setWidth 256 ≠ Config.keyFuse then 2
  else if Config.ed25519Ok key (BitVec.ofNat 512 (f 0x40 64)) msg = false then 3
  else if f 4 2 < Config.svnFuse.toNat then 4
  else 0

/-- The corner's router sends DISCOVER to every other router of its die (R309). -/
def flood (s : State) (d : Nat) : State :=
  let c := corner d
  ((List.range 1024).drop 1).foldl (fun (u : State) i => u.send {
    id := 0, frm := .router c, dest := .router (dieSite d i), cls := .req, typ := MT.discover, dst := ⟨0x7FF, 0xFFF, 0⟩, src := ⟨0x7FF, 0xFFF, 0⟩
    fl := { sup := true } })
    (s.modDie d fun x => { x with floodAt := some s.time })
/-- The dies as they leave reset: everything on them has its reset value; the boot registers, what the host has written to the channels, device memory
and host memory stand (R308, R387). -/
def diesReset (s : State) : State :=
  { s.packageReset with keyCtr := s.keyCtr, boot := s.boot, chans := s.chans, hbm := s.hbm, agenda := s.agenda }
/-- Bytes of STAGE are written: ignored while STATE is CHECKING or RUNNING, and beyond the area (R385, R387). -/
def stageWrite (s : State) (off : Nat) (data : List Byte) : State :=
  match s.boot.st with
  | .checking => s
  | .running => s
  | .wait | .failed =>
    let old := s.boot.stage
    let n := min 16512 (max old.length (off + data.length))
    { s with boot := { s.boot with
        stage := (List.range n).map fun i => if i < off then old.getD i 0 else (data[i - off]?).getD (old.getD i 0) } }
/-- Bytes of ATTREQ are written; a write of the last one starts a report for the nonce as it then stands (R385, R389). -/
def attreqBytes (s : State) (off : Nat) (data : List Byte) : State :=
  let d := data.take (64 - off)
  let v := fieldsAt 0 1 ((List.range 64).map fun i =>
    if i < off then (s.boot.attreq.extractLsb' (8 * i) 8).toNat else ((d[i - off]?).getD (s.boot.attreq.extractLsb' (8 * i) 8)).toNat)
  let nonce := BitVec.ofNat 512 v
  { s with boot := { s.boot with
      attreq := nonce, pending := if off + d.length = 64 ∧ d ≠ [] then some nonce else s.boot.pending } }
/-- The image passes: it is measured, the corners hold it, the dies are released; package reset ends there, and TIME counts from it (R26, R308,
R387). -/
def release (s : State) : State :=
  let img := s.boot.stage
  let body := stageBytes img 128 16384
  let digest := Config.sha512 (stageBytes img 0 128 ++ body)
  let meas := Config.sha512 (bytesOf 0 64 ++ bytesOf digest.toNat 64)
  let v := bytesNat body
  let s1 := { s.diesReset with boot := { s.boot with st := .running, code := 0, meas := meas, svn := BitVec.ofNat 16 (bytesNat (stageBytes img 4 2)) } }
  (List.range 4).foldl (fun (u : State) d =>
    (u.modCore (corner d) fun c => { c with mem := { c.mem with bytes := c.mem.bytes.store 0x10000 16384 v } }).flood d) s1

/-! ### The flood (R309, R310) -/

/-- A die-local index is absorbed (R309). -/
def absorb (s : State) (d i : Nat) (good : Bool) : State :=
  s.modDie d fun x =>
    if x.absorbed.contains i then x
    else { x with absorbed := x.absorbed ++ [i], good := if good then x.good ++ [i] else x.good }
/-- The site map: bit i is 1 when die-local index i has an active core (R310). -/
def siteMap (x : Die) : Nat := 1 + (((List.range 1024).drop 1).map fun i => if x.good.contains i then 2 ^ i else 0).sum
/-- FUSEn as a core of a die reads it (R310, R371). -/
def fuseWord (s : State) (site n : Nat) : Word :=
  let d := dieOf site
  let x := s.die d
  BitVec.ofNat 64 (((List.range 64).map fun j =>
    let i := 64 * n + j
    let bad := if x.floodDone then i != 0 && !x.good.contains i else s.fused.contains (dieSite d i)
    if bad || x.retiredIdx.contains i then 2 ^ j else 0).sum)

/-! ### The L2P map (R311) -/

/-- The writes on their way once one has arrived in a router: it is in force there, in the place of every earlier arrival (R311). -/
def l2pArrive (l : List L2pUpd) (k router : Nat) : List L2pUpd :=
  let idx := (l[k]?.map fun u => u.idx).getD 4096
  l.mapIdx fun i u =>
    if i = k then { u with got := u.got ++ [router], held := u.held ++ [router] }
    else if u.idx = idx then { u with held := u.held.filter fun r => r != router } else u
/-- A write that has reached every router joins the map where it is in force in all of them, and is forgotten where it is in none. -/
def l2pMerge (m : Map (BitVec 13)) : List L2pUpd → L2p
  | [] => { base := m, upd := [] }
  | u :: r =>
    if u.got.length < 4096 then let l := l2pMerge m r; { l with upd := u :: l.upd }
    else if 4096 ≤ u.held.length then l2pMerge (Map.put m u.idx u.val) r
    else if u.held = [] then l2pMerge m r
    else let l := l2pMerge m r; { l with upd := u :: l.upd }
/-- An entry of the map is written: it takes effect in the writer's router (R311, R371). -/
def l2pPut (s : State) (site idx : Nat) (v : BitVec 13) : State :=
  let l := s.l2p.upd ++ [{ writer := site, idx := idx, val := v, got := [], held := [] }]
  { s with l2p := { s.l2p with upd := l2pArrive l s.l2p.upd.length site } }

/-- A write of L2PDATA: the entry takes effect in the writer's router; the index moves on. -/
def l2pWrite (s : State) (site : Nat) (v : Word) : State :=
  let idx := (s.core site).sel.l2pidx
  let s1 := s.modCore site fun c => { c with sel := { c.sel with l2pidx := idx + 1 } }
  if 4000 ≤ idx.toNat then s1
  else s1.l2pPut site idx.toNat (v.setWidth 13)

/-! ### Measurement and attestation (R388, R389) -/

/-- The writes of MEASX, word i. -/
def measx (s : State) (site i : Nat) (v : Word) : State :=
  let m := (s.core site).sel.meas.setIfInBounds i v
  let s1 := s.modCore site fun c => { c with sel := { c.sel with meas := m } }
  if i = 7 then
    { s1 with boot := { s1.boot with meas := Config.sha512 (bytesOf s1.boot.meas.toNat 64 ++ bytesOf (fieldsAt 0 8 (m.toList.map fun w => w.toNat)) 64) } }
  else s1
/-- The report for a nonce (R389). -/
def report (s : State) (nonce : BitVec 512) : BitVec 2048 :=
  let b := fieldAt 0 64 nonce.toNat + fieldAt 64 64 s.boot.meas.toNat + fieldAt 128 2 s.boot.svn.toNat + fieldAt 130 2 s.nodeId.toNat
  BitVec.ofNat 2048 (b + fieldAt 192 64 (Config.identitySign (bytesOf b 192)).toNat)

end State

/-- PACKAGE_RESET: PERST#, or FLR of function 0 (R384). -/
def execPackageReset (s : State) : Host.Outcome State Fault Refusal := .next s.packageReset
/-- FUNCTION_LEVEL_RESET: of a virtual function a DESTROY of its context, which it unbinds; of function 0 a package reset (R384). -/
def execFunctionLevelReset (func : Nat) (s : State) : Host.Outcome State Fault Refusal :=
  if func = 0 then .next s.packageReset
  else if 64 < func then .next s
  else match s.funcSlot func with
    | none => .next s
    | some n => .next (((s.ctxDestroy n).modSlot n fun c => { c with unbound := true }).unbind func)

/-- BOOTCTL_GO: the host writes an image to STAGE from its first byte, none when it is there already, and then GO (R385, R387). -/
def execBootctlGo (image : List Byte) (s : State) : Host.Outcome State Fault Refusal :=
  match s.boot.st with
  | .wait =>
    let u := s.stageWrite 0 image
    .next { u with boot := { u.boot with st := .checking } }
  | .checking => .next s
  | .running => .next s
  | .failed => .next s
/-- IMAGE_VERIFICATION (R387). -/
def execImageVerification (s : State) : Host.Outcome State Fault Refusal :=
  match s.boot.st with
  | .checking =>
    let c := State.imageCode s.boot.stage
    if c = 0 then .next s.release else .next { s with boot := { s.boot with st := .failed, code := c } }
  | .wait => .next s
  | .running => .next s
  | .failed => .next s

/-- DISCOVER: a router answers ACK when its site has an active core that passed self-test, NACK 0x02 otherwise (R309). -/
def execDiscover (msg : Nat) (s : State) : Host.Outcome State Fault Refusal :=
  match s.request msg MT.discover with
  | none => .next s
  | some m => match m.dest with
    | .router site => .next ((s.dropMsg msg).reply m (if s.active site && !s.failedTest.contains site then 0 else 2))
    | _ => .next s
/-- An answer to DISCOVER. -/
def Msg.isFlood (m : Msg) : Bool := (m.typ == MT.ack || m.typ == MT.nack) && m.w[4] == MT.discover.setWidth 64
/-- DISCOVER_ANSWER: the corner's router absorbs an answer (R309). -/
def execDiscoverAnswer (msg : Nat) (s : State) : Host.Outcome State Fault Refusal :=
  match s.deliver msg with
  | none => .next s
  | some m => match m.isFlood, m.dest, m.frm with
    | true, .router c, .router p => .next ((s.dropMsg msg).absorb (State.dieOf c) (State.dieIndex p) (m.typ == MT.ack))
    | _, _, _ => .next s
/-- SILENT_ROUTER: it counts as NACK 4,096 cycles after the flood began, and a record names its site (R309). -/
def execSilentRouter (die site : Nat) (s : State) : Host.Outcome State Fault Refusal :=
  let i := State.dieIndex site
  match (s.die die).floodAt with
  | none => .next s
  | some t0 =>
    if t0 + 4096 ≤ s.time ∧ State.dieOf site = die % 4 ∧ i ≠ 0 ∧ (s.die die).absorbed.contains i = false then
      .next ((s.absorb die i false).record (State.bankOf site) { rank := 1, source := 5, synd := BitVec.ofNat 64 site, unit := 0xFFF })
    else .next s
/-- FLOOD_END: 1,023 answers are absorbed; the site map is written and the corner's thread 0 starts at PC 0 (R308 to R310). -/
def execFloodEnd (die : Nat) (s : State) : Host.Outcome State Fault Refusal :=
  let x := s.die die
  let c := State.corner (die % 4)
  if s.boot.st = .running ∧ x.floodDone = false ∧ x.absorbed.length = 1023 then
    let s1 := s.modDie die fun x => { x with floodDone := true }
    let s2 := s1.modCore c fun k => { k with mem := { k.mem with bytes := k.mem.bytes.store 0x2000 128 (State.siteMap x) } }
    .next (s2.modThread (4 * c) fun t => { t with running := true, sup := true, pc := 0 })
  else .next s

/-- L2PDATA_WRITE by the issuing thread (R311). -/
def execL2pdataWrite (v : Word) (s : State) : Host.Outcome State Fault Refusal := .next (s.l2pWrite s.site v)
/-- L2P_UPDATE: the k-th write on its way reaches a router, after earlier ones of the same writer (R311). -/
def execL2pUpdate (k router : Nat) (s : State) : Host.Outcome State Fault Refusal :=
  match s.l2p.upd[k]? with
  | none => .next s
  | some u =>
    let before := (s.l2p.upd.take k).any fun o => o.writer == u.writer && !o.got.contains router
    if 4096 ≤ router ∨ u.got.contains router = true ∨ before = true then .next s
    else .next { s with l2p := State.l2pMerge s.l2p.base (State.l2pArrive s.l2p.upd k router) }

/-- MEASX_WRITE: word 7 (R388). -/
def execMeasxWrite (v : Word) (s : State) : Host.Outcome State Fault Refusal := .next (s.measx s.site 7 v)
/-- ATTREQ_WRITE: the last byte of a nonce (R389). -/
def execAttreqWrite (nonce : BitVec 512) (s : State) : Host.Outcome State Fault Refusal :=
  .next { s with boot := { s.boot with attreq := nonce, pending := some nonce } }
/-- ATTESTATION_REPORT (R389). -/
def execAttestationReport (s : State) : Host.Outcome State Fault Refusal :=
  match s.boot.pending with
  | none => .next s
  | some n => .next { s with boot := { s.boot with attrep := s.report n, pending := none } }

end Sys2Proof.Machine
end

