-- ==== Sys2Proof/Machine/Link.lean ====
section
/-! DEFINITION. The Stawit link: training, lane turns, link flits, replay and detours; messages from other devices; logical devices and their
remap (R339 to R358). -/

namespace Sys2Proof.Machine

namespace State

/-- The site of a port's router (R339). -/
def portSite (p : Nat) : Nat := if p < 18 then 7 + p else 21 + p
/-- A corrected-rank record of a port. -/
def portRecord (s : State) (p : Nat) (ten : BitVec 12) : State :=
  s.record (bankOf (portSite p)) { rank := 1, source := 6, tenant := ten, unit := p }

/-! ### A message from another device (R349, R352 to R354, R356) -/

/-- A message whose fields come from its flits. -/
def fromFlits (tag : BitVec 128) (f : BitVec 512) (rest : List (BitVec 512)) : Msg :=
  let z : Msg := { id := 0, frm := .gate, dest := .gate, cls := .req, typ := 0, dst := ⟨0, 0, 0⟩, src := ⟨0, 0, 0⟩ }
  let m := z.withFirst f
  { m with
    id := m.seq.toNat, pay := payOf rest
    frm := .out ((tagSrc tag).toNat + 2048 * (1 + m.src.core.toNat + 4096 * m.src.dev.toNat)) }
/-- The node that a message came from. -/
def nodeFrom (m : Msg) : Nat := match m.frm with | .out n => n % 2048 | _ => 0
/-- Where a message from another device goes in this one (R236, R252, R303, R354). -/
def entryAgent (s : State) (p : Nat) (m : Msg) : Agent :=
  let site := portSite p
  if m.typ = MT.marker then .gate
  else if m.fl.raw then .core m.dst.core.toNat
  else if m.dst.core = 0xFFF then
    if m.cls = .rsp then .router site
    else if [MT.load, MT.store, MT.atomic, MT.loadfe, MT.storefe, MT.copydata].contains m.typ then .gate
    else .root (nmIdx m.groupName)
  else match s.siteOf site m.dst.core.toNat with
    | some c =>
      -- what a sender addresses to the core of a group's root (R248, R303)
      if m.cls = .req ∧ (m.typ = MT.pass ∨ m.typ = MT.kick ∨ m.typ = MT.rdyquery) then
        match s.groupOf m.groupName with
        | some g => if g.root = c then .root g.idx else .former c
        | none => .root (nmIdx m.groupName)
      else .core c
    | none => .router site
/-- A node answers for a request sent to another device: the one it was sent to, or, while the maps change, the one that gains its id (R356). -/
def answers (s : State) (n : Nat) (o : Msg) : Bool :=
  match o.dest with
  | .out k => k % 2048 == n || (!o.fl.sup && (s.tmap o.tenant).st != .stable &&
      ((verOf (s.tmap o.tenant) !o.fl.mapv).any fun e => e.1 == o.dst.dev.toNat && e.2.toNat == n))
  | _ => false
/-- The request that an answer from another device belongs to: the one of the core and the thread that the answer names, with its SEQ and its type
(R150, R157, R354). -/
def asked (s : State) (m : Msg) : Option Msg :=
  if [MT.ack, MT.nack, MT.retry, MT.load].contains m.typ then
    s.outbox.reverse.find? fun o => s.answers (nodeFrom m) o && o.src == m.dst && o.tenant == m.tenant &&
      o.seq == m.w[5].setWidth 16 && (m.w[4] == 0 || o.typ == m.w[4].setWidth 6) && (m.typ == MT.retry || !isOutAgent o.frm)
  else none
/-- A question that has no ACK is answered otherwise (R258, R266, R243). -/
def outboxDone (s : State) (m : Msg) : State :=
  let gone := fun (o : Msg) =>
    (m.typ == MT.value && o.typ == MT.fetch && o.w[0] == m.w[0]) ||
    (m.typ == MT.rdyanswer && o.typ == MT.rdyquery && o.src.thr == m.dst.thr) ||
    (m.typ == MT.grpstat && o.typ == MT.grpctl && o.src.thr == m.dst.thr)
  { s with outbox := s.outbox.filter fun o => !gone o }
/-- A message enters the package: an answer finds its request, whose word 3 it takes (log 10); a resent one is no longer kept as refused. -/
def enter (s : State) (p : Nat) (m : Msg) : State :=
  let a := s.entryAgent p m
  if m.cls = .rsp then
    match s.asked m with
    | some o =>
      let s1 := if m.typ = MT.retry then s else { s with outbox := s.outbox.filter fun x => x.id != o.id }
      { s1 with net := s1.net ++ [{ m with
          dest := if isOutAgent o.frm then .router (portSite p) else o.frm, w := (m.w.set 5 (BitVec.ofNat 64 o.id)).set 3 o.w[3] }] }
    | none => { s with net := s.net ++ [{ m with dest := a }] }.outboxDone m
  else
    let same := fun (o : Msg) => o.frm == m.frm && o.cls == m.cls && o.seq == m.seq && m.fl.resent
    { s with net := s.net ++ [{ m with dest := a }], refused := s.refused.filter fun o => !same o }
/-- A message of a tenant that fails R353: a REQ or FWD is answered 0x03, another is discarded with a record. -/
def deny (s : State) (p : Nat) (m : Msg) : State :=
  match m.cls with
  | .req | .fwd => s.reply { m with dest := .router (portSite p) } 3
  | .rsp | .bulk => s.portRecord p m.tenant

/-- A tenant has a context on the device (R353, R358). -/
def hasContext (s : State) (ten : BitVec 12) : Bool := ten == 0 || (s.slotOfTenant ten).isSome
/-- The state with a tenant's maps changed. -/
def modMaps (s : State) (ten : BitVec 12) (f : TMap → TMap) : State := { s with maps := Map.put s.maps ten.toNat (f (s.tmap ten)) }
/-- The version in force before a change, and the one after it. -/
def oldVer (t : TMap) : Map (BitVec 11) := verOf t t.active
/-- The version after it. -/
def newVer (t : TMap) : Map (BitVec 11) := verOf t !t.active
/-- The device gains an id by the change under way (R356). -/
def gains (s : State) (t : TMap) (l : Nat) : Bool :=
  t.st != .stable && Map.find (oldVer t) l != some s.nodeId && Map.find (newVer t) l == some s.nodeId
/-- The node that gains an id which this device loses. -/
def losesTo (s : State) (t : TMap) (l : Nat) : Option (BitVec 11) :=
  if Map.find (oldVer t) l = some s.nodeId then
    match Map.find (newVer t) l with
    | some b => if b = s.nodeId then none else some b
    | none => none
  else none

/-- The class that a marker drains: its own, or, once forwarded, the one it names above its id. -/
def drains (m : Msg) (lost : Bool) : MClass := if lost then m.cls else .ofCode (m.spec.extractLsb' 11 2)
/-- Forward an old-version arrival for a lost id to the node that gains it, as FWD, from hop 0; this device keeps it, to send it again after RETRY
(R356, R157). -/
def forwardOld (s : State) (m : Msg) (b : BitVec 11) : State :=
  let f : Msg := { m with
    cls := .fwd, dest := .out b.toNat, id := s.nextId
    spec := if m.typ = MT.marker then (m.spec &&& 0x7FF) ||| (m.cls.code.setWidth 19 <<< 11) else m.spec }
  match { s with nextId := s.nextId + 1 }.sendFlits b (s.slotsOf f b) with
  | some s1 => { s1 with outbox := s1.outbox ++ [f] }
  | none => s.unreachable { m with dest := .gate }
/-- The class that the type of a message gives it; an answer with load data is one of RSP (R152). -/
def ownClass (m : Msg) : MClass :=
  if m.typ = MT.marker then m.cls
  else if m.typ = MT.load ∧ m.w[4] ≠ 0 then .rsp
  else if [MT.accept, MT.reply, MT.brk, MT.value, MT.hrelease, MT.ack, MT.nack, MT.retry, MT.readydelta, MT.rdyanswer, MT.bararrive, MT.barrelease,
      MT.barbreak, MT.kickend, MT.grpstat].contains m.typ then .rsp
  else if [MT.mcast, MT.copydata].contains m.typ then .bulk
  else .fwd
/-- A forwarded arrival as this device takes it: of the class of its type, and answered to the device that its source field names (R150, R356). -/
def fromOld (s : State) (m : Msg) : Msg :=
  match Map.find (verOf (s.tmap m.tenant) m.fl.mapv) m.src.dev.toNat with
  | some n => { m with cls := ownClass m, back := some (.out (n.toNat + 2048 * (1 + m.src.core.toNat + 4096 * m.src.dev.toNat)), m.id) }
  | none => { m with cls := ownClass m }

/-- The marker of a source and a class is no longer awaited for an id that opens here (R356). -/
def markerIn (t : TMap) (l : Nat) (src : Option (BitVec 11)) (c : MClass) : Bool :=
  match src with
  | none => true
  | some n => !((oldVer t).any fun e => e.2 == n) || Map.find (oldVer t) l == some n || t.got.any fun e => e.1 == n && e.2.1 == c && e.2.2 == l
/-- New-version traffic that may now go in, in the order it came (R356). -/
def releaseHeld (s : State) (ten : BitVec 12) (p : Nat) : State :=
  let t := s.tmap ten
  let go := fun (m : Msg) =>
    t.opened.contains m.dst.dev.toNat && markerIn t m.dst.dev.toNat (Map.find (newVer t) m.src.dev.toNat) m.cls
  (t.held.filter go).foldl (fun u m => u.enter p m) (s.modMaps ten fun x => { x with held := x.held.filter fun m => !go m })

/-- Nodes and classes whose markers a device awaits for an id that a given node held. -/
def allMarkers (l : List (BitVec 11 × MClass × Nat)) (t : TMap) (id : Nat) (but : Option (BitVec 11)) : Bool :=
  (oldVer t).all fun e => some e.2 == but || [MClass.req, .fwd, .rsp, .bulk].all fun c => l.contains (e.2, c, id)
/-- The old version is retired once every marker has come, the markers of lost ids are forwarded and every gained id is open (R356). -/
def settleMaps (s : State) (ten : BitVec 12) : State :=
  let t := s.tmap ten
  let own := (oldVer t).filter fun e => e.2 == s.nodeId
  let gained := (newVer t).filter fun e => s.gains t e.1
  if t.st = .changing ∧ (own.all fun e => allMarkers t.got t e.1 (some s.nodeId)) = true ∧
      (own.all fun e => (s.losesTo t e.1).isNone || allMarkers t.passed t e.1 (some s.nodeId)) = true ∧
      (gained.all fun e => t.opened.contains e.1 && allMarkers t.got t e.1 (Map.find (oldVer t) e.1)) = true then
    { s with outbox := s.outbox.filter fun o => !(isOutAgent o.frm && o.tenant == ten) }.modMaps ten fun x =>
      { x with st := .stable, active := !x.active, opened := [], got := [], passed := [] }
  else s

/-- Traffic for an id that this device gains: old-version traffic comes forwarded, new-version traffic waits for its marker (R356). -/
def forGained (s : State) (p : Nat) (fs : List (BitVec 128 × BitVec 512)) (t : TMap) (m : Msg) (old : Bool) : State :=
  let l := m.dst.dev.toNat
  if t.opened.contains l = false then
    match m.cls with
    | .req | .fwd => s.retryMsg { m with dest := s.entryAgent p m }
    | .bulk => s.modPort p fun q => { q with bulk := q.bulk ++ fs }
    | .rsp => s.modMaps m.tenant fun x => { x with held := x.held ++ [m] }
  else if old then s.enter p (s.fromOld m)
  else if markerIn t l (Map.find (newVer t) m.src.dev.toNat) m.cls then s.enter p m
  else s.modMaps m.tenant fun x => { x with held := x.held ++ [m] }

/-- A message addressed to this device comes from the link (R353, R356). -/
def arrived (s : State) (p : Nat) (tag : BitVec 128) (fs : List (BitVec 128 × BitVec 512)) (m : Msg) : State :=
  let back := match s.asked m with
    | some o => isOutAgent o.frm
    | none => false
  if m.fl.sup || (m.typ == MT.retry && back) then s.enter p m
  else
    let t := s.tmap m.tenant
    let ver := verOf t m.fl.mapv
    let old := m.fl.mapv == t.active
    let l := m.dst.dev.toNat
    if s.hasContext m.tenant = false ∨ (old = false ∧ t.st = .stable) ∨ (ver.any fun e => e.2 == tagSrc tag) = false then s.deny p m
    else match Map.find ver l with
      | none => s.deny p m
      | some x =>
        if x = s.nodeId then
          match (if old && t.st == .changing then s.losesTo t l else none) with
          | some b =>
            let go := fun (s : State) =>
              let s1 := s.forwardOld m b
              if m.typ = MT.marker then
                let mk := ((Map.find ver m.src.dev.toNat).getD 0x7FF, m.cls, l)
                (s1.modMaps m.tenant fun x => { x with got := x.got ++ [mk], passed := x.passed ++ [mk] }).settleMaps m.tenant
              else s1
            -- a REQ or FWD is taken only with a FWD egress slot (R156)
            let r := { m with dest := .router (portSite p) }
            match m.cls with
            | .rsp | .bulk => go s
            | .req | .fwd => if s.mustRefuse r then s.retryMsg r else s.withEgress (.router (portSite p)) r fun v => go (v.acceptMsg r)
          | none => if !old && s.gains t l then s.forGained p fs t m false else s.enter p m
        else if old && s.gains t l then s.forGained p fs t m true
        else s.deny p m

/-- Slots of one message: they agree in destination, source and class (R344). -/
def sameMessage (a b : BitVec 128) : Bool := tagDest a == tagDest b && tagSrc a == tagSrc b && tagClass a == tagClass b
/-- A message with this first flit can not go on: it is answered with status 0x06 (R350). To another device the answer goes in place of the
destination's own: its slots name that node as their source, which the maps of the tenant hold (R353, log 67). -/
def noWay (s : State) (tag : BitVec 128) (f : BitVec 512) : State :=
  let m := fromFlits tag f []
  if tagSrc tag = s.nodeId then
    match s.outbox.find? fun o => o.seq == m.seq && o.typ == m.typ && o.cls == m.cls && o.src == m.src with
    | some o => { s with outbox := s.outbox.filter fun x => x.id != o.id }.unreachable o
    | none => match s.siteOf 3 m.src.core.toNat with
      | some c => s.unreachable { m with frm := .core c }
      | none => s.unreachable m
  else match m.cls with
    | .rsp => s.portRecord 0 m.tenant
    | .req | .fwd | .bulk =>
      (s.sendFlits (tagSrc tag) [(slotTag (tagSrc tag) (tagDest tag) 0 .rsp true true, (statusMsg m 6).firstFlit)]).getD (s.portRecord 0 m.tenant)
/-- A mesh flit for which there is no way on. With its message's first flit, the message is answered and its later flits are dropped; a later flit
brings the answer where the next hop has acknowledged the first one already (R350). -/
def noPath (s : State) (tag : BitVec 128) (f : BitVec 512) : State :=
  if tagFirst tag = true then s.noWay tag f
  else match s.heads.findIdx? fun h => sameMessage h.1 tag with
    | some i => match s.heads[i]? with
      | some h => { s with heads := s.heads.eraseIdx i }.noWay h.1 h.2
      | none => s
    | none => s
/-- Flits that a next hop has acknowledged: the first one of a message is kept until its last one is acknowledged (R350). -/
def passed (s : State) (l : List (BitVec 128 × BitVec 512)) : State :=
  { s with heads := l.foldl (fun (h : List (BitVec 128 × BitVec 512)) e =>
      if tagFirst e.1 then (if tagLast e.1 then h else h ++ [e])
      else if tagLast e.1 then (match h.findIdx? fun x => sameMessage x.1 e.1 with | some i => h.eraseIdx i | none => h)
      else h) s.heads }
/-- The place, in a list of messages under way, of the one that a later flit belongs to: one from the same port, else, after a detour, the
oldest one of its destination, source and class (R344, R350). -/
def openAt {α : Type} (l : List α) (port : α → Nat) (tag : α → BitVec 128) (p : Nat) (t : BitVec 128) : Option Nat :=
  match l.findIdx? fun x => port x == p && sameMessage (tag x) t && tagHop (tag x) == tagHop t with
  | some i => some i
  | none => l.findIdx? fun x => sameMessage (tag x) t
/-- A flit of a message for this device: with the last one the message is complete (R344). -/
def partIn (s : State) (p : Nat) (e : BitVec 128 × BitVec 512) : State :=
  let (tag, _) := e
  let firstTag := fun (x : Nat × List (BitVec 128 × BitVec 512)) => match x.2 with | h :: _ => h.1 | [] => 0
  let at_ := if tagFirst tag then none else openAt s.parts (fun x => x.1) firstTag p tag
  let fs := match at_ with
    | some i => ((s.parts[i]?.map fun x => x.2).getD []) ++ [e]
    | none => [e]
  let others := match at_ with | some i => s.parts.eraseIdx i | none => s.parts
  if tagLast tag = false then { s with parts := others ++ [(p, fs)] }
  else match fs with
    | [] => s
    | h :: r =>
      let s1 := { s with parts := others }
      if tagFirst h.1 then s1.arrived p tag fs (fromFlits h.1 h.2 (r.map fun x => x.2)) else s1.portRecord p 0
/-- The port by which a flit of a message for another device leaves: that of the message's first flit (R344). A message does not turn back to the
node that it came from: that would be no detour (R350). -/
def passPort (s : State) (p : Nat) (tag : BitVec 128) : Option (BitVec 11 × Nat) :=
  let from_ := (s.port p).peer
  match s.nextHop (tagDest tag) with
  | none => none
  | some n =>
    let fixed := if tagFirst tag then none else (openAt s.through (fun x => x.1) (fun x => x.2.1) p tag).bind fun i => s.through[i]?.map fun x => x.2.2
    match fixed with
    | some q => some (n, q)
    | none => match s.hopPort n with
      | none => none
      | some q => if (s.port q).peer = from_ ∧ n ≠ from_ then none else some (n, q)
/-- A flit of a message for another device is passed on at its next hop (R349). -/
def passOn (s : State) (p : Nat) (e : BitVec 128 × BitVec 512) : State :=
  let (tag, f) := e
  let at_ := if tagFirst tag then none else openAt s.through (fun x => x.1) (fun x => x.2.1) p tag
  let others := match at_ with | some i => s.through.eraseIdx i | none => s.through
  if tagHop tag = 3 then s.noPath tag f
  else match s.passPort p tag with
    | none => { s with through := others }.noPath tag f
    | some (n, q) =>
      { s with through := if tagLast tag then others else others ++ [(p, tag, q)] }.modPort q fun x =>
        x.enqueue s.time [(tag + (1#128 <<< 22), f, n)]
/-- A slot of an accepted link flit: a flit of a message for this device, or one to be passed on (R344, R349). BULK on a channel where BULK waits
for an id waits behind it (R356). -/
def slotIn (s : State) (p : Nat) (e : BitVec 128 × BitVec 512) : State :=
  if tagClass e.1 = .bulk ∧ ((s.port p).bulk.any fun x => tagHop x.1 == tagHop e.1) = true then s.modPort p fun q => { q with bulk := q.bulk ++ [e] }
  else if tagDest e.1 = s.nodeId then s.partIn p e
  else s.passOn p e
/-- BULK that waited is looked at again, in order, when an id opens (R356). -/
def retryBulk (s : State) (p : Nat) : State :=
  (s.port p).bulk.foldl (fun u e => u.slotIn p e) (s.modPort p fun q => { q with bulk := [] })
/-- The messages of a port leave by a detour, in SEQ order; one that finds none is answered. The port's flits keep their sequence numbers, with no
slot used: what the peer has of them stays known, and a turn that one of them asks for is asked again (R345, R350, log 66). -/
def detour (s : State) (p : Nat) : State :=
  let q := s.port p
  let items := (q.buf.flatMap fun e => Wire.slots e.1) ++ q.toSend.map fun e => (e.1, e.2.1)
  items.foldl (fun u e => match u.sendFlits (tagDest e.1) [e] with
    | some v => v
    | none => u.noPath e.1 e.2) (s.modPort p Port.emptied)

end State

/-! ### Training (R340 to R342) -/

namespace State

/-- Intervals of silence drawn for the lanes of a port. -/
def drawLanes (s : State) : Nat → Map Word × State
  | 0 => ([], s)
  | n + 1 =>
    let (m, s1) := s.drawLanes n
    let (r, s2) := s1.drawWord
    (Map.put m n (s.time + Port.interval r), s2)
/-- A port that may train and does not yet begins; messages that it still holds have left by a detour (R350). -/
def beginTraining (s : State) (p : Nat) : State :=
  let s0 := if (s.port p).loaded then s.detour p else s
  let (d, s1) := s0.drawLanes 8
  s1.modPort p fun q => { q with nextSeq := 0, expect := 0, nak := false, buf := [] }.startTraining d
/-- NODEID is written: the ports train while it is below 1,057 (R340). -/
def writeNodeId (s : State) (v : Word) : State :=
  let n : BitVec 11 := v.setWidth 11
  (List.range 36).foldl (fun u p =>
    let q := u.port p
    if n.toNat < 1057 then
      if q.role ≠ 2 ∧ q.agreed = false ∧ q.turning = 0 then u.beginTraining p else u
    else if q.st = .training ∧ q.agreed = false then u.modPort p Port.stop else u) { s with nodeId := n }

/-- PORTCTL of a port is written (R340, R342). A turn of lanes is asked of the peer by a lane that transmits; without one DIR stays (log 100). -/
def writePortctl (s : State) (p : Nat) (v : Word) : State :=
  let q := s.port p
  let role : BitVec 2 := if v.extractLsb' 34 2 = 3 then q.role else v.extractLsb' 34 2
  let en : BitVec 8 := v.extractLsb' 8 8
  let dir : BitVec 8 := v.extractLsb' 0 8
  if q.agreed ∧ (en ≠ q.en ∨ dir ≠ q.dir) ∧ (q.work &&& en &&& dir = 0 ∨ q.work &&& en &&& ~~~dir = 0) then s
  else
    let s1 := s.modPort p fun q => { q with role := role }
    if role = 2 then s1.modPort p fun q => { q with en := en, dir := dir }.stop
    else if q.agreed = false then
      let s2 := s1.modPort p fun q => { q with en := en, dir := dir }
      if s2.nodeId.toNat < 1057 then s2.beginTraining p else s2
    else if dir ≠ q.dir ∧ q.tx = 0 then s1.modPort p fun q =>
      { q with en := en, work := q.work &&& en, turning := q.turning ||| (en &&& q.peerEn &&& ~~~(q.work &&& en)) }.settle
    else
      s1.modPort p fun q =>
        let q1 := if dir = q.dir then q else
          let q0 := { q with turnReq := some dir }
          if q0.canAsk then q0.sendOne s1.time else q0
        let q2 := { q1 with en := en, work := q1.work &&& en }.turnTo dir
        { q2 with turning := q2.turning ||| (en &&& q2.peerEn &&& ~~~q2.work) }.settle

/-- A retraining of the direction that transmits, with its record (R345). -/
def retrainPort (s : State) (p : Nat) : State := (s.modPort p Port.retrain).portRecord p 0
/-- The port replays, or retrains when a flit has been sent 16 times (R345). -/
def replay (s : State) (p : Nat) : State :=
  if (s.port p).worn then s.retrainPort p else s.modPort p fun q => q.resend s.time

end State

/-- NODEID_WRITE, by the issuing thread (R340). -/
def execNodeidWrite (v : Word) (s : State) : Host.Outcome State Fault Refusal := .next (s.writeNodeId v)
/-- PORTCTL_WRITE, by the issuing thread (R342). -/
def execPortctlWrite (port : Nat) (v : Word) (s : State) : Host.Outcome State Fault Refusal :=
  if port < 36 then .next (s.writePortctl port v) else .next s

/-- TRAINING_BACKOFF: a lane has been silent for the interval drawn, and transmits its training sequence; once the peer has been heard, both ends
then have each other's node, EN and DIR (R340, R341, log 100). -/
def execTrainingBackoff (port lane : Nat) (s : State) : Host.Outcome State Fault Refusal :=
  let q := s.port port
  match Map.find q.draws lane with
  | some due =>
    if 36 ≤ port ∨ q.agreed = true ∨ q.turning.getLsbD lane = false ∨ s.time < due then .next s
    else
      let (r, s1) := s.drawWord
      .next (s1.modPort port fun q => { q with
        agreed := q.heard, trained := Map.put q.trained lane ⟨s.nodeId, q.en, q.dir⟩, draws := Map.put q.draws lane (s.time + Port.interval r) })
  | none => .next s

/-- TRAINING_SEQUENCE: the first one received fixes the peer, the leader and the directions; at each the lane stops and draws again (R341). -/
def execTrainingSequence (port lane : Nat) (seq : TrainSeq) (s : State) : Host.Outcome State Fault Refusal :=
  let q := s.port port
  if 36 ≤ port ∨ q.agreed = true ∨ q.turning.getLsbD lane = false ∨ 1057 ≤ seq.node.toNat then .next s
  else
    let (r, s1) := s.drawWord
    .next (s1.modPort port fun q =>
      if q.heard then { q with draws := Map.put q.draws lane (s.time + Port.interval r) }
      else
      let q1 := { q with peer := seq.node, peerEn := seq.en, heard := true, draws := Map.put q.draws lane (s.time + Port.interval r)
                         turning := q.turning &&& seq.en }
      { q1 with dir := if s.nodeId.toNat < seq.node.toNat then q1.dir else q1.follow seq.dir }.settle)

/-- LANE_RETRAIN: a lane that trains is done, or has failed; or the peer retrained a lane on which this end receives (R342, R345). -/
def execLaneRetrain (port lane : Nat) (good : Bool) (s : State) : Host.Outcome State Fault Refusal :=
  let q := s.port port
  let b : BitVec 8 := 1#8 <<< lane
  let fin := fun (x : Port) => if good then { x with work := x.work ||| b, fail := x.fail &&& ~~~b }
    else { x with work := x.work &&& ~~~b, fail := x.fail ||| b }
  if 36 ≤ port ∨ 8 ≤ lane ∨ q.agreed = false ∨ 1057 ≤ s.nodeId.toNat then .next s
  else if q.turning &&& b ≠ 0 then
    if q.carried ≠ [] ∧ q.tx ≠ 0 ∧ q.rx ≠ 0 then .next s
    else
      -- a lane that was turned retrains, which is recorded; retrainPort has recorded the other retraining (R345)
      let s0 := if (q.first ||| q.again) &&& b ≠ 0 then s else s.portRecord port 0
      let s1 := s0.modPort port fun x => (fin { x with turning := x.turning &&& ~~~b, first := x.first &&& ~~~b, carried := if x.turning = b then [] else x.carried }).settle
      let n := s1.port port
      let s2 := if n.st = .up ∧ (n.buf.any fun e => e.2 == 0) = true then s1.modPort port fun x => x.resend s.time else s1
      .next (s2.modPort port fun x => x.flush s.time)
  else if q.rx &&& b ≠ 0 then .next ((s.modPort port fun x => (fin x).settle).portRecord port 0)
  else .next s

/-! ### Link flits and replay (R344, R345, R350) -/

/-- LINK_FLIT: a link flit is received: the expected one with a good CRC is accepted, any other is discarded with NAK (R345). -/
def execLinkFlit (port : Nat) (flit : LinkFlit) (s : State) : Host.Outcome State Fault Refusal :=
  let q := s.port port
  if 36 ≤ port ∨ q.agreed = false ∨ q.rx = 0 then .next s
  else if Wire.good flit = false ∨ Wire.seq flit ≠ q.expect then
    .next (s.modPort port fun x =>
      let y := { x with nak := true }
      if x.nak = false ∧ y.canSend = true then y.sendOne s.time else y)
  else
    let s1 := (s.modPort port fun x => { x with expect := x.expect + 1, nak := false }.acked s.time (Wire.ack flit)).passed
      ((q.covered (Wire.ack flit)).flatMap Wire.slots)
    let s2 := if Wire.nak flit ∧ (s1.port port).st = .up ∧ (s1.port port).buf ≠ [] then s1.replay port else s1
    let s3 := match Wire.turn flit with
      | some d => s2.modPort port fun x => x.turnTo (x.follow d)
      | none => s2
    let s4 := (Wire.slots flit).foldl (fun u e => u.slotIn port e) s3
    .next (s4.modPort port fun x =>
      let y := x.flush s.time
      if Wire.used flit ≠ 0 ∧ y.nextSeq = q.nextSeq ∧ y.canSend = true then y.sendOne s.time else y)

/-- LINK_RESEND_TIMEOUT: 4,096 cycles without progress of ACK (R345). -/
def execLinkResendTimeout (port : Nat) (s : State) : Host.Outcome State Fault Refusal :=
  let q := s.port port
  if 36 ≤ port ∨ q.st ≠ .up ∨ q.buf = [] ∨ s.time < q.progress + 4096 then .next s else .next (s.replay port)

/-- PORT_DOWN: the messages of a port that is DOWN leave by a detour, in SEQ order; one that finds none is answered (R350). -/
def execPortDown (port : Nat) (s : State) : Host.Outcome State Fault Refusal :=
  let q := s.port port
  if 36 ≤ port ∨ q.st ≠ .down ∨ q.loaded = false then .next s else .next (s.detour port)

/-- RTDATA_WRITE, by the issuing thread: the entry at RTIDX is replaced, and the index advances (R348). -/
def State.writeRtdata (s : State) (site : Nat) (v : Word) : State :=
  let i := (s.core site).sel.rtidx
  let s1 := if i.toNat < 1057 then { s with routes := Map.set (fun _ => 0) s.routes i.toNat (v.setWidth 14) } else s
  s1.modCore site fun c => { c with sel := { c.sel with rtidx := i + 1 } }
/-- RTDATA_WRITE. -/
def execRtdataWrite (v : Word) (s : State) : Host.Outcome State Fault Refusal := .next (s.writeRtdata s.site v)

/-! ### Remap (R355 to R358) -/

namespace State

/-- Old-version traffic of a source that came forwarded from a node, and is still on its way in. -/
def stillComing (s : State) (m : Msg) : Bool :=
  (s.net ++ s.refused ++ s.resend.map fun e => e.1).any fun o =>
    isOutAgent o.frm && nodeFrom o == nodeFrom m && o.src.dev == m.src.dev && o.tenant == m.tenant && o.typ != MT.marker && o.cls != .rsp
/-- The markers of one id, one for each class, sent on the old mapping (R356). -/
def sendMarkers (s : State) (ten : BitVec 12) (t : TMap) (me : BitVec 11) (id : Nat) (node : BitVec 11) : State :=
  [MClass.req, .fwd, .rsp, .bulk].foldl (fun u c =>
    let key := (Agent.gate, Agent.out node.toNat, c)
    let (q, u1) := u.nextSeq key
    let m : Msg := {
      id := u1.nextId, frm := .gate, dest := .out node.toNat, cls := c, typ := MT.marker, dst := ⟨BitVec.ofNat 11 id, 0xFFF, 0⟩, src := ⟨me, 0xFFF, 0⟩
      tenant := ten, seq := q, fl := { mapv := t.active, drain := true }, spec := BitVec.ofNat 19 id }
    match { u1 with nextId := u1.nextId + 1 }.sendFlits node (u1.slotsOf m node) with
    | some v => match c with
      | .req | .fwd => { v with outbox := v.outbox ++ [m] }
      | .rsp | .bulk => v
    | none => u1) s
/-- SWITCH: the tenant's sends use the new version; markers go out, and those already received for lost ids are forwarded (R356). -/
def switchMaps (s : State) (ten : BitVec 12) : State :=
  let t := s.tmap ten
  let s1 := s.modMaps ten fun x => { x with st := .changing }
  let s2 := (oldVer t).foldl (fun (u : State) (e : Nat × BitVec 11) =>
    if e.2 = s.nodeId then u else u.sendMarkers ten t (idOfNode (oldVer t) s.nodeId) e.1 e.2) s1
  let s3 := t.got.foldl (fun u g => match s.losesTo t g.2.2 with
    | some b =>
      let m : Msg := {
        id := 0, frm := .gate, dest := .gate, cls := g.2.1, typ := MT.marker, dst := ⟨BitVec.ofNat 11 g.2.2, 0xFFF, 0⟩
        src := ⟨idOfNode (oldVer t) g.1, 0xFFF, 0⟩, tenant := ten, fl := { mapv := t.active, drain := true }, spec := BitVec.ofNat 19 g.2.2 }
      (u.forwardOld m b).modMaps ten fun x => { x with passed := x.passed ++ [g] }
    | none => u) s2
  s3.settleMaps ten
/-- An id that the device gains opens: what waited for it goes in (R356). -/
def openId (s : State) (ten : BitVec 12) (l : Nat) : State :=
  let s1 := (s.modMaps ten fun x => { x with opened := if x.opened.contains l then x.opened else x.opened ++ [l] }).releaseHeld ten 0
  ((List.range 36).foldl (fun u p => u.retryBulk p) s1).settleMaps ten
/-- Requests of a tenant that the homes of the device have accepted and not performed: messages (2 × id), and accesses of the home core's own
threads (1 + 2 × (thread key + 2^14 × place in its order)) (R358). -/
def taken (s : State) (ten : BitVec 12) : List Nat :=
  ((s.hbm.retry.filter fun e => e.2.tenant == ten).map fun e => 2 * e.2.id) ++
  ((s.net.filter fun m => m.todo.isSome && m.tenant == ten).map fun m => 2 * m.id) ++
  (s.cores.flatMap fun e => e.2.mem.retry.filterMap fun r => match r with
    | .remote m => if m.tenant = ten then some (2 * m.id) else none
    | .own key ord => if s.coreTenant e.1 = ten then some (1 + 2 * (key + 2 ^ 14 * ord)) else none)

/-- An entry of a map table: its node and V. -/
def nodeEntry (x l : Nat) : Nat := x / 2 ^ (16 * l) % 65536
/-- The table breaks a rule of R358. -/
def tableBad (x : Nat) : Bool :=
  let es := (List.range 2048).map fun l => (l, nodeEntry x l)
  let ok := es.filter fun e => e.2 / 32768 == 1
  (es.any fun e => e.2 / 2048 % 16 != 0 || decide (1057 ≤ e.2 % 2048)) || (ok.any fun e => e.1 == 2047) ||
    (ok.map fun e => e.2 % 2048).eraseDups.length != ok.length
/-- The map that a table holds. -/
def tableMap (x : Nat) : Map (BitVec 11) :=
  (List.range 2047).filterMap fun l =>
    let e := nodeEntry x l
    if e / 32768 = 1 then some (l, BitVec.ofNat 11 e) else none

/-- MAPSET once its operands are read (R358). -/
def mapsetOn (u : State) (d : XReg) (op : Nat) (ten : BitVec 12) (x2 : Word) (table : Nat) : SlotRes :=
  let fin := fun (v : State) (st : Nat) =>
    let t := v.tmap ten
    SlotRes.done (v.wx d (BitVec.ofNat 64 (st + (if u.hasContext ten then
      (if t.active then 16 else 0) + (if t.st = .changing then 32 else 0) + (if t.st = .loaded then 64 else 0) else 0))))
  let t := u.tmap ten
  let l := x2.toNat % 2048
  if u.src.asked && op == 2 then if (u.taken ten).any fun n => u.src.xlIds.contains n then u.hold else fin u 0
  else if u.hasContext ten = false then fin u 2
  else if op = 1 ∧ t.st ≠ .changing then
    fin (u.modMaps ten fun x =>
      if x.active then { x with st := .loaded, ver0 := tableMap table } else { x with st := .loaded, ver1 := tableMap table }) 0
  else if op = 2 ∧ t.st = .loaded then
    if (u.taken ten).isEmpty = false then .wait fun s => (s.switchMaps ten).modCur fun x => { x with asked := true, xlIds := s.taken ten }
    else fin (u.switchMaps ten) 0
  else if op = 3 ∧ t.st = .changing ∧ u.gains t l = true then fin (u.openId ten l) 0
  else if op = 0 then fin u 0
  else fin u 1

end State

/-- MAPSET (R358). -/
def mapset (i : Instr) (d s t : XReg) (st : State) : Host.Outcome State Fault Refusal :=
  slot i (fun u =>
    let w := u.rx s
    let op := w.toNat / 4096 % 4
    let ten : BitVec 12 := w.setWidth 12
    if w.toNat / 16384 ≠ 0 then u.operand
    else if op = 1 then
      u.readBlock (u.rx t) 64 4096 fun x => if State.tableBad x then u.operand else u.mapsetOn d op ten (u.rx t) x
    else u.mapsetOn d op ten (u.rx t) 0) st
/-- MAPSET, the row of STAT. -/
def execMapsetStat (d s t : XReg) (st : State) : Host.Outcome State Fault Refusal := mapset (.mapsetStat d s t) d s t st
/-- MAPSET, the row of LOAD. -/
def execMapsetLoad (d s t : XReg) (st : State) : Host.Outcome State Fault Refusal := mapset (.mapsetLoad d s t) d s t st
/-- MAPSET, the row of SWITCH. -/
def execMapsetSwitch (d s t : XReg) (st : State) : Host.Outcome State Fault Refusal := mapset (.mapsetSwitch d s t) d s t st
/-- MAPSET, the row of OPEN. -/
def execMapsetOpen (d s t : XReg) (st : State) : Host.Outcome State Fault Refusal := mapset (.mapsetOpen d s t) d s t st

/-- MARKER: a marker has come after every earlier message of its source: it is counted, and what waited for it goes in (R356). -/
def execMarker (msg : Nat) (s : State) : Host.Outcome State Fault Refusal :=
  match s.deliver msg with
  | none => .next s
  | some m =>
    if m.typ ≠ MT.marker ∨ m.dest ≠ .gate then .next s
    else if s.mustRefuse m then .next ((s.dropMsg msg).retryMsg m)
    else if s.stillComing m then .next s
    else
      let u := (s.dropMsg msg).acceptMsg m
      let t := u.tmap m.tenant
      let l := m.spec.toNat % 2048
      let direct := Map.find (State.oldVer t) l == some u.nodeId
      let mk := ((Map.find (State.oldVer t) m.src.dev.toNat).getD 0x7FF, State.drains m direct, l)
      if t.st = .stable then .next u
      else .next (((u.modMaps m.tenant fun x => { x with got := x.got ++ [mk] }).releaseHeld m.tenant 0).settleMaps m.tenant)

end Sys2Proof.Machine
end

