-- ==== Sys2Proof/Machine/Referee.lean ====
section
/-! DEFINITION. The Referee of a duplex pair (R368, R369). -/

namespace Sys2Proof.Machine

namespace State

/-- Forms that carry a handle of their sender in word 1. -/
def carriesHandle (m : Msg) : Bool := [MT.inv, MT.invx, MT.pass, MT.kick, MT.grpctl].contains m.typ && m.w[1] != 0
/-- Forms that carry the number of their sender's copy in word 3. -/
def carriesCopy (m : Msg) : Bool := [MT.copydata, MT.mcast, MT.rstv].contains m.typ || (m.typ == MT.load && m.w[2] == 1)
/-- A pair of messages that agree goes on as the primary's; what the twin holds of its own is matched to the primary's (R368). -/
def pairForward (s : State) (q : Pair) (a b : Msg) : State :=
  let q1 : Pair := { q with
    prim := q.prim.drop 1, twin := q.twin.drop 1
    handles := if carriesHandle a then q.handles ++ [(a.w[1], b.w[1])] else q.handles
    copies := q.copies ++ (if carriesCopy a then [(a.w[3], b.w[3])] else if a.typ = MT.rdyquery then [(a.w[1], b.w[1])] else []) }
  let s1 := { s with pairs := s.pairs.map fun (p : Pair) => if p.pkey = q.pkey then q1 else p }
  let s2 := s1.modCore (q.tkey / 4) fun c => { c with sent := c.sent.map fun (x : Sent) => if x.id = b.id then { x with id := a.id } else x }
  s2.emit a
/-- A pair fails: DUPLEX waits at both threads, the unpaired messages are discarded, a record is written (R369). Its ERRSYND holds the CRC of the
oldest message, the primary's where there is one (R363, log 104). -/
def pairFails (s : State) (q : Pair) (v : Word) : State :=
  let crc : BitVec 32 := match (q.prim ++ q.twin).head? with | some e => e.1.refereeCrc | none => 0
  let f := fun (t : Thread) => { t with duplex := some v }
  let s1 := { s with pairs := s.pairs.map fun (p : Pair) => if p.pkey = q.pkey then { p with prim := [], twin := [] } else p }
  ((s1.modThread q.pkey f).modThread q.tkey f).record (bankOf (q.pkey / 4))
    { rank := 2, source := 9, tenant := s.coreTenant (q.pkey / 4), unit := (s.coreId (q.pkey / 4)).toNat, synd := crc.setWidth 64 }

end State

/-- Two arrivals lie 4,096 cycles or more apart (R369). -/
def farApart (a b : Word) : Bool := decide (4096 ≤ (a - b).toNat) && decide (4096 ≤ (b - a).toNat)
/-- REFEREE_PAIR: the oldest messages of both twins of the k-th pair meet: they are forwarded as one, or the pair fails (R368, R369). -/
def execRefereePair (k : Nat) (s : State) : Host.Outcome State Fault Refusal :=
  match s.pairs[k]? with
  | none => .next s
  | some q => match q.prim, q.twin with
    | (a, ta) :: _, (b, tb) :: _ =>
      if farApart ta tb then .next (s.pairFails q 4096)
      else if a.refereeCrc = b.refereeCrc then .next (s.pairForward q a b) else .next (s.pairFails q 0)
    | _, _ => .next s

/-- REFEREE_TIMEOUT: the partner of a message has not come within 4,096 cycles (R369). -/
def execRefereeTimeout (k : Nat) (s : State) : Host.Outcome State Fault Refusal :=
  match s.pairs[k]? with
  | none => .next s
  | some q => match q.prim, q.twin with
    | (_, t0) :: _, [] => if t0 + 4096 ≤ s.time then .next (s.pairFails q 4096) else .next s
    | [], (_, t0) :: _ => if t0 + 4096 ≤ s.time then .next (s.pairFails q 4096) else .next s
    | _, _ => .next s

end Sys2Proof.Machine
end

