-- ==== Sys2Proof/Machine/Power.lean ====
section
/-! DEFINITION. Power, temperature, supply; the trace ring and the stop of a core; repair of device memory (R370, R372 to R382, R390, R391). -/

namespace Sys2Proof.Machine

/-- POWER_LIMIT: the power monitor measures; above PWRLIM, cores skip issue slots (R391). -/
def execPowerLimit (watts : Nat) (s : State) : Host.Outcome State Fault Refusal :=
  .next { s with throttled := decide (s.pwrlim.toNat < watts) }
/-- OVERTEMPERATURE: a package reset (R391). -/
def execOvertemperature (s : State) : Host.Outcome State Fault Refusal := .next s.packageReset

/-! ### Power gating (R377, R390) -/

/-- A member of some group is placed on a site. -/
def State.hasMember (s : State) (site : Nat) : Bool :=
  ((List.range 4).any fun i => (s.thread (4 * site + i)).res.isSome) || s.groups.any fun e => e.2.st != .ended && s.groupSite e.2 site
/-- POWER_GATE: a core without member and tenant context whose clock has stood for 65,536 cycles is gated, once its trace buffer is empty (R390, R377). -/
def execPowerGate (site : Nat) (s : State) : Host.Outcome State Fault Refusal :=
  let c := s.core site
  if s.active site = false ∨ c.gated = true ∨ c.gateHold.isSome = true ∨ c.ctx ≠ 0 ∨ s.hasMember site = true ∨ s.time < c.ran + 65536 then .next s
  else if c.trace.buf = [] then .next (s.modCore site fun c => { c with gated := true })
  else .next (s.modCore site fun c => { c with gateHold := some (s.time + 2048) })
/-- GATE_DRAIN_TIMEOUT: records still in the buffer after 2,048 cycles are discarded and counted (R377). -/
def execGateDrainTimeout (site : Nat) (s : State) : Host.Outcome State Fault Refusal :=
  match (s.core site).gateHold with
  | none => .next s
  | some due =>
    if due ≤ s.time then
      .next (s.modCore site fun c => { c with
        gated := true, gateHold := none, trace := { c.trace with lost := (c.trace.lost + c.trace.buf.length) % 2 ^ 32, buf := [] } })
    else .next s

/-! ### Droop (R378) -/

/-- The sites of a detector's voltage domain. -/
def droopSites (die det : Nat) : List Nat :=
  ((List.range 1024).filter fun i => i % 32 / 8 == det % 4 && i / 32 / 8 == det / 4).map fun i => State.dieSite (die % 4) i
/-- The DROOP record of a core. -/
def State.droopRecord (s : State) (site det : Nat) (stamp : Word) : State :=
  let c := s.core site
  let t := s.thread (4 * site + c.lastThr % 4)
  match t.act with
  | some a => s.trace site 6 (a.tag.toNat + 64 * (c.lastThr % 4)) a.entry stamp c.lastPc (BitVec.ofNat 64 det)
  | none => s.trace site 6 0 0 stamp c.lastPc (BitVec.ofNat 64 det)
/-- No thread of a core is between two iterations of a REP unit (R114). -/
def State.noRep (s : State) (site : Nat) : Bool := (List.range 4).all fun i => (s.thread (4 * site + i)).rep.isNone
/-- The records of the samples that awaited the end of a REP unit (R114, R378). -/
def State.takeDroops (s : State) (site : Nat) : State :=
  if s.noRep site then
    (s.core site).droops.foldl (fun u e => u.droopRecord site e.1 e.2) (s.modCore site fun c => { c with droops := [] })
  else s
/-- A core takes the sample of a detector: at once, or where a REP unit ends (R114, R378). -/
def State.droopAt (s : State) (site det : Nat) : State :=
  (s.modCore site fun c => { c with droops := c.droops ++ [(det, s.time)] }).takeDroops site
/-- The supply of a droop detector is measured: an input (log 108). -/
def State.readSupply (s : State) (die det mv : Nat) : State := s.modDie die fun x => { x with supply := Map.put x.supply det mv }
/-- DROOP: a detector whose supply is more than the threshold below nominal fires; each core of its domain writes a record (R372, R378). -/
def execDroop (die det : Nat) (s : State) : Host.Outcome State Fault Refusal :=
  let d := s.die die
  if 4 ≤ die ∨ 16 ≤ det ∨ d.drpctl.getLsbD 8 = false ∨ (Map.find d.supply det).getD 0 ≤ d.drpctl.toNat % 256 ∨ (Map.find d.fired det).isSome = true then .next s
  else
    let s1 := s.modDie die fun x => { x with fired := Map.put x.fired det s.time }
    .next (((droopSites die det).filter fun p => s.active p).foldl (fun u p => u.droopAt p det) s1)
/-- DROOP_REARM: 65,536 cycles after it fired (R378). -/
def execDroopRearm (die det : Nat) (s : State) : Host.Outcome State Fault Refusal :=
  match Map.find (s.die die).fired det with
  | none => .next s
  | some t0 => if t0 + 65536 ≤ s.time then .next (s.modDie die fun x => { x with fired := Map.erase x.fired det }) else .next s

/-! ### The trace ring (R376) -/

/-- Bytes of the ring. -/
def Trace.ringSize (t : Trace) : Nat := 65536 * 2 ^ (t.trctl.toNat / 2 ^ 9 % 16)
/-- Bytes drained and not consumed. -/
def Trace.inRing (t : Trace) : Nat := (t.trhead.toNat + 2 ^ 32 - t.trtail.toNat) % 2 ^ 32
/-- TRACE_DRAIN: up to four records of a line are written to the ring as tenant 0, and TRHEAD advances; a write that fails loses them (R376, R379). -/
def execTraceDrain (site : Nat) (s : State) : Host.Outcome State Fault Refusal :=
  let t := (s.core site).trace
  let room := (t.ringSize - t.inRing) / 32
  let n := min (min t.buf.length (4 - t.trhead.toNat / 32 % 4)) room
  if n = 0 then .next s
  else
    let v := (t.buf.take n).zipIdx.foldl (fun (x : Nat) (e : BitVec 256 × Nat) => x + e.1.toNat * 2 ^ (256 * e.2)) 0
    let pa := t.trbase.toNat + t.trhead.toNat % t.ringSize
    let done := fun (c : Core) => if c.trace.buf.isEmpty && c.gateHold.isSome then { c with gated := true, gateHold := none } else c
    let u := s.mendSeen 0 1 pa (32 * n) true
    match s.hbm.write 1 pa (32 * n) v false with
    | some h => .next ({ u with hbm := { h with rowErr := u.hbm.rowErr } }.modCore site fun c => done { c with trace := ({ c.trace with
        buf := c.trace.buf.drop n, trhead := BitVec.ofNat 64 ((c.trace.trhead.toNat + 32 * n) % 2 ^ 32) }).recover site s.time })
    | none => .next ((s.modCore site fun c => done { c with trace := ({ c.trace with
        buf := c.trace.buf.drop n, lost := (c.trace.lost + n) % 2 ^ 32 }).recover site s.time }).record (State.bankOf site)
        { rank := 1, source := 5, addr := BitVec.ofNat 64 pa, unit := (s.coreId site).toNat })

/-- A write of TRTAIL: one that leaves more than the ring unconsumed is ignored (R376). -/
def State.writeTrtail (s : State) (site : Nat) (v : Word) : State :=
  s.modCore site fun c =>
    let t := { c.trace with trtail := v &&& 0xFFFFFFE0 }
    if t.ringSize < t.inRing then c else { c with trace := t }
/-- TRTAIL_WRITE, by the issuing thread. -/
def execTrtailWrite (v : Word) (s : State) : Host.Outcome State Fault Refusal := .next (s.writeTrtail s.site v)

/-! ### Debug stop (R372, R382) -/

/-- STOPPED: STOP is 1 and every thread is free or idle (R382). -/
def State.stopped (s : State) (site : Nat) : Bool :=
  (s.core site).trace.dbgctl.getLsbD 0 && (List.range 4).all fun i => !(s.thread (4 * site + i)).running
/-- DBGCTL as it reads (R372). -/
def State.readDbgctl (s : State) (site : Nat) : Word :=
  ((s.core site).trace.dbgctl &&& 5) ||| (if s.stopped site then 2 else 0)
/-- DBGCTL is written: STOP takes the value, WPHIT is cleared by a one. -/
def State.writeDbgctl (s : State) (site : Nat) (stop wphit : Bool) : State :=
  s.modCore site fun c => { c with trace := { c.trace with
    dbgctl := (if stop then 1 else 0) ||| (if wphit then 0 else c.trace.dbgctl &&& 4) } }
/-- DBGCTL_WRITE, by the issuing thread. -/
def execDbgctlWrite (v : Word) (s : State) : Host.Outcome State Fault Refusal :=
  .next (s.writeDbgctl s.site (v.getLsbD 0) (v.getLsbD 2))

/-! ### Repair of device memory (R370) -/

/-- A row has been copied to its spare: what ECC corrects is sound there, its errors are counted anew. -/
def Hbm.repaired (h : Hbm) (k : Nat) : Hbm :=
  { h with rowErr := Map.erase h.rowErr k, ecc := h.ecc.filter fun e => !(e.2 == 1 && rowKey (64 * e.1) == k) }
/-- HBM_ROW_REPAIR: a base die that has recorded 4 corrected errors in a row replaces it by a spare one; contents and poison stay; a rank 1
record with DETAIL 5 is written. -/
def execHbmRowRepair (stack row : Nat) (s : State) : Host.Outcome State Fault Refusal :=
  let k := 8 * row + stack
  if 8 ≤ stack ∨ Map.get (fun _ => 0) s.hbm.rowErr k < 4 then .next s
  else .next ({ s with rows := s.rows ++ [(stack, row)], hbm := s.hbm.repaired k }.record (State.sliceBank (16 * stack))
    { rank := 1, source := 4, unit := 16 * stack, detail := 5 })

end Sys2Proof.Machine
end

