-- ==== Sys2Proof/Machine/Maint.lean ====
section
/-! DEFINITION. Maintenance: translation and instruction caches, error banks, replacing a core, checkpoints (R330 to R332, R335 to R338, R365, R371). -/

namespace Sys2Proof.Machine

/-! ### TLBINV and ICINV (R330 to R332) -/

/-- Entries of the translation caches that a test picks. -/
def State.tlbPick (s : State) (f : TlbEnt → Bool) : List TlbEnt :=
  (s.cores.flatMap fun c => c.2.tlb.filter f) ++ s.shared.toList.flatMap fun l => l.filter f
/-- The caches without the entries that a test picks (R331). -/
def State.tlbDrop (s : State) (f : TlbEnt → Bool) : State :=
  { s with
    cores := s.cores.map fun c => (c.1, { c.2 with tlb := c.2.tlb.filter fun e => !f e })
    shared := s.shared.map fun l => l.filter fun e => !f e }
/-- The virtual address through which a request to a slice was translated (R151, R176). -/
def Msg.xlVa (m : Msg) : Nat := (if m.typ = MT.copydata then m.w[2].toNat else m.w[3].toNat) % 2 ^ 48
/-- The accesses to slices on their way, those that a Referee still holds among them (R146, R157, R165, R368). -/
def State.underWay (s : State) : List Msg :=
  (s.net ++ s.refused ++ (s.resend.map fun e => e.1) ++ (s.hbm.retry.map fun e => e.2) ++
    s.pairs.flatMap fun p => (p.prim ++ p.twin).map fun e => e.1).filter fun m =>
      (match m.dest with | .slice _ => true | _ => false) && m.cls != .rsp
/-- The requests that were translated through one of these entries, or through one for these virtual addresses that a cache has replaced since,
and are not yet performed at their homes (R331). -/
def State.xlPending (s : State) (es : List TlbEnt) (va : BitVec 12 → Nat → Bool) : List Nat :=
  (s.underWay.filter fun m => va m.tenant m.xlVa ||
    es.any fun e => e.ten == m.tenant && decide (e.pa ≤ m.w[0].toNat) && decide (m.w[0].toNat < e.pa + 2 ^ pageBits e.large)).map fun m => m.id
/-- One of some requests is not yet performed. -/
def State.stillUnderWay (s : State) (ids : List Nat) : Bool := s.underWay.any fun m => ids.contains m.id
/-- The entries that a TLBINV removes (R331). -/
def tlbMatch (kind : Nat) (ten : BitVec 12) (va : Nat) (e : TlbEnt) : Bool :=
  if kind = 0 then e.covers ten va else if kind = 1 then e.ten == ten else true

/-- TLBINV (R331). -/
def execTlbinv (s t : XReg) (st : State) : Host.Outcome State Fault Refusal :=
  slot (.tlbinv s t) (fun u =>
    let w := (u.rx t).toNat
    let kind := w / 4096 % 4
    if w / 16384 ≠ 0 ∨ kind = 3 then u.operand
    else
      let ten := BitVec.ofNat 12 w
      let a := (u.rx s).toNat % 2 ^ 48
      let f := tlbMatch kind ten a
      let old := fun (t : BitVec 12) (va : Nat) => kind == 2 || t == ten && (kind == 1 || va / 65536 == a / 65536)
      let wait := u.xlPending (u.tlbPick f) old
      u.fence .rel (
        if u.src.asked then (if u.stillUnderWay u.src.xlIds then u.hold else .done u)
        else if wait = [] then .done (u.tlbDrop f)
        else .wait fun s => (s.tlbDrop f).modCur fun t => { t with asked := true, xlIds := wait })) st

/-- ICINV: the lines of the range leave the instruction cache (R332). -/
def execIcinv (s t : XReg) (st : State) : Host.Outcome State Fault Refusal :=
  slot (.icinv s t) (fun u =>
    let a := (u.rx s).toNat
    let n := (u.rx t).toNat
    let gone := fun (l : ICLine) =>
      decide (n = 0) || decide (2 ^ 24 < n) ||
        (decide (l.addr.toNat / 128 * 128 < a + n) && decide (a < l.addr.toNat / 128 * 128 + 128))
    .done (u.modMyCore fun c => { c with icache := c.icache.filter fun l => !gone l })) st

/-! ### ERRCLR (R365) -/

/-- ERRCLR: the banks of this die. -/
def execErrclr (d s : XReg) (st : State) : Host.Outcome State Fault Refusal :=
  slot (.errclr d s) (fun u =>
    let w := (u.rx s).toNat
    if w / 64 ≠ 0 then u.operand
    else
      let die := State.dieOf u.site
      let all := decide (w / 32 % 2 = 1)
      let bs := if all then List.range 32 else [w % 32]
      let last := if all then 31 else w % 32
      let old := State.errStatus (u.bank (32 * die + last))
      .done ({ u with banks := bs.foldl (fun m b => Map.erase m (32 * die + b)) u.banks }.wx d old)) st

/-! ### CORERET (R371) -/

namespace State

/-- A member is placed on a site, or it is a group root, or a held result remains there. The router of a former root site goes on forwarding when its core
is retired (R229, R371). -/
def coreInUse (s : State) (site : Nat) : Bool :=
  s.hasMember site || s.groups.any (fun e => e.2.st != .ended && e.2.root == site) ||
    !(s.core site).relay.held.isEmpty
/-- The spare is scrubbed and takes the old core's place: its context, its logical id, its FUSE bit (R371). -/
def replaceCore (s : State) (writer old sp id : Nat) : State :=
  let ctx := (s.core old).ctx
  let s1 := (s.startScrub sp).modCore sp fun c => { c with ctx := ctx, icache := [] }
  let s2 := s1.modDie (dieOf old) fun x => { x with retiredIdx := x.retiredIdx ++ [dieIndex old] }
  { s2 with retired := s2.retired ++ [old] }.l2pPut writer id (BitVec.ofNat 13 (4096 + sp))

end State

/-- CORERET (R371). -/
def execCoreret (d s t : XReg) (st : State) : Host.Outcome State Fault Refusal :=
  slot (.coreret d s t) (fun u =>
    let a := (u.rx s).toNat
    let sp := (u.rx t).toNat
    if 4096 ≤ a ∨ 4096 ≤ sp then u.operand
    else if u.src.asked then
      if (u.core sp).scrub.isSome || u.l2p.upd.any (fun x => x.idx == a && decide (x.got.length < 4096)) then u.hold else .done (u.wx d 0)
    else match u.siteOf u.site a with
      | none => .done (u.wx d 3)
      | some old =>
        if 4000 ≤ a ∨ State.dieOf sp ≠ State.dieOf old ∨ u.active sp = false ∨
            (!(State.idsNaming sp u.l2p.base).isEmpty || u.l2p.upd.any fun x => x.val.getLsbD 12 && x.val.toNat % 4096 == sp) = true then
          .done (u.wx d 3)
        else if u.coreInUse old then .done (u.wx d 1)
        else .wait fun v => (v.replaceCore v.site old sp a).modCur fun x => { x with asked := true }) st

/-! ### Checkpoints (R335 to R338) -/

namespace State

/-- The handle of a checkpoint resolves: status, records, bytes, INCR (R335). -/
def ckptResolve (s : State) (c : Ckpt) (st : Nat) : State :=
  s.send { s.toRelay .bridge 3 (s.keyMsg c.key) c.handle MT.reply with
    nflit := 1, w := #v[c.handle, 0, 0, 0, 0, 0]
    pay := BitVec.ofNat 4096 (st + 2 ^ 64 * c.recs + 2 ^ 128 * c.bytes + 2 ^ 192 * c.incr.toNat) }
/-- The checkpoint engine's message to a group's root: GPARK or GRUN (R338). -/
def ckptCtl (s : State) (slot fn : Nat) (name : Word) : State :=
  s.send {
    id := 0, frm := .bridge, dest := .root (nmIdx (grpOf name)), cls := .req, typ := MT.grpctl, dst := ⟨0x7FF, 0xFFF, 0⟩, src := ⟨0x7FF, 0xFFF, 0⟩
    fl := { sup := true }, spec := BitVec.ofNat 19 fn, w := #v[0, BitVec.ofNat 64 slot, name, 0, 0, 0] }
/-- The state with the checkpoint of a slot changed. -/
def modCkpt (s : State) (slot : Nat) (f : Ckpt → Ckpt) : State := { s with ckpts := s.ckpts.map fun c => if c.slot = slot then f c else c }
/-- Without it. -/
def dropCkpt (s : State) (slot : Nat) : State := { s with ckpts := s.ckpts.filter fun c => c.slot != slot }

/-- The units of the range that a leaf maps, from an address on. -/
def unitsOf (c : Ckpt) (va : Nat) (l : Leaf) : Nat :=
  (min c.upto ((va / 2 ^ pageBits l.large + 1) * 2 ^ pageBits l.large) - va) / 65536
/-- Where the walk goes on when an address has no leaf. -/
def skipTo (s : State) (root va : Nat) : Nat :=
  match s.tableEntry (root + 8 * (va / 2 ^ 42 % 64)) with
  | some e1 =>
    if isTable e1 then
      match s.tableEntry (frameOf e1 + 8 * (va / 2 ^ 29 % 8192)) with
      | some e2 => if isTable e2 then va + 65536 else (va / 2 ^ 29 + 1) * 2 ^ 29
      | none => (va / 2 ^ 29 + 1) * 2 ^ 29
    else (va / 2 ^ 42 + 1) * 2 ^ 42
  | none => (va / 2 ^ 42 + 1) * 2 ^ 42
/-- The next selected leaf of a range (R336). -/
def nextLeaf (s : State) (root upto : Nat) (full : Bool) : Nat → Nat → Option (Nat × Leaf)
  | 0, _ => none
  | n + 1, va =>
    if upto ≤ va then none
    else match s.walk root va with
      | none => s.nextLeaf root upto full n (s.skipTo root va)
      | some l =>
        if full || l.val / 32 % 2 == 1 then some (va, l)
        else s.nextLeaf root upto full n ((va / 2 ^ pageBits l.large + 1) * 2 ^ pageBits l.large)

/-- The record of a unit, as a number (R336). -/
def ckptRecord (s : State) (key va pa : Nat) (incr : BitVec 32) : Nat :=
  let sec := (List.range 1024).map fun i => s.hbm.read key (pa + 64 * i) 64
  let bad := (List.range 1024).filter fun i => (sec[i]?.map fun x => x.2) == some true
  let map := (bad.map fun i => 2 ^ i).sum
  let fe := ((List.range 8192).map fun i => if s.hbmFull (pa + 8 * i) then 2 ^ i else 0).sum
  let text := sec.zipIdx.foldl (fun (x : Nat) (e : (Nat × Bool) × Nat) => x + (if e.1.2 then 0 else e.1.1) * 2 ^ (512 * e.2)) 0
  0x54504B43 + va * 2 ^ 64 + incr.toNat * 2 ^ 128 + (if bad = [] then 0 else 2 ^ 160) + map * 2 ^ 512 + fe * 2 ^ (8 * 0xC0) + text * 2 ^ (8 * 0x4C0)

/-- The walk has ended with a status: the groups that a CUT parked return to RUNNING, then the handle resolves (R335, R338). -/
def ckptEnd (s : State) (c : Ckpt) (st : Nat) : State :=
  if c.parked = [] then (s.ckptResolve c st).dropCkpt c.slot
  else c.parked.foldl (fun (u : State) n => u.ckptCtl c.slot 5 n)
    (s.modCkpt c.slot fun x => { x with ending := some st, await := c.parked.length, cur := none })

/-- A unit of the selected leaf is written to the stream; a host write that fails ends the walk, and D is set again (R336). -/
def ckptUnit (s : State) (c : Ckpt) (l : CkLeaf) (key : Nat) : State :=
  let va := l.page + 65536 * l.unit
  let off := c.dest % 2 ^ 48 + c.bytes
  if 2 ^ 48 < off + 66752 then
    ((s.orLeaf l.addr dBit).dirtyCopies l.addr).ckptEnd c 4
  else
    let pa := l.pa + 65536 * l.unit
    let ten := (s.slotOf c.slot).tenant
    let seen := ((List.range 512).map fun i => pa + 128 * i).foldl (fun u a => u.secSeen ten key a 128) s
    let s1 := { seen with host := s.host.store off 66752 (s.ckptRecord key va pa c.incr) }
    s1.modCkpt c.slot fun x => { x with
      recs := x.recs + 1, bytes := x.bytes + 66752, va := va + 65536
      cur := if l.unit + 1 < l.upto then some { l with unit := l.unit + 1 } else none }

end State

/-- CKPT_WALK: the walk of a slot's checkpoint takes its next step: it selects a leaf and clears its D; drops it from the caches once what was translated
through it is performed; writes a unit; or ends (R336). -/
def execCkptWalk (slot : Nat) (s : State) : Host.Outcome State Fault Refusal :=
  match s.ckpts.find? fun c => c.slot == slot with
  | none => .next s
  | some c =>
    if 0 < c.await then .next s
    else match c.ending with
      | some st => .next ((s.ckptResolve c st).dropCkpt slot)
      | none =>
        let x := s.slotOf slot
        match s.keyOf x.tenant with
        | none => .next (s.ckptEnd c 1)
        | some key =>
          match c.cur with
          | some l =>
            if l.clear then .next (s.ckptUnit c l key)
            else if l.ids.isSome then
              if s.stillUnderWay (l.ids.getD []) then .next s else .next (s.modCkpt slot fun y => { y with cur := some { l with clear := true } })
            else
              let f := fun (e : TlbEnt) => e.covers x.tenant l.page
              -- the leaf's own translation: a cache may have replaced the entry, and the gate holds none
              let own : TlbEnt := { ten := x.tenant, va := l.page, large := l.large, pa := l.pa, perm := 0, leaf := l.addr }
              .next ((s.tlbDrop f).modCkpt slot fun y => { y with cur := some { l with ids := some (s.xlPending (own :: s.tlbPick f) fun _ _ => false) } })
          | none =>
            match s.nextLeaf x.root.toNat c.upto (c.mode == 2) ((c.upto - c.va) / 65536 + 1) c.va with
            | none => .next (s.ckptEnd c 0)
            | some (va, lf) =>
              let n := State.unitsOf c va lf
              if c.room < c.bytes + 66752 * n then .next (s.ckptEnd c 3)
              else
                let page := va / 2 ^ pageBits lf.large * 2 ^ pageBits lf.large
                let u0 := (va - page) / 65536
                let s1 := { s with hbm := { s.hbm with bytes := s.hbm.bytes.setByte lf.addr (s.hbm.bytes.byte lf.addr &&& ~~~dBit) } }
                .next (s1.modCkpt slot fun y => { y with
                  va := va, cur := some { addr := lf.addr, page := page, pa := frameOf lf.val, large := lf.large, unit := u0, upto := u0 + n } })

/-- A descriptor of CKPT, within its ranges (R335). -/
def ckptOf (x : Nat) : Option Ckpt :=
  let f := fun (off n : Nat) => x / 2 ^ (8 * off) % 2 ^ (8 * n)
  let dest := f 0 8
  let va := f 0x10 8
  let upto := f 0x18 8
  let mode := f 0x24 1
  let slot := f 0x25 1
  if windowOf dest ≠ 4 ∨ windowOk dest 1 = false ∨ dest % 64 ≠ 0 ∨ va % 65536 ≠ 0 ∨ upto % 65536 ≠ 0 ∨ upto ≤ va ∨ 2 ^ 48 < upto ∨ 2 < mode ∨
      slot = 0 ∨ 63 < slot ∨ f 0x26 10 ≠ 0 then none
  else some { slot := slot, key := 0, handle := 0, dest := dest, room := f 8 8, va := va, upto := upto, incr := BitVec.ofNat 32 (f 0x20 4), mode := mode }

/-- CKPT: a promise slot is taken and the walk begins; one that cannot begin resolves at once (R335, R338). -/
def execCkpt (d s : XReg) (st : State) : Host.Outcome State Fault Refusal :=
  slot (.ckpt d s) (fun u =>
    u.readBlock (u.rx s) 16 48 fun x =>
      match ckptOf x with
      | none => u.operand
      | some c0 =>
        if u.freePslots u.site = [] then u.hold
        else
          let (h, u1) := u.newHandle u.ctx.key true
          let u2 := u1.wx d h
          let c : Ckpt := { c0 with key := u.ctx.key, handle := h }
          let k := (u.slotOf c.slot).st
          if k ≠ .active ∧ k ≠ .growing ∧ k ≠ .shrinking then .done (u2.ckptResolve c 1)
          else if u.ckpts.any (fun o => o.slot == c.slot) then .done (u2.ckptResolve c 2)
          else
            let names := if c.mode = 1 then
                (u.groups.filter fun e => e.2.st == .running && e.2.desc.slot.toNat == c.slot).map fun e => e.2.name.setWidth 64 else []
            .done (names.foldl (fun (v : State) n => v.ckptCtl c.slot 4 n)
              { u2 with ckpts := u2.ckpts ++ [{ c with await := names.length }] })) st

end Sys2Proof.Machine
end

