-- ==== Sys2Proof/Machine/Answers.lean ====
section
/-! DEFINITION. ACK, NACK and load data at those who await them (R31, R151 to R157, R237, R280, R301). -/

namespace Sys2Proof.Machine

/-- A location as an ACK carries it in inline bytes 16 to 23 (R237): bit 63 says that there is one. -/
def Who.word (w : Who) : Word := ((1 : BitVec 1) ++ (0 : BitVec 38) ++ w.dev ++ w.core ++ w.thr).setWidth 64
/-- The location that an ACK carries. -/
def Who.ofWord (x : Word) : Option Who := if x.getLsbD 63 then some ⟨x.extractLsb' 14 11, x.extractLsb' 2 12, x.extractLsb' 0 2⟩ else none

namespace State

/-- The answer to a message that the core remembers: the entry goes, the location is kept (R157, R237). -/
def sentAnswer (s : State) (site : Nat) (m : Msg) : State :=
  s.modCore site fun c =>
    match c.sent.find? fun e => e.id == m.w[5].toNat with
    | none => c
    | some e =>
      let c1 := { c with sent := c.sent.filter fun x => x.id != e.id }
      let n := grpOf e.target
      let root := c1.useLoc (memberWord n 0xFFF) ⟨nmDev n, m.src.core, 0⟩
      let c2 := match m.frm with
        | .root _ => if e.target = 0 then c1 else root
        -- on another device it is the root that answers for itself, and that sends a location (R237, R248, log 97)
        | .out _ => if (memOf e.target = 0xFFF ∨ (Who.ofWord m.w[0]).isSome = true) ∧ e.target ≠ 0 ∧ m.src.core ≠ 0xFFF then root else c1
        | _ => c1
      match Who.ofWord m.w[0] with
      | some w => if e.target = 0 then c2 else c2.useLoc e.target w
      | none => c2
/-- An invocation that was answered NACK: its handle breaks (R223, R269), with a free one of the codes that name their own handle as origin where
the status gives none (R269, R270, log 72); a post writes a record. -/
def invRefused (s : State) (a : Agent) (site : Nat) (m : Msg) : State :=
  let like := { m with src := m.dst }
  if m.status = 2 then s.breakOrRecord a site like 4 m.w[1]
  else if m.status = 3 then s.breakOrRecord a site like 9 m.w[1]
  else
    let (r, s1) := s.drawWord
    s1.breakOrRecord a site like ([1, 2, 3, 4, 5, 7, 8, 9].getD (r.toNat % 8) 1) m.w[1]
/-- What a node or a root sent down the tree of a group was answered NACK: a pass breaks, the members of a start are reported as not started
(R153, R269, R304, log 106). -/
def sentDownRefused (s : State) (a : Agent) (site : Nat) (m : Msg) : State :=
  if m.typ ≠ MT.nack then s
  else if m.w[4] = MT.pass.setWidth 64 then s.invRefused a site m
  else if m.w[4] = MT.kick.setWidth 64 then s.kickRefused site m
  else s
/-- A FETCH that was answered NACK. -/
def fetchRefused (s : State) (site : Nat) (m : Msg) : State :=
  if m.w[1] = 1 then s.slotAnswer site m
  else if m.w[1] = 2 then s.modThread (m.threadAt site) fun t => if t.asked then { t with answer := some 0x703 } else t
  else s.coreValue site m.w[0] true (breakRec 7 m.w[0])

/-- The read through the host bridge that a FENCE awaits has ended (R294). -/
def fenceRead (s : State) (site : Nat) (m : Msg) : State :=
  s.modThread (m.threadAt site) fun t => if t.asked then { t with answer := some 0 } else t
/-- An ACK or NACK at a core. -/
def answerAtCore (s : State) (site : Nat) (m : Msg) : State :=
  let typ : BitVec 6 := m.w[4].setWidth 6
  s.delivered site m fun u =>
    if typ = MT.load ∧ (m.w[2] = 1 ∨ m.w[2] = 3) then u.copyAnswer site m
    else if typ = MT.load ∧ m.w[2] = 2 then u.fenceRead site m
    else if [MT.load, MT.store, MT.atomic, MT.loadfe, MT.storefe].contains typ then u.slotAnswer site m
    else if typ = MT.copydata ∨ typ = MT.mcast then u.copyAnswer site m
    else if typ = MT.rstv then (u.copyAnswer site m).sentAnswer site m
    else if [MT.inv, MT.invx, MT.pass, MT.kick].contains typ then
      let v := u.sentAnswer site m
      if m.typ = MT.nack then v.invRefused (.core site) site m else v
    else if typ = MT.fetch ∧ m.typ = MT.nack then u.fetchRefused site m
    else u
/-- An ACK or NACK at a group's root: a Huddle confirms, or the core that took a forwarded message has answered, and so does the root (R237, R280). -/
def answerAtRoot (s : State) (gi : Nat) (m : Msg) : State :=
  if m.w[4] = MT.barconfig.setWidth 64 then s.barConfirmed gi
  else match s.grp gi with
    | none => s
    | some g => match g.fwds.find? fun e => e.1 == m.w[5].toNat with
      | none => s.sentDownRefused (.root gi) g.root m
      | some e =>
        let s1 := s.modGroup gi fun g => { g with fwds := g.fwds.filter fun x => x.1 != e.1 }
        let a := statusMsg e.2 m.status
        s1.send { a with w := a.w.set 0 (if m.typ = MT.ack then (⟨nmDev e.2.groupName, s.coreId (siteOfAgent m.frm), m.src.thr⟩ : Who).word else 0) }
/-- An ACK or NACK arrives. -/
def takeAnswer (s : State) (k : Nat) (typ : BitVec 6) : State :=
  match s.answer k typ with
  | none => s
  | some m =>
    if m.isFlood && (match m.dest with | .router _ => true | _ => false) then s
    else
      let u := s.dropMsg k
      match m.dest with
      | .core site => u.answerAtCore site m
      | .root gi => u.answerAtRoot gi m
      | .bridge => if m.w[4] = MT.hostframe.setWidth 64 then u.hostAnswered m.w[1].toNat (typ == MT.ack) else u
      | .router site => u.sentDownRefused (.router site) site m
      | .slice _ | .out _ | .gate | .former _ => u

end State

/-- ACK (R153). -/
def execAck (msg : Nat) (s : State) : Host.Outcome State Fault Refusal := .next (s.takeAnswer msg MT.ack)
/-- NACK (R153). -/
def execNack (msg : Nat) (s : State) : Host.Outcome State Fault Refusal := .next (s.takeAnswer msg MT.nack)
/-- LOAD_RESPONSE: data reach the requester: the destination is written and the slot freed, or a copy's line has come (R155, R179). -/
def execLoadResponse (msg : Nat) (s : State) : Host.Outcome State Fault Refusal :=
  match s.answer msg MT.load with
  | some m =>
    match m.dest with
    | .core site =>
      .next ((s.dropMsg msg).delivered site m fun u =>
        if m.w[4] = MT.load.setWidth 64 ∧ (m.w[2] = 1 ∨ m.w[2] = 3) then u.copyAnswer site m
        else if m.w[4] = MT.load.setWidth 64 ∧ m.w[2] = 2 then u.fenceRead site m
        else u.slotAnswer site m)
    | .slice _ | .bridge | .router _ | .root _ | .out _ | .gate | .former _ => .next s
  | none => .next s

end Sys2Proof.Machine
end

