-- ==== Sys2Proof/Machine/CtrlReg.lean ====
section
/-! DEFINITION. Control registers: CRR, CRW, CRSET, CRCLR, and what each register reads and does (R26 to R28, R106 to R108). -/

namespace Sys2Proof.Machine

/-- The three writing forms (R107). -/
inductive CrOp where
  | write | set | clear
  deriving DecidableEq, Repr, Inhabited

/-- The new value of an RW field (R107). -/
def CrOp.rw (o : CrOp) (old x : Word) : Word := match o with | .write => x | .set => old ||| x | .clear => old &&& ~~~x
/-- The value written to a WO field. -/
def CrOp.wo (o : CrOp) (x : Word) : Word := match o with | .write => x | .set => x | .clear => 0
/-- The bits of a W1C field that are cleared. -/
def CrOp.w1c (o : CrOp) (x : Word) : Word := match o with | .write => x | .set => 0 | .clear => x

/-- The assigned numbers (R26, R28). -/
def crAssigned (n : Nat) : Bool :=
  let within := fun (a b : Nat) => decide (a ≤ n) && decide (n ≤ b)
  within 0 7 || within 0x40 0x41 || within 0x80 0x88 || within 0xC0 0xC1 || within 0xC4 0xC7 || within 0x100 0x102 || within 0x104 0x104 ||
    within 0x140 0x140 || within 0x180 0x187 || within 0x1C0 0x1C2 || within 0x800 0x80F || within 0x820 0x821 || within 0x840 0x845 ||
    within 0x847 0x848 || within 0x880 0x885 || within 0x8C0 0x8CA || within 0x8E0 0x8E7 || within 0x8F0 0x8F0 || within 0x900 0x923 ||
    within 0x940 0x963 || within 0x970 0x972
/-- Registers that a user access may not name (R26). -/
def crSup (n : Nat) : Bool := decide (0x800 ≤ n) || (decide (0x180 ≤ n) && decide (n ≤ 0x184)) || decide (n = 0x186)

/-- The fault of an access to a register (R26): PRIVILEGE or ILLEGAL. -/
def State.crFault (u : State) (n : Nat) : Option (Cause × Word) :=
  if 0x800 ≤ n ∧ u.src.sup = false then some (.privilege, BitVec.ofNat 64 n)
  else if crAssigned n = false then some (.illegal, u.wordVal)
  else if crSup n ∧ u.src.sup = false then some (.privilege, BitVec.ofNat 64 n)
  else none

namespace State

/-! ### Reading (R26, R28) -/

/-- Registers of the thread. -/
def crThread (u : State) (t : Thread) (n : Nat) : Word :=
  let site := u.site
  match n with
  | 0x000 => BitVec.ofNat 64 (u.ctx.key % 4)
  | 0x001 => (u.coreId site).setWidth 64
  | 0x002 => (u.devReg t.sup t.ctl.tenant).setWidth 64
  | 0x003 => t.ctl.tenant.setWidth 64
  | 0x004 => t.ctl.gname.setWidth 64
  | 0x005 => t.ctl.member.setWidth 64
  | 0x006 => t.ctl.vallot.setWidth 64
  | 0x007 => t.ctl.physxy.setWidth 64
  | 0x040 => t.ctl.vctl.setWidth 64
  | 0x041 => t.ctl.vflags.setWidth 64
  | 0x080 => t.ctl.fmta.setWidth 64
  | 0x081 => t.ctl.fmtb.setWidth 64
  | 0x082 => t.ctl.scla
  | 0x083 => t.ctl.sclb
  | 0x084 => t.ctl.fade.setWidth 64
  | 0x085 => t.ctl.mprio.setWidth 64
  | 0x086 => t.ctl.accbase.setWidth 64
  | 0x087 => t.ctl.acclen.setWidth 64
  | 0x088 => t.ctl.msat.setWidth 64
  | 0x0C0 => u.myCore.tags.tdone
  | 0x0C1 => u.myCore.tags.terr
  | 0x0C4 => t.ctl.cpa[0]
  | 0x0C5 => t.ctl.cpa[1]
  | 0x0C6 => t.ctl.cpa[2]
  | 0x0C7 => t.ctl.cpa[3]
  | 0x100 => t.ctl.tgen
  | 0x101 => u.tgpend u.ctx.key
  | 0x102 => t.ctl.acttag.setWidth 64
  | 0x104 => t.ctl.sbhold.setWidth 64
  | 0x140 => t.ctl.bartmo
  | 0x180 => t.sys.tvec
  | 0x181 => t.sys.epc
  | 0x182 => t.sys.ecause.setWidth 64
  | 0x183 => t.sys.eval
  | 0x184 => t.sys.estatus.setWidth 64
  | 0x185 => t.sys.rgnpc
  | 0x186 => t.sys.repcnt
  | 0x187 => if t.inAct then t.sys.wdog else 0
  | 0x1C0 => u.myCore.cycle
  | 0x1C1 => u.cur.sys.issued
  | _ => u.time

/-- Registers of the core and the device. -/
def crDevice (u : State) (t : Thread) (n : Nat) : Word :=
  let site := u.site
  let c := u.myCore
  let x := u.slotOf c.sel.ctxsel.toNat
  let b := u.bank (32 * dieOf site + c.sel.errsel.toNat)
  if n ≤ 0x80F then u.fuseWord site (n - 0x800)
  else if 0x8E0 ≤ n ∧ n ≤ 0x8E7 then 0
  else if 0x900 ≤ n ∧ n ≤ 0x923 then (u.port (n - 0x900)).ctl
  else if 0x940 ≤ n ∧ n ≤ 0x963 then (u.port (n - 0x940)).stat
  else match n with
    | 0x820 => c.sel.l2pidx.setWidth 64
    | 0x821 => (u.l2pAt site c.sel.l2pidx.toNat).setWidth 64
    | 0x840 => c.sel.ctxsel.setWidth 64
    | 0x841 => (x.err ++ BitVec.ofNat 3 x.st.code ++ x.func ++ x.tenant).setWidth 64
    | 0x842 => x.rect.setWidth 64
    | 0x843 => x.root
    | 0x844 => x.chan.setWidth 64
    | 0x845 => 0
    | 0x847 => t.sys.acctx.setWidth 64
    | 0x848 => 0
    | 0x880 => c.sel.errsel.setWidth 64
    | 0x881 => errStatus b
    | 0x882 => b.addr
    | 0x883 => b.synd
    | 0x884 => b.time
    | 0x885 => b.info
    | 0x8C0 => c.trace.trbase
    | 0x8C1 => c.trace.trctl
    | 0x8C2 => c.trace.trhead
    | 0x8C3 => c.trace.trtail
    | 0x8C4 => u.readDbgctl site
    | 0x8C5 => c.trace.wpaddr
    | 0x8C6 => c.trace.wpctl
    | 0x8C7 => (u.die (dieOf site)).drpctl
    | 0x8C8 => t.sys.qwait
    | 0x8C9 => t.sys.srch
    | 0x8CA => t.sys.runc
    | 0x8F0 => u.pwrlim.setWidth 64
    | 0x970 => c.sel.rtidx.setWidth 64
    | 0x971 => (Map.get (fun _ => 0) u.routes c.sel.rtidx.toNat).setWidth 64
    | _ => u.nodeId.setWidth 64

/-- A register as CRR reads it at issue (R107, R108). -/
def crRead (u : State) (n : Nat) : Word := if n < 0x800 then u.crThread u.src n else u.crDevice u.src n

/-! ### Writing (R107) -/

/-- The sites' registers that select: the state with them changed. -/
def modSel (u : State) (f : Sel → Sel) : State := u.modMyCore fun c => { c with sel := f c.sel }
/-- The trace unit's registers changed. -/
def modTrace (u : State) (f : Trace → Trace) : State := u.modMyCore fun c => { c with trace := f c.trace }

/-- VALLOT takes a value only if it is an allotment (R26). -/
def allotOk (v : Word) : Bool := let n := v.toNat % 64; n == 8 || n == 16 || n == 24 || n == 32
/-- A write of a register of the thread: its fields by access code (R26, R107). Registers that are RO in the thread's mode do not change.
A write of WDOG arms that budget too (the model's choice, log 93). -/
def crPutThread (u : State) (o : CrOp) (n : Nat) (x : Word) : State :=
  let t := u.src
  let c := t.ctl
  let y := t.sys
  let ctl := fun (f : Ctl → Ctl) => u.modCur fun t => { t with ctl := f t.ctl }
  let sys := fun (f : Sys → Sys) => u.modCur fun t => { t with sys := f t.sys }
  let sup := fun (v : State) => if t.sup then v else u
  let cpa := fun (i : Fin 4) => ctl fun k => { k with cpa := k.cpa.set i.val (cpaOf (o.rw c.cpa[i] x)) }
  match n with
  | 0x006 => sup (let v := o.rw (c.vallot.setWidth 64) x
      if allotOk v then { u with ctx := { u.ctx with after := .vallot (v.setWidth 6) } } else u)
  | 0x040 => ctl fun k => { k with vctl := (o.rw (c.vctl.setWidth 64) x).setWidth 3 }
  | 0x041 => ctl fun k => { k with vflags := c.vflags &&& ~~~((o.w1c x).setWidth 5) }
  | 0x080 => ctl fun k => { k with fmta := (o.rw (c.fmta.setWidth 64) x).setWidth 2 }
  | 0x081 => ctl fun k => { k with fmtb := (o.rw (c.fmtb.setWidth 64) x).setWidth 7 }
  | 0x082 => ctl fun k => { k with scla := o.rw c.scla x }
  | 0x083 => ctl fun k => { k with sclb := o.rw c.sclb x }
  | 0x084 => ctl fun k => { k with fade := (o.rw (c.fade.setWidth 64) x).setWidth 32 }
  | 0x085 => ctl fun k => { k with mprio := (o.rw (c.mprio.setWidth 64) x).setWidth 2 }
  | 0x086 => sup (ctl fun k => { k with accbase := (o.rw (c.accbase.setWidth 64) x).setWidth 8 })
  | 0x087 => sup (ctl fun k => { k with acclen := (o.rw (c.acclen.setWidth 64) x).setWidth 9 })
  | 0x088 => ctl fun k => { k with msat := c.msat &&& ~~~((o.w1c x).setWidth 1) }
  | 0x0C4 => cpa 0
  | 0x0C5 => cpa 1
  | 0x0C6 => cpa 2
  | 0x0C7 => cpa 3
  | 0x100 => u.setTgen fun _ => o.rw c.tgen x
  | 0x140 => ctl fun k => { k with bartmo := o.rw c.bartmo x }
  | 0x180 => sys fun k => { k with tvec := o.rw y.tvec x &&& ~~~3#64 }
  | 0x181 => sys fun k => { k with epc := o.rw y.epc x }
  | 0x182 => sys fun k => { k with ecause := (o.rw (y.ecause.setWidth 64) x).setWidth 9 }
  | 0x183 => sys fun k => { k with eval := o.rw y.eval x }
  | 0x184 => sys fun k => { k with estatus := (o.rw (y.estatus.setWidth 64) x).setWidth 4 }
  | 0x185 => sup (sys fun k => { k with rgnpc := o.rw y.rgnpc x })
  | 0x186 => sys fun k => { k with repcnt := o.rw y.repcnt x }
  | 0x187 => sup (sys fun k => { k with wdog := o.rw y.wdog x, armed := some (o.rw y.wdog x) })
  | _ => u

/-- CTXCFG: TENANT and FUNC change in FREE only; FUNC up to 64 (R314). -/
def writeCtxcfg (u : State) (slot : Nat) (o : CrOp) (x : Word) : State :=
  let c := u.slotOf slot
  if slot = 0 ∨ c.st ≠ .free then u
  else
    let v := o.rw ((c.func ++ c.tenant).setWidth 64) x
    let f : BitVec 7 := v.extractLsb' 12 7
    u.modSlot slot fun c => { c with tenant := v.setWidth 12, func := if f.toNat ≤ 64 then f else c.func }
/-- PORTSTAT: REPLAY is RW, FAIL is W1C (R340). -/
def writePortstat (u : State) (p : Nat) (o : CrOp) (x : Word) : State :=
  u.modPort p fun q => { q with
    replay := ((o.rw (q.replay.setWidth 64 <<< 24) x) >>> 24).setWidth 16, fail := q.fail &&& ~~~(((o.w1c x) >>> 8).setWidth 8) }

/-- A write of a register of the core or the device, other than HFSEND (R28, R107). -/
def crPutDevice (u : State) (o : CrOp) (n : Nat) (x : Word) : State :=
  let site := u.site
  let c := u.myCore
  let y := u.src.sys
  let k := c.sel.ctxsel.toNat
  let s := u.slotOf k
  let sys := fun (f : Sys → Sys) => u.modCur fun t => { t with sys := f t.sys }
  if 0x8E0 ≤ n ∧ n ≤ 0x8E7 then u.measx site (n - 0x8E0) (o.wo x)
  else if 0x900 ≤ n ∧ n ≤ 0x923 then u.writePortctl (n - 0x900) (o.rw (u.port (n - 0x900)).ctl x)
  else if 0x940 ≤ n ∧ n ≤ 0x963 then u.writePortstat (n - 0x940) o x
  else match n with
    | 0x820 => u.modSel fun e => { e with l2pidx := (o.rw (e.l2pidx.setWidth 64) x).setWidth 12 }
    | 0x821 => u.l2pWrite site (o.rw ((u.l2pAt site c.sel.l2pidx.toNat).setWidth 64) x)
    | 0x840 => u.modSel fun e => { e with ctxsel := (o.rw (e.ctxsel.setWidth 64) x).setWidth 6 }
    | 0x841 => u.writeCtxcfg k o x
    | 0x842 => u.ctxRect k ((o.rw (s.rect.setWidth 64) x).setWidth 24)
    | 0x843 => u.modSlot k fun e => { e with root := o.rw e.root x &&& ~~~0xFFFF#64 }
    | 0x844 => if k = 0 then u else u.modSlot k fun e => { e with chan := (o.rw (e.chan.setWidth 64) x).setWidth 14 }
    | 0x845 => if (o.wo x).toNat % 4 = 1 then u.ctxCreate k else if (o.wo x).toNat % 4 = 2 then u.ctxDestroy k else u
    | 0x847 => sys fun e => { e with acctx := (o.rw (y.acctx.setWidth 64) x).setWidth 6 }
    | 0x880 => u.modSel fun e => { e with errsel := (o.rw (e.errsel.setWidth 64) x).setWidth 5 }
    | 0x8C0 => u.modTrace fun e => { e with trbase := o.rw e.trbase x &&& 0x0000FFFFFFFF0000 }
    | 0x8C1 => u.modTrace fun e =>
        let v := o.rw e.trctl x
        { e with trctl := if v.toNat / 512 % 16 ≤ 8 then v &&& 0x1FFF else (v &&& 0x1FF) ||| (e.trctl &&& 0x1E00) }
    | 0x8C3 => u.writeTrtail site (o.rw c.trace.trtail x)
    | 0x8C4 => u.writeDbgctl site ((o.rw c.trace.dbgctl x).getLsbD 0) ((o.w1c x).getLsbD 2)
    | 0x8C5 => u.modTrace fun e => { e with wpaddr := o.rw e.wpaddr x &&& ~~~7#64 }
    | 0x8C6 => u.modTrace fun e => { e with wpctl := o.rw e.wpctl x &&& 3 }
    | 0x8C7 => u.modDie (dieOf site) fun e => { e with drpctl := o.rw e.drpctl x &&& 0x1FF }
    | 0x8C8 => sys fun e => { e with qwait := o.rw y.qwait x }
    | 0x8C9 => sys fun e => { e with srch := o.rw y.srch x }
    | 0x8CA => sys fun e => { e with runc := o.rw y.runc x }
    | 0x8F0 =>
      let v : BitVec 12 := (o.rw (u.pwrlim.setWidth 64) x).setWidth 12
      if v.toNat ≤ 2400 then { u with pwrlim := v } else u
    | 0x970 => u.modSel fun e => { e with rtidx := (o.rw (e.rtidx.setWidth 64) x).setWidth 11 }
    | 0x971 => u.writeRtdata site (o.rw ((Map.get (fun _ => 0) u.routes c.sel.rtidx.toNat).setWidth 64) x)
    | 0x972 => u.writeNodeId (o.rw (u.nodeId.setWidth 64) x)
    | _ => u

/-- A writing form (R107): its checks, then its effect. -/
def crWrite (u : State) (o : CrOp) (x : XReg) (cr : BitVec 12) : SlotRes :=
  let n := cr.toNat
  match u.crFault n with
  | some (k, v) => u.fault k v
  | none =>
    let w := u.rx x
    if n < 0x800 then .done (u.crPutThread o n w)
    else if n = 0x848 then u.hfsend (o.wo w) .done
    else .done (u.crPutDevice o n w)

end State

/-- CRR (R107). -/
def execCrr (x : XReg) (cr : BitVec 12) (st : State) : Host.Outcome State Fault Refusal :=
  slot (.crr x cr) (fun u => match u.crFault cr.toNat with
    | some (k, v) => u.fault k v
    | none => .done (u.wx x (u.crRead cr.toNat))) st
/-- CRW (R107). -/
def execCrw (x : XReg) (cr : BitVec 12) (st : State) : Host.Outcome State Fault Refusal :=
  slot (.crw x cr) (fun u => u.crWrite .write x cr) st
/-- CRSET (R107). -/
def execCrset (x : XReg) (cr : BitVec 12) (st : State) : Host.Outcome State Fault Refusal :=
  slot (.crset x cr) (fun u => u.crWrite .set x cr) st
/-- CRCLR (R107). -/
def execCrclr (x : XReg) (cr : BitVec 12) (st : State) : Host.Outcome State Fault Refusal :=
  slot (.crclr x cr) (fun u => u.crWrite .clear x cr) st

/-- VALLOT_WRITE: the issuing thread's allotment changes; registers at or above it lose their contents (R108). -/
def execVallotWrite (v : Word) (s : State) : Host.Outcome State Fault Refusal :=
  if State.allotOk v then .next (s.modCur fun t => { t.dropAbove (v.toNat % 64) with ctl := { t.ctl with vallot := v.setWidth 6 } })
  else .next s
/-- TGEN_WRITE: waiting arrivals of the enabled tags become eligible (R108). -/
def execTgenWrite (v : Word) (s : State) : Host.Outcome State Fault Refusal := .next (s.setTgen fun _ => v)

end Sys2Proof.Machine
end

