-- ==== Sys2Proof/Machine/Rep.lean ====
section
/-! DEFINITION. The register fields of A-words, and the iterations of a REP unit (R111 to R114). -/

namespace Sys2Proof.Machine

/-- The register fields of an A-word: the first register of a field and how many it names. `s3` is fixed under REP (R112). -/
structure AFields where
  d : Option (RegRef × Nat)
  s1 : Option (RegRef × Nat)
  s2 : Option (RegRef × Nat)
  s3 : Option (RegRef × Nat)

/-- The register fields of an A-word (R46); a field that holds no register counts as one the format lacks (log 25). -/
def aFields : Instr → AFields
  | .add d s t => ⟨some (.x d.toNat, 1), some (.x s.toNat, 1), some (.x t.toNat, 1), none⟩
  | .sub d s t => ⟨some (.x d.toNat, 1), some (.x s.toNat, 1), some (.x t.toNat, 1), none⟩
  | .and d s t => ⟨some (.x d.toNat, 1), some (.x s.toNat, 1), some (.x t.toNat, 1), none⟩
  | .or d s t => ⟨some (.x d.toNat, 1), some (.x s.toNat, 1), some (.x t.toNat, 1), none⟩
  | .xor d s t => ⟨some (.x d.toNat, 1), some (.x s.toNat, 1), some (.x t.toNat, 1), none⟩
  | .sll d s t => ⟨some (.x d.toNat, 1), some (.x s.toNat, 1), some (.x t.toNat, 1), none⟩
  | .srl d s t => ⟨some (.x d.toNat, 1), some (.x s.toNat, 1), some (.x t.toNat, 1), none⟩
  | .sra d s t => ⟨some (.x d.toNat, 1), some (.x s.toNat, 1), some (.x t.toNat, 1), none⟩
  | .slt d s t => ⟨some (.x d.toNat, 1), some (.x s.toNat, 1), some (.x t.toNat, 1), none⟩
  | .sltu d s t => ⟨some (.x d.toNat, 1), some (.x s.toNat, 1), some (.x t.toNat, 1), none⟩
  | .mul d s t => ⟨some (.x d.toNat, 1), some (.x s.toNat, 1), some (.x t.toNat, 1), none⟩
  | .mulh d s t => ⟨some (.x d.toNat, 1), some (.x s.toNat, 1), some (.x t.toNat, 1), none⟩
  | .mulhu d s t => ⟨some (.x d.toNat, 1), some (.x s.toNat, 1), some (.x t.toNat, 1), none⟩
  | .div d s t => ⟨some (.x d.toNat, 1), some (.x s.toNat, 1), some (.x t.toNat, 1), none⟩
  | .divu d s t => ⟨some (.x d.toNat, 1), some (.x s.toNat, 1), some (.x t.toNat, 1), none⟩
  | .rem d s t => ⟨some (.x d.toNat, 1), some (.x s.toNat, 1), some (.x t.toNat, 1), none⟩
  | .remu d s t => ⟨some (.x d.toNat, 1), some (.x s.toNat, 1), some (.x t.toNat, 1), none⟩
  | .min d s t => ⟨some (.x d.toNat, 1), some (.x s.toNat, 1), some (.x t.toNat, 1), none⟩
  | .max d s t => ⟨some (.x d.toNat, 1), some (.x s.toNat, 1), some (.x t.toNat, 1), none⟩
  | .minu d s t => ⟨some (.x d.toNat, 1), some (.x s.toNat, 1), some (.x t.toNat, 1), none⟩
  | .maxu d s t => ⟨some (.x d.toNat, 1), some (.x s.toNat, 1), some (.x t.toNat, 1), none⟩
  | .clz d s => ⟨some (.x d.toNat, 1), some (.x s.toNat, 1), none, none⟩
  | .ctz d s => ⟨some (.x d.toNat, 1), some (.x s.toNat, 1), none, none⟩
  | .popc d s => ⟨some (.x d.toNat, 1), some (.x s.toNat, 1), none, none⟩
  | .addi d s _ => ⟨some (.x d.toNat, 1), some (.x s.toNat, 1), none, none⟩
  | .andi d s _ => ⟨some (.x d.toNat, 1), some (.x s.toNat, 1), none, none⟩
  | .ori d s _ => ⟨some (.x d.toNat, 1), some (.x s.toNat, 1), none, none⟩
  | .xori d s _ => ⟨some (.x d.toNat, 1), some (.x s.toNat, 1), none, none⟩
  | .slli d s _ => ⟨some (.x d.toNat, 1), some (.x s.toNat, 1), none, none⟩
  | .srli d s _ => ⟨some (.x d.toNat, 1), some (.x s.toNat, 1), none, none⟩
  | .srai d s _ => ⟨some (.x d.toNat, 1), some (.x s.toNat, 1), none, none⟩
  | .slti d s _ => ⟨some (.x d.toNat, 1), some (.x s.toNat, 1), none, none⟩
  | .lui d _ => ⟨some (.x d.toNat, 1), none, none, none⟩
  | .lcat d _ => ⟨some (.x d.toNat, 1), none, none, none⟩
  | .fadd d s t _ => ⟨some (.x d.toNat, 1), some (.x s.toNat, 1), some (.x t.toNat, 1), none⟩
  | .fsub d s t _ => ⟨some (.x d.toNat, 1), some (.x s.toNat, 1), some (.x t.toNat, 1), none⟩
  | .fmul d s t _ => ⟨some (.x d.toNat, 1), some (.x s.toNat, 1), some (.x t.toNat, 1), none⟩
  | .fma d s t u => ⟨some (.x d.toNat, 1), some (.x s.toNat, 1), some (.x t.toNat, 1), some (.x u.toNat, 1)⟩
  | .fdiv d s t _ => ⟨some (.x d.toNat, 1), some (.x s.toNat, 1), some (.x t.toNat, 1), none⟩
  | .fsqrt d s _ => ⟨some (.x d.toNat, 1), some (.x s.toNat, 1), none, none⟩
  | .fmin d s t => ⟨some (.x d.toNat, 1), some (.x s.toNat, 1), some (.x t.toNat, 1), none⟩
  | .fmax d s t => ⟨some (.x d.toNat, 1), some (.x s.toNat, 1), some (.x t.toNat, 1), none⟩
  | .fcmp d s t _ => ⟨some (.x d.toNat, 1), some (.x s.toNat, 1), some (.x t.toNat, 1), none⟩
  | .fcvti d s _ => ⟨some (.x d.toNat, 1), some (.x s.toNat, 1), none, none⟩
  | .fcvtf d s _ => ⟨some (.x d.toNat, 1), some (.x s.toNat, 1), none, none⟩
  | .vadd d s t _ _ _ => ⟨some (.v d.toNat, 1), some (.v s.toNat, 1), some (.v t.toNat, 1), none⟩
  | .vsub d s t _ _ _ => ⟨some (.v d.toNat, 1), some (.v s.toNat, 1), some (.v t.toNat, 1), none⟩
  | .vmul d s t _ _ _ => ⟨some (.v d.toNat, 1), some (.v s.toNat, 1), some (.v t.toNat, 1), none⟩
  | .vma d s t u _ => ⟨some (.v d.toNat, 1), some (.v s.toNat, 1), some (.v t.toNat, 1), some (.v u.toNat, 1)⟩
  | .vmin d s t _ _ _ => ⟨some (.v d.toNat, 1), some (.v s.toNat, 1), some (.v t.toNat, 1), none⟩
  | .vmax d s t _ _ _ => ⟨some (.v d.toNat, 1), some (.v s.toNat, 1), some (.v t.toNat, 1), none⟩
  | .vand d s t _ _ _ => ⟨some (.v d.toNat, 1), some (.v s.toNat, 1), some (.v t.toNat, 1), none⟩
  | .vor d s t _ _ _ => ⟨some (.v d.toNat, 1), some (.v s.toNat, 1), some (.v t.toNat, 1), none⟩
  | .vxor d s t _ _ _ => ⟨some (.v d.toNat, 1), some (.v s.toNat, 1), some (.v t.toNat, 1), none⟩
  | .vsll d s t _ _ _ => ⟨some (.v d.toNat, 1), some (.v s.toNat, 1), some (.v t.toNat, 1), none⟩
  | .vsrl d s t _ _ _ => ⟨some (.v d.toNat, 1), some (.v s.toNat, 1), some (.v t.toNat, 1), none⟩
  | .vsra d s t _ _ _ => ⟨some (.v d.toNat, 1), some (.v s.toNat, 1), some (.v t.toNat, 1), none⟩
  | .vabs d s _ _ _ => ⟨some (.v d.toNat, 1), some (.v s.toNat, 1), none, none⟩
  | .vneg d s _ _ _ => ⟨some (.v d.toNat, 1), some (.v s.toNat, 1), none, none⟩
  | .vcmp md s t _ _ _ => ⟨some (.m md.toNat, 1), some (.v s.toNat, 1), some (.v t.toNat, 1), none⟩
  | .vsel d s t _ _ => ⟨some (.v d.toNat, 1), some (.v s.toNat, 1), some (.v t.toNat, 1), none⟩
  | .vmov d s _ _ => ⟨some (.v d.toNat, 1), some (.v s.toNat, 1), none, none⟩
  | .vbcast d s _ _ => ⟨some (.v d.toNat, 1), some (.x s.toNat, 1), none, none⟩
  | .vins d s t _ => ⟨some (.v d.toNat, 1), some (.x s.toNat, 1), some (.x t.toNat, 1), none⟩
  | .vext d s t _ _ => ⟨some (.x d.toNat, 1), some (.v s.toNat, 1), some (.x t.toNat, 1), none⟩
  | .vwadd d s t _ _ _ => ⟨some (.v d.toNat, 2), some (.v s.toNat, 1), some (.v t.toNat, 1), none⟩
  | .vwmul d s t _ _ _ => ⟨some (.v d.toNat, 2), some (.v s.toNat, 1), some (.v t.toNat, 1), none⟩
  | .vwma d s t _ _ _ => ⟨some (.v d.toNat, 2), some (.v s.toNat, 1), some (.v t.toNat, 1), none⟩
  | .vnarrow d s _ _ _ => ⟨some (.v d.toNat, 1), some (.v s.toNat, 2), none, none⟩
  | .vcvt d s st _ dt _ _ _ => ⟨some (.v d.toNat, (dstCount st.width dt.width)), some (.v s.toNat, (srcCount st.width dt.width)), none, none⟩
  | .vplane d s => ⟨some (.v d.toNat, 1), some (.v s.toNat, 1), none, none⟩
  | .vunplane d s _ _ _ => ⟨some (.v d.toNat, 1), some (.v s.toNat, 1), none, none⟩
  | .vquant d s x ty _ _ => ⟨some (.v d.toNat, 1), some (.v s.toNat, (quantCount ty)), some (.x x.toNat, 1), none⟩
  | .vrsum d s _ _ _ => ⟨some (.x d.toNat, 1), some (.v s.toNat, 1), none, none⟩
  | .vrmax d s _ _ _ => ⟨some (.x d.toNat, 1), some (.v s.toNat, 1), none, none⟩
  | .vperm d s t _ _ => ⟨some (.v d.toNat, 1), some (.v s.toNat, 1), some (.v t.toNat, 1), none⟩
  | .vslide d s t _ _ => ⟨some (.v d.toNat, 1), some (.v s.toNat, 1), some (.x t.toNat, 1), none⟩
  | .vrand d s t => ⟨some (.v d.toNat, 1), some (.x s.toNat, 1), some (.x t.toNat, 1), none⟩
  | .vexp2 d s _ _ => ⟨some (.v d.toNat, 1), some (.v s.toNat, 1), none, none⟩
  | .vlog2 d s _ _ => ⟨some (.v d.toNat, 1), some (.v s.toNat, 1), none, none⟩
  | .vrcp d s _ _ => ⟨some (.v d.toNat, 1), some (.v s.toNat, 1), none, none⟩
  | .vrsq d s _ _ => ⟨some (.v d.toNat, 1), some (.v s.toNat, 1), none, none⟩
  | .vsig d s _ _ => ⟨some (.v d.toNat, 1), some (.v s.toNat, 1), none, none⟩
  | .vdot4 d s t _ _ => ⟨some (.v d.toNat, 1), some (.v s.toNat, 1), some (.v t.toNat, 1), none⟩
  | .mand d s t => ⟨some (.m d.toNat, 1), some (.m s.toNat, 1), some (.m t.toNat, 1), none⟩
  | .mor d s t => ⟨some (.m d.toNat, 1), some (.m s.toNat, 1), some (.m t.toNat, 1), none⟩
  | .mxor d s t => ⟨some (.m d.toNat, 1), some (.m s.toNat, 1), some (.m t.toNat, 1), none⟩
  | .mnot d s => ⟨some (.m d.toNat, 1), some (.m s.toNat, 1), none, none⟩
  | .mpop d s _ => ⟨some (.x d.toNat, 1), some (.m s.toNat, 1), none, none⟩
  | .mfirst d s _ => ⟨some (.x d.toNat, 1), some (.m s.toNat, 1), none, none⟩
  | .mfromx d s _ => ⟨some (.m d.toNat, 1), some (.x s.toNat, 1), none, none⟩
  | .mmadd ad s t _ _ => ⟨some (.a ad.toNat, 1), some (.a s.toNat, 1), some (.a t.toNat, 1), none⟩
  | .mmsub ad s t _ _ => ⟨some (.a ad.toNat, 1), some (.a s.toNat, 1), some (.a t.toNat, 1), none⟩
  | .mmmul ad s t _ _ => ⟨some (.a ad.toNat, 1), some (.a s.toNat, 1), some (.a t.toNat, 1), none⟩
  | .mmma ad s t _ _ => ⟨some (.a ad.toNat, 1), some (.a s.toNat, 1), some (.a t.toNat, 1), none⟩
  | .mmmax ad s t _ _ => ⟨some (.a ad.toNat, 1), some (.a s.toNat, 1), some (.a t.toNat, 1), none⟩
  | .mmcvt ad s t _ _ => ⟨some (.a ad.toNat, 1), some (.a s.toNat, 1), some (.a t.toNat, 1), none⟩
  | _ => ⟨none, none, none, none⟩

/-- An A-word with its fields d, s1 and s2 advanced (R112). -/
def shiftA (i : Instr) (a b c : Nat) : Instr :=
  match i with
  | .add d s t => .add (d + BitVec.ofNat 5 a) (s + BitVec.ofNat 5 b) (t + BitVec.ofNat 5 c)
  | .sub d s t => .sub (d + BitVec.ofNat 5 a) (s + BitVec.ofNat 5 b) (t + BitVec.ofNat 5 c)
  | .and d s t => .and (d + BitVec.ofNat 5 a) (s + BitVec.ofNat 5 b) (t + BitVec.ofNat 5 c)
  | .or d s t => .or (d + BitVec.ofNat 5 a) (s + BitVec.ofNat 5 b) (t + BitVec.ofNat 5 c)
  | .xor d s t => .xor (d + BitVec.ofNat 5 a) (s + BitVec.ofNat 5 b) (t + BitVec.ofNat 5 c)
  | .sll d s t => .sll (d + BitVec.ofNat 5 a) (s + BitVec.ofNat 5 b) (t + BitVec.ofNat 5 c)
  | .srl d s t => .srl (d + BitVec.ofNat 5 a) (s + BitVec.ofNat 5 b) (t + BitVec.ofNat 5 c)
  | .sra d s t => .sra (d + BitVec.ofNat 5 a) (s + BitVec.ofNat 5 b) (t + BitVec.ofNat 5 c)
  | .slt d s t => .slt (d + BitVec.ofNat 5 a) (s + BitVec.ofNat 5 b) (t + BitVec.ofNat 5 c)
  | .sltu d s t => .sltu (d + BitVec.ofNat 5 a) (s + BitVec.ofNat 5 b) (t + BitVec.ofNat 5 c)
  | .mul d s t => .mul (d + BitVec.ofNat 5 a) (s + BitVec.ofNat 5 b) (t + BitVec.ofNat 5 c)
  | .mulh d s t => .mulh (d + BitVec.ofNat 5 a) (s + BitVec.ofNat 5 b) (t + BitVec.ofNat 5 c)
  | .mulhu d s t => .mulhu (d + BitVec.ofNat 5 a) (s + BitVec.ofNat 5 b) (t + BitVec.ofNat 5 c)
  | .div d s t => .div (d + BitVec.ofNat 5 a) (s + BitVec.ofNat 5 b) (t + BitVec.ofNat 5 c)
  | .divu d s t => .divu (d + BitVec.ofNat 5 a) (s + BitVec.ofNat 5 b) (t + BitVec.ofNat 5 c)
  | .rem d s t => .rem (d + BitVec.ofNat 5 a) (s + BitVec.ofNat 5 b) (t + BitVec.ofNat 5 c)
  | .remu d s t => .remu (d + BitVec.ofNat 5 a) (s + BitVec.ofNat 5 b) (t + BitVec.ofNat 5 c)
  | .min d s t => .min (d + BitVec.ofNat 5 a) (s + BitVec.ofNat 5 b) (t + BitVec.ofNat 5 c)
  | .max d s t => .max (d + BitVec.ofNat 5 a) (s + BitVec.ofNat 5 b) (t + BitVec.ofNat 5 c)
  | .minu d s t => .minu (d + BitVec.ofNat 5 a) (s + BitVec.ofNat 5 b) (t + BitVec.ofNat 5 c)
  | .maxu d s t => .maxu (d + BitVec.ofNat 5 a) (s + BitVec.ofNat 5 b) (t + BitVec.ofNat 5 c)
  | .clz d s => .clz (d + BitVec.ofNat 5 a) (s + BitVec.ofNat 5 b)
  | .ctz d s => .ctz (d + BitVec.ofNat 5 a) (s + BitVec.ofNat 5 b)
  | .popc d s => .popc (d + BitVec.ofNat 5 a) (s + BitVec.ofNat 5 b)
  | .addi d s imm => .addi (d + BitVec.ofNat 5 a) (s + BitVec.ofNat 5 b) imm
  | .andi d s imm => .andi (d + BitVec.ofNat 5 a) (s + BitVec.ofNat 5 b) imm
  | .ori d s imm => .ori (d + BitVec.ofNat 5 a) (s + BitVec.ofNat 5 b) imm
  | .xori d s imm => .xori (d + BitVec.ofNat 5 a) (s + BitVec.ofNat 5 b) imm
  | .slli d s sh => .slli (d + BitVec.ofNat 5 a) (s + BitVec.ofNat 5 b) sh
  | .srli d s sh => .srli (d + BitVec.ofNat 5 a) (s + BitVec.ofNat 5 b) sh
  | .srai d s sh => .srai (d + BitVec.ofNat 5 a) (s + BitVec.ofNat 5 b) sh
  | .slti d s imm => .slti (d + BitVec.ofNat 5 a) (s + BitVec.ofNat 5 b) imm
  | .lui d imm => .lui (d + BitVec.ofNat 5 a) imm
  | .lcat d imm => .lcat (d + BitVec.ofNat 5 a) imm
  | .fadd d s t fl => .fadd (d + BitVec.ofNat 5 a) (s + BitVec.ofNat 5 b) (t + BitVec.ofNat 5 c) fl
  | .fsub d s t fl => .fsub (d + BitVec.ofNat 5 a) (s + BitVec.ofNat 5 b) (t + BitVec.ofNat 5 c) fl
  | .fmul d s t fl => .fmul (d + BitVec.ofNat 5 a) (s + BitVec.ofNat 5 b) (t + BitVec.ofNat 5 c) fl
  | .fma d s t u => .fma (d + BitVec.ofNat 5 a) (s + BitVec.ofNat 5 b) (t + BitVec.ofNat 5 c) u
  | .fdiv d s t fl => .fdiv (d + BitVec.ofNat 5 a) (s + BitVec.ofNat 5 b) (t + BitVec.ofNat 5 c) fl
  | .fsqrt d s fl => .fsqrt (d + BitVec.ofNat 5 a) (s + BitVec.ofNat 5 b) fl
  | .fmin d s t => .fmin (d + BitVec.ofNat 5 a) (s + BitVec.ofNat 5 b) (t + BitVec.ofNat 5 c)
  | .fmax d s t => .fmax (d + BitVec.ofNat 5 a) (s + BitVec.ofNat 5 b) (t + BitVec.ofNat 5 c)
  | .fcmp d s t cond => .fcmp (d + BitVec.ofNat 5 a) (s + BitVec.ofNat 5 b) (t + BitVec.ofNat 5 c) cond
  | .fcvti d s fl => .fcvti (d + BitVec.ofNat 5 a) (s + BitVec.ofNat 5 b) fl
  | .fcvtf d s fl => .fcvtf (d + BitVec.ofNat 5 a) (s + BitVec.ofNat 5 b) fl
  | .vadd d s t ty mk fl => .vadd (d + BitVec.ofNat 5 a) (s + BitVec.ofNat 5 b) (t + BitVec.ofNat 5 c) ty mk fl
  | .vsub d s t ty mk fl => .vsub (d + BitVec.ofNat 5 a) (s + BitVec.ofNat 5 b) (t + BitVec.ofNat 5 c) ty mk fl
  | .vmul d s t ty mk fl => .vmul (d + BitVec.ofNat 5 a) (s + BitVec.ofNat 5 b) (t + BitVec.ofNat 5 c) ty mk fl
  | .vma d s t u ty => .vma (d + BitVec.ofNat 5 a) (s + BitVec.ofNat 5 b) (t + BitVec.ofNat 5 c) u ty
  | .vmin d s t ty mk fl => .vmin (d + BitVec.ofNat 5 a) (s + BitVec.ofNat 5 b) (t + BitVec.ofNat 5 c) ty mk fl
  | .vmax d s t ty mk fl => .vmax (d + BitVec.ofNat 5 a) (s + BitVec.ofNat 5 b) (t + BitVec.ofNat 5 c) ty mk fl
  | .vand d s t ty mk fl => .vand (d + BitVec.ofNat 5 a) (s + BitVec.ofNat 5 b) (t + BitVec.ofNat 5 c) ty mk fl
  | .vor d s t ty mk fl => .vor (d + BitVec.ofNat 5 a) (s + BitVec.ofNat 5 b) (t + BitVec.ofNat 5 c) ty mk fl
  | .vxor d s t ty mk fl => .vxor (d + BitVec.ofNat 5 a) (s + BitVec.ofNat 5 b) (t + BitVec.ofNat 5 c) ty mk fl
  | .vsll d s t ty mk fl => .vsll (d + BitVec.ofNat 5 a) (s + BitVec.ofNat 5 b) (t + BitVec.ofNat 5 c) ty mk fl
  | .vsrl d s t ty mk fl => .vsrl (d + BitVec.ofNat 5 a) (s + BitVec.ofNat 5 b) (t + BitVec.ofNat 5 c) ty mk fl
  | .vsra d s t ty mk fl => .vsra (d + BitVec.ofNat 5 a) (s + BitVec.ofNat 5 b) (t + BitVec.ofNat 5 c) ty mk fl
  | .vabs d s ty mk fl => .vabs (d + BitVec.ofNat 5 a) (s + BitVec.ofNat 5 b) ty mk fl
  | .vneg d s ty mk fl => .vneg (d + BitVec.ofNat 5 a) (s + BitVec.ofNat 5 b) ty mk fl
  | .vcmp md s t cond ty u => .vcmp (md + BitVec.ofNat 3 a) (s + BitVec.ofNat 5 b) (t + BitVec.ofNat 5 c) cond ty u
  | .vsel d s t ty mk => .vsel (d + BitVec.ofNat 5 a) (s + BitVec.ofNat 5 b) (t + BitVec.ofNat 5 c) ty mk
  | .vmov d s ty mk => .vmov (d + BitVec.ofNat 5 a) (s + BitVec.ofNat 5 b) ty mk
  | .vbcast d s ty mk => .vbcast (d + BitVec.ofNat 5 a) (s + BitVec.ofNat 5 b) ty mk
  | .vins d s t ty => .vins (d + BitVec.ofNat 5 a) (s + BitVec.ofNat 5 b) (t + BitVec.ofNat 5 c) ty
  | .vext d s t ty u => .vext (d + BitVec.ofNat 5 a) (s + BitVec.ofNat 5 b) (t + BitVec.ofNat 5 c) ty u
  | .vwadd d s t ty mk fl => .vwadd (d + BitVec.ofNat 5 a) (s + BitVec.ofNat 5 b) (t + BitVec.ofNat 5 c) ty mk fl
  | .vwmul d s t ty mk fl => .vwmul (d + BitVec.ofNat 5 a) (s + BitVec.ofNat 5 b) (t + BitVec.ofNat 5 c) ty mk fl
  | .vwma d s t ty mk fl => .vwma (d + BitVec.ofNat 5 a) (s + BitVec.ofNat 5 b) (t + BitVec.ofNat 5 c) ty mk fl
  | .vnarrow d s ty mk fl => .vnarrow (d + BitVec.ofNat 5 a) (s + BitVec.ofNat 5 b) ty mk fl
  | .vcvt d s st fl dt du ds mk => .vcvt (d + BitVec.ofNat 5 a) (s + BitVec.ofNat 5 b) st fl dt du ds mk
  | .vplane d s => .vplane (d + BitVec.ofNat 5 a) (s + BitVec.ofNat 5 b)
  | .vunplane d s p cent mk => .vunplane (d + BitVec.ofNat 5 a) (s + BitVec.ofNat 5 b) p cent mk
  | .vquant d s x ty mk u => .vquant (d + BitVec.ofNat 5 a) (s + BitVec.ofNat 5 b) (x + BitVec.ofNat 5 c) ty mk u
  | .vrsum d s ty mk fl => .vrsum (d + BitVec.ofNat 5 a) (s + BitVec.ofNat 5 b) ty mk fl
  | .vrmax d s ty mk fl => .vrmax (d + BitVec.ofNat 5 a) (s + BitVec.ofNat 5 b) ty mk fl
  | .vperm d s t ty mk => .vperm (d + BitVec.ofNat 5 a) (s + BitVec.ofNat 5 b) (t + BitVec.ofNat 5 c) ty mk
  | .vslide d s t ty mk => .vslide (d + BitVec.ofNat 5 a) (s + BitVec.ofNat 5 b) (t + BitVec.ofNat 5 c) ty mk
  | .vrand d s t => .vrand (d + BitVec.ofNat 5 a) (s + BitVec.ofNat 5 b) (t + BitVec.ofNat 5 c)
  | .vexp2 d s ty mk => .vexp2 (d + BitVec.ofNat 5 a) (s + BitVec.ofNat 5 b) ty mk
  | .vlog2 d s ty mk => .vlog2 (d + BitVec.ofNat 5 a) (s + BitVec.ofNat 5 b) ty mk
  | .vrcp d s ty mk => .vrcp (d + BitVec.ofNat 5 a) (s + BitVec.ofNat 5 b) ty mk
  | .vrsq d s ty mk => .vrsq (d + BitVec.ofNat 5 a) (s + BitVec.ofNat 5 b) ty mk
  | .vsig d s ty mk => .vsig (d + BitVec.ofNat 5 a) (s + BitVec.ofNat 5 b) ty mk
  | .vdot4 d s t mk fl => .vdot4 (d + BitVec.ofNat 5 a) (s + BitVec.ofNat 5 b) (t + BitVec.ofNat 5 c) mk fl
  | .mand d s t => .mand (d + BitVec.ofNat 3 a) (s + BitVec.ofNat 3 b) (t + BitVec.ofNat 3 c)
  | .mor d s t => .mor (d + BitVec.ofNat 3 a) (s + BitVec.ofNat 3 b) (t + BitVec.ofNat 3 c)
  | .mxor d s t => .mxor (d + BitVec.ofNat 3 a) (s + BitVec.ofNat 3 b) (t + BitVec.ofNat 3 c)
  | .mnot d s => .mnot (d + BitVec.ofNat 3 a) (s + BitVec.ofNat 3 b)
  | .mpop d s ty => .mpop (d + BitVec.ofNat 5 a) (s + BitVec.ofNat 3 b) ty
  | .mfirst d s ty => .mfirst (d + BitVec.ofNat 5 a) (s + BitVec.ofNat 3 b) ty
  | .mfromx d s ty => .mfromx (d + BitVec.ofNat 3 a) (s + BitVec.ofNat 5 b) ty
  | .mmadd ad s t ty fl => .mmadd (ad + BitVec.ofNat 4 a) (s + BitVec.ofNat 4 b) (t + BitVec.ofNat 4 c) ty fl
  | .mmsub ad s t ty fl => .mmsub (ad + BitVec.ofNat 4 a) (s + BitVec.ofNat 4 b) (t + BitVec.ofNat 4 c) ty fl
  | .mmmul ad s t ty fl => .mmmul (ad + BitVec.ofNat 4 a) (s + BitVec.ofNat 4 b) (t + BitVec.ofNat 4 c) ty fl
  | .mmma ad s t ty fl => .mmma (ad + BitVec.ofNat 4 a) (s + BitVec.ofNat 4 b) (t + BitVec.ofNat 4 c) ty fl
  | .mmmax ad s t ty fl => .mmmax (ad + BitVec.ofNat 4 a) (s + BitVec.ofNat 4 b) (t + BitVec.ofNat 4 c) ty fl
  | .mmcvt ad s t ty fl => .mmcvt (ad + BitVec.ofNat 4 a) (s + BitVec.ofNat 4 b) (t + BitVec.ofNat 4 c) ty fl
  | _ => i

/-- A stride for a field that the word lacks (R112). -/
def strideBad (i : Instr) (ds s1s s2s : BitVec 3) : Bool :=
  let f := aFields i
  (ds != 0 && f.d.isNone) || (s1s != 0 && f.s1.isNone) || (s2s != 0 && f.s2.isNone)

/-- The numbers of a field in iteration k that lie beyond its file (R112). -/
def beyond (allot : Nat) (f : Option (RegRef × Nat)) (k stride : Nat) : List Nat :=
  match f with
  | none => []
  | some (r, n) =>
    let p := match r with
      | .x m => (m, 32) | .v m => (m, allot) | .a m => (m, 16) | .m m => (m, 8)
    ((List.range n).map fun i => p.1 + k * stride + i).filter fun m => decide (p.2 ≤ m)
/-- The first register number out of range among the iterations from k on: the least one of the first iteration that has one (R112). -/
def repOut (i : Instr) (allot ds s1s s2s : Nat) (k : Nat) : Nat → Option Nat
  | 0 => none
  | n + 1 =>
    let f := aFields i
    match (beyond allot f.d k ds ++ beyond allot f.s1 k s1s ++ beyond allot f.s2 k s2s ++ beyond allot f.s3 k 0).min? with
    | some m => some m
    | none => repOut i allot ds s1s s2s (k + 1) n

/-- The count of a REP: its immediate, or an x register (R111). -/
def State.repCount (u : State) (xc : XReg) (imm : BitVec 6) : Nat := if xc = 0 then imm.toNat else (u.rx xc).toNat
/-- The iteration at which a REP starts (R112, R113). -/
def Thread.repStart (t : Thread) : Nat := if t.viaEret then t.sys.repcnt.toNat else 0

/-- What a REP word comes to before its iterations: a fault, or the unit (R111, R112). A fault of the A-word's registers belongs to the first
iteration. An illegal A-word comes before an illegal stride, and a fault of the REP word leaves REPCNT (the model's choices, log 93). -/
def State.repCheck (u : State) (xc : XReg) (imm : BitVec 6) (ds s1s s2s : BitVec 3) : Except (Trap × Bool) RepUnit :=
  let n := u.repCount xc imm
  let k := u.src.repStart
  match decodeWord u.ctx.word2 with
  | .error _ => .error ({ cause := .illegal, slot := true, val := u.ctx.word2.setWidth 64 }, false)
  | .ok i =>
    if strideBad i ds s1s s2s then .error ({ cause := .illegal, slot := false, val := u.wordVal }, false)
    else if 65535 < n then .error ({ cause := .operand, slot := false, val := u.wordVal }, false)
    else match repOut i u.src.ctl.vallot.toNat ds.toNat s1s.toNat s2s.toNat k (n - k) with
      | some m => .error ({ cause := .regrange, slot := true, val := BitVec.ofNat 64 m }, true)
      | none => .ok { pc := u.ctx.pc, k := k, count := n, word := u.ctx.word, word2 := u.ctx.word2 }

/-- REP (R111, R112): the word issues, and its iterations follow; with none, control moves on. -/
def execRep (xc : XReg) (imm : BitVec 6) (ds s1s s2s : BitVec 3) (st : State) : Host.Outcome State Fault Refusal :=
  let i : Instr := .rep xc imm ds s1s s2s
  if mustWait i st then .next (st.ended .wait)
  else
    let u := st.openBundle
    let r := u.repCheck xc imm ds s1s s2s
    let own := match r with
      | .error e => [e.1]
      | .ok _ => []
    match firstTrap (earlyFaults i st ++ own) with
    | some t =>
      let inIter := match r with
        | .error e => e.2 && e.1 == t
        | .ok _ => false
      let s1 := if inIter then st.modCur fun x => { x with rep := some { pc := st.ctx.pc, k := u.src.repStart, count := 0, word := st.ctx.word, word2 := st.ctx.word2 } } else st
      .next ((s1.raiseTrap t).ended (.raise t))
    | none =>
      match r with
      | .error e => .next ((st.raiseTrap e.1).ended (.raise e.1))
      | .ok p =>
        if p.k < p.count then .next ((u.closed.modCur fun t => { t with rep := some p }).ended .done)
        else .next ((u.closed.modCur fun t => { t with pc := st.ctx.next, sys := { t.sys with repcnt := 0 } }).ended .done)

end Sys2Proof.Machine
end

