-- ==== Sys2Proof/Machine/Dispatch.lean ====
section
/-! DEFINITION. Dispatch: one arm per constructor, one call of its meaning. -/

namespace Sys2Proof.Machine

def exec (i : Instr) (s : State) : Host.Outcome State Fault Refusal :=
  match i with
  | .nop => Sys2Proof.Machine.execNop s
  | .trap p0 => Sys2Proof.Machine.execTrap p0 s
  | .eret => Sys2Proof.Machine.execEret s
  | .idle => Sys2Proof.Machine.execIdle s
  | .fence p0 p1 => Sys2Proof.Machine.execFence p0 p1 s
  | .drainnt p0 => Sys2Proof.Machine.execDrainnt p0 s
  | .rgn => Sys2Proof.Machine.execRgn s
  | .rgnend => Sys2Proof.Machine.execRgnend s
  | .brk p0 => Sys2Proof.Machine.execBrk p0 s
  | .tmark p0 p1 => Sys2Proof.Machine.execTmark p0 p1 s
  | .crr p0 p1 => Sys2Proof.Machine.execCrr p0 p1 s
  | .crw p0 p1 => Sys2Proof.Machine.execCrw p0 p1 s
  | .crset p0 p1 => Sys2Proof.Machine.execCrset p0 p1 s
  | .crclr p0 p1 => Sys2Proof.Machine.execCrclr p0 p1 s
  | .yield p0 p1 => Sys2Proof.Machine.execYield p0 p1 s
  | .rep p0 p1 p2 p3 p4 => Sys2Proof.Machine.execRep p0 p1 p2 p3 p4 s
  | .j p0 => Sys2Proof.Machine.execJ p0 s
  | .jal p0 => Sys2Proof.Machine.execJal p0 s
  | .jalr p0 p1 p2 => Sys2Proof.Machine.execJalr p0 p1 p2 s
  | .beq p0 p1 p2 => Sys2Proof.Machine.execBeq p0 p1 p2 s
  | .bne p0 p1 p2 => Sys2Proof.Machine.execBne p0 p1 p2 s
  | .blt p0 p1 p2 => Sys2Proof.Machine.execBlt p0 p1 p2 s
  | .bge p0 p1 p2 => Sys2Proof.Machine.execBge p0 p1 p2 s
  | .bltu p0 p1 p2 => Sys2Proof.Machine.execBltu p0 p1 p2 s
  | .bgeu p0 p1 p2 => Sys2Proof.Machine.execBgeu p0 p1 p2 s
  | .bany p0 p1 => Sys2Proof.Machine.execBany p0 p1 s
  | .bnone p0 p1 => Sys2Proof.Machine.execBnone p0 p1 s
  | .lds p0 p1 p2 p3 p4 p5 => Sys2Proof.Machine.execLds p0 p1 p2 p3 p4 p5 s
  | .sts p0 p1 p2 p3 p4 => Sys2Proof.Machine.execSts p0 p1 p2 p3 p4 s
  | .ldv p0 p1 p2 p3 p4 p5 => Sys2Proof.Machine.execLdv p0 p1 p2 p3 p4 p5 s
  | .stv p0 p1 p2 p3 p4 => Sys2Proof.Machine.execStv p0 p1 p2 p3 p4 s
  | .stnt p0 p1 p2 p3 p4 => Sys2Proof.Machine.execStnt p0 p1 p2 p3 p4 s
  | .ldfe p0 p1 p2 p3 => Sys2Proof.Machine.execLdfe p0 p1 p2 p3 s
  | .stfe p0 p1 p2 => Sys2Proof.Machine.execStfe p0 p1 p2 s
  | .atomAdd p0 p1 p2 p3 p4 => Sys2Proof.Machine.execAtomAdd p0 p1 p2 p3 p4 s
  | .atomAnd p0 p1 p2 p3 p4 => Sys2Proof.Machine.execAtomAnd p0 p1 p2 p3 p4 s
  | .atomOr p0 p1 p2 p3 p4 => Sys2Proof.Machine.execAtomOr p0 p1 p2 p3 p4 s
  | .atomXor p0 p1 p2 p3 p4 => Sys2Proof.Machine.execAtomXor p0 p1 p2 p3 p4 s
  | .atomMin p0 p1 p2 p3 p4 => Sys2Proof.Machine.execAtomMin p0 p1 p2 p3 p4 s
  | .atomMax p0 p1 p2 p3 p4 => Sys2Proof.Machine.execAtomMax p0 p1 p2 p3 p4 s
  | .atomMinu p0 p1 p2 p3 p4 => Sys2Proof.Machine.execAtomMinu p0 p1 p2 p3 p4 s
  | .atomMaxu p0 p1 p2 p3 p4 => Sys2Proof.Machine.execAtomMaxu p0 p1 p2 p3 p4 s
  | .atomSwap p0 p1 p2 p3 p4 => Sys2Proof.Machine.execAtomSwap p0 p1 p2 p3 p4 s
  | .atomCas p0 p1 p2 p3 p4 => Sys2Proof.Machine.execAtomCas p0 p1 p2 p3 p4 s
  | .atomMaxrst p0 p1 p2 p3 p4 => Sys2Proof.Machine.execAtomMaxrst p0 p1 p2 p3 p4 s
  | .atomFadd p0 p1 p2 p3 p4 => Sys2Proof.Machine.execAtomFadd p0 p1 p2 p3 p4 s
  | .atomFmax p0 p1 p2 p3 p4 => Sys2Proof.Machine.execAtomFmax p0 p1 p2 p3 p4 s
  | .atomFmaxrst p0 p1 p2 p3 p4 => Sys2Proof.Machine.execAtomFmaxrst p0 p1 p2 p3 p4 s
  | .amov p0 p1 => Sys2Proof.Machine.execAmov p0 p1 s
  | .anarrow p0 p1 p2 p3 => Sys2Proof.Machine.execAnarrow p0 p1 p2 p3 s
  | .aadd p0 p1 p2 => Sys2Proof.Machine.execAadd p0 p1 p2 s
  | .asetp p0 p1 p2 => Sys2Proof.Machine.execAsetp p0 p1 p2 s
  | .agetp p0 p1 => Sys2Proof.Machine.execAgetp p0 p1 s
  | .agetb p0 p1 => Sys2Proof.Machine.execAgetb p0 p1 s
  | .agetl p0 p1 => Sys2Proof.Machine.execAgetl p0 p1 s
  | .aperm p0 p1 => Sys2Proof.Machine.execAperm p0 p1 s
  | .amake p0 p1 p2 => Sys2Proof.Machine.execAmake p0 p1 p2 s
  | .aaddi p0 p1 p2 => Sys2Proof.Machine.execAaddi p0 p1 p2 s
  | .copy p0 p1 p2 p3 p4 => Sys2Proof.Machine.execCopy p0 p1 p2 p3 p4 s
  | .copy2d p0 p1 p2 p3 p4 => Sys2Proof.Machine.execCopy2d p0 p1 p2 p3 p4 s
  | .copymc p0 p1 p2 p3 p4 => Sys2Proof.Machine.execCopymc p0 p1 p2 p3 p4 s
  | .copygt p0 p1 p2 p3 p4 => Sys2Proof.Machine.execCopygt p0 p1 p2 p3 p4 s
  | .waitany p0 p1 => Sys2Proof.Machine.execWaitany p0 p1 s
  | .waitall p0 => Sys2Proof.Machine.execWaitall p0 s
  | .tfirst p0 p1 => Sys2Proof.Machine.execTfirst p0 p1 s
  | .tclr p0 => Sys2Proof.Machine.execTclr p0 s
  | .tget p0 p1 => Sys2Proof.Machine.execTget p0 p1 s
  | .mjob p0 p1 => Sys2Proof.Machine.execMjob p0 p1 s
  | .mtile p0 p1 p2 p3 p4 p5 => Sys2Proof.Machine.execMtile p0 p1 p2 p3 p4 p5 s
  | .mwait p0 p1 p2 => Sys2Proof.Machine.execMwait p0 p1 p2 s
  | .mstat p0 p1 => Sys2Proof.Machine.execMstat p0 p1 s
  | .mcancel p0 => Sys2Proof.Machine.execMcancel p0 s
  | .acst p0 p1 p2 p3 => Sys2Proof.Machine.execAcst p0 p1 p2 p3 s
  | .acstb p0 p1 p2 p3 => Sys2Proof.Machine.execAcstb p0 p1 p2 p3 s
  | .acld p0 p1 p2 p3 => Sys2Proof.Machine.execAcld p0 p1 p2 p3 s
  | .aczero p0 => Sys2Proof.Machine.execAczero p0 s
  | .acstsc p0 p1 p2 p3 => Sys2Proof.Machine.execAcstsc p0 p1 p2 p3 s
  | .inv p0 p1 p2 p3 p4 p5 => Sys2Proof.Machine.execInv p0 p1 p2 p3 p4 p5 s
  | .invx p0 p1 p2 p3 p4 p5 => Sys2Proof.Machine.execInvx p0 p1 p2 p3 p4 p5 s
  | .hwait p0 p1 p2 p3 => Sys2Proof.Machine.execHwait p0 p1 p2 p3 s
  | .hwaitv p0 p1 p2 p3 => Sys2Proof.Machine.execHwaitv p0 p1 p2 p3 s
  | .htest p0 p1 => Sys2Proof.Machine.execHtest p0 p1 s
  | .hfree p0 => Sys2Proof.Machine.execHfree p0 s
  | .hreply p0 p1 => Sys2Proof.Machine.execHreply p0 p1 s
  | .hreplyv p0 p1 => Sys2Proof.Machine.execHreplyv p0 p1 s
  | .hbreak p0 p1 => Sys2Proof.Machine.execHbreak p0 p1 s
  | .done => Sys2Proof.Machine.execDone s
  | .tgon p0 => Sys2Proof.Machine.execTgon p0 s
  | .tgoff p0 => Sys2Proof.Machine.execTgoff p0 s
  | .tgset p0 => Sys2Proof.Machine.execTgset p0 s
  | .tgclr p0 => Sys2Proof.Machine.execTgclr p0 s
  | .ready p0 p1 => Sys2Proof.Machine.execReady p0 p1 s
  | .unready p0 p1 => Sys2Proof.Machine.execUnready p0 p1 s
  | .rdyq p0 p1 p2 => Sys2Proof.Machine.execRdyq p0 p1 p2 s
  | .rstv p0 p1 p2 p3 p4 => Sys2Proof.Machine.execRstv p0 p1 p2 p3 p4 s
  | .vhold p0 => Sys2Proof.Machine.execVhold p0 s
  | .vhclr p0 => Sys2Proof.Machine.execVhclr p0 s
  | .vhtest p0 => Sys2Proof.Machine.execVhtest p0 s
  | .barr p0 => Sys2Proof.Machine.execBarr p0 s
  | .barw p0 => Sys2Proof.Machine.execBarw p0 s
  | .barrw p0 => Sys2Proof.Machine.execBarrw p0 s
  | .barwd p0 => Sys2Proof.Machine.execBarwd p0 s
  | .barq p0 p1 => Sys2Proof.Machine.execBarq p0 p1 s
  | .kickTeam p0 p1 p2 => Sys2Proof.Machine.execKickTeam p0 p1 p2 s
  | .kickGroup p0 p1 p2 => Sys2Proof.Machine.execKickGroup p0 p1 p2 s
  | .mcast p0 p1 p2 p3 p4 p5 => Sys2Proof.Machine.execMcast p0 p1 p2 p3 p4 p5 s
  | .gnew p0 p1 => Sys2Proof.Machine.execGnew p0 p1 s
  | .gplace p0 p1 p2 => Sys2Proof.Machine.execGplace p0 p1 p2 s
  | .gadd p0 p1 p2 => Sys2Proof.Machine.execGadd p0 p1 p2 s
  | .gdrop p0 p1 p2 => Sys2Proof.Machine.execGdrop p0 p1 p2 s
  | .gpark p0 p1 => Sys2Proof.Machine.execGpark p0 p1 s
  | .grun p0 p1 => Sys2Proof.Machine.execGrun p0 p1 s
  | .gmove p0 p1 p2 => Sys2Proof.Machine.execGmove p0 p1 p2 s
  | .gend p0 p1 p2 => Sys2Proof.Machine.execGend p0 p1 p2 s
  | .barcfg p0 p1 p2 => Sys2Proof.Machine.execBarcfg p0 p1 p2 s
  | .tlbinv p0 p1 => Sys2Proof.Machine.execTlbinv p0 p1 s
  | .ckpt p0 p1 => Sys2Proof.Machine.execCkpt p0 p1 s
  | .errclr p0 p1 => Sys2Proof.Machine.execErrclr p0 p1 s
  | .coreret p0 p1 p2 => Sys2Proof.Machine.execCoreret p0 p1 p2 s
  | .mapsetStat p0 p1 p2 => Sys2Proof.Machine.execMapsetStat p0 p1 p2 s
  | .mapsetLoad p0 p1 p2 => Sys2Proof.Machine.execMapsetLoad p0 p1 p2 s
  | .mapsetSwitch p0 p1 p2 => Sys2Proof.Machine.execMapsetSwitch p0 p1 p2 s
  | .mapsetOpen p0 p1 p2 => Sys2Proof.Machine.execMapsetOpen p0 p1 p2 s
  | .keyslotStat p0 p1 => Sys2Proof.Machine.execKeyslotStat p0 p1 s
  | .keyslotGen p0 p1 => Sys2Proof.Machine.execKeyslotGen p0 p1 s
  | .keyslotErase p0 p1 => Sys2Proof.Machine.execKeyslotErase p0 p1 s
  | .icinv p0 p1 => Sys2Proof.Machine.execIcinv p0 p1 s
  | .add p0 p1 p2 => Sys2Proof.Machine.execAdd p0 p1 p2 s
  | .sub p0 p1 p2 => Sys2Proof.Machine.execSub p0 p1 p2 s
  | .and p0 p1 p2 => Sys2Proof.Machine.execAnd p0 p1 p2 s
  | .or p0 p1 p2 => Sys2Proof.Machine.execOr p0 p1 p2 s
  | .xor p0 p1 p2 => Sys2Proof.Machine.execXor p0 p1 p2 s
  | .sll p0 p1 p2 => Sys2Proof.Machine.execSll p0 p1 p2 s
  | .srl p0 p1 p2 => Sys2Proof.Machine.execSrl p0 p1 p2 s
  | .sra p0 p1 p2 => Sys2Proof.Machine.execSra p0 p1 p2 s
  | .slt p0 p1 p2 => Sys2Proof.Machine.execSlt p0 p1 p2 s
  | .sltu p0 p1 p2 => Sys2Proof.Machine.execSltu p0 p1 p2 s
  | .mul p0 p1 p2 => Sys2Proof.Machine.execMul p0 p1 p2 s
  | .mulh p0 p1 p2 => Sys2Proof.Machine.execMulh p0 p1 p2 s
  | .mulhu p0 p1 p2 => Sys2Proof.Machine.execMulhu p0 p1 p2 s
  | .div p0 p1 p2 => Sys2Proof.Machine.execDiv p0 p1 p2 s
  | .divu p0 p1 p2 => Sys2Proof.Machine.execDivu p0 p1 p2 s
  | .rem p0 p1 p2 => Sys2Proof.Machine.execRem p0 p1 p2 s
  | .remu p0 p1 p2 => Sys2Proof.Machine.execRemu p0 p1 p2 s
  | .min p0 p1 p2 => Sys2Proof.Machine.execMin p0 p1 p2 s
  | .max p0 p1 p2 => Sys2Proof.Machine.execMax p0 p1 p2 s
  | .minu p0 p1 p2 => Sys2Proof.Machine.execMinu p0 p1 p2 s
  | .maxu p0 p1 p2 => Sys2Proof.Machine.execMaxu p0 p1 p2 s
  | .clz p0 p1 => Sys2Proof.Machine.execClz p0 p1 s
  | .ctz p0 p1 => Sys2Proof.Machine.execCtz p0 p1 s
  | .popc p0 p1 => Sys2Proof.Machine.execPopc p0 p1 s
  | .addi p0 p1 p2 => Sys2Proof.Machine.execAddi p0 p1 p2 s
  | .andi p0 p1 p2 => Sys2Proof.Machine.execAndi p0 p1 p2 s
  | .ori p0 p1 p2 => Sys2Proof.Machine.execOri p0 p1 p2 s
  | .xori p0 p1 p2 => Sys2Proof.Machine.execXori p0 p1 p2 s
  | .slli p0 p1 p2 => Sys2Proof.Machine.execSlli p0 p1 p2 s
  | .srli p0 p1 p2 => Sys2Proof.Machine.execSrli p0 p1 p2 s
  | .srai p0 p1 p2 => Sys2Proof.Machine.execSrai p0 p1 p2 s
  | .slti p0 p1 p2 => Sys2Proof.Machine.execSlti p0 p1 p2 s
  | .lui p0 p1 => Sys2Proof.Machine.execLui p0 p1 s
  | .lcat p0 p1 => Sys2Proof.Machine.execLcat p0 p1 s
  | .fadd p0 p1 p2 p3 => Sys2Proof.Machine.execFadd p0 p1 p2 p3 s
  | .fsub p0 p1 p2 p3 => Sys2Proof.Machine.execFsub p0 p1 p2 p3 s
  | .fmul p0 p1 p2 p3 => Sys2Proof.Machine.execFmul p0 p1 p2 p3 s
  | .fma p0 p1 p2 p3 => Sys2Proof.Machine.execFma p0 p1 p2 p3 s
  | .fdiv p0 p1 p2 p3 => Sys2Proof.Machine.execFdiv p0 p1 p2 p3 s
  | .fsqrt p0 p1 p2 => Sys2Proof.Machine.execFsqrt p0 p1 p2 s
  | .fmin p0 p1 p2 => Sys2Proof.Machine.execFmin p0 p1 p2 s
  | .fmax p0 p1 p2 => Sys2Proof.Machine.execFmax p0 p1 p2 s
  | .fcmp p0 p1 p2 p3 => Sys2Proof.Machine.execFcmp p0 p1 p2 p3 s
  | .fcvti p0 p1 p2 => Sys2Proof.Machine.execFcvti p0 p1 p2 s
  | .fcvtf p0 p1 p2 => Sys2Proof.Machine.execFcvtf p0 p1 p2 s
  | .vadd p0 p1 p2 p3 p4 p5 => Sys2Proof.Machine.execVadd p0 p1 p2 p3 p4 p5 s
  | .vsub p0 p1 p2 p3 p4 p5 => Sys2Proof.Machine.execVsub p0 p1 p2 p3 p4 p5 s
  | .vmul p0 p1 p2 p3 p4 p5 => Sys2Proof.Machine.execVmul p0 p1 p2 p3 p4 p5 s
  | .vma p0 p1 p2 p3 p4 => Sys2Proof.Machine.execVma p0 p1 p2 p3 p4 s
  | .vmin p0 p1 p2 p3 p4 p5 => Sys2Proof.Machine.execVmin p0 p1 p2 p3 p4 p5 s
  | .vmax p0 p1 p2 p3 p4 p5 => Sys2Proof.Machine.execVmax p0 p1 p2 p3 p4 p5 s
  | .vand p0 p1 p2 p3 p4 p5 => Sys2Proof.Machine.execVand p0 p1 p2 p3 p4 p5 s
  | .vor p0 p1 p2 p3 p4 p5 => Sys2Proof.Machine.execVor p0 p1 p2 p3 p4 p5 s
  | .vxor p0 p1 p2 p3 p4 p5 => Sys2Proof.Machine.execVxor p0 p1 p2 p3 p4 p5 s
  | .vsll p0 p1 p2 p3 p4 p5 => Sys2Proof.Machine.execVsll p0 p1 p2 p3 p4 p5 s
  | .vsrl p0 p1 p2 p3 p4 p5 => Sys2Proof.Machine.execVsrl p0 p1 p2 p3 p4 p5 s
  | .vsra p0 p1 p2 p3 p4 p5 => Sys2Proof.Machine.execVsra p0 p1 p2 p3 p4 p5 s
  | .vabs p0 p1 p2 p3 p4 => Sys2Proof.Machine.execVabs p0 p1 p2 p3 p4 s
  | .vneg p0 p1 p2 p3 p4 => Sys2Proof.Machine.execVneg p0 p1 p2 p3 p4 s
  | .vcmp p0 p1 p2 p3 p4 p5 => Sys2Proof.Machine.execVcmp p0 p1 p2 p3 p4 p5 s
  | .vsel p0 p1 p2 p3 p4 => Sys2Proof.Machine.execVsel p0 p1 p2 p3 p4 s
  | .vmov p0 p1 p2 p3 => Sys2Proof.Machine.execVmov p0 p1 p2 p3 s
  | .vbcast p0 p1 p2 p3 => Sys2Proof.Machine.execVbcast p0 p1 p2 p3 s
  | .vins p0 p1 p2 p3 => Sys2Proof.Machine.execVins p0 p1 p2 p3 s
  | .vext p0 p1 p2 p3 p4 => Sys2Proof.Machine.execVext p0 p1 p2 p3 p4 s
  | .vwadd p0 p1 p2 p3 p4 p5 => Sys2Proof.Machine.execVwadd p0 p1 p2 p3 p4 p5 s
  | .vwmul p0 p1 p2 p3 p4 p5 => Sys2Proof.Machine.execVwmul p0 p1 p2 p3 p4 p5 s
  | .vwma p0 p1 p2 p3 p4 p5 => Sys2Proof.Machine.execVwma p0 p1 p2 p3 p4 p5 s
  | .vnarrow p0 p1 p2 p3 p4 => Sys2Proof.Machine.execVnarrow p0 p1 p2 p3 p4 s
  | .vcvt p0 p1 p2 p3 p4 p5 p6 p7 => Sys2Proof.Machine.execVcvt p0 p1 p2 p3 p4 p5 p6 p7 s
  | .vplane p0 p1 => Sys2Proof.Machine.execVplane p0 p1 s
  | .vunplane p0 p1 p2 p3 p4 => Sys2Proof.Machine.execVunplane p0 p1 p2 p3 p4 s
  | .vquant p0 p1 p2 p3 p4 p5 => Sys2Proof.Machine.execVquant p0 p1 p2 p3 p4 p5 s
  | .vrsum p0 p1 p2 p3 p4 => Sys2Proof.Machine.execVrsum p0 p1 p2 p3 p4 s
  | .vrmax p0 p1 p2 p3 p4 => Sys2Proof.Machine.execVrmax p0 p1 p2 p3 p4 s
  | .vperm p0 p1 p2 p3 p4 => Sys2Proof.Machine.execVperm p0 p1 p2 p3 p4 s
  | .vslide p0 p1 p2 p3 p4 => Sys2Proof.Machine.execVslide p0 p1 p2 p3 p4 s
  | .vrand p0 p1 p2 => Sys2Proof.Machine.execVrand p0 p1 p2 s
  | .vexp2 p0 p1 p2 p3 => Sys2Proof.Machine.execVexp2 p0 p1 p2 p3 s
  | .vlog2 p0 p1 p2 p3 => Sys2Proof.Machine.execVlog2 p0 p1 p2 p3 s
  | .vrcp p0 p1 p2 p3 => Sys2Proof.Machine.execVrcp p0 p1 p2 p3 s
  | .vrsq p0 p1 p2 p3 => Sys2Proof.Machine.execVrsq p0 p1 p2 p3 s
  | .vsig p0 p1 p2 p3 => Sys2Proof.Machine.execVsig p0 p1 p2 p3 s
  | .vdot4 p0 p1 p2 p3 p4 => Sys2Proof.Machine.execVdot4 p0 p1 p2 p3 p4 s
  | .mand p0 p1 p2 => Sys2Proof.Machine.execMand p0 p1 p2 s
  | .mor p0 p1 p2 => Sys2Proof.Machine.execMor p0 p1 p2 s
  | .mxor p0 p1 p2 => Sys2Proof.Machine.execMxor p0 p1 p2 s
  | .mnot p0 p1 => Sys2Proof.Machine.execMnot p0 p1 s
  | .mpop p0 p1 p2 => Sys2Proof.Machine.execMpop p0 p1 p2 s
  | .mfirst p0 p1 p2 => Sys2Proof.Machine.execMfirst p0 p1 p2 s
  | .mfromx p0 p1 p2 => Sys2Proof.Machine.execMfromx p0 p1 p2 s
  | .mmadd p0 p1 p2 p3 p4 => Sys2Proof.Machine.execMmadd p0 p1 p2 p3 p4 s
  | .mmsub p0 p1 p2 p3 p4 => Sys2Proof.Machine.execMmsub p0 p1 p2 p3 p4 s
  | .mmmul p0 p1 p2 p3 p4 => Sys2Proof.Machine.execMmmul p0 p1 p2 p3 p4 s
  | .mmma p0 p1 p2 p3 p4 => Sys2Proof.Machine.execMmma p0 p1 p2 p3 p4 s
  | .mmmax p0 p1 p2 p3 p4 => Sys2Proof.Machine.execMmmax p0 p1 p2 p3 p4 s
  | .mmcvt p0 p1 p2 p3 p4 => Sys2Proof.Machine.execMmcvt p0 p1 p2 p3 p4 s
  | .anop => Sys2Proof.Machine.execAnop s
  | .trapEntry p0 p1 => Sys2Proof.Machine.execTrapEntry p0 p1 s
  | .regionRestart p0 p1 => Sys2Proof.Machine.execRegionRestart p0 p1 s
  | .watchdog p0 p1 => Sys2Proof.Machine.execWatchdog p0 p1 s
  | .accessComplete p0 p1 p2 => Sys2Proof.Machine.execAccessComplete p0 p1 p2 s
  | .load p0 => Sys2Proof.Machine.execLoad p0 s
  | .store p0 => Sys2Proof.Machine.execStore p0 s
  | .atomic p0 => Sys2Proof.Machine.execAtomic p0 s
  | .loadfe p0 => Sys2Proof.Machine.execLoadfe p0 s
  | .storefe p0 => Sys2Proof.Machine.execStorefe p0 s
  | .loadResponse p0 => Sys2Proof.Machine.execLoadResponse p0 s
  | .ack p0 => Sys2Proof.Machine.execAck p0 s
  | .nack p0 => Sys2Proof.Machine.execNack p0 s
  | .retry p0 => Sys2Proof.Machine.execRetry p0 s
  | .retryResend p0 => Sys2Proof.Machine.execRetryResend p0 s
  | .retryListReoffer p0 p1 => Sys2Proof.Machine.execRetryListReoffer p0 p1 s
  | .translationWalk p0 p1 => Sys2Proof.Machine.execTranslationWalk p0 p1 s
  | .sfuStart p0 => Sys2Proof.Machine.execSfuStart p0 s
  | .sfuComplete p0 => Sys2Proof.Machine.execSfuComplete p0 s
  | .mmComplete p0 p1 => Sys2Proof.Machine.execMmComplete p0 p1 s
  | .matrixDispatch p0 => Sys2Proof.Machine.execMatrixDispatch p0 s
  | .kstepEnd p0 => Sys2Proof.Machine.execKstepEnd p0 s
  | .matrixCommandComplete p0 => Sys2Proof.Machine.execMatrixCommandComplete p0 s
  | .matrixAgeing p0 p1 => Sys2Proof.Machine.execMatrixAgeing p0 p1 s
  | .copyLine p0 p1 => Sys2Proof.Machine.execCopyLine p0 p1 s
  | .copydata p0 => Sys2Proof.Machine.execCopydata p0 s
  | .mcastMsg p0 => Sys2Proof.Machine.execMcastMsg p0 s
  | .copyComplete p0 p1 => Sys2Proof.Machine.execCopyComplete p0 p1 s
  | .invMsg p0 => Sys2Proof.Machine.execInvMsg p0 s
  | .invxMsg p0 => Sys2Proof.Machine.execInvxMsg p0 s
  | .activationStart p0 p1 => Sys2Proof.Machine.execActivationStart p0 p1 s
  | .rawArrivalStart p0 p1 => Sys2Proof.Machine.execRawArrivalStart p0 p1 s
  | .kickStart p0 p1 => Sys2Proof.Machine.execKickStart p0 p1 s
  | .arrivalAgeing p0 p1 => Sys2Proof.Machine.execArrivalAgeing p0 p1 s
  | .pass p0 => Sys2Proof.Machine.execPass p0 s
  | .passForward p0 => Sys2Proof.Machine.execPassForward p0 s
  | .passAtSlot p0 => Sys2Proof.Machine.execPassAtSlot p0 s
  | .bounce p0 => Sys2Proof.Machine.execBounce p0 s
  | .readydelta p0 => Sys2Proof.Machine.execReadydelta p0 s
  | .rdyquery p0 => Sys2Proof.Machine.execRdyquery p0 s
  | .rdyanswer p0 => Sys2Proof.Machine.execRdyanswer p0 s
  | .reply p0 => Sys2Proof.Machine.execReply p0 s
  | .break_ p0 => Sys2Proof.Machine.execBreak p0 s
  | .fetch p0 => Sys2Proof.Machine.execFetch p0 s
  | .value p0 => Sys2Proof.Machine.execValue p0 s
  | .hrelease p0 => Sys2Proof.Machine.execHrelease p0 s
  | .relayForward p0 p1 => Sys2Proof.Machine.execRelayForward p0 p1 s
  | .rstvMsg p0 => Sys2Proof.Machine.execRstvMsg p0 s
  | .redirectQueueDrain p0 p1 => Sys2Proof.Machine.execRedirectQueueDrain p0 p1 s
  | .directoryAnswer p0 => Sys2Proof.Machine.execDirectoryAnswer p0 s
  | .grpctl p0 => Sys2Proof.Machine.execGrpctl p0 s
  | .grpstat p0 => Sys2Proof.Machine.execGrpstat p0 s
  | .memberPark p0 p1 => Sys2Proof.Machine.execMemberPark p0 p1 s
  | .saveImageComplete p0 p1 => Sys2Proof.Machine.execSaveImageComplete p0 p1 s
  | .groupEnded p0 => Sys2Proof.Machine.execGroupEnded p0 s
  | .kickMsg p0 => Sys2Proof.Machine.execKickMsg p0 s
  | .kickoffFanout p0 => Sys2Proof.Machine.execKickoffFanout p0 s
  | .kickend p0 => Sys2Proof.Machine.execKickend p0 s
  | .bararrive p0 => Sys2Proof.Machine.execBararrive p0 s
  | .barrelease p0 => Sys2Proof.Machine.execBarrelease p0 s
  | .barrierTimeout p0 p1 => Sys2Proof.Machine.execBarrierTimeout p0 p1 s
  | .barbreak p0 => Sys2Proof.Machine.execBarbreak p0 s
  | .barconfig p0 => Sys2Proof.Machine.execBarconfig p0 s
  | .refereePair p0 => Sys2Proof.Machine.execRefereePair p0 s
  | .refereeTimeout p0 => Sys2Proof.Machine.execRefereeTimeout p0 s
  | .unassignedMessage p0 => Sys2Proof.Machine.execUnassignedMessage p0 s
  | .l2pdataWrite p0 => Sys2Proof.Machine.execL2pdataWrite p0 s
  | .l2pUpdate p0 p1 => Sys2Proof.Machine.execL2pUpdate p0 p1 s
  | .rtdataWrite p0 => Sys2Proof.Machine.execRtdataWrite p0 s
  | .vallotWrite p0 => Sys2Proof.Machine.execVallotWrite p0 s
  | .tgenWrite p0 => Sys2Proof.Machine.execTgenWrite p0 s
  | .ctxcmdCreate => Sys2Proof.Machine.execCtxcmdCreate s
  | .ctxcmdDestroy => Sys2Proof.Machine.execCtxcmdDestroy s
  | .ctxrectWrite p0 => Sys2Proof.Machine.execCtxrectWrite p0 s
  | .contextBound p0 => Sys2Proof.Machine.execContextBound p0 s
  | .contextShrunk p0 => Sys2Proof.Machine.execContextShrunk p0 s
  | .contextDestroyed p0 => Sys2Proof.Machine.execContextDestroyed p0 s
  | .scrubComplete p0 => Sys2Proof.Machine.execScrubComplete p0 s
  | .hfsendWrite p0 => Sys2Proof.Machine.execHfsendWrite p0 s
  | .deviceFrame p0 => Sys2Proof.Machine.execDeviceFrame p0 s
  | .frameWindowWrite p0 p1 p2 => Sys2Proof.Machine.execFrameWindowWrite p0 p1 p2 s
  | .hostframeInject p0 => Sys2Proof.Machine.execHostframeInject p0 s
  | .hostframe p0 => Sys2Proof.Machine.execHostframe p0 s
  | .gap p0 => Sys2Proof.Machine.execGap p0 s
  | .drheadWrite p0 p1 => Sys2Proof.Machine.execDrheadWrite p0 p1 s
  | .drbaseWrite p0 p1 => Sys2Proof.Machine.execDrbaseWrite p0 p1 s
  | .drsizeWrite p0 p1 => Sys2Proof.Machine.execDrsizeWrite p0 p1 s
  | .bar2Access p0 p1 p2 p3 => Sys2Proof.Machine.execBar2Access p0 p1 p2 p3 s
  | .functionLevelReset p0 => Sys2Proof.Machine.execFunctionLevelReset p0 s
  | .packageReset => Sys2Proof.Machine.execPackageReset s
  | .bootctlGo p0 => Sys2Proof.Machine.execBootctlGo p0 s
  | .imageVerification => Sys2Proof.Machine.execImageVerification s
  | .discover p0 => Sys2Proof.Machine.execDiscover p0 s
  | .discoverAnswer p0 => Sys2Proof.Machine.execDiscoverAnswer p0 s
  | .silentRouter p0 p1 => Sys2Proof.Machine.execSilentRouter p0 p1 s
  | .floodEnd p0 => Sys2Proof.Machine.execFloodEnd p0 s
  | .measxWrite p0 => Sys2Proof.Machine.execMeasxWrite p0 s
  | .attreqWrite p0 => Sys2Proof.Machine.execAttreqWrite p0 s
  | .attestationReport => Sys2Proof.Machine.execAttestationReport s
  | .powerLimit p0 => Sys2Proof.Machine.execPowerLimit p0 s
  | .overtemperature => Sys2Proof.Machine.execOvertemperature s
  | .powerGate p0 => Sys2Proof.Machine.execPowerGate p0 s
  | .gateDrainTimeout p0 => Sys2Proof.Machine.execGateDrainTimeout p0 s
  | .droop p0 p1 => Sys2Proof.Machine.execDroop p0 p1 s
  | .droopRearm p0 p1 => Sys2Proof.Machine.execDroopRearm p0 p1 s
  | .traceDrain p0 => Sys2Proof.Machine.execTraceDrain p0 s
  | .trtailWrite p0 => Sys2Proof.Machine.execTrtailWrite p0 s
  | .dbgctlWrite p0 => Sys2Proof.Machine.execDbgctlWrite p0 s
  | .hbmRowRepair p0 p1 => Sys2Proof.Machine.execHbmRowRepair p0 p1 s
  | .nodeidWrite p0 => Sys2Proof.Machine.execNodeidWrite p0 s
  | .portctlWrite p0 p1 => Sys2Proof.Machine.execPortctlWrite p0 p1 s
  | .trainingBackoff p0 p1 => Sys2Proof.Machine.execTrainingBackoff p0 p1 s
  | .trainingSequence p0 p1 p2 => Sys2Proof.Machine.execTrainingSequence p0 p1 p2 s
  | .laneRetrain p0 p1 p2 => Sys2Proof.Machine.execLaneRetrain p0 p1 p2 s
  | .linkFlit p0 p1 => Sys2Proof.Machine.execLinkFlit p0 p1 s
  | .linkResendTimeout p0 => Sys2Proof.Machine.execLinkResendTimeout p0 s
  | .portDown p0 => Sys2Proof.Machine.execPortDown p0 s
  | .marker p0 => Sys2Proof.Machine.execMarker p0 s
  | .ckptWalk p0 => Sys2Proof.Machine.execCkptWalk p0 s
  | .acceptNotice p0 => Sys2Proof.Machine.execAcceptNotice p0 s

end Sys2Proof.Machine
end

