-- ==== Sys2Proof/Machine/Fetch.lean ====
section
/-! DEFINITION. Fetching the words of a bundle, its framing, and its issue: a lone word, a pair, a REP unit (R35 to R42, R54, R112 to R114, R298). -/

namespace Sys2Proof.Machine

/-! ### Fetching a word (R39, R298) -/

/-- How the fetch of a word ends: the word, a wait for its translation, or a fault with its value. -/
inductive Fetched where
  | word (w : IWord) (s : State)
  | held (s : State)
  | fault (c : Cause) (v : Word) (s : State)

/-- Word i of a line. -/
def ICLine.wordAt (l : ICLine) (i : Nat) : IWord := l.words[i]?.getD 0
/-- Word i of a line, with its poison. -/
def ICLine.slotAt (l : ICLine) (i : Nat) : IWord × Bool := (l.wordAt i, l.pois.getLsbD i)
/-- Which of n words from an address hold a poisoned byte, the last one first. -/
def poisWords (m : Map Bool) (a : Nat) : Nat → Nat
  | 0 => 0
  | n + 1 => (if poisoned m (a + 4 * n) 4 then 2 ^ n else 0) + poisWords m a n

namespace State

/-- The line of local memory that holds an offset. -/
def localLine (s : State) (site : Nat) (a : Word) : ICLine :=
  let m := (s.core site).mem
  let o := a.toNat % 2 ^ 60 / 128 * 128
  { ten := 0, addr := a &&& ~~~127#64, words := Vector.ofFn fun i => BitVec.ofNat 32 (m.bytes.load (o + 4 * i.val) 4)
    pois := if m.pois = [] then 0 else BitVec.ofNat 32 (poisWords m.pois o 32) }
/-- The line of device memory that holds a physical address, read under a key (R315, R333, R334). -/
def deviceLine (s : State) (ten : BitVec 12) (a : Word) (key pa : Nat) : ICLine :=
  let o := pa / 128 * 128
  { ten := ten, addr := a &&& ~~~127#64, words := Vector.ofFn fun i => BitVec.ofNat 32 (s.hbm.read key (o + 4 * i.val) 4).1
    pois := BitVec.ofNat 32 ((if s.hbm.ready key o 64 then poisWords s.hbm.pois o 16 else 0xFFFF) +
      2 ^ 16 * (if s.hbm.ready key (o + 64) 64 then poisWords s.hbm.pois (o + 64) 16 else 0xFFFF)) }

/-- The word that the instruction cache returns: of each cached value that differs from the present one, a free choice (R298, log 3). -/
def oneOf (i : Nat) (now : ICLine) (s : State) : List ICLine → (IWord × Bool) × State
  | [] => (now.slotAt i, s)
  | l :: r =>
    if l.slotAt i = now.slotAt i then oneOf i now s r
    else match s.drawBool with
      | (true, s1) => (l.slotAt i, s1)
      | (false, s1) => oneOf i now s1 r
/-- A word through the instruction cache, whose line as memory holds it is given (R298); a poisoned word raises POISON. -/
def throughCache (s : State) (site : Nat) (a : Word) (now : ICLine) : Fetched :=
  let old := (s.core site).icache.filter fun l => l.ten == now.ten && l.addr == now.addr
  match s.oneOf (a.toNat / 4 % 32) now old with
  | ((w, p), s1) =>
    let s2 := if old.contains now then s1 else s1.modCore site fun c => { c with icache := c.icache ++ [now] }
    -- what a sector delivers is recorded as it is read; a word of local memory is recorded here (R362, R367)
    if p then .fault .poison a (if now.ten = 0 ∧ windowOf a.toNat = 0 then s2.localPoison site (a.toNat % 2 ^ 19) else s2) else .word w s2

/-- Fetch the word at an address for the issuing thread (R39): the DEVICE window through translation with X, LOCAL by its window alone. -/
def fetchWord (s : State) (a : Word) : Fetched :=
  let t := s.cur
  let site := s.site
  if windowOk a.toNat 4 = false then .fault .window a s
  else match windowOf a.toNat with
    | 0 => s.throughCache site a (s.localLine site a)
    | 2 =>
      let va := a.toNat % 2 ^ 48
      match s.translate site t (s.fetchSpace t) va [.exec] with
      | .ok pa e =>
        match s.keyOf e.ten with
        | some key =>
          let now := s.deviceLine e.ten a key pa
          -- a line that the cache does not hold is read, and what ECC and the tag find is recorded (R298, R333)
          let u := if (s.core site).icache.contains now then s else s.secSeen e.ten key (pa / 128 * 128) 128
          (u.useXl site e false).throughCache site a now
        | none => .fault .xlate a s
      | .miss n => .held (askWalk n va s)
      | .xlate => .fault .xlate a s
      | .prot => .fault .prot a s
    | _ => .fault .window a s

/-! ### Issue -/

/-- A bundle that raises a fault (R42). -/
def raised (s : State) (t : Trap) : Host.Outcome State Fault Refusal := .next ((s.raiseTrap t).ended (.raise t))
/-- FRAMING of a word (R38). -/
def framing (s : State) (w : IWord) : Host.Outcome State Fault Refusal := s.raised { cause := .framing, slot := false, val := w.setWidth 64 }
/-- ILLEGAL of a word (R54). -/
def illegal (w : IWord) (slot : Bool) : Trap := { cause := .illegal, slot := slot, val := w.setWidth 64 }
/-- The state in which a word runs in a form. -/
def withWord (s : State) (f : Form) (w : IWord) : State := { s with ctx := { s.ctx with form := f, word := w, last := .done } }
/-- The state in which the bundle at the thread's pc begins, its length in bytes given. -/
def begun (s : State) (key : Nat) (pc : Word) (len : Word) : State :=
  { s with ctx := { key := key, pc := pc, next := pc + len } }

/-- Issue a lone word (R40, R54). -/
def issueLone (s : State) (w : IWord) : Host.Outcome State Fault Refusal :=
  match decodeWord w with
  | .error _ => s.raised (illegal w false)
  | .ok i => exec i (s.withWord .lone w)

/-- Registers that the C-slot's windowed instruction writes at its completion, its destinations (R30, R41). The a register that it advances by MODE 2
or 3 is none of them: advanced in the A-slot as well it raises OPERAND, as R141 says, though R41's exception may be read as LOOKAHEAD (DESIGN
CHOICE, log 93). -/
def windowed (i : Instr) : List RegRef :=
  match laOf i with
  | some la => if la = 15 then [] else (writesOf i).filter fun r => match r with | .a _ => false | .x _ => true | .v _ => true | .m _ => true
  | none => []
/-- The two slots write one register: LOOKAHEAD when the C-slot's instruction is windowed on it, else OPERAND (R30, R41); both name the A-slot in
ECAUSE.SLOT, which R41 leaves open (log 93). -/
def pairConflict (s : State) (c a : Instr) (w : IWord) : List Trap :=
  if (windowed c).any fun r => (writesOf a).contains r then [{ cause := .lookahead, slot := true, val := s.ctx.pc }]
  else if (writesOf c).any fun r => (writesOf a).contains r then [{ cause := .operand, slot := true, val := w.setWidth 64 }]
  else []
/-- The fault with which a slot ended. -/
def trapOfEnd : SlotEnd → List Trap
  | .raise t => [t]
  | .done => [] | .wait => []

/-- Issue a pair (R40 to R42): the slots run on one copy of the registers; a wait of either holds both, a fault of either undoes both, and control
moves once both are complete. -/
def issuePair (s : State) (c a : Instr) (wc wa : IWord) : Host.Outcome State Fault Refusal :=
  let u := s.openBundle
  match exec c (u.withWord .cslot wc) with
  | .next s1 =>
    let e1 := s1.ctx.last
    let v := if e1 = .done then s1 else u
    match exec a (v.withWord .aslot wa) with
    | .next s2 =>
      let e2 := s2.ctx.last
      if mustWait c u || mustWait a (v.withWord .aslot wa) then .next (s.ended .wait)
      else if e1 = .wait ∧ waitActs c = false then exec c (s.withWord .cslot wc)
      else if e2 = .wait then exec a (s.withWord .aslot wa)
      else match firstTrap (trapOfEnd e1 ++ trapOfEnd e2 ++ s.pairConflict c a wa) with
        | some t => s.raised t
        | none => if e1 = .wait then exec c (s.withWord .cslot wc) else .next ((s2.retire.leaveNow s.ctx.key).ended .done)
    | .fault f => .fault f
    | .refused r => .refused r
  | .fault f => .fault f
  | .refused r => .refused r

/-- Decode the words of a pair and issue it (R54): ILLEGAL of the C-slot before that of the A-slot. -/
def decodePair (s : State) (wc wa : IWord) : Host.Outcome State Fault Refusal :=
  match decodeWord wc, decodeWord wa with
  | .error _, _ => s.raised (illegal wc false)
  | .ok _, .error _ => s.raised (illegal wa true)
  | .ok c, .ok a => s.issuePair c a wc wa

/-- Issue the REP word of a unit (R111, R112). -/
def issueRep (s : State) (w0 w1 : IWord) : Host.Outcome State Fault Refusal :=
  let u := s.withWord .lone w0
  let v := { u with ctx := { u.ctx with word2 := w1 } }
  match decodeWord w0 with
  | .error _ => v.raised (illegal w0 false)
  | .ok i => exec i v

/-- Issue one iteration of a REP unit: the A-word with its fields advanced (R112). -/
def issueIter (s : State) (r : RepUnit) : Host.Outcome State Fault Refusal :=
  let u := (s.begun s.ctx.key r.pc 8).withWord .rep r.word2
  match decodeWord r.word, decodeWord r.word2 with
  | .ok (.rep _ _ ds s1s s2s), .ok i =>
    let j := shiftA i (r.k * ds.toNat) (r.k * s1s.toNat) (r.k * s2s.toNat)
    if j.wf then exec j u else u.raised (illegal r.word2 true)
  | _, _ => u.raised (illegal r.word2 true)

/-- Fetch the word after the first one (R38, R39). -/
def second (s : State) (k : State → IWord → Host.Outcome State Fault Refusal) : Host.Outcome State Fault Refusal :=
  match s.fetchWord (s.ctx.pc + 4) with
  | .held u => .next (u.ended .wait)
  | .fault c v u => u.raised { cause := c, slot := false, val := v }
  | .word w u => k u w

/-- The bundle that begins with a fetched word: its framing, then its issue (R38). -/
def frame (s : State) (w0 : IWord) : Host.Outcome State Fault Refusal :=
  let pc := s.ctx.pc
  let two := { s with ctx := { s.ctx with next := pc + 8 } }
  if isA w0 && !isLone w0 then s.framing w0
  else if !isA w0 && major w0 == 6 then
    if !isLone w0 then s.framing w0
    else two.second fun u w1 => if !isA w1 || !isLone w1 then u.framing w1 else u.issueRep w0 w1
  else if isLone w0 then s.issueLone w0
  else if pc.getLsbD 2 then s.framing w0
  else two.second fun u w1 => if !isA w1 || isLone w1 then u.framing w1 else u.decodePair w0 w1

/-- The thread's next bundle (R38, R39). -/
def nextBundle (s : State) (key : Nat) : Host.Outcome State Fault Refusal :=
  let u := s.begun key (s.thread key).pc 4
  match u.fetchWord u.ctx.pc with
  | .held v => .next (v.ended .wait)
  | .fault c x v => v.raised { cause := c, slot := false, val := x }
  | .word w v => v.frame w

/-! ### A thread's turn -/

/-- Messages of a thread that its Referee has not paired (R368). -/
def unpaired (s : State) (key : Nat) : Nat :=
  (s.pairs.map fun p => if p.pkey = key then p.prim.length else if p.tkey = key then p.twin.length else 0).sum
/-- The selector may choose the thread: the dies are released, it runs, no trap waits for its outstanding work, its core is not being scrubbed, its member is not being
parked (R29, R109, R232, R319, R359, R387). -/
def mayIssue (s : State) (key : Nat) : Bool :=
  let t := s.thread key
  let member := match t.res with
    | some r => !r.saving && s.recordsIn key && !(r.parkReq && t.park != .none)
    | none => true
  s.boot.st == .running && t.running && t.trap.isNone && (s.core (key / 4)).scrub.isNone && s.active (key / 4) && member
/-- A bundle of a thread would leave more than 16 messages unpaired in its Referee: it waits (R368). One that sends more than that by itself waits until
the Referee holds none (DESIGN CHOICE, log 105). -/
def refereeFull (s u : State) (key : Nat) : Bool :=
  decide (16 < u.unpaired key) && decide (s.unpaired key < u.unpaired key) && decide (0 < s.unpaired key)
/-- DUPLEX in place of the bundle of a thread of a failed pair (R369). -/
def raiseDuplex (s : State) (key : Nat) (v : Word) : State :=
  let t := s.thread key
  let u := (s.modThread key fun t => { t with duplex := none }).begun key t.pc 4
  let tr : Trap := { cause := .duplex, slot := false, val := v }
  (u.raiseTrap tr).ended (.raise tr)
/-- The instruction of the slot that made a bundle wait, with the fields of its iteration in a REP unit (R112, R390). -/
def waiting (s : State) (key : Nat) : Option Instr :=
  match decodeWord s.ctx.word with
  | .error _ => none
  | .ok i => match s.ctx.form, (s.thread key).rep with
    | .rep, some r => match decodeWord r.word with
      | .ok (.rep _ _ a b c) => some (shiftA i (r.k * a.toNat) (r.k * b.toNat) (r.k * c.toNat))
      | _ => some i
    | _, _ => some i
/-- The core's marks of the bundle that a thread has tried: a bundle that is held waits for the thread's outstanding instructions (R29, R31, R378,
R390). -/
def noted (s : State) (key : Nat) (pc : Word) : State :=
  if s.ctx.last = .wait then
    s.modThread key fun t => { t with
      stalled := s.waiting key, waitedOn := t.waitedOn ++ ((t.outst.filter fun o => !o.fin && !t.waitedOn.contains o.id).map fun o => o.id) }
  else (s.modCore (key / 4) fun c => { c with lastThr := key % 4, lastPc := pc }).takeDroops (key / 4)
/-- A thread's bundle, or the next iteration of its REP unit (R38, R114). -/
def bundleTurn (s : State) (key : Nat) : Host.Outcome State Fault Refusal :=
  let t := s.thread key
  match t.rep with
  | some r => (s.begun key t.pc 8).issueIter r
  | none => s.nextBundle key
/-- A bundle has raised a fault that R35 reports before DUPLEX. -/
def beforeDuplex : SlotEnd → Bool
  | .raise t => decide (t.cause.rank < Cause.duplex.rank)
  | .done => false | .wait => false
/-- A thread's turn: control moves for a bundle whose A-slot was outstanding; WATCHDOG in place of the bundle, before every fault of it; the bundle,
or an iteration of its REP unit, where its Referee has room; DUPLEX in its place unless a fault of the bundle ranks before it; nothing when the
thread may not issue (R29, R32, R35, R40, R114, R368, R369). -/
def turnOf (s : State) (key : Nat) : Host.Outcome State Fault Refusal :=
  let t := s.thread key
  if t.leave.isSome then .next (s.leaveNow key)
  else if s.mayIssue key = false then .next s
  else if t.expired then execWatchdog (key / 4) (key % 4) s
  else match t.duplex with
    | some v => match s.bundleTurn key with
      | .next u => if beforeDuplex u.ctx.last then .next (u.noted key t.pc) else .next ((s.raiseDuplex key v).noted key t.pc)
      | .fault f => .fault f
      | .refused x => .refused x
    | none =>
      match s.bundleTurn key with
      | .next u => if s.refereeFull u key then .next s else .next (u.noted key t.pc)
      | .fault f => .fault f
      | .refused x => .refused x

end State

end Sys2Proof.Machine
end

