-- ==== Sys2Proof/Machine/Sched.lean ====
section
/-! DEFINITION. What moves next: the turns to come, the clocks of the cores, and a fair round of turns when none is given (R26, R29, R390, log 1). -/

namespace Sys2Proof.Machine

/-- An event happens: the meaning of its row. -/
def Event.perform (e : Event) (s : State) : Host.Outcome State Fault Refusal :=
  match e with
  | .trapEntry a b => execTrapEntry a b s
  | .regionRestart a b => execRegionRestart a b s
  | .watchdog a b => execWatchdog a b s
  | .accessComplete a b c => execAccessComplete a b c s
  | .load a => execLoad a s
  | .store a => execStore a s
  | .atomic a => execAtomic a s
  | .loadfe a => execLoadfe a s
  | .storefe a => execStorefe a s
  | .loadResponse a => execLoadResponse a s
  | .ack a => execAck a s
  | .nack a => execNack a s
  | .retry a => execRetry a s
  | .retryResend a => execRetryResend a s
  | .retryListReoffer a b => execRetryListReoffer a b s
  | .translationWalk a b => execTranslationWalk a b s
  | .sfuStart a => execSfuStart a s
  | .sfuComplete a => execSfuComplete a s
  | .mmComplete a b => execMmComplete a b s
  | .matrixDispatch a => execMatrixDispatch a s
  | .kstepEnd a => execKstepEnd a s
  | .matrixCommandComplete a => execMatrixCommandComplete a s
  | .matrixAgeing a b => execMatrixAgeing a b s
  | .copyLine a b => execCopyLine a b s
  | .copydata a => execCopydata a s
  | .mcastMsg a => execMcastMsg a s
  | .copyComplete a b => execCopyComplete a b s
  | .invMsg a => execInvMsg a s
  | .invxMsg a => execInvxMsg a s
  | .activationStart a b => execActivationStart a b s
  | .rawArrivalStart a b => execRawArrivalStart a b s
  | .kickStart a b => execKickStart a b s
  | .arrivalAgeing a b => execArrivalAgeing a b s
  | .pass a => execPass a s
  | .passForward a => execPassForward a s
  | .passAtSlot a => execPassAtSlot a s
  | .bounce a => execBounce a s
  | .readydelta a => execReadydelta a s
  | .rdyquery a => execRdyquery a s
  | .rdyanswer a => execRdyanswer a s
  | .reply a => execReply a s
  | .break_ a => execBreak a s
  | .fetch a => execFetch a s
  | .value a => execValue a s
  | .hrelease a => execHrelease a s
  | .relayForward a b => execRelayForward a b s
  | .rstvMsg a => execRstvMsg a s
  | .redirectQueueDrain a b => execRedirectQueueDrain a b s
  | .directoryAnswer a => execDirectoryAnswer a s
  | .grpctl a => execGrpctl a s
  | .grpstat a => execGrpstat a s
  | .memberPark a b => execMemberPark a b s
  | .saveImageComplete a b => execSaveImageComplete a b s
  | .groupEnded a => execGroupEnded a s
  | .kickMsg a => execKickMsg a s
  | .kickoffFanout a => execKickoffFanout a s
  | .kickend a => execKickend a s
  | .bararrive a => execBararrive a s
  | .barrelease a => execBarrelease a s
  | .barrierTimeout a b => execBarrierTimeout a b s
  | .barbreak a => execBarbreak a s
  | .barconfig a => execBarconfig a s
  | .refereePair a => execRefereePair a s
  | .refereeTimeout a => execRefereeTimeout a s
  | .unassignedMessage a => execUnassignedMessage a s
  | .l2pdataWrite a => execL2pdataWrite a s
  | .l2pUpdate a b => execL2pUpdate a b s
  | .rtdataWrite a => execRtdataWrite a s
  | .vallotWrite a => execVallotWrite a s
  | .tgenWrite a => execTgenWrite a s
  | .ctxcmdCreate => execCtxcmdCreate s
  | .ctxcmdDestroy => execCtxcmdDestroy s
  | .ctxrectWrite a => execCtxrectWrite a s
  | .contextBound a => execContextBound a s
  | .contextShrunk a => execContextShrunk a s
  | .contextDestroyed a => execContextDestroyed a s
  | .scrubComplete a => execScrubComplete a s
  | .hfsendWrite a => execHfsendWrite a s
  | .deviceFrame a => execDeviceFrame a s
  | .frameWindowWrite a b c => execFrameWindowWrite a b c s
  | .hostframeInject a => execHostframeInject a s
  | .hostframe a => execHostframe a s
  | .gap a => execGap a s
  | .drheadWrite a b => execDrheadWrite a b s
  | .drbaseWrite a b => execDrbaseWrite a b s
  | .drsizeWrite a b => execDrsizeWrite a b s
  | .bar2Access a b c d => execBar2Access a b c d s
  | .functionLevelReset a => execFunctionLevelReset a s
  | .packageReset => execPackageReset s
  | .bootctlGo a => execBootctlGo a s
  | .imageVerification => execImageVerification s
  | .discover a => execDiscover a s
  | .discoverAnswer a => execDiscoverAnswer a s
  | .silentRouter a b => execSilentRouter a b s
  | .floodEnd a => execFloodEnd a s
  | .measxWrite a => execMeasxWrite a s
  | .attreqWrite a => execAttreqWrite a s
  | .attestationReport => execAttestationReport s
  | .powerLimit a => execPowerLimit a s
  | .overtemperature => execOvertemperature s
  | .powerGate a => execPowerGate a s
  | .gateDrainTimeout a => execGateDrainTimeout a s
  | .droop a b => execDroop a b s
  | .droopRearm a b => execDroopRearm a b s
  | .traceDrain a => execTraceDrain a s
  | .trtailWrite a => execTrtailWrite a s
  | .dbgctlWrite a => execDbgctlWrite a s
  | .hbmRowRepair a b => execHbmRowRepair a b s
  | .nodeidWrite a => execNodeidWrite a s
  | .portctlWrite a b => execPortctlWrite a b s
  | .trainingBackoff a b => execTrainingBackoff a b s
  | .trainingSequence a b c => execTrainingSequence a b c s
  | .laneRetrain a b c => execLaneRetrain a b c s
  | .linkFlit a b => execLinkFlit a b s
  | .linkResendTimeout a => execLinkResendTimeout a s
  | .portDown a => execPortDown a s
  | .marker a => execMarker a s
  | .ckptWalk a => execCkptWalk a s
  | .acceptNotice a => execAcceptNotice a s

namespace State

/-! ### Clocks (R26, R390) -/

/-- A thread's bundle waits on a hold bit, or on tags with a count (R183, R184, R242). -/
def stalledNow (s : State) (key : Nat) : Bool :=
  let t := s.thread key
  let tags := (s.core (key / 4)).tags
  match t.stalled with
  | none => false
  | some i => heldReg t.ctl.sbhold (readsOf i ++ writesOf i) || (match i with
    | .waitany _ x => (t.getX x &&& tags.tdone) == 0 && !tags.idle (t.getX x)
    | .waitall x => !tags.idle (t.getX x)
    | _ => false)
/-- A thread keeps its core's clock running: it can issue, or something of it is outstanding, or it waits at a barrier (R390). -/
def threadBusy (s : State) (key : Nat) : Bool :=
  let t := s.thread key
  (t.running && !s.stalledNow key) || !t.quiet || !t.accs.isEmpty || (t.slots.toList.any fun r => r.isSome) || t.park == .barrier || t.trap.isSome
/-- A core's clock runs. -/
def clockRuns (s : State) (site : Nat) (c : Core) : Bool :=
  !c.gated && ((List.range 4).any (fun i => s.threadBusy (4 * site + i)) ||
    !c.sfu.isEmpty || !c.mm.isEmpty || !c.eng.isEmpty || !c.tags.copies.isEmpty || !c.arrivals.isEmpty || !c.trace.buf.isEmpty ||
    !c.walks.isEmpty || !c.mem.retry.isEmpty || c.scrub.isSome || (c.relay.slots.any fun e => !e.2.fifo.isEmpty) ||
    !c.sent.isEmpty || !c.ends.isEmpty || (s.refused.any fun m => m.frm == .core site) || (s.resend.any fun e => e.1.frm == .core site))
/-- Cycles pass, once the dies are released: TIME everywhere, CYCLE on the cores whose clock runs (R26, R387, R390). -/
def elapse (s : State) (d : Nat) : State :=
  let now := s.time + BitVec.ofNat 64 d
  if s.boot.st ≠ .running then s
  else { s with
    time := now
    cores := s.cores.map fun e => if s.clockRuns e.1 e.2 then (e.1, { e.2 with cycle := e.2.cycle + BitVec.ofNat 64 d, ran := now }) else e }

/-! ### A round of turns (log 1) -/

/-- The events that a message in flight may be. -/
def messageEvents (m : Msg) (k : Nat) : List Event :=
  if m.typ = MT.inv then [.invMsg k, .directoryAnswer k]
  else if m.typ = MT.invx then [.invxMsg k, .directoryAnswer k]
  else if m.typ = MT.pass then [.pass k, .passForward k, .passAtSlot k, .directoryAnswer k]
  else if m.typ = MT.accept then [.acceptNotice k]
  else if m.typ = MT.reply then [.reply k]
  else if m.typ = MT.brk then [.break_ k]
  else if m.typ = MT.fetch then [.fetch k]
  else if m.typ = MT.value then [.value k]
  else if m.typ = MT.hrelease then [.hrelease k]
  else if m.typ = MT.load then [.load k, .loadResponse k]
  else if m.typ = MT.store then [.store k]
  else if m.typ = MT.atomic then [.atomic k]
  else if m.typ = MT.loadfe then [.loadfe k]
  else if m.typ = MT.storefe then [.storefe k]
  else if m.typ = MT.ack then [.ack k, .discoverAnswer k]
  else if m.typ = MT.nack then [.nack k, .discoverAnswer k]
  else if m.typ = MT.retry then [.retry k]
  else if m.typ = MT.rstv then [.rstvMsg k, .directoryAnswer k]
  else if m.typ = MT.readydelta then [.readydelta k]
  else if m.typ = MT.bounce then [.bounce k, .directoryAnswer k]
  else if m.typ = MT.rdyquery then [.rdyquery k, .directoryAnswer k]
  else if m.typ = MT.rdyanswer then [.rdyanswer k]
  else if m.typ = MT.bararrive then [.bararrive k]
  else if m.typ = MT.barrelease then [.barrelease k]
  else if m.typ = MT.barbreak then [.barbreak k]
  else if m.typ = MT.barconfig then [.barconfig k]
  else if m.typ = MT.mcast then [.mcastMsg k]
  else if m.typ = MT.copydata then [.copydata k]
  else if m.typ = MT.kick then [.kickMsg k, .kickoffFanout k, .directoryAnswer k]
  else if m.typ = MT.kickend then [.kickend k]
  else if m.typ = MT.discover then [.discover k]
  else if m.typ = MT.hostframe then [.hostframe k]
  else if m.typ = MT.grpctl then [.grpctl k]
  else if m.typ = MT.grpstat then [.grpstat k]
  else if m.typ = MT.marker then [.marker k]
  else [.unassignedMessage k]

/-- The numbers below n, the last one first: what an event takes out leaves the places before it as they are. -/
def downFrom (n : Nat) : List Nat := (List.range n).reverse
/-- The threads of a core that run, in THID order after the one that issued last (R29). -/
def threadTurns (s : State) (site : Nat) (c : Core) : List Turn :=
  ((List.range 4).map fun i => (c.lastThr + 1 + i) % 4).filterMap fun i =>
    if (s.thread (4 * site + i)).running then some (.issue site i) else none
/-- The events of a thread slot. -/
def slotEvents (s : State) (site thr : Nat) : List Event :=
  let t := s.thread (4 * site + thr)
  (if t.trap.isSome then [.trapEntry site thr, .regionRestart site thr] else []) ++
  ((downFrom t.accs.length).map fun k => .accessComplete site thr k) ++
  (if t.running then [] else [.rawArrivalStart site thr, .kickStart site thr, .activationStart site thr]) ++
  (match t.res with
    | some r => if r.saving then [.saveImageComplete site thr] else if r.parkReq then [.memberPark site thr] else []
    | none => []) ++
  (if t.bar.since.isSome then [.barrierTimeout site thr] else [])
/-- The events of a core's units. -/
def coreEvents (s : State) (site : Nat) (c : Core) : List Event :=
  ((List.range 4).flatMap fun i => s.slotEvents site i) ++
  ((downFrom (s.heldOwn site).length).map fun k => .retryListReoffer site k) ++
  ((downFrom c.walks.length).map fun k => .translationWalk site k) ++
  (if c.sfu.isEmpty then [] else [.sfuComplete site, .sfuStart site]) ++
  ((downFrom c.mm.length).map fun k => .mmComplete site k) ++
  (if c.eng.isEmpty then [] else [.matrixCommandComplete site, .kstepEnd site, .matrixDispatch site]) ++
  ((downFrom c.eng.length).map fun k => .matrixAgeing site k) ++
  ((downFrom c.tags.copies.length).flatMap fun k => [.copyLine site k, .copyComplete site k]) ++
  ((downFrom (c.arrivals.length + ((List.range 4).map fun i => (s.thread (4 * site + i)).reqs.length).sum)).map fun k => .arrivalAgeing site k) ++
  (c.relay.slots.filterMap fun e => if e.2.fifo.isEmpty then none else some (.relayForward site e.1)) ++
  (if c.scrub.isSome then [.scrubComplete site] else []) ++
  (if c.trace.buf.isEmpty then [] else [.traceDrain site]) ++
  (if c.gateHold.isSome then [.gateDrainTimeout site] else if c.gated then [] else [.powerGate site])
/-- The events of groups, contexts, the host channel, boot, ports, the L2P map, Referees and checkpoints. -/
def deviceEvents (s : State) : List Event :=
  (s.groups.flatMap fun e => (e.2.members.zipIdx.flatMap fun r => if r.1.queue.isEmpty then [] else [.redirectQueueDrain e.1 r.2]) ++
    (if e.2.st = .draining then [.groupEnded e.1] else [])) ++
  (s.ctxs.flatMap fun e => match e.2.st with
    | .creating | .growing => [.contextBound e.1]
    | .shrinking => [.contextShrunk e.1]
    | .destroying => [.contextDestroyed e.1]
    | .free | .active => []) ++
  (s.chans.flatMap fun e => (if e.2.queue.isEmpty then [] else [.deviceFrame e.1]) ++ (if e.2.got.isEmpty then [] else [.hostframeInject e.1]) ++
    (if e.2.gapSince.isSome then [.gap e.1] else [])) ++
  (if s.boot.st = .checking then [.imageVerification] else []) ++ (if s.boot.pending.isSome then [.attestationReport] else []) ++
  ((List.range 4).flatMap fun d =>
    let x := s.die d
    if x.floodAt.isNone || x.floodDone then []
    else ((((List.range 1024).drop 1).filter fun i => !x.absorbed.contains i).take 16).map (fun i => .silentRouter d (dieSite d i)) ++ [.floodEnd d]) ++
  (s.ports.flatMap fun e => ((List.range 8).filterMap fun l => if (Map.find e.2.draws l).isSome then some (.trainingBackoff e.1 l) else none) ++
    [.linkResendTimeout e.1, .portDown e.1]) ++
  ((downFrom s.l2p.upd.length).flatMap fun k => match s.l2p.upd[k]? with
    | some u => (((List.range 4096).filter fun r => !u.got.contains r).take 64).map fun r => .l2pUpdate k r
    | none => []) ++
  ((downFrom s.pairs.length).flatMap fun k => [.refereePair k, .refereeTimeout k]) ++
  (s.ckpts.map fun c => .ckptWalk c.slot) ++
  ((List.range 4).flatMap fun d => ((s.die d).supply.map fun e => .droop d e.1) ++ (s.die d).fired.map fun e => .droopRearm d e.1) ++
  (s.hbm.rowErr.filterMap fun e => if 4 ≤ e.2 then some (.hbmRowRepair (e.1 % 8) (e.1 / 8)) else none)
/-- One round: every thread that runs, every message in flight and every event of the state, a cycle for each. -/
def round (s : State) : List (Nat × Turn) :=
  let threads := s.cores.flatMap fun e => s.threadTurns e.1 e.2
  let msgs := (downFrom s.net.length).flatMap fun k => match s.net[k]? with
    | some m => messageEvents m k
    | none => []
  let back := (downFrom s.resend.length).map fun k => Event.retryResend k
  let units := s.cores.flatMap fun e => s.coreEvents e.1 e.2
  (threads ++ (msgs ++ back ++ units ++ s.deviceEvents).map fun e => Turn.event e).map fun t => (1, t)

/-- Storage is damaged. A register that ECC can not correct is delivered as poison: its next read raises POISON, with a free EVAL; the record
names the core, and holds a free syndrome (R31, R333, R362, R363, logs 99, 104). -/
def upset (s : State) (x : Upset) : State :=
  match x with
  | .hbm a lost => { s with hbm := { s.hbm with ecc := Map.set (fun _ => 0) s.hbm.ecc (a / 64) (if lost then 2 else max 1 (s.hbm.eccOf a)) } }
  | .bit site =>
    let (y, s1) := s.drawWord
    s1.record (bankOf site) { rank := 1, source := 1, tenant := s.coreTenant site, synd := y, unit := (s.coreId site).toNat }
  | .mem site a => s.modMem site fun m => { m with pois := setPois m.pois (a / 8 * 8) true 8 }
  | .reg site thr r =>
    let (v, s1) := s.drawWord
    let (y, s2) := s1.drawWord
    (s2.modThread (keyAt site thr) fun t => { t with marks := t.marks ++ [{ reg := r, cause := .poison, val := v }] }).record (bankOf site)
      { rank := 2, source := 1, tenant := s.coreTenant site, synd := y, unit := (s.coreId site).toNat }
  | .tile site i =>
    let (y, s1) := s.drawWord
    (s1.modCore site fun c => { c with tilePois := c.tilePois ||| (1 <<< (i % 16)) }).record (bankOf site)
      { rank := 2, source := 1, tenant := s.coreTenant site, synd := y, unit := (s.coreId site).toNat }

/-! ### The next turn -/

/-- Take a turn after some cycles: an event happens, or a thread tries its next bundle; a core above the power limit may skip an issue slot
(R391). -/
def take (s : State) (d : Nat) (t : Turn) : Host.Outcome State Fault Refusal :=
  let u := s.elapse d
  match t with
  | .event e => e.perform u
  | .msixv func v => .next (u.writeMsixv func v)
  | .stage off data => .next (u.stageWrite off data)
  | .attreq off data => .next (u.attreqBytes off data)
  | .bar2Size n => .next (u.sizeBar2 n)
  | .supply die det mv => .next (u.readSupply die det mv)
  | .bar2Atomic op pa v cmp => .next (u.bar2Op op pa v cmp)
  | .upset x => .next (u.upset x)
  | .issue site thr =>
    if u.throttled then
      match u.drawBool with
      | (true, v) => .next v
      | (false, v) => v.turnOf (keyAt site thr)
    else u.turnOf (keyAt site thr)
/-- What moves next moves: the first turn of the agenda, or of a new round; with no turn at all, one cycle passes (log 1). -/
def turn (s : State) : Host.Outcome State Fault Refusal :=
  let l := match s.agenda with
    | [] => s.round
    | a => a
  match l with
  | [] => .next (s.elapse 1)
  | (d, t) :: r => { s with agenda := r }.take d t

/-! ### Placing a word where the next step fetches it -/

/-- The words of a bundle that runs one given word (R37): a paired word takes a NOP or an ANOP as its partner, a REP word the ANOP as its
A-word. -/
def bundleOf (w : IWord) : IWord × IWord :=
  if isA w then (if isLone w then (w, 0) else (0x00000000#32, w))
  else if major w == 6 then (w ||| 0x40000000#32, 0xFF800000#32)
  else if isLone w then (w, 0) else (w, 0xBF800000#32)
/-- The machine with a word stored where the first thread of the first die fetches, that thread running its resident supervisor, and its turn
next (log 29). -/
def placeWord (s : State) (w : IWord) : State :=
  let c := corner 0
  let b := bundleOf w
  let a := ((s.thread (4 * c)).pc.toNat) % 2 ^ 19
  { (s.modCore c fun k => { k with mem := { k.mem with bytes := (k.mem.bytes.store a 4 b.1.toNat).store (a + 4) 4 b.2.toNat } }).modThread (4 * c)
      fun t => { t with running := true, sup := true, viaEret := false } with
    boot := { s.boot with st := .running }
    agenda := [(1, .issue c 0)] }

end State

end Sys2Proof.Machine
end

