-- ==== Sys2Proof/Machine/Step.lean ====
section
/-! DEFINITION. One step of the machine, and the placing of an instruction where the next step fetches it. -/

namespace Sys2Proof.Machine

/-- One step: what moves next moves (log 1). -/
def step (s : State) : Host.Outcome State Fault Refusal := s.turn

/-- The machine with an instruction of the opcode table, its bits numbered as there, where the next step fetches (log 29). -/
def State.withFetchWord (s : State) (_nbits w : Nat) : State := s.placeWord (BitVec.ofNat 32 w)

end Sys2Proof.Machine
end

