-- ==== Sys2Proof/Safety.lean ====
section
/-! DEFINITION. What counts as a safe run, and the words in which the statements speak of a slot: nothing holds it back, where its effects begin,
how it ends. -/

namespace Sys2Proof.Machine

/-! ### A slot of a bundle (R40, R42) -/

/-- The instruction can issue and no check before its own fails: no window, scoreboard entry or hold bit makes it wait (R29, R30, R242), its
mode may run it (R50), its registers lie in the allotment (R22) and outside every open window (R30), and no completed instruction has left an
error for it (R31). -/
abbrev Clear (i : Instr) (s : State) : Prop := mustWait i s = false ∧ earlyFaults i s = []

/-- The state in which a slot acts: a lone word and an iteration of a REP unit open their own bundle; the slots of a pair act on the bundle that
the step has opened. -/
def State.entered (s : State) : State :=
  match s.ctx.form with
  | .lone => s.openBundle
  | .rep => s.openBundle
  | .cslot => s
  | .aslot => s

/-- The state `v` once the slot that began in `s` is complete: a lone word moves the pc on, an iteration of a REP unit counts, the slots of a
pair are joined by the step. -/
def State.finished (s v : State) : State :=
  match s.ctx.form with
  | .lone => v.retire.ended .done
  | .rep => (v.closed.modCur fun t => t.afterIter s.ctx.next).ended .done
  | .cslot => v.ended .done
  | .aslot => v.ended .done

/-- The state after a fault of the slot that began in `s`: a lone word and an iteration take it at once; the step takes that of a pair. -/
def State.trapped (s : State) (t : Trap) : State :=
  match s.ctx.form with
  | .lone => (s.raiseTrap t).ended (.raise t)
  | .rep => (s.raiseTrap t).ended (.raise t)
  | .cslot => s.ended (.raise t)
  | .aslot => s.ended (.raise t)

/-- Wherever it is clear to issue, the instruction completes with an effect. -/
def Does (i : Instr) (f : State → State) : Prop := ∀ s, Clear i s → exec i s = .next (s.finished (f s.entered))
/-- The instruction completes with an effect wherever it is clear to issue and a condition holds of the state in which it acts. -/
def DoesIf (i : Instr) (p : State → Prop) (f : State → State) : Prop :=
  ∀ s, Clear i s → p s.entered → exec i s = .next (s.finished (f s.entered))
/-- The instruction raises a fault wherever it is clear to issue and a condition holds of the state in which it would act. -/
def Traps (i : Instr) (p : State → Prop) (c : Cause) (v : State → Word) : Prop :=
  ∀ s, Clear i s → p s.entered → exec i s = .next (s.trapped (s.trapOf c (v s.entered)))

/-- The instruction writes x[d] with a function of x[s]. -/
def Sets1 (i : Instr) (d s : XReg) (f : Word → Word) : Prop := Does i fun u => u.wx d (f (u.rx s))
/-- The instruction writes x[d] with a function of x[s] and x[t]. -/
def Sets2 (i : Instr) (d s t : XReg) (f : Word → Word → Word) : Prop := Does i fun u => u.wx d (f (u.rx s) (u.rx t))

/-- The instruction writes the elements of v[d] of one type that the mask selects: element k takes (f u k).1, and the flags of the elements
written are added (R118). -/
def Elementwise (i : Instr) (d : VReg) (ty : Ty) (mk : MReg) (f : State → Nat → Nat × FFlags) : Prop :=
  Does i fun u => u.vWrite d ty.width 1 (lanes ty.width) ty.width mk (f u)
/-- Element k of a vector register of the bundle, at a type. -/
def State.el (u : State) (ty : Ty) (r : VReg) (k : Nat) : Nat := elem ty.width (u.rv r) k
/-- The F32 in x[r][31:0] of the bundle (R97). -/
def State.f32 (u : State) (r : XReg) : Nat := (u.rx r).toNat % 2 ^ 32
/-- The instruction writes x[d] with an F32 result, zero-extended, and adds its flags (R97). -/
def SetsF32 (i : Instr) (d : XReg) (f : State → Nat × FFlags) : Prop :=
  Does i fun u => (u.wx d (BitVec.ofNat 64 (f u).1)).wflags (f u).2

/-! ### Accesses to memory -/

/-- Where the four forms of an address lead, and the pointer they leave (R159): PTR, PTR + x, PTR with PTR + size left, PTR with PTR + x left, and
PTR + x × size. -/
def State.modeAddr (u : State) (a : AReg) (x : XReg) (mode : BitVec 3) (n : Nat) : Int × Option Int :=
  let p : Int := (u.ra a).ptr.toNat
  match mode.toNat with
  | 1 => (p + (u.rx x).toInt, none)
  | 2 => (p, some (p + n))
  | 3 => (p, some (p + (u.rx x).toInt))
  | 4 => (p + (u.rx x).toInt * n, none)
  | _ => (p, none)

/-- An atomic: 8 bytes, or 4 for the F32 operations; permission A; the HOST window takes only ADD, SWAP and CAS (R168, R169). -/
def State.atomicAcc (u : State) (i : Instr) (d : XReg) (a : AReg) (x : XReg) (sc : Scope) (ord : BitVec 2) (op : BitVec 4) : Acc :=
  let n := if 11 ≤ op.toNat then 4 else 8
  { i := i, a := a, op := .atomic d op (u.rx x) (u.rx d), dst := xRef d, tracked := true, ord := ord, sc := scopeNum sc
    chk := { e := (u.ra a).ptr.toNat, size := n, align := n, ok := fun p => p.getLsbD 2, need := [.write], wr := true
             fe := !(op == 0 || op == 8 || op == 9) } }

/-- The access that an instruction of one contiguous run makes: its bytes, alignment, new pointer and permissions (R158, R159, R162, R164,
R168, R169). -/
def accOf (u : State) (i : Instr) : Option Acc :=
  match i with
  | .lds d a xi _ sz mode =>
    let n := szBytes sz
    let m := u.modeAddr a xi mode n
    some { i := i, a := a, op := .loadX d sz, dst := xRef d, tracked := true
           chk := { e := m.1, size := n, align := n, adv := m.2, ok := fun p => p.getLsbD 0, need := [.read], wr := false } }
  | .sts r a xi sz mode =>
    let n := szBytes sz
    let m := u.modeAddr a xi mode n
    some { i := i, a := a, op := .store ((u.rx r).setWidth 4096), dst := [], tracked := false
           chk := { e := m.1, size := n, align := n, adv := m.2, ok := fun p => p.getLsbD 1, need := [.write], wr := true } }
  | .ldv d a xi _ sz mode =>
    let n := 64 * 2 ^ sz.toNat
    let m := u.modeAddr a xi mode n
    if sz.toNat ≤ 3 then
      some { i := i, a := a, op := .loadV d n, dst := vRef d, tracked := true
             chk := { e := m.1, size := n, align := min n 128, adv := m.2, ok := fun p => p.getLsbD 0, need := [.read], wr := false } }
    else none
  | .stv r a xi sz mode =>
    let n := 64 * 2 ^ sz.toNat
    let m := u.modeAddr a xi mode n
    if sz.toNat ≤ 3 then
      some { i := i, a := a, op := .store (u.rv r), dst := [], tracked := false
             chk := { e := m.1, size := n, align := min n 128, adv := m.2, ok := fun p => p.getLsbD 1, need := [.write], wr := true } }
    else none
  | .stnt r a xi sz mode =>
    let n := 64 * 2 ^ sz.toNat
    let m := u.modeAddr a xi mode n
    some { i := i, a := a, op := .store (u.rv r), dst := [], tracked := false, nt := true
           chk := { e := m.1, size := n, align := min n 128, adv := m.2, ok := fun p => p.getLsbD 1 && p.getLsbD 4, need := [.write]
                    wr := true } }
  | .ldfe d a _ mode =>
    some { i := i, a := a, op := .ldfe d mode, dst := xRef d, tracked := true
           chk := { e := (u.ra a).ptr.toNat, size := 8, align := 8, ok := fun p => p.getLsbD 3, need := [.read, .fe], wr := false, fe := true } }
  | .stfe r a mode =>
    some { i := i, a := a, op := .stfe (u.rx r) mode, dst := [], tracked := false
           chk := { e := (u.ra a).ptr.toNat, size := 8, align := 8, ok := fun p => p.getLsbD 3, need := [.write, .fe], wr := true, fe := true } }
  | .atomAdd d a x sc o => some (u.atomicAcc i d a x sc o 0)
  | .atomAnd d a x sc o => some (u.atomicAcc i d a x sc o 1)
  | .atomOr d a x sc o => some (u.atomicAcc i d a x sc o 2)
  | .atomXor d a x sc o => some (u.atomicAcc i d a x sc o 3)
  | .atomMin d a x sc o => some (u.atomicAcc i d a x sc o 4)
  | .atomMax d a x sc o => some (u.atomicAcc i d a x sc o 5)
  | .atomMinu d a x sc o => some (u.atomicAcc i d a x sc o 6)
  | .atomMaxu d a x sc o => some (u.atomicAcc i d a x sc o 7)
  | .atomSwap d a x sc o => some (u.atomicAcc i d a x sc o 8)
  | .atomCas d a x sc o => some (u.atomicAcc i d a x sc o 9)
  | .atomMaxrst d a x sc o => some (u.atomicAcc i d a x sc o 10)
  | .atomFadd d a x sc o => some (u.atomicAcc i d a x sc o 11)
  | .atomFmax d a x sc o => some (u.atomicAcc i d a x sc o 12)
  | .atomFmaxrst d a x sc o => some (u.atomicAcc i d a x sc o 13)
  | _ => none

/-- Nothing earlier holds an access back: no acquire is pending, and a release has its earlier accesses performed (R170). -/
def State.accFree (u : State) (c : Acc) : Prop := u.acqPending = false ∧ (c.ord.getLsbD 1 = true → u.drained u.ctx.key = true)
/-- What an access leaves beside its bytes: the pointer moved on, the watchpoint checked (R159, R381). -/
def State.accDone (v u : State) (c : Acc) : State := (v.advance c.a c.chk.adv).watch u.site c.chk.e.toNat c.chk.size c.chk.wr

/-! ### A safe run -/

/-- Every memory of the package is in its canonical form. -/
def State.memWf (s : State) : Prop :=
  s.hbm.bytes.wf ∧ s.host.wf ∧ ∀ c, (s.core c).mem.bytes.wf

/-- A run is safe up to a state: the machine goes on from it. -/
def State.safe (s : State) : Prop := ∃ t, step s = .next t

end Sys2Proof.Machine
end

