-- ==== Sys2Proof/Certificates/Slice0/Obligations.lean ====
section
/-! DEFINITION. The statements for the provers. Each says in its docstring which sentence of the spec it formalises. -/

open Sys2Proof Sys2Proof.Machine

/-! ### Scalar integer instructions -/

/-- R94, R95: each register form writes d with the 64-bit value of its table; division by zero and the overflowing quotient give the values of
R95. Nothing else of the thread changes but the pc and the counts of an issued bundle: the next state is written out. -/
def Sys2Proof.Part.IntegerForms : Prop := ∀ d s t : XReg,
  Sets2 (.add d s t) d s t (fun a b => a + b) ∧
  Sets2 (.sub d s t) d s t (fun a b => a - b) ∧
  Sets2 (.and d s t) d s t (fun a b => a &&& b) ∧
  Sets2 (.or d s t) d s t (fun a b => a ||| b) ∧
  Sets2 (.xor d s t) d s t (fun a b => a ^^^ b) ∧
  Sets2 (.sll d s t) d s t (fun a b => a <<< (b.toNat % 64)) ∧
  Sets2 (.srl d s t) d s t (fun a b => a >>> (b.toNat % 64)) ∧
  Sets2 (.sra d s t) d s t (fun a b => a.sshiftRight (b.toNat % 64)) ∧
  Sets2 (.slt d s t) d s t (fun a b => if a.toInt < b.toInt then 1 else 0) ∧
  Sets2 (.sltu d s t) d s t (fun a b => if a.toNat < b.toNat then 1 else 0) ∧
  Sets2 (.mul d s t) d s t (fun a b => BitVec.ofNat 64 (a.toNat * b.toNat)) ∧
  Sets2 (.mulh d s t) d s t (fun a b => BitVec.ofInt 64 (a.toInt * b.toInt / 2 ^ 64)) ∧
  Sets2 (.mulhu d s t) d s t (fun a b => BitVec.ofNat 64 (a.toNat * b.toNat / 2 ^ 64)) ∧
  Sets2 (.div d s t) d s t (fun a b =>
    if b = 0 then BitVec.allOnes 64 else if a = BitVec.intMin 64 ∧ b = -1 then BitVec.intMin 64 else BitVec.ofInt 64 (a.toInt.tdiv b.toInt)) ∧
  Sets2 (.divu d s t) d s t (fun a b => if b = 0 then BitVec.allOnes 64 else BitVec.ofNat 64 (a.toNat / b.toNat)) ∧
  Sets2 (.rem d s t) d s t (fun a b =>
    if b = 0 then a else if a = BitVec.intMin 64 ∧ b = -1 then 0 else BitVec.ofInt 64 (a.toInt.tmod b.toInt)) ∧
  Sets2 (.remu d s t) d s t (fun a b => if b = 0 then a else BitVec.ofNat 64 (a.toNat % b.toNat)) ∧
  Sets2 (.min d s t) d s t (fun a b => if a.toInt ≤ b.toInt then a else b) ∧
  Sets2 (.max d s t) d s t (fun a b => if a.toInt ≤ b.toInt then b else a) ∧
  Sets2 (.minu d s t) d s t (fun a b => if a.toNat ≤ b.toNat then a else b) ∧
  Sets2 (.maxu d s t) d s t (fun a b => if a.toNat ≤ b.toNat then b else a) ∧
  Sets1 (.clz d s) d s (fun a => BitVec.ofNat 64 (((List.range 64).takeWhile fun i => !a.getLsbD (63 - i)).length)) ∧
  Sets1 (.ctz d s) d s (fun a => BitVec.ofNat 64 (((List.range 64).takeWhile fun i => !a.getLsbD i).length)) ∧
  Sets1 (.popc d s) d s (fun a => BitVec.ofNat 64 (((List.range 64).filter fun i => a.getLsbD i).length))

/-- R96: each immediate form writes d with the value of its table, si the immediate sign-extended and zi zero-extended. -/
def Sys2Proof.Part.ImmediateForms : Prop := ∀ (d s : XReg) (imm : BitVec 13) (sh : BitVec 6),
  Sets1 (.addi d s imm) d s (fun a => a + imm.signExtend 64) ∧
  Sets1 (.andi d s imm) d s (fun a => a &&& imm.signExtend 64) ∧
  Sets1 (.ori d s imm) d s (fun a => a ||| imm.signExtend 64) ∧
  Sets1 (.xori d s imm) d s (fun a => a ^^^ imm.signExtend 64) ∧
  Sets1 (.slli d s sh) d s (fun a => a <<< sh.toNat) ∧
  Sets1 (.srli d s sh) d s (fun a => a >>> sh.toNat) ∧
  Sets1 (.srai d s sh) d s (fun a => a.sshiftRight sh.toNat) ∧
  Sets1 (.slti d s imm) d s (fun a => if a.toInt < imm.toInt then 1 else 0) ∧
  Does (.lui d imm) (fun u => u.wx d (BitVec.ofInt 64 (imm.toInt * 2 ^ 13))) ∧
  Sets1 (.lcat d imm) d d (fun a => BitVec.ofNat 64 (a.toNat * 2 ^ 13 + imm.toNat))

/-- The integer instructions, in both forms. -/
def Obligations.IntegerInstructions : Prop := Part.IntegerForms ∧ Part.ImmediateForms

/-! ### Scalar F32 instructions -/

/-- R97: each scalar F32 instruction computes on x[31:0], writes d zero-extended (FCVTI sign-extended) and adds its flags to VFLAGS. -/
def Sys2Proof.Part.ScalarFloat : Prop := ∀ (d s t v : XReg) (fl : BitVec 2) (cond : Cond),
  SetsF32 (.fadd d s t fl) d (fun u => fAdd .f32 (u.rctl fl) (u.f32 s) (u.f32 t)) ∧
  SetsF32 (.fsub d s t fl) d (fun u => fSub .f32 (u.rctl fl) (u.f32 s) (u.f32 t)) ∧
  SetsF32 (.fmul d s t fl) d (fun u => fMulTo .f32 .f32 (u.rctl fl) (u.f32 s) (u.f32 t)) ∧
  SetsF32 (.fdiv d s t fl) d (fun u => fDiv .f32 (u.rctl fl) (u.f32 s) (u.f32 t)) ∧
  SetsF32 (.fma d s t v) d (fun u => fMaTo .f32 .f32 (u.rctl 0) (u.f32 s) (u.f32 t) (u.f32 v)) ∧
  SetsF32 (.fsqrt d s fl) d (fun u => fSqrt .f32 (u.rctl fl) (u.f32 s)) ∧
  SetsF32 (.fmin d s t) d (fun u => fMinMax .f32 (u.rctl 0).ftz false (u.f32 s) (u.f32 t)) ∧
  SetsF32 (.fmax d s t) d (fun u => fMinMax .f32 (u.rctl 0).ftz true (u.f32 s) (u.f32 t)) ∧
  SetsF32 (.fcmp d s t cond) d (fun u =>
    let r := fCmp .f32 (u.rctl 0).ftz cond (u.f32 s) (u.f32 t); (if r.1 then 1 else 0, r.2)) ∧
  Does (.fcvti d s fl) (fun u =>
    let r := fToInt .f32 (u.rctl fl) 32 false (u.f32 s)
    (u.wx d ((BitVec.ofNat 32 r.1).signExtend 64)).wflags r.2) ∧
  SetsF32 (.fcvtf d s fl) d (fun u => intToF .f32 (u.rctl fl) ((u.rx s).setWidth 32 : BitVec 32).toInt)

/-- R76, R79: a comparison of an F32 with a NaN is false but for NE and UNORD, and sets NV for LT, LE, GT and GE and for a signalling NaN. -/
def Sys2Proof.Part.CompareWithNan : Prop := ∀ (ftz : Bool) (cond : Cond) (a b : Nat),
  (Fmt.f32.value a).isNan = true ∨ (Fmt.f32.value b).isNan = true →
  (fCmp .f32 ftz cond a b).1 = (cond == .ne || cond == .unord) ∧
  ((fCmp .f32 ftz cond a b).2 = FFlags.nv ↔
    ((cond = .lt ∨ cond = .le ∨ cond = .gt ∨ cond = .ge) ∨ (Fmt.f32.value a).isSig = true ∨ (Fmt.f32.value b).isSig = true))

/-- The scalar F32 instructions, and their comparisons of a NaN. -/
def Obligations.ScalarFloats : Prop := Part.ScalarFloat ∧ Part.CompareWithNan

/-! ### Vector and mask instructions -/

/-- R118: an instruction that writes under a mask changes, of the registers, only v[d], and of v[d] only the elements whose mask bit is 1. -/
def Obligations.MaskedWrite : Prop := ∀ (u : State) (d r : VReg) (ty : Ty) (mk : MReg) (f : Nat → Nat × FFlags) (k : Nat), k < lanes ty.width →
  let v := u.vWrite d ty.width 1 (lanes ty.width) ty.width mk f
  elem ty.width (v.cur.getV d) k = (if mBit (u.rm mk) ty.width k then (f k).1 % 2 ^ ty.width else elem ty.width (u.rv d) k) ∧
  (r ≠ d → v.cur.getV r = u.cur.getV r) ∧ v.cur.regs.x = u.cur.regs.x ∧ v.cur.regs.a = u.cur.regs.a ∧ v.cur.regs.m = u.cur.regs.m

/-- R120: the elementwise instructions of two sources, at every type: integers exact and delivered by U and S, floats rounded once. -/
def Sys2Proof.Part.VectorArithmetic : Prop := ∀ (d s t : VReg) (ty : Ty) (mk : MReg) (fl : BitVec 2),
  let un := fl.getLsbD 1
  let sat := fl.getLsbD 0
  let w := ty.width
  let int2 := fun (u : State) (k : Nat) (g : Int → Int → Int) =>
    (deliverInt w un sat (g (readInt w un (u.el ty s k)) (readInt w un (u.el ty t k))), (0 : FFlags))
  let fmt := fmtOf ty
  Elementwise (.vadd d s t ty mk fl) d ty mk (fun u k =>
    if ty.isFloat then fAdd fmt (u.rctl fl) (u.el ty s k) (u.el ty t k) else int2 u k (· + ·)) ∧
  Elementwise (.vsub d s t ty mk fl) d ty mk (fun u k =>
    if ty.isFloat then fSub fmt (u.rctl fl) (u.el ty s k) (u.el ty t k) else int2 u k (· - ·)) ∧
  Elementwise (.vmul d s t ty mk fl) d ty mk (fun u k =>
    if ty.isFloat then fMulTo fmt fmt (u.rctl fl) (u.el ty s k) (u.el ty t k) else int2 u k (· * ·)) ∧
  Elementwise (.vmin d s t ty mk fl) d ty mk (fun u k =>
    if ty.isFloat then fMinMax fmt (u.rctl 0).ftz false (u.el ty s k) (u.el ty t k)
    else (if readInt w un (u.el ty t k) < readInt w un (u.el ty s k) then u.el ty t k else u.el ty s k, 0)) ∧
  Elementwise (.vmax d s t ty mk fl) d ty mk (fun u k =>
    if ty.isFloat then fMinMax fmt (u.rctl 0).ftz true (u.el ty s k) (u.el ty t k)
    else (if readInt w un (u.el ty s k) < readInt w un (u.el ty t k) then u.el ty t k else u.el ty s k, 0)) ∧
  Elementwise (.vand d s t ty mk fl) d ty mk (fun u k => (u.el ty s k &&& u.el ty t k, 0)) ∧
  Elementwise (.vor d s t ty mk fl) d ty mk (fun u k => (u.el ty s k ||| u.el ty t k, 0)) ∧
  Elementwise (.vxor d s t ty mk fl) d ty mk (fun u k => (u.el ty s k ^^^ u.el ty t k, 0)) ∧
  Elementwise (.vsll d s t ty mk fl) d ty mk (fun u k => (u.el ty s k * 2 ^ (u.el ty t k % w), 0)) ∧
  Elementwise (.vsrl d s t ty mk fl) d ty mk (fun u k => (u.el ty s k / 2 ^ (u.el ty t k % w), 0)) ∧
  Elementwise (.vsra d s t ty mk fl) d ty mk (fun u k => (wrapInt w (readInt w false (u.el ty s k) / 2 ^ (u.el ty t k % w)), 0)) ∧
  Elementwise (.vabs d s ty mk fl) d ty mk (fun u k =>
    if ty.isFloat then fSignOp fmt (u.rctl 0).ftz false (u.el ty s k)
    else (deliverInt w false sat (readInt w false (u.el ty s k)).natAbs, 0)) ∧
  Elementwise (.vneg d s ty mk fl) d ty mk (fun u k =>
    if ty.isFloat then fSignOp fmt (u.rctl 0).ftz true (u.el ty s k) else (deliverInt w false sat (-readInt w false (u.el ty s k)), 0))

/-- R121, R123, R130, R132: VMA rounds s1 × s2 + s3 once; VMOV, VBCAST, VPERM and VSLIDE move elements; VUNPLANE rebuilds bytes from planes;
VDOT4 adds four exact products. -/
def Sys2Proof.Part.VectorMoves : Prop := ∀ (d s t v : VReg) (x : XReg) (ty : Ty) (mk : MReg) (fl : BitVec 2) (p : BitVec 4) (cent : Bool),
  let w := ty.width
  Elementwise (.vma d s t v ty) d ty 0 (fun u k => mulAdd ty 0 (u.rctl 0) (u.el ty s k) (u.el ty t k) (u.el ty v k)) ∧
  Elementwise (.vmov d s ty mk) d ty mk (fun u k => (u.el ty s k, 0)) ∧
  Elementwise (.vbcast d x ty mk) d ty mk (fun u _ => ((u.rx x).toNat, 0)) ∧
  Elementwise (.vperm d s t ty mk) d ty mk (fun u k => (u.el ty s (u.el ty t k % lanes w), 0)) ∧
  Elementwise (.vslide d s x ty mk) d ty mk (fun u k =>
    (if 0 ≤ (k : Int) + (u.rx x).toInt ∧ (k : Int) + (u.rx x).toInt < lanes w then u.el ty s ((k : Int) + (u.rx x).toInt).toNat else 0, 0)) ∧
  Elementwise (.vunplane d s p cent mk) d .i8 mk (fun u k => (wrapInt 8 (bpiView p.toNat cent fun j => (u.rv s).getLsbD (512 * j + k)), 0)) ∧
  Elementwise (.vdot4 d s t mk fl) d .i32 mk (fun u k =>
    let b := fun (r : VReg) (j : Nat) => readInt 8 (fl.getLsbD 1) (u.el .i8 r (4 * k + j))
    (deliverInt 32 (fl.getLsbD 1) (fl.getLsbD 0) (readInt 32 (fl.getLsbD 1) (u.el .i32 d k) +
      b s 0 * b t 0 + b s 1 * b t 1 + b s 2 * b t 2 + b s 3 * b t 3), 0)) ∧
  Does (.vsel d s t ty mk) (fun u => u.wv d (vOf w (lanes w) fun k => if mBit (u.rm mk) w k then u.el ty s k else u.el ty t k)) ∧
  Does (.vplane d s) (fun u => u.wv d (vOf 1 4096 fun b => u.el .i8 s (b % 512) / 2 ^ (7 - b / 512) % 2)) ∧
  (∀ y, Does (.vrand d x y) (fun u => u.wv d (vOf 128 32 fun l => randLane (u.rx x) (u.rx y) l)))

/-- R123: VINS and VEXT take the element that the index names; an index beyond the elements raises OPERAND. -/
def Sys2Proof.Part.VectorIndex : Prop := ∀ (v : VReg) (x y : XReg) (ty : Ty) (un : Bool),
  let w := ty.width
  DoesIf (.vins v x y ty) (fun u => (u.rx y).toNat < lanes w)
    (fun u => u.wv v (vOf w (lanes w) fun k => if k = (u.rx y).toNat then (u.rx x).toNat else u.el ty v k)) ∧
  Traps (.vins v x y ty) (fun u => lanes w ≤ (u.rx y).toNat) .operand (fun u => u.ctx.word.setWidth 64) ∧
  DoesIf (.vext x v y ty un) (fun u => (u.rx y).toNat < lanes w)
    (fun u => u.wx x (BitVec.ofInt 64 (readInt w (un || ty.isFloat) (u.el ty v (u.rx y).toNat)))) ∧
  Traps (.vext x v y ty un) (fun u => lanes w ≤ (u.rx y).toNat) .operand (fun u => u.ctx.word.setWidth 64)

/-- The elementwise vector instructions of one width. -/
def Obligations.VectorElements : Prop := Part.VectorArithmetic ∧ Part.VectorMoves ∧ Part.VectorIndex

/-- R124 to R128: the widening, narrowing and converting instructions act on aligned groups, element by element; a misaligned group raises
OPERAND. -/
def Obligations.VectorWidths : Prop := ∀ (d s t : VReg) (x : XReg) (ty sty dty : Ty) (mk : MReg) (fl : BitVec 2) (un du ds : Bool),
  let w := ty.width
  let c := fun (u : State) => u.rctl fl
  let word := fun (u : State) => u.ctx.word.setWidth 64
  DoesIf (.vwadd d s t ty mk fl) (fun _ => d.toNat % 2 = 0) (fun u => u.vWrite d (2 * w) 2 (lanes w) w mk fun k =>
    if ty.isFloat then
      let a := (fmtOf ty).source (c u).ftz (u.el ty s k)
      let b := (fmtOf ty).source (c u).ftz (u.el ty t k)
      roundSum .f32 (c u) false (a.isSig || b.isSig) [a, b]
    else (wrapInt (2 * w) (readInt w (fl.getLsbD 1) (u.el ty s k) + readInt w (fl.getLsbD 1) (u.el ty t k)), 0)) ∧
  DoesIf (.vwmul d s t ty mk fl) (fun _ => d.toNat % 2 = 0) (fun u => u.vWrite d (2 * w) 2 (lanes w) w mk fun k =>
    if ty.isFloat then fMulTo (fmtOf ty) .f32 (u.rctl 0) (u.el ty s k) (u.el ty t k)
    else (wrapInt (2 * w) (readInt w (fl.getLsbD 1) (u.el ty s k) * readInt w (fl.getLsbD 1) (u.el ty t k)), 0)) ∧
  DoesIf (.vwma d s t ty mk fl) (fun _ => d.toNat % 2 = 0) (fun u => u.vWrite d (2 * w) 2 (lanes w) w mk fun k =>
    if ty.isFloat then fMaTo (fmtOf ty) .f32 (c u) (u.el ty s k) (u.el ty t k) (u.gElem (2 * w) 2 d k)
    else (deliverInt (2 * w) (fl.getLsbD 1) (fl.getLsbD 0) (readInt (2 * w) (fl.getLsbD 1) (u.gElem (2 * w) 2 d k) +
      readInt w (fl.getLsbD 1) (u.el ty s k) * readInt w (fl.getLsbD 1) (u.el ty t k)), 0)) ∧
  DoesIf (.vnarrow d s ty mk fl) (fun _ => s.toNat % 2 = 0) (fun u => u.vWrite d w 1 (lanes w) w mk fun k =>
    narrow ty fl (c u) (u.gElem (2 * w) 2 s k)) ∧
  DoesIf (.vcvt d s sty fl dty du ds mk)
    (fun _ => s.toNat % srcCount sty.width dty.width = 0 ∧ d.toNat % dstCount sty.width dty.width = 0)
    (fun u => u.vWrite d dty.width (dstCount sty.width dty.width) (lanes (min sty.width dty.width)) (min sty.width dty.width) mk fun k =>
      convert u sty fl dty du ds (u.gElem sty.width (srcCount sty.width dty.width) s k)) ∧
  DoesIf (.vquant d s x ty mk un) (fun _ => s.toNat % quantCount ty = 0) (fun u => u.vWrite d w 1 (lanes w) w mk fun k =>
    fvalToInt (u.rctl 0).mode w un
      ((Fmt.f32.source (u.rctl 0).ftz (u.gElem 32 (quantCount ty) s k)).mul (Fmt.f32.source (u.rctl 0).ftz (u.f32 x))).1) ∧
  Traps (.vwadd d s t ty mk fl) (fun _ => d.toNat % 2 ≠ 0) .operand word ∧
  Traps (.vwmul d s t ty mk fl) (fun _ => d.toNat % 2 ≠ 0) .operand word ∧
  Traps (.vwma d s t ty mk fl) (fun _ => d.toNat % 2 ≠ 0) .operand word ∧
  Traps (.vnarrow d s ty mk fl) (fun _ => s.toNat % 2 ≠ 0) .operand word ∧
  Traps (.vcvt d s sty fl dty du ds mk)
    (fun _ => s.toNat % srcCount sty.width dty.width ≠ 0 ∨ d.toNat % dstCount sty.width dty.width ≠ 0) .operand word ∧
  Traps (.vquant d s x ty mk un) (fun _ => s.toNat % quantCount ty ≠ 0) .operand word

/-- R122, R131, R137: comparisons into masks, reductions into x registers, and the mask instructions. -/
def Obligations.MasksAndReductions : Prop := ∀ (md ms mt : MReg) (s t : VReg) (d x : XReg) (cond : Cond) (ty : Ty) (fl : BitVec 2) (un : Bool),
  let w := ty.width
  let on := fun (u : State) => (List.range (lanes w)).filter (mBit (u.rm ms) w)
  Does (.vcmp md s t cond ty un) (fun u =>
    let f := fun k => if ty.isFloat then fCmp (fmtOf ty) (u.rctl 0).ftz cond (u.el ty s k) (u.el ty t k)
      else (intCmp cond (readInt w un (u.el ty s k)) (readInt w un (u.el ty t k)), 0)
    (u.wm md (mOf w (lanes w) fun k => (f k).1)).wflags (orFlags (lanes w) (fun _ => true) fun k => (f k).2)) ∧
  Does (.vrsum d s ty ms fl) (fun u =>
    let r := floatReduce ty (u.rctl fl) (u.rm ms) (u.rv s) (fAdd .f32 (u.rctl fl))
    if ty.isFloat then (u.wx d (BitVec.ofNat 64 (r.1.getD 0))).wflags r.2
    else u.wx d (BitVec.ofInt 64 ((on u).map fun k => readInt w (fl.getLsbD 1) (u.el ty s k)).sum)) ∧
  Does (.vrmax d s ty ms fl) (fun u =>
    let r := floatReduce ty (u.rctl 0) (u.rm ms) (u.rv s) (fMinMax .f32 (u.rctl 0).ftz true)
    if ty.isFloat then (u.wx d (BitVec.ofNat 64 (r.1.getD 0xFF800000))).wflags r.2
    else u.wx d (BitVec.ofInt 64 (((on u).map fun k => readInt w (fl.getLsbD 1) (u.el ty s k)).foldl max (intMin w (fl.getLsbD 1))))) ∧
  Does (.mand md ms mt) (fun u => u.wm md (u.rm ms &&& u.rm mt)) ∧
  Does (.mor md ms mt) (fun u => u.wm md (u.rm ms ||| u.rm mt)) ∧
  Does (.mxor md ms mt) (fun u => u.wm md (u.rm ms ^^^ u.rm mt)) ∧
  Does (.mnot md ms) (fun u => u.wm md (~~~u.rm ms)) ∧
  Does (.mpop d ms ty) (fun u => u.wx d (BitVec.ofNat 64 (on u).length)) ∧
  Does (.mfirst d ms ty) (fun u => u.wx d (match (on u).head? with | some k => BitVec.ofNat 64 k | none => -1)) ∧
  Does (.mfromx md x ty) (fun u => u.wm md (mOf w (lanes w) fun k => (u.rx x).getLsbD k))

/-! ### Address registers and control transfers -/

/-- R100: AMOV copies all four parts; AADD, ASETP and AADDI re-point a register where BASE ≤ n ≤ LIMIT and raise BOUND elsewhere, with nothing
written; AGETP, AGETB, AGETL and APERM read a part. -/
def Sys2Proof.Part.AddressRegisters : Prop := ∀ (d s : AReg) (x : XReg) (imm : BitVec 16),
  let inside := fun (u : State) (n : Int) => ((u.ra s).base.toNat : Int) ≤ n ∧ n ≤ (u.ra s).limit.toNat
  Does (.amov d s) (fun u => u.wa d (u.ra s)) ∧
  DoesIf (.aadd d s x) (fun u => inside u ((u.ra s).ptr.toNat + (u.rx x).toInt))
    (fun u => u.wa d { u.ra s with ptr := (u.ra s).ptr + u.rx x }) ∧
  Traps (.aadd d s x) (fun u => ¬inside u ((u.ra s).ptr.toNat + (u.rx x).toInt)) .bound (fun u => (u.ra s).ptr + u.rx x) ∧
  DoesIf (.asetp d s x) (fun u => inside u (u.rx x).toNat) (fun u => u.wa d { u.ra s with ptr := u.rx x }) ∧
  Traps (.asetp d s x) (fun u => ¬inside u (u.rx x).toNat) .bound (fun u => u.rx x) ∧
  DoesIf (.aaddi d s imm) (fun u => inside u ((u.ra s).ptr.toNat + imm.toInt))
    (fun u => u.wa d { u.ra s with ptr := (u.ra s).ptr + imm.signExtend 64 }) ∧
  Traps (.aaddi d s imm) (fun u => ¬inside u ((u.ra s).ptr.toNat + imm.toInt)) .bound (fun u => (u.ra s).ptr + imm.signExtend 64) ∧
  Does (.agetp s x) (fun u => u.wx x (u.ra s).ptr) ∧
  Does (.agetb s x) (fun u => u.wx x (u.ra s).base) ∧
  Does (.agetl s x) (fun u => u.wx x ((u.ra s).limit.setWidth 64)) ∧
  Does (.aperm s x) (fun u => u.wx x ((u.ra s).perm.setWidth 64))

/-- R101, R102: ANARROW makes a range inside its source's with a subset of its permissions; AMAKE makes one from nothing, in one window. -/
def Sys2Proof.Part.NarrowAndMake : Prop := ∀ (d s : AReg) (b r : XReg),
  let nb := fun (u : State) => (u.rx b).toNat
  let len := fun (u : State) => (u.rx r).toNat % 2 ^ 56
  let nl := fun (u : State) => nb u + len u
  let mask := fun (u : State) => ((u.rx r).extractLsb' 56 6).setWidth 8
  let spans := fun (u : State) => 0 < len u ∧ nb u / 2 ^ 60 % 16 ≠ (nl u - 1) / 2 ^ 60 % 16
  let inside := fun (u : State) => (u.ra s).base.toNat ≤ nb u ∧ nl u ≤ (u.ra s).limit.toNat
  let mayD := fun (u : State) => (u.ra s).perm.getLsbD 5 = true
  let made := fun (u : State) (p : Byte) =>
    u.wa d { ptr := u.rx b, base := u.rx b, limit := BitVec.ofNat 65 (nl u), perm := p }
  DoesIf (.anarrow d s b r) (fun u => inside u ∧ mayD u ∧ ¬spans u) (fun u => made u ((u.ra s).perm &&& mask u)) ∧
  Traps (.anarrow d s b r) (fun u => ¬inside u) .bound (fun u => u.rx b) ∧
  Traps (.anarrow d s b r) (fun u => inside u ∧ ¬mayD u) .perm (fun u => u.rx b) ∧
  Traps (.anarrow d s b r) (fun u => inside u ∧ mayD u ∧ spans u) .windowspan (fun u => BitVec.ofNat 64 (nl u)) ∧
  DoesIf (.amake d b r) (fun u => ¬spans u ∧ nl u ≤ 2 ^ 64) (fun u => made u (mask u)) ∧
  Traps (.amake d b r) (fun u => spans u ∨ (0 < len u ∧ 2 ^ 64 < nl u)) .windowspan (fun u => BitVec.ofNat 64 (nl u))

/-- R100 to R102: the instructions on address registers. -/
def Obligations.AddressInstructions : Prop := Part.AddressRegisters ∧ Part.NarrowAndMake

/-- R104, R105: J, JAL and JALR move control to their target; a branch moves it to bundle + 4 × the offset where its condition holds, and to the
next bundle elsewhere; an unaligned target of JALR raises ALIGN and writes nothing. -/
def Obligations.Branches : Prop := ∀ (d s t : XReg) (m : MReg) (imm : BitVec 10) (off24 : BitVec 24) (off : BitVec 14),
  let to24 := fun (u : State) => u.ctx.pc + (off24.signExtend 64 <<< 2)
  let takes := fun (i : Instr) (c : State → Prop) =>
    DoesIf i c (fun u => u.jumpTo (u.ctx.pc + (off.signExtend 64 <<< 2))) ∧ DoesIf i (fun u => ¬c u) (fun u => u)
  Does (.j off24) (fun u => u.jumpTo (to24 u)) ∧
  Does (.jal off24) (fun u => (u.wx 1 u.ctx.next).jumpTo (to24 u)) ∧
  DoesIf (.jalr d s imm) (fun u => (u.rx s + imm.signExtend 64).toNat % 4 = 0)
    (fun u => (u.wx d u.ctx.next).jumpTo (u.rx s + imm.signExtend 64)) ∧
  Traps (.jalr d s imm) (fun u => (u.rx s + imm.signExtend 64).toNat % 4 ≠ 0) .align (fun u => u.rx s + imm.signExtend 64) ∧
  takes (.beq s t off) (fun u => u.rx s = u.rx t) ∧
  takes (.bne s t off) (fun u => u.rx s ≠ u.rx t) ∧
  takes (.blt s t off) (fun u => (u.rx s).toInt < (u.rx t).toInt) ∧
  takes (.bge s t off) (fun u => (u.rx t).toInt ≤ (u.rx s).toInt) ∧
  takes (.bltu s t off) (fun u => (u.rx s).toNat < (u.rx t).toNat) ∧
  takes (.bgeu s t off) (fun u => (u.rx t).toNat ≤ (u.rx s).toNat) ∧
  takes (.bany m off) (fun u => ∃ b, (u.rm m).getLsbD b = true) ∧
  takes (.bnone m off) (fun u => ∀ b, (u.rm m).getLsbD b = false)

/-! ### System functions -/

/-- R115, R380, R366: NOP and ANOP only issue; TRAP and BRK raise their causes with the code in EVAL; TMARK writes a trace record; RGN and RGNEND
open and close a region. -/
def Sys2Proof.Part.SystemBundles : Prop := ∀ (code : BitVec 10) (x : XReg),
  let calm := fun (u : State) => u.src.quiet = true ∧ (∀ o ∈ u.src.outst, o.err = none) ∧ u.src.storelate = none
  Does .nop (fun u => u) ∧
  Does .anop (fun u => u) ∧
  Traps (.trap code) (fun _ => True) .trapinsn (fun _ => code.setWidth 64) ∧
  Traps (.brk code) (fun _ => True) .break_ (fun _ => code.setWidth 64) ∧
  Does (.tmark x code) (fun u =>
    u.trace u.site 7 (u.actEntry u.ctx.key).1 (u.actEntry u.ctx.key).2 u.time (u.rx x) (code.setWidth 64)) ∧
  Does .rgn (fun u => u.modCur fun t => { t with sys := { t.sys with rgnpc := u.ctx.next &&& ~~~3#64 } }) ∧
  DoesIf .rgnend (fun u => calm u ∧ u.drained u.ctx.key = true) (fun u => u.modCur fun t => { t with sys := { t.sys with rgnpc := 0 } })

/-- R294, R295: FENCE completes once its waits are done and no error is pending; an error pending at FENCE, POISON, REMOTE or STORELATE, is raised; a
release at HOST, IO or SYSTEM scope, of a thread that has written to host memory, asks the host bridge for one read and completes with its answer; DRAINNT
completes once the earlier non-temporal stores of its scope are performed. Each waits before that. -/
def Sys2Proof.Part.Fences : Prop := ∀ (kind : FenceKind) (sc : Scope),
  let i : Instr := .fence sc kind
  let ok := fun (u : State) => u.src.quiet = true ∧ ∀ o ∈ u.src.outst, o.err = none
  let late := fun (u : State) => u.src.storelate.getD 0
  let done := fun (u : State) => ok u ∧ u.src.storelate = none ∧ (kind = .acq ∨ u.drained u.ctx.key = true)
  let reads := fun (u : State) => kind ≠ .acq ∧ (sc = .host ∨ sc = .io ∨ sc = .system) ∧ u.src.hostW = true
  let far := fun (u : State) (h : Agent) => u.scopeHome u.ctx.key sc h = false
  DoesIf i (fun u => done u ∧ ¬reads u) (fun u => u) ∧
  DoesIf i (fun u => done u ∧ reads u ∧ u.src.answer.isSome) (fun u => u) ∧
  (∀ s, Clear i s → done s.entered → reads s.entered → s.entered.src.answer = none → s.cur.asked = false →
    exec i s = .next ((s.askBridge.modCur fun t => { t with asked := true }).ended .wait)) ∧
  Traps i (fun u => ok u ∧ u.src.storelate ≠ none) .storelate late ∧
  (∀ e : Trap, Traps i (fun u => u.src.quiet = true ∧ u.src.storelate = none ∧ ∃ o ∈ u.src.outst, o.err = some e ∧ ∀ p ∈ u.src.outst, p ≠ o → p.err = none)
    e.cause (fun _ => e.val)) ∧
  (∀ s e, Clear i s → s.entered.src.quiet = true → firstTrap (s.entered.pendingErrors true) = some e → exec i s = .next (s.trapped e)) ∧
  (∀ s, Clear i s → s.entered.src.quiet = false → exec i s = .next (s.ended .wait)) ∧
  DoesIf (.drainnt sc) (fun u => (∀ a ∈ u.cur.accs, a.nt = true → far u (.core u.site)) ∧
    ∀ r ∈ u.cur.slots.toList, ∀ q, r = some q → q.nt = true → far u (u.homeSlice u.site q)) (fun u => u) ∧
  (∀ s, Clear (.drainnt sc) s → (∃ a ∈ s.entered.cur.accs, a.nt = true ∧ ¬far s.entered (.core s.entered.site)) →
    exec (.drainnt sc) s = .next (s.ended .wait))

/-- R31, R361: an error that a completed instruction has left is raised in place of a bundle: a marked register is raised by the first bundle that reads
it, again at its next read; the error of an instruction whose lookahead window has run out is raised by the next bundle; that of a scoreboarded one by
the bundle that has waited for it. Shown for the reads of ADD, VMOV, AMOV and MAND. -/
def Sys2Proof.Part.RaisedErrors : Prop := ∀ (s : State) (i : Instr) (rd : List RegRef) (o : Outst) (e : Trap) (m : Mark),
  (∃ d a b : XReg, i = .add d a b ∧ rd = (if a = 0 then [] else [.x a.toNat]) ++ if b = 0 then [] else [.x b.toNat]) ∨
  (∃ (d v : VReg) (ty : Ty), i = .vmov d v ty 0 ∧ rd = [.v v.toNat] ∧ d.toNat < s.src.ctl.vallot.toNat ∧ v.toNat < s.src.ctl.vallot.toNat ∧
    s.src.ctl.sbhold = 0) ∨
  (∃ d a : AReg, i = .amov d a ∧ rd = [.a a.toNat]) ∨
  (∃ d a b : MReg, i = .mand d a b ∧ a ≠ 0 ∧ b ≠ 0 ∧ rd = [.m a.toNat, .m b.toNat]) →
  (s.src.outst = [] → s.src.marks = [m] → m.reg ∈ rd → exec i s = .next (s.trapped (s.trapOf m.cause m.val)) ∧
    (s.ctx.form = .lone → s.ctx.snap = none → (s.trapped (s.trapOf m.cause m.val)).cur.marks = [m])) ∧
  (s.src.outst = [o] → s.src.marks = [] → o.fin = true → o.err = some e →
    (o.win = some 0 → o.traps = 0 → exec i s = .next (s.trapped (s.trapOf e.cause e.val))) ∧
    (o.win = none → s.src.waitedOn.contains o.id = true → (∃ r ∈ rd, o.dst.contains r = true) →
      exec i s = .next (s.trapped (s.trapOf e.cause e.val))))

/-- The system functions that order, mark and trap, and the errors that a later bundle raises. -/
def Obligations.SystemInstructions : Prop := Part.SystemBundles ∧ Part.Fences ∧ Part.RaisedErrors

/-- R116: ERET raises ALIGN where EPC[1:0] is nonzero; else it takes the mode of ESTATUS.PRV and the pc of EPC, by the table of ESTATUS.ACT and
of the thread's activation. -/
def Sys2Proof.Part.ReturnFromTrap : Prop :=
  let aligned := fun (u : State) => u.src.sys.epc.toNat % 4 = 0
  let act := fun (u : State) => u.src.sys.estatus.getLsbD 3
  let go := fun (u v : State) => (v.modCur fun t => { t with
    sup := t.sys.estatus.getLsbD 0, pc := t.sys.epc, viaEret := true
    outst := t.outst.map fun o => { o with traps := o.traps - 1 } }).jumpTo u.src.sys.epc
  Traps .eret (fun u => ¬aligned u) .align (fun u => u.src.sys.epc) ∧
  DoesIf .eret (fun u => aligned u ∧ act u = true ∧ u.src.act.isSome) (fun u => go u u) ∧
  DoesIf .eret (fun u => aligned u ∧ act u = true ∧ u.src.act = none) (fun u =>
    (u.goIdle u.ctx.key).modThread u.ctx.key fun t => { t with
      sup := u.src.sys.estatus.getLsbD 0, outst := t.outst.map fun o => { o with traps := o.traps - 1 } }) ∧
  DoesIf .eret (fun u => aligned u ∧ act u = false ∧ u.src.act.isSome) (fun u => go u (u.closeAct u.ctx.key 2 (some 1))) ∧
  DoesIf .eret (fun u => aligned u ∧ act u = false ∧ u.src.act = none) (fun u => go u u)

/-- R40, R109, R110, R117, R225: YIELD arms the watchdog and clears the registers that are neither live nor held; DONE and IDLE end the activation
with no break; a supervisor's IDLE or DONE ends the interrupted activation with FAULT; elsewhere the thread only stops. In the C-slot of a pair control
moves once the A-slot is complete: the slot leaves what is to come, and the thread's next turn does it. -/
def Sys2Proof.Part.YieldAndEnd : Prop := ∀ (dl : BitVec 8) (x : XReg),
  let calm := fun (u : State) => u.src.quiet = true ∧ ∀ o ∈ u.src.outst, o.err = none
  let ready := fun (u : State) => calm u ∧ u.src.storelate = none
  let user := fun (u : State) => u.cur.sup = false ∧ u.cur.act.isSome
  let broken := fun (u : State) => u.cur.sup = true ∧ u.cur.sys.estatus.getLsbD 3 = true ∧ u.cur.act.isSome
  let other := fun (u : State) => ¬user u ∧ ¬broken u
  let kick := fun (u : State) => ∃ a, u.cur.act = some a ∧ a.kind = .kick
  let out := fun (l : Leave) (f : State → State) (u : State) => if u.ctx.form = .cslot then u.modCur fun t => { t with leave := some l } else f u
  let ends := fun (u : State) (how : Nat) (code : Option Nat) => u.endAct u.ctx.key how code
  let stops := fun (u : State) => (u.modCur fun t => { t with sys := { t.sys with rgnpc := 0 } }).goIdle u.ctx.key
  DoesIf (.yield dl x) (fun u => calm u ∧ user u) (fun u =>
    out (.yield ((u.rx x).setWidth 32)) (fun v => { v with ctx := { v.ctx with after := .yield ((u.rx x).setWidth 32) } })
      (u.modCur fun t => { t with sys := { t.sys with
        wdog := BitVec.ofNat 64 ((dl.toNat + 1) * 64), armed := some (BitVec.ofNat 64 ((dl.toNat + 1) * 64)) } })) ∧
  DoesIf (.yield dl x) (fun u => calm u ∧ ¬user u) (fun u => u) ∧
  (∀ i how, (i = .done ∧ how = 0) ∨ (i = .idle ∧ how = 1) →
    DoesIf i (fun u => ready u ∧ user u ∧ (kick u → u.drained u.ctx.key = true)) (out (.finish how) fun u => ends u how none) ∧
    DoesIf i (fun u => ready u ∧ broken u) (out (.finish how) fun u => ends u 2 (some 1)) ∧
    DoesIf i (fun u => ready u ∧ other u) (out (.finish how) stops)) ∧
  (∀ (s : State) (key : Nat) (l : Leave), (s.thread key).leave = some l → (s.thread key).quiet = true →
    let u := s.modThread key fun t => { t with leave := none }
    let t := s.thread key
    (∀ live, l = .yield live → s.turnOf key = .next (u.modThread key fun t => t.afterBundle t.pc (.yield live))) ∧
    (∀ how, l = .finish how → t.sup = false → t.act.isSome → s.turnOf key = .next (u.endAct key how none)) ∧
    (∀ how, l = .finish how → t.sup = true → t.sys.estatus.getLsbD 3 = true → t.act.isSome → s.turnOf key = .next (u.endAct key 2 (some 1))))

/-- The instructions by which a thread leaves its code. -/
def Obligations.EndsOfCode : Prop := Part.ReturnFromTrap ∧ Part.YieldAndEnd

/-! ### Control registers, REP units -/

/-- R26, R107: CRR reads a register at issue; CRW, CRSET and CRCLR write it; a supervisor register in user mode raises PRIVILEGE and an unassigned
number ILLEGAL, with nothing read or written. -/
def Sys2Proof.Part.ControlRegisters : Prop := ∀ (x : XReg) (cr : BitVec 12),
  let n := cr.toNat
  let may := fun (u : State) => crAssigned n = true ∧ (u.src.sup = true ∨ crSup n = false)
  let put := fun (o : CrOp) (u : State) => if n < 0x800 then u.crPutThread o n (u.rx x) else u.crPutDevice o n (u.rx x)
  let hidden := fun (u : State) => u.src.sup = false ∧ (0x800 ≤ n ∨ crAssigned n = true ∧ crSup n = true)
  let unassigned := fun (u : State) => crAssigned n = false ∧ (u.src.sup = true ∨ n < 0x800)
  DoesIf (.crr x cr) may (fun u => u.wx x (u.crRead n)) ∧
  DoesIf (.crw x cr) (fun u => may u ∧ n ≠ 0x848) (put .write) ∧
  DoesIf (.crset x cr) (fun u => may u ∧ n ≠ 0x848) (put .set) ∧
  DoesIf (.crclr x cr) (fun u => may u ∧ n ≠ 0x848) (put .clear) ∧
  (∀ i, i = .crr x cr ∨ i = .crw x cr ∨ i = .crset x cr ∨ i = .crclr x cr →
    Traps i hidden .privilege (fun _ => BitVec.ofNat 64 n) ∧ Traps i unassigned .illegal (fun u => u.ctx.word.setWidth 64))

/-- R107: the access codes: an RW field takes x, old OR x, old AND NOT x; the W1C fields lose the bits that CRW and CRCLR name; an RO register
keeps its value. -/
def Sys2Proof.Part.AccessCodes : Prop := ∀ (u : State) (x : Word) (t : Thread), u.ctx.snap = some t → u.cur = t →
  let new := fun (o : CrOp) (n : Nat) => (u.crPutThread o n x).cur
  (new .write 0x082).ctl.scla = x ∧ (new .set 0x082).ctl.scla = (t.ctl.scla ||| x) ∧ (new .clear 0x082).ctl.scla = (t.ctl.scla &&& ~~~x) ∧
  (new .write 0x041).ctl.vflags = (t.ctl.vflags &&& ~~~(x.setWidth 5)) ∧ (new .set 0x041).ctl.vflags = t.ctl.vflags ∧
  (new .clear 0x041).ctl.vflags = (t.ctl.vflags &&& ~~~(x.setWidth 5)) ∧
  (∀ o n, n ≤ 5 ∨ n = 7 ∨ n = 0xC0 ∨ n = 0xC1 ∨ n = 0x101 ∨ n = 0x102 ∨ n = 0x104 ∨ (0x1C0 ≤ n ∧ n ≤ 0x1C2) → u.crPutThread o n x = u) ∧
  (∀ o, t.sup = false → u.crPutThread o 0x006 x = u ∧ u.crPutThread o 0x185 x = u ∧ u.crPutThread o 0x187 x = u)

/-- R22, R108, R215: a new allotment of 8, 16, 24 or 32 takes effect, the registers below it kept and those at or above it cleared; another value is ignored;
TGEN takes the value written. -/
def Sys2Proof.Part.AllotmentAndTags : Prop := ∀ (s : State) (v : Word),
  let n := v.toNat % 64
  (n = 8 ∨ n = 16 ∨ n = 24 ∨ n = 32 → ∃ t, exec (.vallotWrite v) s = .next t ∧ t.cur.ctl.vallot = v.setWidth 6 ∧ t.cur.regs.x = s.cur.regs.x ∧
    ∀ r : VReg, t.cur.getV r = if r.toNat < n then s.cur.getV r else 0) ∧
  (¬(n = 8 ∨ n = 16 ∨ n = 24 ∨ n = 32) → exec (.vallotWrite v) s = .next s) ∧
  (∃ t, exec (.tgenWrite v) s = .next t ∧ t.cur.ctl.tgen = v ∧ t.cur.regs = s.cur.regs)

/-- R26, R107: the control-register instructions and the access codes. -/
def Obligations.ControlRegisterAccess : Prop := Part.ControlRegisters ∧ Part.AccessCodes ∧ Part.AllotmentAndTags

/-- R111 to R113: a REP that has an iteration to run and no fault becomes the thread's unit at its start iteration; one with none moves on with REPCNT
0; a stride for a field that the word lacks raises ILLEGAL, a count above 65,535 OPERAND, a register beyond its file REGRANGE, before any iteration. -/
def Obligations.RepUnit : Prop := ∀ (xc : XReg) (imm : BitVec 6) (ds s1s s2s : BitVec 3) (s : State) (a : Instr),
  let i : Instr := .rep xc imm ds s1s s2s
  let u := s.openBundle
  let n := u.repCount xc imm
  let k := if s.cur.viaEret then s.cur.sys.repcnt.toNat else 0
  let fits := repOut a u.src.ctl.vallot.toNat ds.toNat s1s.toNat s2s.toNat k (n - k) = none
  let lacks := strideBad a ds s1s s2s = true
  Clear i s → decodeWord s.ctx.word2 = .ok a →
  (lacks → exec i s = .next ((s.raiseTrap { cause := .illegal, slot := false, val := s.ctx.word.setWidth 64 }).ended
    (.raise { cause := .illegal, slot := false, val := s.ctx.word.setWidth 64 }))) ∧
  (¬lacks → 65535 < n → exec i s = .next ((s.raiseTrap { cause := .operand, slot := false, val := s.ctx.word.setWidth 64 }).ended
    (.raise { cause := .operand, slot := false, val := s.ctx.word.setWidth 64 }))) ∧
  (¬lacks → n ≤ 65535 → ∀ m, repOut a u.src.ctl.vallot.toNat ds.toNat s1s.toNat s2s.toNat k (n - k) = some m →
    ∃ (t : State) (v : Trap), exec i s = .next ((t.raiseTrap v).ended (.raise v)) ∧ v = { cause := .regrange, slot := true, val := BitVec.ofNat 64 m } ∧
      t.cur.regs = s.cur.regs ∧ t.cur.rep.map (·.k) = some k) ∧
  (¬lacks → n ≤ 65535 → fits → k < n → ∃ t, exec i s = .next t ∧ t.cur.rep = some ⟨s.ctx.pc, k, n, s.ctx.word, s.ctx.word2⟩ ∧ t.cur.regs = s.cur.regs ∧
    t.cur.sys.issued = s.cur.sys.issued + 1) ∧
  (¬lacks → n ≤ 65535 → fits → n ≤ k → ∃ t, exec i s = .next t ∧ t.cur.pc = s.ctx.next ∧ t.cur.sys.repcnt = 0 ∧ t.cur.regs = s.cur.regs)

/-! ### Special functions and memory-to-memory work -/

/-- R135: a special-function instruction enters the FIFO of its core, its sources as they stand, while the FIFO has fewer than 8 requests. -/
def Sys2Proof.Part.SpecialIssue : Prop := ∀ (d s : VReg) (ty : Ty) (mk : MReg),
  let room := fun (u : State) => u.myCore.sfu.length < 8
  let enters := fun (i : Instr) (u : State) =>
    let o : Outst := { id := u.nextId, pc := u.ctx.pc, dst := [.v d.toNat], win := none }
    let r : SfuReq := { key := u.ctx.key, id := u.nextId, instr := i, src := u.rv s, mask := u.rm mk, ftz := (u.rctl 0).ftz }
    ({ u with nextId := u.nextId + 1 }.modCur fun t => { t with outst := t.outst ++ [o] }).modMyCore fun c => { c with sfu := c.sfu ++ [r] }
  DoesIf (.vexp2 d s ty mk) room (enters (.vexp2 d s ty mk)) ∧
  DoesIf (.vlog2 d s ty mk) room (enters (.vlog2 d s ty mk)) ∧
  DoesIf (.vrcp d s ty mk) room (enters (.vrcp d s ty mk)) ∧
  DoesIf (.vrsq d s ty mk) room (enters (.vrsq d s ty mk)) ∧
  DoesIf (.vsig d s ty mk) room (enters (.vsig d s ty mk))

/-- R108, R118, R134, R135: SFU_START starts the oldest request that has not started; SFU_COMPLETE writes the selected elements of the destination of the
oldest started request, which keeps nothing at or above the allotment, adds their flags and frees its entries. -/
def Sys2Proof.Part.SpecialEvents : Prop := ∀ (s : State) (site : Nat) (r : SfuReq) (q : List SfuReq),
  (∀ p : List SfuReq, (s.core site).sfu = p ++ r :: q → (∀ x ∈ p, x.started = true) → r.started = false →
    ∃ t, exec (.sfuStart site) s = .next t ∧ (t.core site).sfu = p ++ { r with started := true } :: q ∧ ∀ k, t.thread k = s.thread k) ∧
  (∀ d v ty mk f, (s.core site).sfu = r :: q → r.started = true → sfuFn r.instr = some (d, v, ty, mk, f) →
    ∃ t, exec (.sfuComplete site) s = .next t ∧ (t.core site).sfu = q ∧
      let old := (s.thread r.key).getV d
      let w := ty.width
      (t.thread r.key).getV d = (if d.toNat < (s.thread r.key).ctl.vallot.toNat then
        vOf w (lanes w) (fun k => if mBit r.mask w k then (f (fmtOf ty) r.ftz (elem w r.src k)).1 else elem w old k) else old) ∧
      (∀ e, e ≠ d → (t.thread r.key).getV e = (s.thread r.key).getV e) ∧ (t.thread r.key).regs.x = (s.thread r.key).regs.x ∧
      (t.thread r.key).ctl.vflags = (s.thread r.key).ctl.vflags |||
        orFlags (lanes w) (mBit r.mask w) (fun k => (f (fmtOf ty) r.ftz (elem w r.src k)).2) ∧
      ∀ o ∈ (t.thread r.key).outst, o.id = r.id → o.fin = true)

/-- R118, R134, R135: special functions from issue to completion. -/
def Obligations.SpecialFunctions : Prop := Part.SpecialIssue ∧ Part.SpecialEvents

/-- R138: a memory-to-memory instruction checks its three blocks, enters the queue of its core and advances each distinct register by 512. -/
def Sys2Proof.Part.MemoryToMemoryIssue : Prop := ∀ (d a b : AReg) (ty : Ty) (fl : BitVec 2),
  let block := fun (r : ARegV) => r.ptr.toNat % 128 = 0 ∧ boundOk r r.ptr.toNat 512 = true ∧ windowOf r.ptr.toNat = 0 ∧ windowOk r.ptr.toNat 512 = true
  let ok := fun (u : State) (wr : Byte → Prop) => block (u.ra d) ∧ block (u.ra a) ∧ block (u.ra b) ∧ wr (u.ra d).perm ∧
    permR (u.ra a).perm = true ∧ permR (u.ra b).perm = true ∧ u.acqPending = false
  let enters := fun (i : Instr) (wr : Byte → Prop) (f : BitVec 2) => ∀ s, Clear i s → ok s.entered wr →
    ∃ v, exec i s = .next (s.finished v) ∧
      let u := s.entered
      v.myCore.mm = u.myCore.mm ++ [{ key := u.ctx.key, id := u.nextId, instr := i, d := (u.ra d).ptr.toNat, s1 := (u.ra a).ptr.toNat,
                                      s2 := (u.ra b).ptr.toNat, mode := (u.rctl f).mode, ftz := (u.rctl f).ftz }] ∧
      (∀ r, v.cur.getA r = if r = d ∨ r = a ∨ r = b then { u.ra r with ptr := (u.ra r).ptr + 512 } else u.cur.getA r) ∧
      v.cur.regs.x = u.cur.regs.x ∧ v.cur.regs.v = u.cur.regs.v ∧ v.cur.regs.m = u.cur.regs.m ∧ v.myCore.mem = u.myCore.mem
  let f := if ty.isFloat then fl else 0
  let w : Byte → Prop := fun p => permW p = true
  enters (.mmadd d a b ty fl) w f ∧ enters (.mmsub d a b ty fl) w f ∧ enters (.mmmul d a b ty fl) w f ∧
  enters (.mmma d a b ty fl) (fun p => permR p = true ∧ permW p = true) f ∧ enters (.mmmax d a b ty fl) w 0 ∧ enters (.mmcvt d a b ty fl) w f

/-- R139 to R141: MM_COMPLETE writes each 128-byte line of the destination with its function of the source lines, where no source overlaps the
destination but as the same block, and changes no other byte; the instruction completes. -/
def Sys2Proof.Part.MemoryToMemoryComplete : Prop := ∀ (s : State) (site k : Nat) (o : MmOp), s.mmReady site k = some o →
  (∀ p ∈ [o.s1, o.s2], p = o.d ∨ p + 512 ≤ o.d ∨ o.d + 512 ≤ p) →
  ∃ t, exec (.mmComplete site k) s = .next t ∧ (t.core site).mm = (s.core site).mm.eraseIdx k ∧
    let m := (s.core site).mem.bytes
    let n := (t.core site).mem.bytes
    (∀ b, b < 4 → n.load (o.d + 128 * b) 128 = (mmLine o.instr ⟨o.mode, o.ftz⟩ (m.load (o.d + 128 * b) 128) (m.load (o.s1 + 128 * b) 128)
      (m.load (o.s2 + 128 * b) 128)).1 % 2 ^ 1024) ∧
    ∀ x, x < o.d ∨ o.d + 512 ≤ x → n.byte x = m.byte x

/-- R138 to R141: memory-to-memory work from issue to completion. -/
def Obligations.MemoryToMemory : Prop := Part.MemoryToMemoryIssue ∧ Part.MemoryToMemoryComplete

/-! ### Loads, stores, full-empty accesses and atomics -/

/-- R24, R35, R142 to R170: an access that fails a check raises its fault; one that passes enters the accesses of its thread when it leads to the
core's own memory, and sends a request for each line when it leads elsewhere; its pointer moves on. The forms are those of accOf: LDS, STS, LDV and
STV with SZ up to 3, STNT, LDFE, STFE and the fourteen atomics. -/
def Sys2Proof.Part.MemoryAccess : Prop := ∀ (i : Instr) (s : State) (c : Acc), Clear i s → accOf s.entered i = some c →
  let u := s.entered
  let key := u.ctx.key
  let e := c.chk.e.toNat
  (∀ k v, c.chk.fault (u.ra c.a) = some (k, v) → exec i s = .next (s.trapped (s.trapOf k v))) ∧
  (c.chk.fault (u.ra c.a) = none → u.accFree c →
    (∀ off, u.locate key e c.chk.size c.chk.need = .own off → exec i s = .next (s.finished (
      ((u.trackAcc c).2.pushAll key (u.trackAcc c).1 c.op c.nt (BitVec.ofNat 64 (e - off)) ((pieces off c.chk.size).map fun x => [x])).accDone u c))) ∧
    (∀ ps us ten, u.locate key e c.chk.size c.chk.need = .parts ps us ten → ps.length ≤ u.cur.freeSlots.length → u.cur.feWaits ps = false →
      exec i s = .next (s.finished (((((u.trackAcc c).2.useAll u.site c.chk.wr us).noteHost e c.chk.wr).sendParts key (u.trackAcc c).1 c.op c.nt ten
        c.ord c.sc (u.whoFor u.site e) (ps.zip u.cur.freeSlots)).accDone u c))) ∧
    (∀ k v, u.locate key e c.chk.size c.chk.need = .bad k v → exec i s = .next (s.trapped (s.trapOf k v))))

/-- R158 to R170: each form named in full: where its checks pass and nothing earlier holds it back, an access to the thread's own memory is accepted, and
one that leads elsewhere sends its requests. -/
def Sys2Proof.Part.MemoryForms : Prop := ∀ (d x : XReg) (v : VReg) (a : AReg) (xi : BitVec 5) (la : BitVec 4) (sz mode : BitVec 3) (fe o : BitVec 2) (sc : Scope),
  let completes := fun (i : Instr) => ∀ s c, Clear i s → accOf s.entered i = some c →
    let u := s.entered
    c.chk.fault (u.ra c.a) = none → u.accFree c →
    (∀ off, u.locate u.ctx.key c.chk.e.toNat c.chk.size c.chk.need = .own off → ∃ t, exec i s = .next t ∧
      t = s.finished (((u.trackAcc c).2.pushAll u.ctx.key (u.trackAcc c).1 c.op c.nt (BitVec.ofNat 64 (c.chk.e.toNat - off))
        ((pieces off c.chk.size).map fun x => [x])).accDone u c)) ∧
    (∀ ps us ten, u.locate u.ctx.key c.chk.e.toNat c.chk.size c.chk.need = .parts ps us ten → ps.length ≤ u.cur.freeSlots.length → u.cur.feWaits ps = false →
      ∃ t, exec i s = .next t ∧ t = s.finished (((((u.trackAcc c).2.useAll u.site c.chk.wr us).noteHost c.chk.e.toNat c.chk.wr).sendParts u.ctx.key
        (u.trackAcc c).1 c.op c.nt ten c.ord c.sc (u.whoFor u.site c.chk.e.toNat) (ps.zip u.cur.freeSlots)).accDone u c))
  completes (.lds d a x la sz mode) ∧ completes (.sts d a x sz mode) ∧ completes (.ldv v a xi la sz mode) ∧ completes (.stv v a xi sz mode) ∧
  completes (.stnt v a xi sz mode) ∧ completes (.ldfe d a la fe) ∧ completes (.stfe d a fe) ∧
  completes (.atomAdd d a x sc o) ∧ completes (.atomAnd d a x sc o) ∧ completes (.atomOr d a x sc o) ∧ completes (.atomXor d a x sc o) ∧
  completes (.atomMin d a x sc o) ∧ completes (.atomMax d a x sc o) ∧ completes (.atomMinu d a x sc o) ∧ completes (.atomMaxu d a x sc o) ∧
  completes (.atomSwap d a x sc o) ∧ completes (.atomCas d a x sc o) ∧ completes (.atomMaxrst d a x sc o) ∧ completes (.atomFadd d a x sc o) ∧
  completes (.atomFmax d a x sc o) ∧ completes (.atomFmaxrst d a x sc o)

/-- R160: a strided or gathered LDV or STV takes its 128 words in ascending order; the first element that fails a check raises its fault, ALIGN before
BOUND before PERM before WINDOW, with the element's address; else the elements enter the accesses of the thread, one for each line. -/
def Sys2Proof.Part.GatherAccess : Prop := ∀ (d : VReg) (a : AReg) (xi : BitVec 5) (la : BitVec 4) (sz mode : BitVec 3), 4 ≤ sz.toNat →
  let el := fun (u : State) (k : Nat) =>
    ((u.ra a).ptr.toNat : Int) + (if sz = 4 then (k : Int) * (u.rx xi).toInt else (((u.rv xi).toNat / 2 ^ (32 * k) % 2 ^ 32 : Nat) : Int))
  let good := fun (u : State) (ok : Byte → Bool) (k : Nat) =>
    el u k % 4 = 0 ∧ boundOk (u.ra a) (el u k) 4 = true ∧ ok (u.ra a).perm = true ∧ windowOf (el u k).toNat = 0 ∧ windowOk (el u k).toNat 4 = true
  let all := fun (u : State) (ok : Byte → Bool) => u.acqPending = false ∧ ∀ k, k < 128 → good u ok k
  let runs := fun (u : State) => byLine ((List.range 128).map fun k => (⟨(el u k).toNat, 4 * k, 4⟩ : El))
  DoesIf (.ldv d a xi la sz mode) (fun u => all u permR) (fun u =>
    ((u.track (.ldv d a xi la sz mode) [.v d.toNat]).2.pushAll u.ctx.key u.nextId (.loadV d 512) false 0 (runs u)).watchAll u.site false
      ((List.range 128).map (el u))) ∧
  DoesIf (.stv d a xi sz mode) (fun u => all u permW) (fun u =>
    (u.pushAll u.ctx.key 0 (.store (u.rv d)) false 0 (runs u)).watchAll u.site true ((List.range 128).map (el u))) ∧
  (∀ i ok, (i = .ldv d a xi la sz mode ∧ ok = permR) ∨ (i = .stv d a xi sz mode ∧ ok = permW) → ∀ k, k < 128 →
    let val := fun (u : State) => BitVec.ofInt 64 (el u k)
    let before := fun (u : State) => ∀ j, j < k → good u ok j
    let aligned := fun (u : State) => before u ∧ el u k % 4 = 0
    let bounded := fun (u : State) => aligned u ∧ boundOk (u.ra a) (el u k) 4 = true
    Traps i (fun u => before u ∧ el u k % 4 ≠ 0) .align val ∧
    Traps i (fun u => aligned u ∧ boundOk (u.ra a) (el u k) 4 = false) .bound val ∧
    Traps i (fun u => bounded u ∧ ok (u.ra a).perm = false) .perm val ∧
    Traps i (fun u => bounded u ∧ ok (u.ra a).perm = true ∧ (windowOf (el u k).toNat ≠ 0 ∨ windowOk (el u k).toNat 4 = false)) .window val)

/-- Loads, stores, full-empty accesses and atomics at issue. -/
def Obligations.MemoryIssue : Prop := Part.MemoryAccess ∧ Part.MemoryForms ∧ Part.GatherAccess

/-- R159, R161: a load of a thread's own memory that is performed writes its register with the bytes, extended as SZ says, and changes no byte. -/
def Sys2Proof.Part.OwnLoad : Prop := ∀ (s : State) (site thr k : Nat) (a : Access) (d : XReg) (sz : BitVec 3) (e : El),
  s.nextOwn (4 * site + thr % 4) k = some a → a.op = .loadX d sz → a.els = [e] → a.waiting = false → a.holdTo = 0 →
  ∃ t, exec (.accessComplete site thr k) s = .next t ∧
    let m := (s.core site).mem
    (poisoned m.pois e.addr e.len = false → (t.thread (4 * site + thr % 4)).getX d = if d = 0 then 0 else extendSz sz (m.bytes.load e.addr e.len)) ∧
    (∀ r, r ≠ d → (t.thread (4 * site + thr % 4)).getX r = (s.thread (4 * site + thr % 4)).getX r) ∧
    ∀ c x, (t.core c).mem.bytes.byte x = (s.core c).mem.bytes.byte x

/-- R108, R159, R160: a vector load of a thread's own memory that is performed puts the bytes of its runs in their places of v[d], the bytes at or above
its length zero; a register at or above the allotment keeps nothing; no byte of memory changes. -/
def Sys2Proof.Part.OwnVectorLoad : Prop := ∀ (s : State) (site thr k : Nat) (a : Access) (d : VReg) (len : Nat),
  s.nextOwn (4 * site + thr % 4) k = some a → a.op = .loadV d len → a.waiting = false → a.holdTo = 0 → len ≤ 512 → a.els ≠ [] →
  (∀ e ∈ a.els, e.off + e.len ≤ len) → a.els.Pairwise (fun e f => e.off + e.len ≤ f.off ∨ f.off + f.len ≤ e.off) →
  let key := 4 * site + thr % 4
  let m := (s.core site).mem.bytes
  ∃ t, exec (.accessComplete site thr k) s = .next t ∧
    (d.toNat < (s.thread key).ctl.vallot.toNat → ∀ b, b < 512 →
      (∀ e ∈ a.els, e.off ≤ b → b < e.off + e.len → elem 8 ((t.thread key).getV d) b = (m.byte (e.addr + (b - e.off))).toNat) ∧
      ((∀ e ∈ a.els, b < e.off ∨ e.off + e.len ≤ b) → elem 8 ((t.thread key).getV d) b = if b < len then elem 8 ((s.thread key).getV d) b else 0)) ∧
    (¬d.toNat < (s.thread key).ctl.vallot.toNat → (t.thread key).getV d = (s.thread key).getV d) ∧
    (∀ r, r ≠ d → (t.thread key).getV r = (s.thread key).getV r) ∧ (t.thread key).regs.x = (s.thread key).regs.x ∧
    ∀ c x, (t.core c).mem.bytes.byte x = (s.core c).mem.bytes.byte x

/-- R159, R161: a store to a thread's own memory that is performed writes its bytes, low byte at the lowest address, and no other byte; no register
changes. -/
def Sys2Proof.Part.OwnStore : Prop := ∀ (s : State) (site thr k : Nat) (a : Access) (data : VWord) (e : El),
  s.nextOwn (4 * site + thr % 4) k = some a → a.op = .store data → a.els = [e] → a.waiting = false → a.holdTo = 0 →
  ∃ t, exec (.accessComplete site thr k) s = .next t ∧ (∀ j, (t.thread j).regs = (s.thread j).regs) ∧
    ∀ c x, (t.core c).mem.bytes.byte x =
      if c = site ∧ e.addr ≤ x ∧ x < e.addr + e.len then BitVec.ofNat 8 ((data >>> (8 * e.off)).toNat % 2 ^ (8 * e.len) / 256 ^ (x - e.addr))
      else (s.core c).mem.bytes.byte x

/-- R168, R169: an atomic on a thread's own memory that is performed leaves the old value in its register and the new one in memory. -/
def Sys2Proof.Part.OwnAtomic : Prop := ∀ (s : State) (site thr k : Nat) (a : Access) (d : XReg) (op : BitVec 4) (o cmp : Word) (e : El),
  s.nextOwn (4 * site + thr % 4) k = some a → a.op = .atomic d op o cmp → a.els = [e] → a.waiting = false → a.holdTo = 0 →
  let m := (s.core site).mem
  let n := if 11 ≤ op.toNat then 4 else 8
  poisoned m.pois e.addr n = false →
  ∃ t, exec (.accessComplete site thr k) s = .next t ∧
    (d ≠ 0 → (t.thread (4 * site + thr % 4)).getX d = BitVec.ofNat 64 (m.bytes.load e.addr n)) ∧
    (t.core site).mem.bytes = m.bytes.store e.addr n (atomicNew op (m.bytes.load e.addr n) o cmp)

/-- R164, R165: a full-empty access to a thread's own memory. With its condition met it is performed: LDFE reads the word, and empties it in mode 2, or
reads the bit in mode 3; STFE writes the word and fills it, or only empties it in mode 2. With its condition not met, LDFE on an empty word in mode 1 or
2, STFE on a full one in mode 1 or on an empty one in mode 3, it waits in the retry list. -/
def Sys2Proof.Part.OwnFullEmpty : Prop := ∀ (s : State) (site thr k : Nat) (a : Access) (e : El),
  s.nextOwn (4 * site + thr % 4) k = some a → a.els = [e] → a.waiting = false → a.holdTo = 0 → (s.core site).mem.retry = [] →
  let m := (s.core site).mem
  let full := m.full e.addr
  (∀ d mode, a.op = .ldfe d mode → mode ≠ 3 → mode = 0 ∨ full = true → poisoned m.pois e.addr 8 = false →
    ∃ t, exec (.accessComplete site thr k) s = .next t ∧ (t.core site).mem.full e.addr = (if mode = 2 then false else full) ∧
      (d ≠ 0 → (t.thread (4 * site + thr % 4)).getX d = BitVec.ofNat 64 (m.bytes.load e.addr 8)) ∧ (t.core site).mem.bytes = m.bytes) ∧
  (∀ d, a.op = .ldfe d 3 → ∃ t, exec (.accessComplete site thr k) s = .next t ∧ (t.core site).mem.full e.addr = full ∧
      (d ≠ 0 → (t.thread (4 * site + thr % 4)).getX d = if full then 1 else 0) ∧ (t.core site).mem.bytes = m.bytes) ∧
  (∀ data mode, a.op = .stfe data mode → (mode = 1 → full = false) → (mode = 3 → full = true) →
    ∃ t, exec (.accessComplete site thr k) s = .next t ∧ (t.core site).mem.full e.addr = (if mode = 2 then false else true) ∧
      (t.core site).mem.bytes = if mode = 2 then m.bytes else m.bytes.store e.addr 8 data.toNat) ∧
  (∀ d mode, a.op = .ldfe d mode → mode = 1 ∨ mode = 2 → full = false →
    ∃ t, exec (.accessComplete site thr k) s = .next t ∧ (t.core site).mem.retry = [.own (4 * site + thr % 4) a.ord] ∧
      (t.core site).mem.bytes = m.bytes) ∧
  (∀ data mode, a.op = .stfe data mode → (mode = 1 ∧ full = true) ∨ (mode = 3 ∧ full = false) →
    ∃ t, exec (.accessComplete site thr k) s = .next t ∧ (t.core site).mem.retry = [.own (4 * site + thr % 4) a.ord] ∧
      (t.core site).mem.bytes = m.bytes ∧ (t.core site).mem.full e.addr = full)

/-- R159, R161, R164, R165, R168, R169: accesses to a thread's own memory when they are performed. -/
def Obligations.OwnAccesses : Prop := Part.OwnLoad ∧ Part.OwnVectorLoad ∧ Part.OwnStore ∧ Part.OwnAtomic ∧ Part.OwnFullEmpty

/-! ### Copies and tags -/

/-- R183, R184: WAITANY and WAITALL end when their counts are 0 (WAITANY also when a tag is done), raise COPYERR for the tags in error, and otherwise
WAITANY writes the done tags; TFIRST writes the least done tag, or all ones; TCLR clears TDONE and TERR; TGET reads a tag's count and bits. -/
def Obligations.TagInstructions : Prop := ∀ (d s : XReg),
  let tags := fun (u : State) => u.myCore.tags
  let idle := fun (u : State) => ∀ j, j < 64 → (u.rx s).getLsbD j = true → (tags u).cnt[j]?.getD 0 = 0
  let any := fun (u : State) => u.rx s &&& (tags u).tdone ≠ 0 ∨ idle u
  let bad := fun (u : State) => u.rx s &&& (tags u).terr
  DoesIf (.waitall s) (fun u => idle u ∧ bad u = 0) (fun u => u) ∧
  Traps (.waitall s) (fun u => idle u ∧ bad u ≠ 0) .copyerr bad ∧
  DoesIf (.waitany d s) (fun u => any u ∧ bad u &&& (tags u).tdone = 0) (fun u => u.wx d (u.rx s &&& (tags u).tdone)) ∧
  Traps (.waitany d s) (fun u => any u ∧ bad u &&& (tags u).tdone ≠ 0) .copyerr (fun u => bad u &&& (tags u).tdone) ∧
  (∀ j, DoesIf (.tfirst d s) (fun u => j < 64 ∧ (u.rx s &&& (tags u).tdone).getLsbD j = true ∧
      ∀ i, i < j → (u.rx s &&& (tags u).tdone).getLsbD i = false) (fun u => u.wx d (BitVec.ofNat 64 j))) ∧
  DoesIf (.tfirst d s) (fun u => u.rx s &&& (tags u).tdone = 0) (fun u => u.wx d (-1)) ∧
  Does (.tclr s) (fun u => (u.modMyCore fun c => { c with tags := { c.tags with
    tdone := c.tags.tdone &&& ~~~u.rx s, terr := c.tags.terr &&& ~~~u.rx s } }).modCur fun t => { t with tagUsed := t.tagUsed &&& ~~~u.rx s }) ∧
  Does (.tget d s) (fun u =>
    let j := (u.rx s).toNat % 64
    u.wx d (((tags u).cnt[j]?.getD 0).setWidth 64 ||| (if (tags u).tdone.getLsbD j then 0x100 else 0) |||
      (if (tags u).terr.getLsbD j then 0x200 else 0)))

/-- R174 to R178, R182: a copy that passes its checks and finds a slot and a count of its tag takes them: the tag counts up and is not done, and the
copy has its rows to move. COPY and COPYMC move one row, COPY2D and COPYGT the rows of the attribute register. That a copy of no bytes passes without a
check of BOUND, PERM and WINDOW is the model's choice (DESIGN CHOICE, log 93). -/
def Sys2Proof.Part.CopyIssue : Prop := ∀ (d a : AReg) (x : XReg) (tag : BitVec 6) (sel : BitVec 2),
  let cpa := fun (u : State) => u.src.ctl.cpa[sel.toNat]?.getD 0
  let n := fun (u : State) => (u.rx x).toNat
  let rows := fun (u : State) => ((cpa u).toNat / 2 ^ 44) % 2 ^ 12 + 1
  let dp := fun (u : State) => ((cpa u).toNat / 2 ^ 22) % 2 ^ 22
  let sp := fun (u : State) => (cpa u).toNat % 2 ^ 22
  let acq := fun (u : State) => (cpa u).getLsbD 58
  let rel := fun (u : State) => (cpa u).getLsbD 59
  let scope := fun (u : State) => (acq u || (cpa u).getLsbD 59) = true → (cpa u).toNat / 2 ^ 60 < 12
  let fits := fun (r : ARegV) (m : Nat) (ok : Byte → Bool) => boundOk r r.ptr.toNat m = true ∧ ok r.perm = true ∧ windowOk r.ptr.toNat m = true
  let common := fun (u : State) (r : Nat) => r * n u ≤ 2 ^ 24 ∧ n u ≤ 2 ^ 24 ∧ scope u ∧ u.myCore.tags.copies.length < 96 ∧
    u.myCore.tags.cnt[tag.toNat]?.getD 0 ≠ 255
  let clear := fun (u : State) => n u = 0 ∨ (u.ra a).ptr.toNat + n u ≤ (u.ra d).ptr.toNat ∨ (u.ra d).ptr.toNat + n u ≤ (u.ra a).ptr.toNat
  let base := fun (u : State) (k : CopyKind) (r : Nat) => ({
    id := 0, owner := u.ctx.key, kind := k, tag := tag, src := u.ra a, dst := u.ra d, len := n u, rows := r, spitch := sp u, dpitch := 0, rect := 0
    ordered := (cpa u).getLsbD 57, sup := u.src.sup, ten := u.coreTenant u.site, space := u.dataSpace u.src
    todo := if n u = 0 then [] else [(0, 2 * (r * rowPieces (n u)))], cpaAcq := acq u, cpaRel := rel u
    acqIds := if acq u || rel u then u.cur.pendSet else []
    hostRead := rel u && hostScope ((cpa u).extractLsb' 60 4) && windowOf (u.ra d).ptr.toNat == 4 && k != .copymc && n u != 0 } : Copy)
  DoesIf (.copy d a x tag sel)
    (fun u => common u 1 ∧ clear u ∧ (n u ≠ 0 → fits (u.ra a) (n u) permR ∧ fits (u.ra d) (n u) permW))
    (fun u => u.addCopy (base u .copy 1)) ∧
  DoesIf (.copy2d d a x tag sel)
    (fun u => common u (rows u) ∧ (1 < rows u → n u ≤ dp u) ∧
      (n u ≠ 0 → fits (u.ra a) ((rows u - 1) * sp u + n u) permR ∧ fits (u.ra d) ((rows u - 1) * dp u + n u) permW))
    (fun u => u.addCopy { base u .copy2d (rows u) with dpitch := dp u }) ∧
  DoesIf (.copygt d a x tag sel)
    (fun u => common u (rows u) ∧ sp u % 8 = 0 ∧ sp u + 8 * rows u ≤ 0x60000 ∧ (n u ≠ 0 → fits (u.ra d) ((rows u - 1) * dp u + n u) permW))
    (fun u => u.addCopy { base u .copygt (rows u) with dpitch := dp u }) ∧
  (∀ rw, DoesIf (.copymc d a x tag sel)
    (fun u => common u 1 ∧ clear u ∧ u.setRect ((cpa u).getLsbD 43) (cpa u &&& 0x7FFFFFFFFFF#64) = .ok rw ∧ (cpa u).toNat / 2 ^ 24 % 2 ^ 19 = 0 ∧
      (n u ≠ 0 → fits (u.ra a) (n u) permR ∧ fits (u.ra d) (n u) permW ∧ windowOf (u.ra d).ptr.toNat = 0))
    (fun u => u.addCopy { base u .copymc 1 with rect := rw }))

/-- R171, R172: MCAST of a legal set, aligned, in bounds and with W in its own local window takes a copy slot and sends its bytes to every site of the
set, an ordered one through the set's root. -/
def Sys2Proof.Part.MulticastIssue : Prop := ∀ (v : VReg) (a : AReg) (x : XReg) (tag : BitVec 6) (size : BitVec 2) (ordered : Bool) (rw : Word),
  let n := 64 * 2 ^ size.toNat
  DoesIf (.mcast v a x tag size ordered)
    (fun u => u.setRect ((u.rx x).getLsbD 63) (u.rx x &&& 0x7FFFFFFFFFFFFFFF#64) = .ok rw ∧ (u.ra a).ptr.toNat % min n 128 = 0 ∧
      boundOk (u.ra a) (u.ra a).ptr.toNat n = true ∧ permW (u.ra a).perm = true ∧ windowOk (u.ra a).ptr.toNat n = true ∧
      windowOf (u.ra a).ptr.toNat = 0 ∧ u.copyRoom tag = true)
    (fun u =>
      let c : Copy := {
        id := u.nextId, owner := u.ctx.key, kind := .mcast, tag := tag, src := u.ra a, dst := u.ra a, len := n, rect := rw, ordered := ordered
        sup := u.src.sup, ten := u.coreTenant u.site, pend := (rectSites rw).length }
      let to1 := fun (w : State) (h : Agent) =>
        w.send (w.copyMsg u.site c h MT.mcast ((u.ra a).ptr.toNat % 2 ^ 19)
          { line := 0, dst := (u.ra a).ptr.toNat, len := n, data := (u.rv v).toNat % 2 ^ (8 * n) } c.ten)
      if ordered then to1 (u.addCopy c) (.router (rw.toNat % 4096)) else (rectSites rw).foldl (fun w p => to1 w (.core p)) (u.addCopy c))

/-- The copy instructions at issue. -/
def Obligations.CopyInstructions : Prop := Part.CopyIssue ∧ Part.MulticastIssue

/-- R179: a copy moves in pieces, as the model cuts them (DEDUCED, log 26). COPY_LINE of a copy with one read left that leads to its core's own memory reads the part, whose bytes join their piece; with one piece read
and no read left, the destination in the core's own memory takes its bytes and no other byte changes. -/
def Sys2Proof.Part.CopyLines : Prop := ∀ (s : State) (site k : Nat) (c : Copy),
  (s.core site).tags.copies[k]? = some c → (∀ j p, (s.core site).tags.copies[j]? = some p → p.id = c.id → j = k) → c.stopped = false →
  (∀ n a off len loc, (c.cpaAcq = true → s.copyWaits site c = false) → c.todo = [(n, n + 1)] → (∀ j ∈ c.lines, j.got ≠ j.len) →
    (c.kind = .copygt → (c.gread.any fun e => e.1 == (c.piece (n / 2)).1) = true ∧ boundOk c.src (c.rowSrc (c.piece (n / 2)).1) c.len = true ∧
      permR c.src.perm = true) →
    c.part n = (a, off, len) → 0 < len → windowOk a len = true → placeOf a = .own loc → s.present site = true → c.sup = true ∨ c.ten = s.coreTenant site →
    poisoned (s.core site).mem.pois loc len = false →
    ∃ t, exec (.copyLine site k) s = .next t ∧ (t.core site).tags.copies[k]? = some { c with
      todo := []
      lines := (c.begun n).map fun j => if j.line = n / 2 then j.fill off len ((s.core site).mem.bytes.load loc len) false else j }) ∧
  (∀ j off, c.todo = [] → c.lines = [j] → j.got = j.len → c.kind ≠ .copymc → windowOk j.dst j.len = true → placeOf j.dst = .own off →
    ∃ t, exec (.copyLine site k) s = .next t ∧ (t.core site).tags.copies[k]? = some { c with lines := [] } ∧
      ∀ p y, (t.core p).mem.bytes.byte y =
        if p = site ∧ off ≤ y ∧ y < off + j.len then BitVec.ofNat 8 (j.data / 256 ^ (y - off)) else (s.core p).mem.bytes.byte y)

/-- R178, R179, R181, R182: COPY_COMPLETE of a copy with nothing left to do: the read through the host bridge that its release owes is made; else its
slot is freed and its tag counts down; at 0 the tag is done; an error is kept. -/
def Sys2Proof.Part.CopyCompletion : Prop := ∀ (s : State) (site k : Nat) (c : Copy),
  (s.core site).tags.copies[k]? = some c → s.copyWaits site c = false → c.todo = [] → c.lines = [] → c.pend = 0 →
  (c.hostRead = true → exec (.copyComplete site k) s = .next ((s.modCopy site c.id fun p => { p with hostRead := false, pend := 1 }).engineRead site c
    .bridge (c.dst.ptr.toNat % 2 ^ 60) 8 0 3 c.ten)) ∧
  (c.hostRead = false → ∃ t, exec (.copyComplete site k) s = .next t ∧
    let o := (s.core site).tags
    let n := (t.core site).tags
    let j := c.tag.toNat
    n.copies = o.copies.eraseIdx k ∧ n.cnt[j]?.getD 0 = o.cnt[j]?.getD 0 - 1 ∧ (∀ i, i ≠ j → n.cnt[i]? = o.cnt[i]?) ∧
    n.tdone = (if o.cnt[j]?.getD 0 - 1 = 0 then o.tdone ||| 1#64 <<< j else o.tdone) ∧ n.terr = (if c.err then o.terr ||| 1#64 <<< j else o.terr))

/-- R153, R172, R179, R318: the data of a copy or a multicast that reach a core of their tenant are written there, the poisoned bytes as such, and
acknowledged; a multicast skips a core that takes no part and one of another tenant; an MCAST at its root goes on to every site of the set; a COPYDATA
reaches device memory, after the records of what ECC corrects there, and host memory alike. That a core which takes no part answers a multicast with
status 0 after its record is the model's reading (DEDUCED, log 95). -/
def Sys2Proof.Part.CopyData : Prop := ∀ (s : State) (k : Nat) (m : Msg), s.deliver k = some m →
  let u := s.dropMsg k
  let a := m.w[0].toNat
  let n := m.w[1].toNat % 2 ^ 16
  let x := m.pay.toNat % 2 ^ (8 * n)
  let pz := (m.w[1].toNat / 2 ^ 16 % 2 ^ 16, m.w[1].toNat / 2 ^ 32 % 2 ^ 16)
  (∀ site, m.dest = .core site → u.present site = true → u.tenantOk site m = true →
    (m.typ = MT.copydata → exec (.copydata k) s = .next (((u.wake site).locPiece site a n x pz).reply m 0)) ∧
    (m.typ = MT.mcast → m.tenant = u.coreTenant site → exec (.mcastMsg k) s = .next (((u.wake site).locPiece site a n x pz).reply m 0)) ∧
    (m.typ = MT.mcast → m.tenant ≠ u.coreTenant site → exec (.mcastMsg k) s = .next (u.reply m 3))) ∧
  (∀ site, m.typ = MT.mcast → m.dest = .core site → u.present site = false → exec (.mcastMsg k) s = .next ((u.discard site m).reply m 0)) ∧
  (∀ sl key h, m.typ = MT.copydata → m.dest = .slice sl → u.keyOf m.tenant = some key → (u.mendSeen m.tenant key a n true).hbm.write key a n x false = some h →
    exec (.copydata k) s = .next ({ u.mendSeen m.tenant key a n true with hbm := { h with pois := setPois h.pois (a + pz.1) true pz.2 } }.reply m 0)) ∧
  (m.typ = MT.copydata → m.dest = .bridge → exec (.copydata k) s = .next ({ u with host := u.host.store a n x }.reply m 0)) ∧
  (∀ r, m.typ = MT.mcast → m.dest = .router r → exec (.mcastMsg k) s = .next ((rectSites m.w[4]).foldl (fun v q =>
    v.send { m with frm := .router r, dest := .core q, back := some (m.back.getD (m.frm, m.id)) }) u))

/-- Copies: a line, the end, the data at their homes. -/
def Obligations.CopyProgress : Prop := Part.CopyLines ∧ Part.CopyCompletion ∧ Part.CopyData

/-! ### The matrix engine -/

/-- R187 to R193, R201, R203: MTILE and the ACOP forms check their operands, tile and addresses and enter the queue of the engine with the registers as
they stand; MJOB reads its card and also writes the id of the job. -/
def Sys2Proof.Part.MatrixIssue : Prop := ∀ (d p c l : XReg) (opA opB : BitVec 6) (tb ta : Bool) (mode : BitVec 2) (la : BitVec 4) (t : Nat),
  let room := fun (u : State) => u.myCore.eng.length < 8 ∧ u.acqPending = false
  let shape := fun (u : State) (len : Nat) => checkTile u.src.ctl (u.rx c) = some t ∧ len ≤ (u.rx p).toNat % 2 ^ 16 ∧ (u.rx l).toNat % len = 0 ∧
    (u.rx p).toNat % 2 ^ 16 % len = 0 ∧ (u.rx l).toNat + 31 * ((u.rx p).toNat % 2 ^ 16) + len ≤ 0x60000 ∧ room u
  let moves := fun (i : Instr) (k : MKind) (len : Nat) => DoesIf i (fun u => shape u len) (fun u =>
    (u.track i []).2.enqueue { sampled u k with
      id := u.nextId, tile := t, addr := (u.rx l).toNat, pitch := (u.rx p).toNat % 2 ^ 16, mul := (u.rx p).extractLsb' 32 32
      xs := #v[u.rx p, u.rx c, u.rx l, 0, 0] })
  moves (.acst p c l la) .acst 128 ∧ moves (.acstb p c l la) .acstb 64 ∧ moves (.acld p c l la) .acld 128 ∧ moves (.acstsc p c l la) .acstsc 128 ∧
  DoesIf (.aczero c) (fun u => checkTile u.src.ctl (u.rx c) = some t ∧ room u)
    (fun u => u.enqueue { sampled u .aczero with tile := t, xs := #v[0, u.rx c, 0, 0, 0] }) ∧
  DoesIf (.mtile c opA opB tb ta mode)
    (fun u => checkTile u.src.ctl (u.rx c) = some t ∧ fieldBad opA = false ∧ fieldBad opB = false ∧ formatsOk u.src.ctl.fmta u.src.ctl.fmtb = true ∧
      (u.tileOperand opA).faults false (rowShape true u.src.ctl.fmta u.src.ctl.fmtb ta) u.wordVal = [] ∧
      (u.tileOperand opB).faults (isBpi u.src.ctl.fmtb) (rowShape false u.src.ctl.fmta u.src.ctl.fmtb tb) u.wordVal = [] ∧
      (u.src.ctl.fmta = 2 → scaleFaults u.src.ctl.scla = [] ∧ scaleFaults u.src.ctl.sclb = []) ∧ room u)
    (fun u => u.enqueue { sampled u .mtile with
      mode := mode, ta := ta, tb := tb, opA := u.tileOperand opA, opB := u.tileOperand opB, tile := t
      xs := #v[u.rx c, if opA.getLsbD 5 then u.rx (opA.setWidth 5) else 0, if opA.getLsbD 5 then u.rx (opA.setWidth 5 + 1) else 0,
               if opB.getLsbD 5 then u.rx (opB.setWidth 5) else 0, if opB.getLsbD 5 then u.rx (opB.setWidth 5 + 1) else 0] }) ∧
  (∀ j, DoesIf (.mjob d c)
    (fun u => (u.rx c).toNat % 128 = 0 ∧ (u.rx c).toNat + 128 ≤ 0x60000 ∧ u.ownPending u.ctx.key u.nextId [((u.rx c).toNat, 128)] = false ∧
      poisoned u.myCore.mem.pois (u.rx c).toNat 128 = false ∧ j = jobOf (BitVec.ofNat 1024 (u.myCore.mem.bytes.load (u.rx c).toNat 128)) (sampled u .job) ∧
      jobFault u.src.ctl j.inForce u.wordVal = none ∧ room u)
    (fun u => ((u.enqueue { j with jobId := u.src.jobCtr }).wx d (u.src.jobCtr.setWidth 64)).modCur fun t => { t with
      jobCtr := t.jobCtr + 1, jobHist := (0 :: t.jobHist).take 16 }))

/-- R199, R200: MSTAT writes the status of a job; MWAIT writes it at once when it is final and waits in the core otherwise; MCANCEL ends a job that does
not run with CANCELLED, marks a running one, and leaves an unknown one. -/
def Sys2Proof.Part.JobStatus : Prop := ∀ (d s : XReg) (la : BitVec 4),
  let id := fun (u : State) => (u.rx s).setWidth 16
  let w := fun (u : State) => u.jobStatus u.ctx.key (id u)
  let job := fun (u : State) => u.myCore.eng.find? fun c => c.key == u.ctx.key && c.kind == .job && c.jobId == id u && !c.orphan
  Does (.mstat d s) (fun u => u.wx d (w u)) ∧
  DoesIf (.mwait d s la) (fun u => 3 ≤ (w u).toNat % 8)
    (fun u => (u.track (.mwait d s la) (xRef d)).2.modCur fun t => (t.putX d (w u)).complete u.nextId) ∧
  DoesIf (.mwait d s la) (fun u => (w u).toNat % 8 < 3)
    (fun u => (u.track (.mwait d s la) (xRef d)).2.modMyCore fun c => { c with mwaits := c.mwaits ++ [⟨u.ctx.key, u.nextId, id u, d⟩] }) ∧
  (∀ c : MCmd, DoesIf (.mcancel s) (fun u => job u = some c ∧ (c.st = .queued ∨ c.st = .suspended)) (fun u => u.jobEnds c 4) ∧
    DoesIf (.mcancel s) (fun u => job u = some c ∧ c.st = .running) (fun u => u.modMyCore fun k => { k with
      eng := k.eng.map fun x => if x.ord = c.ord then { x with cancel := true } else x }) ∧
    DoesIf (.mcancel s) (fun u => job u = some c ∧ c.st = .ending) (fun u => u)) ∧
  DoesIf (.mcancel s) (fun u => job u = none) (fun u => u)

/-- The instructions of the matrix engine. -/
def Obligations.MatrixInstructions : Prop := Part.MatrixIssue ∧ Part.JobStatus

/-- R91, R194, R198, R201: a free engine takes the best command that may start; a command gains a priority level after 4,096 cycles, which its effective
priority already counts; an operation reads its scales one by one before its first k-step; a k-step of an MTILE with no earlier access to its bytes ends
with its update held back until the command completes. -/
def Sys2Proof.Part.MatrixEngine : Prop := ∀ (s : State) (site k : Nat) (c : MCmd),
  ((s.core site).running = none → (s.core site).nextCmd s.time = some c →
    exec (.matrixDispatch site) s = .next (s.modCore site fun k => k.putCmd { c with st := .running, cyc := s.time - c.since })) ∧
  ((s.core site).eng[k]? = some c → c.st = .queued ∨ c.st = .suspended → 4096 ≤ (s.time - c.since).toNat →
    let c1 := { c with aged := c.aged + 1, since := c.since + 4096 }
    exec (.matrixAgeing site k) s = .next (s.modCore site fun x => x.putCmd c1) ∧ c1.eff s.time = c.eff s.time) ∧
  ((s.core site).running = some c → c.kind = .mtile ∨ c.kind = .job → s.ownPending c.key c.ord c.reads = false →
    (∀ x ∈ (s.core site).eng, x.st ≠ .ending) → c.unread ≠ [] →
    ∃ t i a, exec (.kstepEnd site) s = .next t ∧ i ∈ c.unread ∧ c.now.scaleAt i = some a ∧ (t.core site).acc = (s.core site).acc ∧
      ∀ x ∈ (t.core site).eng, x.ord = c.ord → x.scales = Map.put c.scales i (BitVec.ofNat 32 ((s.core site).mem.read a 4).1)) ∧
  ((s.core site).running = some c → c.kind = .mtile → s.ownPending c.key c.ord c.reads = false →
    (∀ x ∈ (s.core site).eng, x.st ≠ .ending) → c.unread = [] →
    ∃ t, exec (.kstepEnd site) s = .next t ∧ (t.core site).acc = (s.core site).acc ∧ (t.core site).mem.bytes = (s.core site).mem.bytes ∧
      ∀ x ∈ (t.core site).eng, x.ord = c.ord → x.st = .ending ∧ x.update.map (·.2.1) = (kstep (s.core site) c).upd)

/-- R194, R204, R205: MATRIX_COMMAND_COMPLETE writes the update that a command held back and takes it from the queue; a store of a tile writes its 32 rows
of F32 patterns at its pitch, of BF16 values for ACSTB and of rounded products for ACSTSC, poisoned as the tile is, and no byte outside them; ACZERO and
ACLD write the tile, and clean data clear its poison bit; a job that ends is DONE in its thread's history and answers those that wait for it (R199, R200). -/
def Sys2Proof.Part.MatrixCompletion : Prop := ∀ (s : State) (site : Nat) (c : MCmd), s.completing site = some c →
  let k := s.core site
  (c.st = .ending → c.kind = .mtile → ∀ t e p, c.update = some (t, e, p) → ∃ v, exec (.matrixCommandComplete site) s = .next v ∧
    (v.core site).acc = tileWrite k.acc t 0 e ∧ (v.core site).mem = k.mem ∧ (v.core site).eng = k.eng.filter (fun x => x.ord != c.ord)) ∧
  (∀ len w f, (c.kind = .acst ∧ len = 128 ∧ w = 32 ∧ f = fun x : BitVec 32 => x.toNat) ∨
      (c.kind = .acstb ∧ len = 64 ∧ w = 16 ∧ f = fun x : BitVec 32 => (fCvt .f32 .bf16 .engine x.toNat).1) ∨
      (c.kind = .acstsc ∧ len = 128 ∧ w = 32 ∧ f = fun x : BitVec 32 => (fMulTo .f32 .f32 .engine x.toNat c.mul.toNat).1) →
    c.st = .running → len ≤ c.pitch → ∃ v, exec (.matrixCommandComplete site) s = .next v ∧
    (∀ r, r < 32 → (v.core site).mem.bytes.load (c.addr + r * c.pitch) len = packFn w 32 (fun j => f (tileElem k.acc c.tile r j)) ∧
      poisoned (v.core site).mem.pois (c.addr + r * c.pitch) len = k.tilePois.getLsbD c.tile) ∧
    (∀ x, (∀ r, r < 32 → x < c.addr + r * c.pitch ∨ c.addr + r * c.pitch + len ≤ x) → (v.core site).mem.bytes.byte x = k.mem.bytes.byte x) ∧
    (v.core site).acc = k.acc ∧ (v.core site).eng = k.eng.filter (fun x => x.ord != c.ord)) ∧
  (c.st = .running → c.kind = .aczero → ∃ v, exec (.matrixCommandComplete site) s = .next v ∧
    (v.core site).acc = tileWrite k.acc c.tile 0 (List.replicate 1024 0) ∧ (v.core site).mem = k.mem ∧ (v.core site).tilePois.getLsbD c.tile = false) ∧
  (c.st = .running → c.kind = .acld → ∃ v, exec (.matrixCommandComplete site) s = .next v ∧
    (v.core site).acc = tileWrite k.acc c.tile 0 ((List.range 32).flatMap fun r => (List.range 32).map fun j =>
      BitVec.ofNat 32 (k.mem.bytes.load (c.addr + r * c.pitch + 4 * j) 4)) ∧ (v.core site).mem = k.mem ∧
    (v.core site).eng = k.eng.filter (fun x => x.ord != c.ord) ∧
    ((∀ r, r < 32 → poisoned k.mem.pois (c.addr + r * c.pitch) 128 = false) → (v.core site).tilePois.getLsbD c.tile = false) ∧
    ((∃ r, r < 32 ∧ poisoned k.mem.pois (c.addr + r * c.pitch) 128 = true) → c.tile < 16 → (v.core site).tilePois.getLsbD c.tile = true)) ∧
  (c.st = .ending → c.kind = .job → c.key / 4 = site → c.orphan = false → ∀ t e p, c.update = some (t, e, p) →
    let w := BitVec.ofNat 64 (c.steps * 65536) ||| (if c.psn then 8 else 0) ||| 3
    ∃ v, exec (.matrixCommandComplete site) s = .next v ∧
    (v.core site).acc = tileWrite k.acc t 0 e ∧ (v.core site).mem = k.mem ∧ (v.core site).eng = k.eng.filter (fun x => x.ord != c.ord) ∧
    (v.thread c.key).jobHist = (s.thread c.key).jobHist.set ((s.thread c.key).jobCtr - 1 - c.jobId).toNat w ∧
    ∀ x ∈ k.mwaits, x.key = c.key → x.job = c.jobId → x.dst ≠ 0 → (v.thread c.key).getX x.dst = w)

/-- The events of the matrix engine. -/
def Obligations.MatrixEvents : Prop := Part.MatrixEngine ∧ Part.MatrixCompletion

/-! ### Messages at their homes, and their answers -/

/-- R146, R153, R165, R168, R320: a request that reaches an active core of its tenant is served there: a LOAD and an ATOMIC send the old bytes, a STORE
writes its bytes and is acknowledged, LOADFE and STOREFE whose condition holds read, write and set the bit; one for a core that is absent or of another
tenant is answered with status 2 or 3. R290: an access larger than a line is performed one line of it at a time, the memory taking 128 bytes of a store
at each. -/
def Sys2Proof.Part.RequestsAtCores : Prop := ∀ (s : State) (k site : Nat) (m : Msg),
  s.deliver k = some m → m.cls ≠ .rsp → m.dest = .core site →
  let u := s.dropMsg k
  let v := (u.wake site).acceptMsg m
  let mem := (u.core site).mem
  let full := mem.full m.addr
  let here := u.present site = true ∧ u.tenantOk site m = true ∧ (u.wake site).mustRefuse m = false
  let lines := m.todo.getD (List.range (m.size / 128))
  let line := fun (i : Nat) => m.addr + 128 * i
  (m.typ = MT.load → here → State.byLines m = false → poisoned mem.pois m.addr m.size = false →
    exec (.load k) s = .next (v.send (dataMsg m m.size (mem.bytes.load m.addr m.size)))) ∧
  (m.typ = MT.store → here → State.byLines m = false →
    exec (.store k) s = .next ((v.locStore site m.addr m.size m.data false).reply m 0)) ∧
  (m.typ = MT.store → State.byLines m = true → m.todo ≠ none ∨ here → lines ≠ [] → ∃ t, ∃ i ∈ lines, exec (.store k) s = .next t ∧
    (t.core site).mem.bytes = mem.bytes.store (line i) 128 (vBytes m.pay (128 * i) 128)) ∧
  (m.typ = MT.load → State.byLines m = true → m.todo ≠ none ∨ here → lines ≠ [] → ∃ t, ∃ i ∈ lines, exec (.load k) s = .next t ∧
    (t.core site).mem.bytes = mem.bytes ∧ (poisoned mem.pois (line i) 128 = false → lines.filter (fun j => j != i) ≠ [] →
      t.net[k]? = some { m with todo := some (lines.filter fun j => j != i), pay := vPlace m.pay (128 * i) 128 (mem.bytes.load (line i) 128) })) ∧
  (m.typ = MT.atomic → here → poisoned mem.pois m.addr (atomicLen m.aop) = false →
    exec (.atomic k) s = .next ((v.locStore site m.addr (atomicLen m.aop) (atomicNew m.aop (mem.bytes.load m.addr (atomicLen m.aop)) m.w[1] m.w[2])
      false).send (dataMsg m 8 (mem.bytes.load m.addr (atomicLen m.aop))))) ∧
  (m.typ = MT.loadfe → here → mem.retry = [] → m.mode ≠ 3 → (m.mode = 0 ∨ full = true) → poisoned mem.pois m.addr 8 = false →
    ∃ t, exec (.loadfe k) s = .next t ∧ (t.core site).mem.full m.addr = (if m.mode = 2 then false else full) ∧ (t.core site).mem.bytes = mem.bytes) ∧
  (m.typ = MT.storefe → here → mem.retry = [] → (m.mode = 1 → full = false) → (m.mode = 3 → full = true) →
    ∃ t, exec (.storefe k) s = .next t ∧ (t.core site).mem.full m.addr = (if m.mode = 2 then false else true) ∧
      (t.core site).mem.bytes = if m.mode = 2 then mem.bytes else mem.bytes.store m.addr 8 m.w[1].toNat) ∧
  (m.typ = MT.store → m.cls = .req ∨ m.cls = .fwd → m.todo = none → u.present site = false →
    exec (.store k) s = .next ((u.acceptMsg m).reply m 2)) ∧
  (m.typ = MT.store → m.cls = .req ∨ m.cls = .fwd → m.todo = none → u.present site = true → u.tenantOk site m = false →
    exec (.store k) s = .next ((u.acceptMsg m).reply m 3))

/-- R146, R318, R333, R334: a request at a slice is served under its tenant's key: a LOAD of sectors that are initialised and clean sends their bytes,
after the records of what ECC corrected in them; a
STORE that covers each uninitialised sector it touches writes its bytes and no others, and one that does not is answered with status 1 and writes
nothing; a tenant without a live key is answered with status 3. -/
def Sys2Proof.Part.RequestsAtSlices : Prop := ∀ (s : State) (k sl : Nat) (m : Msg),
  s.deliver k = some m → m.cls ≠ .rsp → m.dest = .slice sl →
  let u := s.dropMsg k
  (u.keyOf m.tenant = none → (m.typ = MT.load → exec (.load k) s = .next ((u.acceptMsg m).reply m 3)) ∧
    (m.typ = MT.store → exec (.store k) s = .next ((u.acceptMsg m).reply m 3)) ∧
    (m.typ = MT.atomic → exec (.atomic k) s = .next ((u.acceptMsg m).reply m 3))) ∧
  ∀ key, u.keyOf m.tenant = some key → u.mustRefuse m = false →
    (m.typ = MT.load → u.hbm.ready key m.addr m.size = true → poisoned u.hbm.pois m.addr m.size = false →
      exec (.load k) s = .next (((u.acceptMsg m).mendSeen m.tenant key m.addr m.size).send (dataMsg m m.size (u.hbm.bytes.load m.addr m.size)))) ∧
    (m.typ = MT.store → u.hbm.retry = [] → u.hbm.covers key m.addr m.size = true →
      ∃ t, exec (.store k) s = .next t ∧ t.hbm.bytes = u.hbm.bytes.store m.addr m.size m.data) ∧
    (m.typ = MT.store → u.hbm.covers key m.addr m.size = false →
      let v := (u.acceptMsg m).mendSeen m.tenant key m.addr m.size true
      exec (.store k) s = .next ((v.flawSeen m.tenant (v.badSectors key m)).reply m 1) ∧
      ((v.flawSeen m.tenant (v.badSectors key m)).reply m 1).hbm.bytes = u.hbm.bytes) ∧
    (m.typ = MT.atomic → u.hbm.retry = [] → u.hbm.ready key m.addr (atomicLen m.aop) = true → poisoned u.hbm.pois m.addr (atomicLen m.aop) = false →
      u.hbm.covers key m.addr (atomicLen m.aop) = true → ∃ t, exec (.atomic k) s = .next t ∧ t.hbm.bytes = u.hbm.bytes.store m.addr (atomicLen m.aop)
        (atomicNew m.aop (u.hbm.bytes.load m.addr (atomicLen m.aop)) m.w[1] m.w[2]))

/-- R142, R170: a request at the host bridge reads or writes host memory. -/
def Sys2Proof.Part.RequestsAtBridge : Prop := ∀ (s : State) (k : Nat) (m : Msg),
  s.deliver k = some m → m.cls ≠ .rsp → m.dest = .bridge →
  let u := s.dropMsg k
  let x := u.host.load m.addr 8
  u.mustRefuse m = false →
  (m.typ = MT.load → exec (.load k) s = .next ((u.acceptMsg m).send (dataMsg m m.size (u.host.load m.addr m.size)))) ∧
  (m.typ = MT.store → exec (.store k) s = .next ({ u.acceptMsg m with host := u.host.store m.addr m.size m.data }.reply m 0)) ∧
  (m.typ = MT.atomic → exec (.atomic k) s = .next
    ({ u.acceptMsg m with host := u.host.store m.addr 8 (atomicNew m.aop x m.w[1] m.w[2]) }.send (dataMsg m 8 x)))

/-- Requests at the three kinds of home. -/
def Obligations.RequestsAtHomes : Prop := Part.RequestsAtCores ∧ Part.RequestsAtSlices ∧ Part.RequestsAtBridge

/-- R31, R108, R153, R155, R159, R161, R164, R169: data that answer a load write its register, extended as SZ says, and free the slot; those of a vector
load put their bytes in their place of v[d], the bytes at or above its length zero; those of LDFE and of an atomic write x[d]; an ACK of a store frees its slot;
a NACK of a load leaves POISON (status 1) or REMOTE with the address in the entry of its instruction, a NACK of a store the first failed address. -/
def Sys2Proof.Part.AnswersAtRequester : Prop := ∀ (s : State) (k site : Nat) (m : Msg) (q : Req),
  s.deliver k = some m → m.cls = .rsp → m.dest = .core site →
  let u := s.dropMsg k
  let key := 4 * site + m.dst.thr.toNat
  let n := m.spec.toNat % 8
  u.present site = true → u.tenantOk site m = true → (u.thread key).slots[n]?.getD none = some q →
  (∀ d sz, m.typ = MT.load → ¬(m.w[4] = MT.load.setWidth 64 ∧ (m.w[2] = 1 ∨ m.w[2] = 2 ∨ m.w[2] = 3)) → m.status = 0 → q.op = .loadX d sz →
    ∃ t, exec (.loadResponse k) s = .next t ∧ (t.thread key).slots[n]? = some none ∧
      (d ≠ 0 → (t.thread key).getX d = extendSz sz (m.w[1].toNat % 2 ^ (8 * q.el.len))) ∧
      ∀ r, r ≠ d → (t.thread key).getX r = (u.thread key).getX r) ∧
  (∀ d len, m.typ = MT.load → ¬(m.w[4] = MT.load.setWidth 64 ∧ (m.w[2] = 1 ∨ m.w[2] = 2 ∨ m.w[2] = 3)) → m.status = 0 → q.op = .loadV d len →
    q.el.off + q.el.len ≤ len → len ≤ 512 → ∃ t, exec (.loadResponse k) s = .next t ∧ (t.thread key).slots[n]? = some none ∧
      (∀ b, b < 512 → elem 8 ((t.thread key).getV d) b =
        if (u.thread key).ctl.vallot.toNat ≤ d.toNat then elem 8 ((u.thread key).getV d) b
        else if q.el.off ≤ b ∧ b < q.el.off + q.el.len then elem 8 m.pay (b - q.el.off)
        else if b < len then elem 8 ((u.thread key).getV d) b else 0) ∧
      (∀ r, r ≠ d → (t.thread key).getV r = (u.thread key).getV r) ∧ (t.thread key).regs.x = (u.thread key).regs.x) ∧
  (∀ d, m.typ = MT.load → (m.w[4] = MT.loadfe.setWidth 64 ∧ ∃ mode, q.op = .ldfe d mode) ∨
      (m.w[4] = MT.atomic.setWidth 64 ∧ ∃ op o c, q.op = .atomic d op o c) → m.status = 0 →
    ∃ t, exec (.loadResponse k) s = .next t ∧ (t.thread key).slots[n]? = some none ∧
      (d ≠ 0 → (t.thread key).getX d = (match q.op with
        | .atomic _ op _ _ => if 11 ≤ op.toNat then (m.w[1].setWidth 32).setWidth 64 else m.w[1]
        | _ => m.w[1])) ∧
      ∀ r, r ≠ d → (t.thread key).getX r = (u.thread key).getX r) ∧
  (∀ x, m.typ = MT.ack → m.w[4] = MT.store.setWidth 64 → m.status = 0 → q.op = .store x →
    ∃ t, exec (.ack k) s = .next t ∧ (t.thread key).slots[n]? = some none ∧ (t.thread key).regs = (u.thread key).regs) ∧
  (∀ d sz, m.typ = MT.nack → m.w[4] = MT.load.setWidth 64 → m.w[2] ≠ 1 ∧ m.w[2] ≠ 2 ∧ m.w[2] ≠ 3 → m.status ≠ 0 → q.op = .loadX d sz →
    ∃ t, exec (.nack k) s = .next t ∧ (t.thread key).regs = (u.thread key).regs ∧ ∀ o ∈ (t.thread key).outst, o.id = q.id →
      o.err = some { cause := if m.status = 1 then .poison else .remote, slot := false, val := q.addr } ∨
      ∃ p ∈ (u.thread key).outst, p.id = q.id ∧ p.err = o.err ∧ p.err ≠ none) ∧
  (∀ x, m.typ = MT.nack → m.w[4] = MT.store.setWidth 64 → m.status ≠ 0 → q.op = .store x →
    ∃ t, exec (.nack k) s = .next t ∧ (t.thread key).storelate = some ((u.thread key).storelate.getD q.addr))

/-- R153, R157, R165: a RETRY that reaches an active core of its tenant puts the message it answers among those to be resent, 64 cycles later, and one that
reaches another core is discarded with its record; the resend marks it RESENT, and SENIOR after 8 refusals; a
held access is offered again once its 64 cycles have passed. -/
def Sys2Proof.Part.RetryAndResend : Prop := ∀ (s : State) (k : Nat) (m o : Msg),
  (s.deliver k = some m → m.typ = MT.retry → m.cls = .rsp → State.isOutAgent m.dest = false →
    (∀ p, m.dest = .core p → s.present p = true ∧ s.tenantOk p m = true) →
    (s.dropMsg k).refused.find? (fun x => x.id == m.w[5].toNat && !State.isOutAgent x.frm) = some o →
    ∃ t, exec (.retry k) s = .next t ∧ t.resend = (s.dropMsg k).resend ++ [({ o with tries := o.tries + 1 }, s.time + 64)]) ∧
  (∀ p, s.deliver k = some m → m.typ = MT.retry → m.cls = .rsp → m.dest = .core p → s.present p = false ∨ s.tenantOk p m = false →
    exec (.retry k) s = .next ((s.dropMsg k).discard p m)) ∧
  (∀ due, s.resend[k]? = some (m, due) → due ≤ s.time →
    (∀ e ∈ s.resend.take k, e.1.frm ≠ m.frm ∨ e.1.dest ≠ m.dest ∨ e.1.cls ≠ m.cls) →
    exec (.retryResend k) s = .next ({ s with resend := s.resend.eraseIdx k }.route
      { m with fl := { m.fl with resent := true, senior := decide (8 ≤ m.tries) } })) ∧
  (∀ site key a, (s.heldOwn site)[k]? = some (key, a) → a.holdTo ≤ s.time →
    exec (.retryListReoffer site k) s = .next ((s.modThread key fun t => { t with
      accs := t.accs.map fun x => if x.ord = a.ord then { x with holdTo := 0 } else x }).offerOwn key { a with holdTo := 0 }))

/-- Answers at the requester, refusals and their resends. -/
def Obligations.AnswersAndRetries : Prop := Part.AnswersAtRequester ∧ Part.RetryAndResend

/-- R148, R328, R329: a walk that has one of its die's walkers answers every miss of its page on the die: one that finds a leaf puts it in the TLBs of
the cores that wait and in the shared cache, with A set; one that finds none leaves each waiting bundle its failure, and each waiting copy its own; a walk without a walker waits. -/
def Obligations.TranslationWalk : Prop := ∀ (s : State) (site k : Nat) (r : WalkReq), (s.core site).walks[k]? = some r →
  let c := s.slotOf r.slot.toNat
  let d := State.dieOf site
  let rest := (s.core site).walks.filter fun x => x.page != r.page
  (s.walking d r = false → exec (.translationWalk site k) s = .next s) ∧
  (s.walking d r = true → s.walk c.root.toNat r.va = none → ∃ t, exec (.translationWalk site k) s = .next t ∧ (t.core site).walks = rest ∧
    (t.core site).tlb = (s.core site).tlb ∧ ∀ key, (t.thread key).xfail = (s.thread key).xfail ++
      ((s.dieWalks d).filter fun x => x.page == r.page && x.key == key && x.copy == none).map fun x => (x.slot, x.va)) ∧
  (∀ l, s.walking d r = true → s.walk c.root.toNat r.va = some l →
    let e := (tlbOf c.tenant r.va l).orPerm aBit
    ∃ t, exec (.translationWalk site k) s = .next t ∧ (t.core site).walks = rest ∧ (t.core site).tlb = tlbUse (s.core site).tlb e ∧
      (d < 4 → ∃ older, t.shared[d]? = some (e :: older)) ∧ ∀ key, (t.thread key).xfail = (s.thread key).xfail)

/-! ### Queue control, holds, activations -/

/-- R215, R216, R242: TGON and TGOFF change TGEN; TGSET sets the request bits of the tags that the method table has and that are clear, TGCLR clears
request bits; VHOLD, VHCLR and VHTEST set, clear and read hold bits, and REGRANGE stands for a register at or above the allotment. -/
def Obligations.QueueControl : Prop := ∀ (s d : XReg) (n : VReg),
  let inside := fun (u : State) => n.toNat < u.src.ctl.vallot.toNat
  let hold := fun (u : State) (f : BitVec 32 → BitVec 32) => u.modCur fun t => { t with ctl := { t.ctl with sbhold := f t.ctl.sbhold } }
  Does (.tgon s) (fun u => (u.modCur fun t => { t with ctl := { t.ctl with tgen := t.ctl.tgen ||| u.rx s } }).settle u.site) ∧
  Does (.tgoff s) (fun u => (u.modCur fun t => { t with ctl := { t.ctl with tgen := t.ctl.tgen &&& ~~~u.rx s } }).settle u.site) ∧
  (∀ r, DoesIf (.tgset s) (fun u => u.src.res = some r) (fun u =>
    let new := (List.range 64).filter fun i => (u.rx s).getLsbD i && State.methodV (State.method r.mtab i) && !(u.src.reqs.any fun b => b.tag == i)
    (u.modCur fun t => { t with reqs := t.reqs ++ new.map fun i => { tag := i, ord := u.nextId, tacc := u.time } }).settle u.site)) ∧
  DoesIf (.tgset s) (fun u => u.src.res = none) (fun u => u) ∧
  Does (.tgclr s) (fun u => u.modCur fun t => { t with reqs := t.reqs.filter fun b => !(u.rx s).getLsbD b.tag }) ∧
  DoesIf (.vhold n) inside (fun u => hold u (· ||| 1#32 <<< n.toNat)) ∧
  DoesIf (.vhclr n) inside (fun u => hold u (· &&& ~~~(1#32 <<< n.toNat))) ∧
  (∀ i, i = .vhold n ∨ i = .vhclr n → Traps i (fun u => ¬inside u) .regrange (fun _ => n.setWidth 64)) ∧
  Does (.vhtest d) (fun u => u.wx d (u.src.ctl.sbhold.setWidth 64))

/-- R212, R217, R223, R224, R305: a free thread whose member may start begins its best eligible work; a raw arrival starts in supervisor mode at TVEC, a
KICK at its PC, with the budget of its deadline and x0 to x5 and v0 as the rules give them; a request bit leaves the ones that are set. -/
def Sys2Proof.Part.Activations : Prop := ∀ (s : State) (site thr : Nat) (r : Resident),
  let key := 4 * site + thr % 4
  (s.thread key).res = some r → s.freeThread key = true →
  (∀ a rest, s.rawOf key = a :: rest → s.boot.st = .running → ∃ t, exec (.rawArrivalStart site thr) s = .next t ∧ (t.thread key).sup = true ∧ (t.thread key).running = true ∧
    (t.thread key).pc = (s.thread key).sys.tvec &&& ~~~3#64 ∧ (t.thread key).getX 5 = a.msg.rtag.setWidth 64 ∧
    (t.thread key).getV 0 = argArea a.msg []) ∧
  (State.memberReady r = true → s.rawOf key = [] → ∀ a rest, s.kickOf key = a :: rest → exec (.kickStart site thr) s = .next (s.startKick key a)) ∧
  (State.memberReady r = true → s.rawOf key = [] → s.kickOf key = [] → ∀ b, s.nextWork key r = some (.req b) →
    ∃ t, exec (.activationStart site thr) s = .next t ∧ (t.thread key).sup = false ∧ (t.thread key).running = true ∧
      (t.thread key).pc = handlerPc (State.method r.mtab b.tag) ∧ (t.thread key).getX 2 = 0 ∧
      (t.thread key).getX 5 = BitVec.ofNat 64 b.tag ∧
      (t.thread key).sys.wdog = (((State.method r.mtab b.tag).extractLsb' 34 8).setWidth 64 + 1) * 64 ∧
      ∀ x ∈ (t.thread key).reqs, x.tag ≠ b.tag) ∧
  (State.memberReady r = true → s.rawOf key = [] → s.kickOf key = [] → ∀ a, s.nextWork key r = some (.arr a) →
    exec (.activationStart site thr) s = .next (s.startArrival key r a))

/-- R212: the level that a waiting arrival gained by 65,536 cycles in which it was eligible is entered, which leaves its effective priority as it is, and
no other arrival's. -/
def Sys2Proof.Part.ArrivalAgeing : Prop := ∀ (s : State) (site k : Nat) (a : Arrival) (t0 : Word),
  (s.core site).arrivals[k]? = some a → a.raw = false → a.kick = false → a.since = some t0 → 65536 ≤ a.cyc + (s.time - t0).toNat →
  let aged := fun (x : Arrival) => { x with lvl := x.lvl + 1, cyc := ripen s.time x.cyc x.since, since := some s.time }
  (∃ t, exec (.arrivalAgeing site k) s = .next t ∧
    (t.core site).arrivals = (s.core site).arrivals.map fun x => if x.ord = a.ord then aged x else x) ∧
  ∀ tab, Work.eff s.time tab (.arr (aged a)) = Work.eff s.time tab (.arr a)

/-- How waiting work begins and ages. -/
def Obligations.ActivationStarts : Prop := Part.Activations ∧ Part.ArrivalAgeing

/-! ### Invocations -/

/-- R157, R218 to R223, R237: an invocation whose target word and argument header are legal, that finds a FREE promise slot (a post needs none) and fewer
than 16 unaccepted invocations, writes its handle and is sent: on a handle to its Relay, to a member by its cached location or its root, raw to a thread,
to a group to its root, sticky as its entry says. A raw form in user mode raises PRIVILEGE, an illegal word OPERAND. -/
def Obligations.Invocations : Prop := ∀ (d xt : XReg) (va : VReg) (tag : BitVec 6) (kind : InvKind) (sticky : Bool) (i : Instr) (n : Nat),
  (i = .inv d xt va tag kind sticky ∧ n = 1) ∨ (i = .invx d xt va tag kind sticky ∧ n = 3) →
  let t := fun (u : State) => u.rx xt
  let key := fun (u : State) => u.ctx.key
  let raw := fun (u : State) => rawForm kind (t u) = true
  let legal := fun (u : State) => targetOk kind (t u) = true ∧ headerOk n (u.rv va) = true
  let ready := fun (u : State) => (raw u → u.src.sup = true) ∧ legal u ∧ (kind = .p ∨ u.freePslots u.site ≠ []) ∧ u.unaccepted u.site < 16
  let taken := fun (u : State) => if kind = .p then (0, u) else u.newHandle (key u) false
  let after := fun (u : State) => (taken u).2.wx d (taken u).1
  let typ := if n = 3 then MT.invx else MT.inv
  let msg := fun (u : State) => { u.mineMsg with
    cls := .req, typ := if kind = .g then MT.pass else typ, rtag := tag, nflit := BitVec.ofNat 4 n
    pay := BitVec.ofNat 4096 ((u.rv va).toNat % 2 ^ (512 * n))
    w := #v[t u, (taken u).1, (kind.code.setWidth 64) ||| (if sticky then 4 else 0) ||| (if n = 3 then 0x20 else 0), 0, 0, 0] }
  let tm := fun (u : State) => t u &&& 0x0FFFFFFFFFFFFFFF#64
  let g := fun (u : State) => grpOf (t u)
  let c := fun (u : State) => (t u).extractLsb' 48 2
  let toGroup := fun (u v : State) => v.sendToRoot (key u) (g u) (msg u)
  let touch := fun (u v : State) (f : Sticky → Sticky) => v.modThread (key u) fun th => { th with
    sticky := th.sticky.map fun y => if y.grp = g u ∧ y.cls = c u then f { y with used := u.nextId } else y }
  Traps i (fun u => raw u ∧ u.src.sup = false) .privilege (fun u => u.ctx.word.setWidth 64) ∧
  Traps i (fun u => (raw u → u.src.sup = true) ∧ ¬legal u) .operand (fun u => u.ctx.word.setWidth 64) ∧
  DoesIf i (fun u => ready u ∧ kind = .h) (fun u => (after u).sendKept (key u) 0 true { msg u with
    dest := u.relayAgent u.site u.src.sup u.src.ctl.tenant (t u), dst := ⟨hDev (t u), BitVec.ofNat 12 (hCore (t u)), 0⟩ }) ∧
  DoesIf i (fun u => ready u ∧ (kind = .m ∨ kind = .p) ∧ raw u) (fun u => (after u).sendKept (key u) 0 true { msg u with
    dest := .core ((t u).toNat % 4096), dst := ⟨0x7FF, (t u).setWidth 12, (t u).extractLsb' 12 2⟩, fl := { (msg u).fl with raw := true, sup := true } }) ∧
  DoesIf i (fun u => ready u ∧ (kind = .m ∨ kind = .p) ∧ ¬raw u ∧ u.mustStay (key u) (tm u) (u.memberAgent (key u) (tm u)).1 = false)
    (fun u => (after u).sendMember (key u) (tm u) (msg u)) ∧
  DoesIf i (fun u => ready u ∧ kind = .g ∧ sticky = false) (fun u => toGroup u (after u)) ∧
  (∀ e a, DoesIf i (fun u => ready u ∧ kind = .g ∧ sticky = true ∧ u.cur.stickyOf (g u) (c u) = some e ∧ e.acceptor = some a ∧
      u.mustStay (key u) (memberWord (g u) a) (u.memberAgent (key u) (memberWord (g u) a)).1 = false)
    (fun u => (touch u (after u) id).sendMember (key u) (memberWord (g u) a) { msg u with typ := typ, w := (msg u).w.set 3 (memberWord (g u) a) })) ∧
  (∀ e, DoesIf i (fun u => ready u ∧ kind = .g ∧ sticky = true ∧ u.cur.stickyOf (g u) (c u) = some e ∧ e.acceptor = none)
    (fun u => touch u (after u) fun y => { y with waiting := y.waiting ++ [msg u] })) ∧
  (∀ l, DoesIf i (fun u => ready u ∧ kind = .g ∧ sticky = true ∧ u.cur.stickyOf (g u) (c u) = none ∧ stickyRoom u.cur.sticky = some l)
    (fun u => toGroup u ((after u).modThread (key u) fun th => { th with sticky := l ++ [{
      grp := g u, cls := c u, acceptor := none, handle := (taken u).1, used := u.nextId, waiting := [] }] })))

/-- R156, R209, R210, R214, R224, R236, R237, R261, R320: an invocation that reaches the core of its ACTIVE member joins its queue where its tag is valid
and there is room; with an invalid tag it is accepted and its handle breaks with code 1; at a core without the member it goes on to the group root; a raw
one takes its entry; one on a handle that is RESOLVED or bound, with no other waiting, is forwarded to the consumer. Of a DRAINING group none is taken but one accepted before (code 5). A core
takes one arrival a cycle, in the order of R210: one whose turn has not come stays, ready from then on (that it is ready from the cycle before on is the
model's choice, log 1). A forward needs an egress slot: beside one that is held a free choice answers RETRY (R156 gives no number of slots: log 94). -/
def Obligations.InvocationArrival : Prop := ∀ (s : State) (k site : Nat) (m : Msg) (e : Instr),
  (m.typ = MT.inv ∧ e = .invMsg k) ∨ (m.typ = MT.invx ∧ e = .invxMsg k) →
  s.deliver k = some m → m.cls ≠ .rsp → m.dest = .core site → m.fl.twin = false →
  let u := s.dropMsg k
  let v := u.wake site
  let plain := m.fl.raw = false ∧ ¬(m.kind = 2 ∧ m.cls = .req)
  (s.heldForLast m = true → exec e s = .next s) ∧
  (s.heldForLast m = false → s.waitsTurn site m = true → exec e s = .next (s.offer site m)) ∧
  (¬(m.kind = 2 ∧ m.cls = .req) → s.refusal site m = none → s.waitsTurn site m = false →
    (s.core site).lastAcc ≠ some s.time ∧ ∀ o ∈ s.net, s.readyAt site o = true → s.heldForLast o = false → State.whoKey m.src ≤ State.whoKey o.src) ∧
  (s.heldForLast m = false → s.waitsTurn site m = false → u.present site = true →
  (∀ key r sp, plain → u.residentAt site m.member = some key → (u.thread key).res = some r → u.tenantOk site m = true → r.st = .active →
      r.saving = false → r.late = false → (∀ g, u.groupOf (grpOf m.member) = some g → g.st ≠ .draining ∨ m.kept = true) → v.mustRefuse m = false →
      key / 4 = site →
      v.hasRoom site m = true → m.fl.last = false → v.placeFor key r = some sp →
    let ok := (v.acceptMsg m).reply m 0
    (State.methodV (State.method r.mtab m.rtag.toNat) = true → exec e s = .next (ok.addArrival key m false sp)) ∧
    (State.methodV (State.method r.mtab m.rtag.toNat) = false →
      exec e s = .next (((ok.accepted site).relayRecord site m.tenant m.sender).breakInv (.core site) site m 1 m.handle))) ∧
  (∀ key r g, plain → u.residentAt site m.member = some key → (u.thread key).res = some r → u.tenantOk site m = true → r.st = .active →
      r.saving = false → r.late = false → u.groupOf (grpOf m.member) = some g → g.st = .draining → m.kept = false →
    exec e s = .next (((u.acceptMsg m).reply m 0).breakInv (.core site) site m 5 m.handle)) ∧
  (plain → u.residentAt site m.member = none → exec e s = .next (u.toRoot site m) ∧
    (u.mustRefuse m = false → u.fwdHeld (.core site) = false → u.toRoot site m = (u.acceptMsg m).send { m with
      frm := .core site, dest := u.rootAgent site m.tenant (grpOf m.member), cls := .fwd, tries := 0
      fl := { m.fl with resent := false, last := false }, back := some (m.back.getD (m.frm, m.id)) })) ∧
  (m.fl.raw = true → u.tenantOk site m = true → v.mustRefuse m = false → State.bufUsed (v.core site) < 28 → ∃ t a, exec e s = .next t ∧
    (t.core site).arrivals = (u.core site).arrivals ++ [a] ∧ a.msg = m ∧ a.raw = true ∧ a.key = 4 * site + m.dst.thr.toNat) ∧
  (m.fl.raw = false → m.kind = 2 → m.cls = .req → u.tenantOk site m = true → u.mustRefuse m = false →
    let p := u.pslot site (hSlot m.target)
    let go := fun (w : State) => ((w.acceptMsg m).reply m 0).forwardH site p m
    let d := v.drawBool
    p.gen = hGen m.target → p.st ≠ .free → p.st ≠ .broken → p.control = false → p.consumer.isSome → p.fifo = [] →
    (u.fwdHeld (.core site) = false → exec e s = .next (go v)) ∧
    (u.fwdHeld (.core site) = true → exec e s = .next (if d.1 then d.2.retryMsg m else go d.2))))

/-! ### Passes and readiness -/

/-- R245, R256 to R258: READY and UNREADY change the count of the thread's own member, up to 65,535 and down to 0; RDYQ asks the root and is tracked; a
class word that does not name the thread's own group raises OPERAND. -/
def Obligations.Readiness : Prop := ∀ (xc xn d : XReg) (la : BitVec 4),
  let cls := fun (u : State) => ((u.rx xc).extractLsb' 48 2).toNat
  let old := fun (u : State) => u.readyOf u.ctx.key (cls u)
  let n := fun (u : State) => (u.rx xn).toNat
  let own := fun (u : State) => (u.rx xc).extractLsb' 50 14 = 0#14 ∧ u.src.ctl.gname = grpOf (u.rx xc) ∧
    ∃ r, u.src.res = some r ∧ r.name = grpOf (u.rx xc)
  let root := fun (u : State) => u.rootLoc u.site (grpOf (u.rx xc))
  DoesIf (.ready xc xn) (fun u => own u ∧ n u ≠ 0) (fun u => u.setReady u.ctx.key (cls u) (min (old u + n u) 65535)) ∧
  DoesIf (.unready xc xn) (fun u => own u ∧ n u ≠ 0) (fun u => u.setReady u.ctx.key (cls u) (old u - n u)) ∧
  (∀ i, i = .ready xc xn ∨ i = .unready xc xn → DoesIf i (fun u => own u ∧ n u = 0) (fun u => u) ∧
    Traps i (fun u => ¬own u) .operand (fun u => u.ctx.word.setWidth 64)) ∧
  DoesIf (.rdyq d xc la) own (fun u => ((u.track (.rdyq d xc la) (xRef d)).2.usedLoc u.site (memberWord (grpOf (u.rx xc)) 0xFFF)
      (root u).2).send { u.mineMsg with
    dest := (root u).1, dst := (root u).2, cls := .req, typ := MT.rdyquery
    spec := BitVec.ofNat 19 (2 ^ 11 * ((u.groupOf (grpOf (u.rx xc))).bind fun g => g.pool).getD 0 + cls u)
    w := #v[u.rx xc, BitVec.ofNat 64 u.nextId, BitVec.ofNat 64 (old u), d.setWidth 64, 0, 0] }) ∧
  Traps (.rdyq d xc la) (fun u => ¬own u) .operand (fun u => u.ctx.word.setWidth 64)

/-- R248 to R252: a pass that reaches a RUNNING group of its tenant with a pool and no pass of its class on the Bench descends to a child, or parks where no
child qualifies; a node below forwards it or returns it to its parent; a slot with readiness and room accepts it, its readiness one lower; a bounce makes
the child's count 0, where it comes from a child of the present tree, and the node chooses again; at a site that no active core takes, or of another
tenant, a pass is turned away with the status of R153. The agent takes the message and has an egress slot free (R156, R157). -/
def Sys2Proof.Part.Passes : Prop := ∀ (s : State) (k : Nat) (m : Msg), s.deliver k = some m →
  let u := s.dropMsg k
  let taken := u.acceptMsg m
  let m0 := { m with back := none }
  let m1 := if m.w[5] = 0 then { m0 with w := m.w.set 5 u.time } else m0
  u.mustRefuse m = false → u.fwdHeld m.dest = false →
  (∀ gi g, m.typ = MT.pass → m.cls ≠ .rsp → m.dest = .root gi → s.liveRoot gi (grpOf m.target) = some g → g.st = .running → g.pool.isSome →
    m.bounces ≠ 15 → State.denied g m = false → (∀ b ∈ g.bench, State.passClass b ≠ State.passClass m) →
    let v := if m.cls = .req ∨ m.back.isSome = true then (taken.rootTook m).reply m 0 else taken
    (∀ w, v.descend g.idx rootNode m1 = some w → exec (.pass k) s = .next w) ∧
    (v.descend g.idx rootNode m1 = none → exec (.pass k) s = .next (v.park g.idx m1))) ∧
  (∀ site g, m.typ = MT.pass → m.cls = .fwd → m.dest = .router site → s.groupOf (grpOf m.target) = some g →
    (∀ v, taken.descend g.idx site m = some v → exec (.passForward k) s = .next v) ∧
    (taken.descend g.idx site m = none → exec (.passForward k) s = .next (taken.bounceUp (.router site) g (g.parentOf site) m))) ∧
  (∀ site g r sp, m.typ = MT.pass → m.cls = .fwd → m.dest = .core site → s.groupOf (grpOf m.target) = some g → m.fl.twin = false →
      s.refusal site m = none → s.waitsTurn site m = false →
    let key := 4 * site + m.dst.thr.toNat
    let v := taken.wake site
    (s.thread key).res = some r → r.grp = g.idx → r.st = .active → r.saving = false → r.late = false → g.st ≠ .draining →
    v.readyOf key (State.passClass m) ≠ 0 → v.placeFor key r = some sp → State.methodV (State.method r.mtab m.rtag.toNat) = true →
    exec (.passAtSlot k) s = .next ((v.setReady key (State.passClass m) (v.readyOf key (State.passClass m) - 1)).addArrival key m false sp)) ∧
  (∀ site st, m.typ = MT.pass → m.cls = .fwd → m.dest = .core site → m.fl.twin = false → s.refusal site m = some st →
    exec (.passAtSlot k) s = .next (u.turnAway site m st)) ∧
  (∀ site g, m.typ = MT.bounce → m.cls = .fwd → m.dest = .router site → s.groupOf (grpOf m.target) = some g → site ≠ rootNode →
    let v := if g.fromChild site m.w[4].toNat m = true then taken.setCount g.idx site (State.passClass m) m.w[4].toNat 0 else taken
    (∀ w, v.descend g.idx site m = some w → exec (.bounce k) s = .next w) ∧
    (v.descend g.idx site m = none → exec (.bounce k) s = .next (v.bounceUp (.router site) g (g.parentOf site) m)))

/-- R246, R247, R252, R258: the total of a child of the present tree reaches its node, and at the root may release passes, while a report of an earlier
tree changes nothing; RDYQUERY is answered with the Bench and the root's sum; the answer writes the register of the query, while it is outstanding. -/
def Sys2Proof.Part.ReadinessMessages : Prop := ∀ (s : State) (k : Nat) (m : Msg), s.deliver k = some m →
  let u := s.dropMsg k
  let total := (m.spec.extractLsb' 3 8).toNat
  let cls := (m.spec.extractLsb' 0 2).toNat
  (∀ g, m.typ = MT.readydelta → m.cls = .rsp → s.groupOf (grpOf m.w[0]) = some g →
    let child := m.w[1].toNat
    let of := fun (n : Nat) => child ∈ g.children n ∧ g.childAgent n child = m.frm ∧ g.treeAt ≤ m.id
    (∀ site, m.dest = .router site → of site → exec (.readydelta k) s = .next (u.setCount g.idx site cls child total)) ∧
    (∀ site, m.dest = .router site → ¬of site → exec (.readydelta k) s = .next u) ∧
    (m.dest = .root g.idx → of rootNode → exec (.readydelta k) s =
      .next ((u.setCount g.idx rootNode cls child total).releaseBench g.idx (g.bench.length + 1))) ∧
    (m.dest = .root g.idx → ¬of rootNode → exec (.readydelta k) s = .next u)) ∧
  (∀ gi g, m.typ = MT.rdyquery → m.cls = .req → m.dest = .root gi → s.liveRoot gi (grpOf m.w[0]) = some g → u.mustRefuse m = false →
    let c := State.passClass m
    let b := min (g.bench.filter fun b => State.passClass b == c).length 65535
    let a := State.answerTo m MT.rdyanswer 0
    exec (.rdyquery k) s = .next ((u.acceptMsg m).send { a with
      w := a.w.set 0 (BitVec.ofNat 64 (2 ^ 32 * b + 2 ^ 16 * min (g.sumOf rootNode c) 255) ||| m.w[2]) })) ∧
  (∀ site, m.typ = MT.rdyanswer → m.dest = .core site → s.present site = true → s.tenantOk site m = true → m.w[3].toNat % 32 ≠ 0 →
    let key := 4 * site + m.dst.thr.toNat
    let waits := ∃ o ∈ (s.thread key).outst, o.id = m.w[1].toNat ∧ o.fin = false
    ∃ t, exec (.rdyanswer k) s = .next t ∧ (waits → (t.thread key).getX (m.w[3].setWidth 5) = m.w[0]) ∧
      (¬waits → (t.thread key).regs = (s.thread key).regs))

/-- The messages of passes and readiness. -/
def Obligations.PassMessages : Prop := Part.Passes ∧ Part.ReadinessMessages

/-! ### Handles -/

/-- R272 to R276: HWAIT and HWAITV complete at once on a slot of the own core that has a result or a break, wait in it otherwise, and ask the Relay of
another core through a response slot; HTEST reads the state; HFREE marks and frees; a reply installs its result and goes to the issuer's Relay; HBREAK
breaks the handle. A malformed handle raises OPERAND, a malformed token TOKEN. -/
def Obligations.HandleInstructions : Prop := ∀ (d xh xf xv : XReg) (vd vs : VReg) (la : BitVec 4),
  let h := fun (u : State) => u.rx xh
  let p := fun (u : State) => u.pslot u.site (hSlot (h u))
  let well := fun (u : State) => wellHandle (h u) = true
  let own := fun (u : State) => well u ∧ u.ownHandle (h u) = true
  let live := fun (u : State) => (p u).gen = hGen (h u) ∧ (p u).st ≠ .free
  let set := fun (u : State) => (p u).st = .resolved ∨ (p u).st = .broken
  let waits := fun (i : Instr) (v : Bool) (r : BitVec 5) (dst : List RegRef) =>
    let tr := fun (u : State) => (u.track i dst).2
    DoesIf i (fun u => own u ∧ ¬live u) (fun u => (tr u).modCur fun t => t.endWait u.nextId v r xf true (State.breakRec 7 (h u))) ∧
    DoesIf i (fun u => own u ∧ live u ∧ set u) (fun u => (tr u).modCur fun t => t.endWait u.nextId v r xf ((p u).st == .broken) (p u).result) ∧
    DoesIf i (fun u => own u ∧ live u ∧ ¬set u) (fun u => ((tr u).markAcq u.nextId).modPslot u.site (hSlot (h u)) fun p =>
      { p with waiters := p.waiters ++ [(u.ctx.key, u.nextId, v, r.toNat, xf.toNat)] }) ∧
    (∀ n l, DoesIf i (fun u => well u ∧ u.ownHandle (h u) = false ∧ u.cur.freeSlots = n :: l) (fun u =>
      (((tr u).markAcq u.nextId).modCur fun t => { t with slots := t.slots.setIfInBounds n (some {
        id := u.nextId, op := .hwait v r xf, el := ⟨0, 0, 0⟩, addr := h u
        home := u.relayAgent u.site u.src.sup u.src.ctl.tenant (h u), loc := 0 }) }).askRelay (h u) 1 n)) ∧
    Traps i (fun u => ¬well u) .operand (fun u => u.ctx.word.setWidth 64)
  let mine := fun (u : State) => { u.mineMsg with fl := { sup := u.tokenSup (h u) } }
  let replies := fun (i : Instr) (r : State → BitVec 512) =>
    DoesIf i (fun u => wellToken (h u) = true ∧ u.drained u.ctx.key = true) (fun u =>
      let k := asHandle (h u)
      let room := heldHasRoom u.myCore.relay.held || u.myCore.holds k
      let v := if room then u.modMyCore fun c => c.install k (r u) true else u
      ((v.send { u.toRelay (.core u.site) u.site (mine u) k MT.reply with
        src := { u.whoOf u.ctx.key with dev := u.devId (u.tokenSup (h u)) u.mineMsg.tenant }, w := #v[k, if room then 1 else 0, 0, 0, 0, 0], pay := (r u).setWidth 4096, nflit := 1 }).modCur fun t =>
          t.didReply k).settle u.site) ∧
    Traps i (fun u => wellToken (h u) = false) .token h
  waits (.hwait d xh xf la) false d (xRef d ++ xRef xf) ∧ waits (.hwaitv vd xh xf la) true vd (vRef vd ++ xRef xf) ∧
  DoesIf (.htest d xh) own (fun u => u.wx d (testWord (p u) (hGen (h u)))) ∧
  (∀ v, DoesIf (.htest d xh) (fun u => well u ∧ u.ownHandle (h u) = false ∧ u.src.answer = some v) (fun u => u.wx d v)) ∧
  DoesIf (.hfree xh) (fun u => own u ∧ ¬live u) (fun u => u) ∧
  DoesIf (.hfree xh) (fun u => own u ∧ live u) (fun u =>
    (u.modPslot u.site (hSlot (h u)) fun p => { p with freeMark := true }).maybeFree u.site (hSlot (h u)) u.mineMsg) ∧
  Traps (.hfree xh) (fun u => ¬own u) .operand (fun u => u.ctx.word.setWidth 64) ∧
  replies (.hreply xh xv) (fun u => (u.rx xv).setWidth 512) ∧ replies (.hreplyv xh vs) (fun u => (u.rv vs).setWidth 512) ∧
  DoesIf (.hbreak xh xv) (fun u => wellToken (h u) = true) (fun u =>
    (u.send { u.toRelay (.core u.site) u.site (mine u) (asHandle (h u)) MT.brk with
      w := #v[asHandle (h u), 2 ||| (((u.rx xv).setWidth 8).setWidth 64 <<< 8), asHandle (h u), 0, 0, 0] }).modCur fun t => t.didReply (asHandle (h u))) ∧
  Traps (.hbreak xh xv) (fun u => wellToken (h u) = false) .token h

/-- R222, R261 to R263, R268 to R270: at the issuer's Relay a REPLY resolves a slot that is PENDING or BOUND with its result and a BREAK breaks it with its
record; a FETCH of a slot with a result is answered, one of a stale slot with code 7; an ACCEPT binds a PENDING slot; VALUE ends a wait of another core;
HRELEASE frees a held result that is not counted; an invocation that waits on a bound slot goes to its consumer. -/
def Sys2Proof.Part.RelayMessages : Prop := ∀ (s : State) (k site : Nat) (m : Msg), s.deliver k = some m → m.dest = .core site →
  s.present site = true → s.tenantOk site m = true →
  let n := hSlot m.w[0]
  let p := s.pslot site n
  let v := (s.dropMsg k).wake site
  let open_ := p.gen = hGen m.w[0] ∧ (p.st = .pending ∨ p.st = .bound)
  (m.typ = MT.reply → open_ → p.freeMark = false → ∃ t, exec (.reply k) s = .next t ∧ (t.pslot site n).st = .resolved ∧
    (t.pslot site n).result = m.pay.setWidth 512 ∧ (t.pslot site n).fifo = p.fifo) ∧
  (m.typ = MT.brk → open_ → p.freeMark = false → ∃ t, exec (.break_ k) s = .next t ∧ (t.pslot site n).st = .broken ∧
    (t.pslot site n).result = (m.w[2] ++ m.w[1]).setWidth 512 ∧ (t.pslot site n).fifo = []) ∧
  (m.typ = MT.fetch → m.cls = .req → v.mustRefuse m = false → m.w[1] ≠ 2 →
    (p.gen = hGen m.w[0] → (p.st = .resolved ∨ p.st = .broken) → exec (.fetch k) s = .next ((v.acceptMsg m).answerFetch m (p.st == .broken) p.result)) ∧
    (p.gen ≠ hGen m.w[0] → exec (.fetch k) s = .next ((v.acceptMsg m).answerFetch m true (State.breakRec 7 m.w[0])))) ∧
  (m.typ = MT.accept → m.w[2] = 0 → p.gen = hGen m.w[0] → p.control = false → p.st = .pending → ∃ t, exec (.acceptNotice k) s = .next t ∧
    (t.pslot site n).st = .bound ∧ (t.pslot site n).consumer = some ⟨grpOf m.w[1], memOf m.w[1], m.src⟩) ∧
  (m.typ = MT.value → m.w[1] = 1 → ∀ q d f, (s.thread (4 * site + m.dst.thr.toNat)).slots[m.spec.toNat % 8]?.getD none = some q →
    q.op = .hwait false d f → d ≠ 0 → d ≠ f → m.spec.getLsbD 11 = false → ∃ t, exec (.value k) s = .next t ∧
      (t.thread (4 * site + m.dst.thr.toNat)).getX d = m.pay.setWidth 64 ∧ (t.thread (4 * site + m.dst.thr.toNat)).getX f = 0) ∧
  (m.typ = MT.hrelease → ∃ t, exec (.hrelease k) s = .next t ∧ ∀ e ∈ (t.core site).relay.held, e.handle = m.w[0] → e.held = false ∧ e.count ≠ 0)

/-- R156, R261, R265, R267: RELAY_FORWARD sends the first invocation that waits on a bound slot to its consumer, and the others keep their order; beside
an egress slot that is held a free choice says whether another is free (the model's choice, log 94: R156 gives no number of slots). -/
def Sys2Proof.Part.RelayForward : Prop := ∀ (s : State) (site n : Nat) (m : Msg) (rest : List Msg) (c : Consumer),
  (s.pslot site n).consumer = some c → (s.pslot site n).fifo = m :: rest → (s.pslot site n).freeMark = false →
  ∃ t, exec (.relayForward site n) s = .next t ∧ if s.fwdHeld (.core site) = true ∧ s.drawBool.1 = true then t = s.drawBool.2
    else (t.pslot site n).fifo = rest

/-- The messages of handles. -/
def Obligations.RelayTraffic : Prop := Part.RelayMessages ∧ Part.RelayForward

/-! ### Reaching members -/

/-- R239 to R241: RSTV with a legal target, a copy slot and no earlier message elsewhere takes its tag and is sent with its 512 bytes; reserved bits in the
target raise OPERAND. -/
def Sys2Proof.Part.RemoteRegisterStore : Prop := ∀ (vs n : VReg) (xt : XReg) (tag : BitVec 6) (rel : Bool),
  let t := fun (u : State) => u.rx xt
  let dst := fun (u : State) => u.memberAgent u.ctx.key (t u)
  Traps (.rstv vs xt tag n rel) (fun u => (t u).toNat / 2 ^ 60 ≠ 0) .operand (fun u => u.ctx.word.setWidth 64) ∧
  DoesIf (.rstv vs xt tag n rel) (fun u => (t u).toNat / 2 ^ 60 = 0 ∧ u.copyRoom tag = true ∧ u.mustStay u.ctx.key (t u) (dst u).1 = false) (fun u =>
    let v := u.addCopy {
      id := u.nextId, owner := u.ctx.key, kind := .rstv, tag := tag, src := default, dst := default, len := 512, sup := u.src.sup
      ten := u.coreTenant u.site, pend := 1 }
    (v.usedLoc u.site (t u) (dst u).2).sendKept u.ctx.key (t u) false { u.mineMsg with
      dest := (dst u).1, dst := (dst u).2, cls := .req, typ := MT.rstv, rtag := tag, nflit := 8, pay := u.rv vs
      w := #v[t u, (n.setWidth 64) ||| (if rel then 32 else 0), 1, BitVec.ofNat 64 u.nextId, 0, 0] })

/-- R237, R238, R241: an RSTV that reaches its ACTIVE member writes the register between two bundles, clears its hold bit where RELEASE is set, and changes
no other register; the first message of a member's redirect queue goes to the core that holds the member; a message that names a group without a live root
is answered through the directory, which the core that sent it reads. -/
def Sys2Proof.Part.MemberMessages : Prop := ∀ (s : State) (k site key : Nat) (m : Msg) (r : Resident), s.deliver k = some m →
  (m.typ = MT.rstv → m.cls = .req → m.dest = .core site → s.heldForLast m = false → s.present site = true → m.fl.twin = false →
    (s.dropMsg k).residentAt site m.member = some key → ((s.dropMsg k).thread key).res = some r → r.st = .active → r.saving = false → r.late = false →
    r.twin = none → m.fl.last = false → (∀ g, (s.dropMsg k).grp r.grp = some g → g.st ≠ .draining) → (s.dropMsg k).tenantOk site m = true →
    ((s.dropMsg k).wake site).mustRefuse m = false → m.w[1].toNat % 32 < (s.thread key).ctl.vallot.toNat →
    ∃ t, exec (.rstvMsg k) s = .next t ∧ (t.thread key).getV (BitVec.ofNat 5 (m.w[1].toNat % 32)) = m.pay ∧
      (m.w[1].getLsbD 5 = true → (t.thread key).ctl.sbhold.getLsbD (m.w[1].toNat % 32) = false) ∧
      ∀ n, n.toNat ≠ m.w[1].toNat % 32 → (t.thread key).getV n = (s.thread key).getV n) ∧
  (∀ gi, m.typ = MT.rstv → m.cls = .req → m.dest = .root gi → s.liveRoot gi m.groupName = none →
    let here : Agent := match m.frm with
      | .core p => .core p
      | .former p => .former p
      | .router p => .router p
      | .slice _ | .bridge | .root _ | .out _ | .gate => .router 3
    let id := if State.isOutAgent m.frm = true then 0xFFF else s.coreId (State.siteOfAgent here)
    ∃ v : State, exec (.directoryAnswer k) s = .next (v.reply { m with dest := here, dst := { m.dst with core := id } } 2) ∧
      v.net = (s.dropMsg k).net ∧ v.threads = (s.dropMsg k).threads)

/-- R156, R238, R240: REDIRECT_QUEUE_DRAIN sends the first message of the queue of a member that its slot holds to the member's core, and the others keep
their order, once the message before it has been answered and the root has an egress slot free. -/
def Sys2Proof.Part.RedirectQueue : Prop := ∀ (s : State) (gi mem : Nat) (g : Group) (r : MemberRec) (x : Seat) (res : Resident) (m : Msg) (rest : List Msg),
  s.grp gi = some g → g.idx = gi → State.memberRec g mem = some r → g.seat mem = some x → s.slotHolds x.key g.name = some res → res.member.toNat = mem →
  res.saving = false → res.late = false → res.st = .active → r.queue = m :: rest →
  (State.drainOut g mem = true → exec (.redirectQueueDrain gi mem) s = .next s) ∧
  (State.drainOut g mem = false → s.fwdHeld (.root gi) = false → (s.queueGet g mem m).isSome = true →
    ∃ t h y, exec (.redirectQueueDrain gi mem) s = .next t ∧ t.grp gi = some h ∧ (State.memberRec h mem).map (·.queue) = some rest ∧
      t.net = s.net ++ [y] ∧ y.dest = .core (x.key / 4) ∧ y.cls = .fwd)

/-- Remote register stores and messages to members. -/
def Obligations.MemberTraffic : Prop := Part.RemoteRegisterStore ∧ Part.MemberMessages ∧ Part.RedirectQueue

/-! ### Groups -/

/-- R226, R230, R243: GNEW writes the name of a new group, or 0 when no index is free; every other form but BARCFG takes a promise slot, writes its handle
and sends its transition to the root, with the table or the operand it reads at issue; BARCFG writes the root's status; a malformed name, descriptor or
table raises OPERAND and a misaligned address ALIGN. -/
def Obligations.GroupInstructions : Prop := ∀ (d s t : XReg),
  let name := fun (u : State) => u.rx s
  let wellNamed := fun (u : State) => (name u).toNat < 2 ^ 48
  let word := fun (u : State) => u.ctx.word.setWidth 64
  let asks := fun (fn : Nat) (op : State → Word) (tab : List Team) (u : State) =>
    let h := u.newHandle u.ctx.key true
    let v := if tab = [] then h.2 else { h.2 with tables := h.2.tables ++ [(h.1, tab)] }
    (v.wx d h.1).send { u.mineMsg with
      dest := u.rootAgent u.site (u.coreTenant u.site) (grpOf (name u)), dst := ⟨nmDev (grpOf (name u)), 0xFFF, 0⟩, cls := .req, typ := MT.grpctl
      spec := BitVec.ofNat 19 fn, w := #v[op u, h.1, name u, 0, 0, 0] }
  let may := fun (u : State) => wellNamed u ∧ u.freePslots u.site ≠ []
  let block := fun (u : State) (a : Word) (n : Nat) => a.toNat % 32 = 0 ∧ a.toNat + n ≤ 0x60000 ∧ u.acqPending = false ∧
    u.ownPending u.ctx.key u.nextId [(a.toNat, n)] = false ∧ poisoned u.myCore.mem.pois a.toNat n = false
  let bytes := fun (u : State) (a : Word) (n : Nat) => u.myCore.mem.bytes.load a.toNat n
  let tab := fun (i : Instr) (fn : Nat) (n base : Group → Nat) (more : Group → List Team → Prop) =>
    let len := fun (g : Group) => 32 * (if g.desc.duplex then 2 * n g else n g)
    let at_ := fun (u : State) (g : Group) => wellNamed u ∧ u.namedHere (name u) = some g ∧ block u (u.rx t) (len g)
    (∀ g ts, DoesIf i (fun u => at_ u g ∧ u.freePslots u.site ≠ [] ∧ tableOf g.desc (bytes u (u.rx t) (len g)) (n g) (base g) = some ts ∧ more g ts)
      (asks fn (fun u => u.rx t) ts)) ∧
    (∀ g, Traps i (fun u => at_ u g ∧ tableOf g.desc (bytes u (u.rx t) (len g)) (n g) (base g) = none) .operand word) ∧
    DoesIf i (fun u => wellNamed u ∧ u.namedHere (name u) = none ∧ block u (u.rx t) 32 ∧ u.freePslots u.site ≠ []) (asks fn (fun u => u.rx t) []) ∧
    (∀ g, Traps i (fun u => wellNamed u ∧ u.namedHere (name u) = some g ∧ (u.rx t).toNat % 32 ≠ 0) .align (fun u => u.rx t)) ∧
    Traps i (fun u => ¬wellNamed u) .operand word
  let slotLive := fun (u : State) (e : Desc) => let st := (u.slotOf e.slot.toNat).st; st = .active ∨ st = .growing ∨ st = .shrinking
  (∀ e k, DoesIf (.gnew d s) (fun u => block u (u.rx s) 64 ∧ descOf (bytes u (u.rx s) 64) = some e ∧ slotLive u e ∧ u.freeIndex 8192 0 = some k) (fun u =>
    let x := u.tmap (u.slotOf e.slot.toNat).tenant
    let g : Group := { idx := k, gen := (u.dirEnt k).gen, dev := State.idOfNode (State.verOf x x.active) u.nodeId, st := .allocated, desc := e
                       tenant := (u.slotOf e.slot.toNat).tenant }
    { u with groups := Map.put u.groups k g }.wx d (g.name.setWidth 64))) ∧
  (∀ e, DoesIf (.gnew d s) (fun u => block u (u.rx s) 64 ∧ descOf (bytes u (u.rx s) 64) = some e ∧ slotLive u e ∧ u.freeIndex 8192 0 = none)
    (fun u => u.wx d 0)) ∧
  Traps (.gnew d s) (fun u => block u (u.rx s) 64 ∧ descOf (bytes u (u.rx s) 64) = none) .operand word ∧
  tab (.gplace d s t) 1 (fun g => g.desc.teams) (fun _ => 0) (fun _ _ => True) ∧
  tab (.gadd d s t) 2 (fun _ => 1) (fun g => g.members.length) (fun _ _ => True) ∧
  tab (.gmove d s t) 6 (fun g => g.teams.length) (fun _ => 0) (fun g ts =>
    let p := ts.take g.teams.length
    let acc := fun (o : Option Seat) => o.map fun x => x.acc
    (p.map Team.size).sum = g.members.length ∧ ∀ m, m < g.members.length → acc (seatIn p g.desc.spill 0 m) = acc (g.seat m) ∧
      acc (seatIn (ts.drop g.teams.length) g.desc.spill 0 m) = acc (g.twinSeat m)) ∧
  DoesIf (.gdrop d s t) may (asks 3 (fun u => u.rx t) []) ∧
  DoesIf (.gpark d s) may (asks 4 (fun _ => 0) []) ∧
  DoesIf (.grun d s) may (asks 5 (fun _ => 0) []) ∧
  DoesIf (.gend d s t) (fun u => may u ∧ (u.rx t).toNat < 2) (asks 7 (fun u => u.rx t) []) ∧
  Traps (.gend d s t) (fun u => ¬wellNamed u ∨ 2 ≤ (u.rx t).toNat) .operand word ∧
  (∀ i, i = .gdrop d s t ∨ i = .gpark d s ∨ i = .grun d s → Traps i (fun u => ¬wellNamed u) .operand word) ∧
  (∀ v, DoesIf (.barcfg d s t) (fun u => wellNamed u ∧ u.src.answer = some v) (fun u => u.wx d v)) ∧
  Traps (.barcfg d s t) (fun u => ¬wellNamed u) .operand word

/-- R226, R230 to R233, R236: a transition reaches its root: a name that no group has is answered NONAME, a second transition STATE with nothing changed,
GPARK and GRUN begin where the group's state lets them; a status settles the handle; a member that may park begins to save, and leaves its slot once its
image is written; a drained group is gone, its index with the next generation. Where a GRPCTL comes from a core of tenant 0, which no group's tenant
is, the model lets it act on a group of any tenant (log 98); one that comes while a BARCFG is under way waits, as a checkpoint's does for a transition. -/
def Obligations.GroupEvents : Prop := ∀ (s : State) (k : Nat) (m : Msg) (gi site thr : Nat) (g : Group) (r : Resident),
  let fn := m.spec.toNat % 16
  let a := (s.dropMsg k).acceptMsg m
  let v := { a with tables := a.tables.filter fun e => e.1 != m.w[1] }
  let reach := s.deliver k = some m ∧ m.typ = MT.grpctl ∧ m.dest = .root gi ∧ fn ≠ 8 ∧ (s.dropMsg k).mustRefuse m = false ∧
    (fn = 3 ∨ fn = 4 ∨ fn = 5 ∨ fn = 6 → ((s.grp gi).map fun g => g.barcfg.isSome) ≠ some true) ∧
    (m.frm = .bridge → ((s.grp gi).map fun g => g.trans.isSome) ≠ some true)
  let mine := reach ∧ v.nameState (grpOf m.w[2]) = .live g ∧ (m.tenant = 0 ∨ m.tenant = g.tenant)
  let key := 4 * site + thr % 4
  (reach → v.nameState (grpOf m.w[2]) = .ended ∨ v.nameState (grpOf m.w[2]) = .stale → exec (.grpctl k) s = .next (v.grpStat m 4)) ∧
  (mine → g.trans.isSome → exec (.grpctl k) s = .next (v.grpStat m 1)) ∧
  (mine → g.trans = none → fn = 4 → exec (.grpctl k) s = .next (if g.st = .running then v.rootPark g { fn := 4, msg := some m } else v.grpStat m 1)) ∧
  (mine → g.trans = none → fn = 5 → exec (.grpctl k) s = .next
    (if g.st = .placed ∨ g.st = .parked then v.startRun g.idx { fn := 5, msg := some m } else v.grpStat m 1)) ∧
  (s.deliver k = some m → m.typ = MT.grpctl → m.dest = .core site → s.present site = true → fn = 4 → (s.thread (4 * site + m.w[3].toNat % 4)).res = some r → r.name = grpOf m.w[2] →
    ∃ t, exec (.grpctl k) s = .next t ∧ (t.thread (4 * site + m.w[3].toNat % 4)).res = some { r with parkReq := true }) ∧
  (s.deliver k = some m → m.typ = MT.grpstat → m.cls = .rsp → m.dest = .core site → s.present site = true → s.tenantOk site m = true → m.w[1] ≠ 0 →
    let p := s.pslot site (hSlot m.w[1])
    p.gen = hGen m.w[1] → p.st = .pending → p.freeMark = false → ∃ t, exec (.grpstat k) s = .next t ∧ (t.pslot site (hSlot m.w[1])).st = .resolved ∧
      (t.pslot site (hSlot m.w[1])).result = BitVec.ofNat 512 m.status) ∧
  ((s.thread key).res = some r → r.parkReq = true → r.saving = false → r.st = .active → r.late = false → (s.thread key).parkable = true →
    ∃ t, exec (.memberPark site thr) s = .next t ∧ ((t.thread key).res.map fun x => x.saving) = some true ∧ (t.thread key).regs = (s.thread key).regs ∧
      (t.thread key).pc = (s.thread key).pc) ∧
  ((s.thread key).res = some r → r.saving = true → s.saveReady key = true → s.grp r.grp = some g →
    ∃ t, exec (.saveImageComplete site thr) s = .next t ∧ (t.thread key).res = none ∧ (t.thread key).running = false) ∧
  (s.grp gi = some g → g.st = .draining → g.trans.map (fun t => t.pend) = some 0 ∨ g.trans = none → (∀ x ∈ g.members, x.queue = []) → g.fwds = [] →
    g.knodes = [] → (∀ e ∈ s.threads, ∀ x, e.2.res = some x → x.grp ≠ gi) →
    ∃ t, exec (.groupEnded gi) s = .next t ∧ t.grp gi = none ∧ t.dirEnt gi = if g.gen = 0xFFFFFF then { gen := g.gen, retired := true } else { gen := g.gen + 1 })

/-! ### Kickoff -/

/-- R302: KICK with a well-formed word, of the issuer's own group in user mode, and an aligned PC takes a promise slot, writes its handle and is sent to
the root of the group; a malformed word raises OPERAND, an unaligned PC ALIGN. -/
def Sys2Proof.Part.KickInstructions : Prop := ∀ (d s a : XReg) (i : Instr) (fn : Bool),
  (i = .kickTeam d s a ∧ fn = false) ∨ (i = .kickGroup d s a ∧ fn = true) →
  let k := fun (u : State) => u.rx d
  let legal := fun (u : State) => (k u).toNat < 2 ^ 62 ∧ (fn = true → (k u).extractLsb' 48 6 = 0) ∧
    (u.src.sup = true ∨ (u.src.res.isSome ∧ grpOf (k u) = u.src.ctl.gname))
  let aligned := fun (u : State) => (u.rx s).toNat % 4 = 0
  DoesIf i (fun u => legal u ∧ aligned u ∧ u.freePslots u.site ≠ [] ∧ u.unaccepted u.site < 16) (fun u =>
    let h := u.newHandle u.ctx.key true
    (h.2.wx d h.1).sendToRoot u.ctx.key (grpOf (k u)) { u.mineMsg with
      cls := .req, typ := MT.kick
      spec := if fn then 0x20000 else 0, w := #v[k u, h.1, u.rx s, u.rx a, 0, 0] }) ∧
  Traps i (fun u => ¬legal u) .operand (fun u => u.ctx.word.setWidth 64) ∧
  Traps i (fun u => legal u ∧ ¬aligned u) .align (fun u => u.rx s)

/-- R156, R303, R304, R306, R320: at its root a KICK of another tenant breaks with code 9, one of a draining group with 5, one of an absent team with 1, one of a running
group fans out, once the root has an egress slot free (beside one that is held a free choice answers RETRY: log 94), and one of another group is held; a
start at a site that no active core takes, or of another tenant, is turned away and answered with what it asked for (log 106); a start that reaches a slot with its member resident and with room joins its queue; an end report counts
at its node. -/
def Sys2Proof.Part.KickMessages : Prop := ∀ (s : State) (k : Nat) (m : Msg) (g : Group), s.deliver k = some m →
  let u := s.dropMsg k
  (∀ gi, m.typ = MT.kick → m.cls = .req → m.dest = .root gi → m.back = none → s.liveRoot gi (grpOf m.w[0]) = some g → u.mustRefuse m = false →
    let v := ((u.acceptMsg m).rootTook m).reply m 0
    let brk := fun (c : Nat) => exec (.kickMsg k) s = .next (v.breakInv (.root g.idx) g.root m c m.handle)
    let mine := m.tenant = g.tenant
    let calm := g.st = .running → u.fwdHeld (.root gi) = false
    let there := m.spec.getLsbD 17 = true ∨ (m.w[0].extractLsb' 48 6).toNat < g.teams.length
    (calm → ¬mine → brk 9) ∧ (mine → g.st = .draining → brk 5) ∧ (calm → mine → g.st ≠ .draining → ¬there → brk 1) ∧
    (g.st = .running → u.fwdHeld (.root gi) = true → mine → there →
      let d := u.drawBool
      exec (.kickMsg k) s = .next (if d.1 then d.2.retryMsg m else (((d.2.acceptMsg m).rootTook m).reply m 0).fanOut g.idx m)) ∧
    (calm → mine → there → g.st = .running → exec (.kickMsg k) s = .next (v.fanOut g.idx m)) ∧
    (mine → there → g.st ≠ .draining → g.st ≠ .running →
      exec (.kickMsg k) s = .next (v.modGroup g.idx fun g => { g with kicks := g.kicks ++ [m] }))) ∧
  (∀ site j mem key r e sp, m.typ = MT.kick → m.cls = .fwd → m.dest = .core site → s.groupOf (grpOf m.w[0]) = some g → m.fl.twin = false →
    s.refusal site m = none → s.waitsTurn site m = false → u.kickBehind m = false → ((List.range 4).filter fun i => m.spec.getLsbD i) = [j] → m.spec.getLsbD 4 = false →
    State.kickSeat g (State.kickTeams g m.w[5].toNat) site j (m.w[4].toNat / 4096) = some mem → State.memberRec g mem = some e → e.st = .active →
    u.residentAt site (memberWord g.name (BitVec.ofNat 12 mem)) = some key → (u.thread key).res = some r → r.st = .active → r.saving = false →
    u.placeFor key r = some sp → exec (.kickoffFanout k) s = .next ((u.wake site).addArrival key m true sp)) ∧
  (∀ site st, m.typ = MT.kick → m.cls = .fwd → m.dest = .core site → s.groupOf (grpOf m.w[0]) = some g → s.refusal site m = some st →
    exec (.kickoffFanout k) s = .next (u.kickTurned m st)) ∧
  (∀ site n, m.typ = MT.kickend → m.cls = .rsp → m.dest = .router site → m.w[5] = 0 → s.groupOf (grpOf m.w[3]) = some g → u.grp g.idx = some g →
    let same := fun (n : KNode) => n.kick == m.w[2].toNat && n.site == site && (site == 4096 || n.team == m.w[4].toNat / 4096)
    g.knodes.find? same = some n → 1 < n.pend → exec (.kickend k) s = .next (u.modGroup g.idx fun x => { x with
      knodes := g.knodes.filter (fun e => !same e) ++ [{ n with
        pend := n.pend - 1, started := n.started + m.w[0].toNat, faulted := n.faulted + m.w[1].toNat }] }))

/-- R302 to R306: KICK, from its instruction to the reports of its ends. -/
def Obligations.Kickoff : Prop := Part.KickInstructions ∧ Part.KickMessages

/-! ### Barriers, and the Referee -/

/-- R279, R283 to R286: BARR arrives; BARRW arrives and waits; BARW waits, and goes on when its member has not arrived; BARWD withdraws; BARQ reads the four
bits; a thread that is no member, or another number, raises OPERAND; a barrier the member does not take part in or has arrived at raises BAROVER; a broken
one, or a wait that a configuration cut, raises BARTIME, in a member that has arrived and waits as well. -/
def Obligations.BarrierInstructions : Prop := ∀ (s d : XReg) (r : Resident),
  let id := fun (u : State) => (u.rx s).toNat % 16
  let b := fun (u : State) => u.src.bar
  let legal := fun (u : State) => (u.rx s).toNat < 16 ∧ ∃ r, u.src.res = some r ∧ r.late = false
  let left := fun (u : State) => (b u).leave.getLsbD (id u) = true
  let cut := fun (u : State) => (b u).cut.getLsbD (id u) = true
  let part := fun (u : State) => (b u).part.getLsbD (id u) = true
  let arrived := fun (u : State) => (b u).arrived.getLsbD (id u) = true
  let waiting := fun (u : State) => (b u).waiting.getLsbD (id u) = true
  let broken := fun (u : State) => (b u).broken.getLsbD (id u) = true
  let fit := fun (u : State) => legal u ∧ u.src.res = some r ∧ ¬left u ∧ ¬cut u ∧ part u ∧ ¬broken u
  let calm := fun (u : State) => u.drained u.ctx.key = true
  let freed := fun (u : State) => u.modCur fun t => { t with bar := { t.bar with waiting := t.bar.waiting &&& ~~~(1#16 <<< id u) } }
  DoesIf (.barr s) (fun u => fit u ∧ ¬arrived u ∧ ¬waiting u ∧ calm u) (fun u => u.barArrive r (id u)) ∧
  DoesIf (.barw s) (fun u => fit u ∧ ¬arrived u ∧ ¬waiting u) (fun u => u) ∧
  (∀ i, i = .barw s ∨ i = .barrw s → DoesIf i (fun u => fit u ∧ ¬arrived u ∧ waiting u) freed) ∧
  (∀ v, Clear (.barrw s) v → fit v.entered → ¬arrived v.entered → ¬waiting v.entered → calm v.entered →
    exec (.barrw s) v = .next (((v.barArrive r (id v.entered)).barHeld (id v.entered)).ended .wait)) ∧
  (∀ v, Clear (.barw s) v → fit v.entered → arrived v.entered → ¬waiting v.entered → exec (.barw s) v = .next ((v.barHeld (id v.entered)).ended .wait)) ∧
  DoesIf (.barwd s) (fun u => fit u ∧ calm u) (fun u => u.barLeave u.ctx.key r (id u)) ∧
  DoesIf (.barq d s) legal (fun u => u.wx d ((BitVec.ofBool ((b u).broken.getLsbD (id u)) ++ BitVec.ofBool ((b u).phase.getLsbD (id u)) ++
    BitVec.ofBool ((b u).arrived.getLsbD (id u)) ++ BitVec.ofBool ((b u).part.getLsbD (id u))).setWidth 64)) ∧
  Traps (.barq d s) (fun u => ¬legal u) .operand (fun u => u.ctx.word.setWidth 64) ∧
  (∀ i, i = .barr s ∨ i = .barw s ∨ i = .barrw s ∨ i = .barwd s →
    Traps i (fun u => ¬legal u) .operand (fun u => u.ctx.word.setWidth 64) ∧
    DoesIf i (fun u => legal u ∧ left u) (fun u => u) ∧
    Traps i (fun u => legal u ∧ ¬left u ∧ cut u) .bartime (fun u => u.rx s) ∧
    Traps i (fun u => legal u ∧ ¬left u ∧ ¬cut u ∧ ¬part u) .barover (fun u => u.rx s) ∧
    Traps i (fun u => legal u ∧ ¬left u ∧ ¬cut u ∧ part u ∧ ¬arrived u ∧ broken u) .bartime (fun u => u.rx s)) ∧
  (∀ i, i = .barr s ∨ i = .barrw s →
    Traps i (fun u => legal u ∧ ¬left u ∧ ¬cut u ∧ part u ∧ arrived u ∧ ¬waiting u) .barover (fun u => u.rx s) ∧
    Traps i (fun u => legal u ∧ ¬left u ∧ ¬cut u ∧ part u ∧ arrived u ∧ waiting u ∧ broken u) .bartime (fun u => u.rx s)) ∧
  (∀ i, i = .barw s ∨ i = .barwd s → Traps i (fun u => legal u ∧ ¬left u ∧ ¬cut u ∧ part u ∧ broken u) .bartime (fun u => u.rx s))

/-- R280, R281, R286: an arrival below the count is counted; the last one at the package ends the phase and starts the next; a release clears the arrived
bit of each member of the team that takes part and flips its phase; a wait of BARTMO cycles sends a break, which breaks the barrier at the root and sets the
members' broken bits; a configuration gives a Huddle its count. The model's choices, log 48: a message of an earlier configuration is discarded, one that
comes to a team's Huddle before its configuration waits there, and the members' bits are set in the step in which their Huddle takes it. -/
def Obligations.BarrierMessages : Prop := ∀ (s : State) (k site thr : Nat) (m : Msg) (g : Group) (r : Resident),
  let u := s.dropMsg k
  let id := m.spec.toNat % 16
  let i := m.w[3].toNat
  let h := (g.bar id).huddle m.w[2].toNat i
  let key := 4 * site + thr % 4
  let mine := s.deliver k = some m ∧ m.cls = .rsp ∧ State.isOutAgent m.dest = false ∧ s.groupOf (grpOf m.w[0]) = some g ∧ u.grp g.idx = some g ∧
    State.barNow g m = true
  let atCore := mine ∧ m.dest = .core site ∧ s.present site = true ∧ s.tenantOk site m = true
  -- a core holds member j of Huddle i's team in thread q
  let here := fun (q j : Nat) => j ∈ State.membersOf g i ∧ (g.seat j).map (fun x => x.key) = some q ∧ s.holds g q j false = true
  (mine → m.typ = MT.bararrive → m.w[4].toNat % 2 = 0 → h.arr + 1 < h.exp → ∃ t, exec (.bararrive k) s = .next t ∧
    t.grp g.idx = some (g.setBar id ((g.bar id).setHuddle m.w[2].toNat i { h with arr := h.arr + 1 }))) ∧
  (mine → m.typ = MT.bararrive → m.w[4].toNat % 2 = 0 → m.w[2] = 2 → h.arr + 1 = h.exp → h.sent = false →
    ∃ t n, exec (.bararrive k) s = .next t ∧ t.grp g.idx = some n ∧ (n.bar id).phase = !(g.bar id).phase ∧ (n.bar id).pkg.arr = 0) ∧
  (atCore → m.typ = MT.barrelease → ∃ t, exec (.barrelease k) s = .next t ∧ ∀ q j, here q j → q / 4 = site →
    let b := (s.thread q).bar
    let due := b.part.getLsbD id = true ∧ b.phase.getLsbD id ≠ decide (m.w[4] ≠ 0)
    (due → (t.thread q).bar.arrived.getLsbD id = false ∧ (t.thread q).bar.phase.getLsbD id = !b.phase.getLsbD id) ∧
    (¬due → (t.thread q).bar = b)) ∧
  (∀ t0, (s.thread key).bar.since = some t0 → (s.thread key).res = some r → (s.thread key).park = .barrier → (s.thread key).ctl.bartmo ≠ 0 →
    (s.thread key).bar.timedOut = false → (s.thread key).ctl.bartmo.toNat ≤ ((s.thread key).bar.waited + (s.time - t0)).toNat →
    let on := (s.thread key).bar.on.toNat
    (s.thread key).bar.arrived.getLsbD on = true → (s.thread key).bar.broken.getLsbD on = false → s.grp r.grp = some g →
    exec (.barrierTimeout site thr) s = .next ((s.barMsg g (.core site) (.root r.grp) (s.whoOf key) MT.barbreak on 2 0 0
      (State.teamEp g on (((g.seat r.member.toNat).map fun x => x.team).getD 0))).modThread key fun t =>
        { t with bar := { t.bar with timedOut := true } })) ∧
  (mine → m.typ = MT.barbreak → m.dest = .root g.idx → m.w[2] = 2 → ∃ t n, exec (.barbreak k) s = .next t ∧ t.grp g.idx = some n ∧ (n.bar id).broken = true) ∧
  (atCore → m.typ = MT.barbreak → ∃ t, exec (.barbreak k) s = .next t ∧ ∀ q j, here q j → q / 4 = site →
    (t.thread q).bar.broken.getLsbD id = true) ∧
  (s.deliver k = some m → m.cls = .rsp → State.isOutAgent m.dest = false → s.groupOf (grpOf m.w[0]) = some g → (∀ p, m.dest ≠ .core p) → m.w[2] = 0 →
    State.teamEp g id i < m.w[5].toNat →
    (m.typ = MT.barrelease → exec (.barrelease k) s = .next s) ∧ (m.typ = MT.barbreak → exec (.barbreak k) s = .next s)) ∧
  (s.deliver k = some m → m.typ = MT.barconfig → m.cls = .req → m.dest = .router site → s.groupOf (grpOf m.w[0]) = some g →
    (s.dropMsg k).grp g.idx = some g →
    let mask : BitVec 16 := m.pay.extractLsb' 0 16
    let exp : BitVec 16 := m.pay.extractLsb' 128 16
    ∃ t n, exec (.barconfig k) s = .next t ∧ t.grp g.idx = some n ∧
      (∀ j, j < 16 → mask.getLsbD j = true → (n.bar j).huddle 0 i = { exp := exp.toNat, ep := (g.bar j).ep }) ∧
      ∀ q j, here q j → (t.thread q).bar = (s.thread q).bar.configured mask
        ((m.pay.extractLsb' 64 64 : BitVec 64).getLsbD i && (g.members[j]?.map fun r => r.st == .active) == some true))

/-- R152, R368, R369: the Referee forwards the primary's message when both twins' messages agree, and else both threads wait for DUPLEX; so they do when a
partner has not come within 4,096 cycles; a message with an unassigned type is discarded with a record. -/
def Obligations.RefereeAndUnassigned : Prop := ∀ (s : State) (k : Nat) (q : Pair),
  let fails := fun (e : Instr) (v : Word) => ∃ t, exec e s = .next t ∧ (t.thread q.pkey).duplex = some v ∧ (t.thread q.tkey).duplex = some v
  (s.pairs[k]? = some q →
    (∀ a b ta tb l n, q.prim = (a, ta) :: l → q.twin = (b, tb) :: n →
      let far := 4096 ≤ (ta - tb).toNat ∧ 4096 ≤ (tb - ta).toNat
      (far → fails (.refereePair k) 4096) ∧
      (¬far → a.refereeCrc = b.refereeCrc → exec (.refereePair k) s = .next (s.pairForward q a b)) ∧
      (¬far → a.refereeCrc ≠ b.refereeCrc → fails (.refereePair k) 0)) ∧
    (∀ a ta l, q.prim = (a, ta) :: l → q.twin = [] → ta + 4096 ≤ s.time → fails (.refereeTimeout k) 4096) ∧
    (∀ b tb l, q.prim = [] → q.twin = (b, tb) :: l → tb + 4096 ≤ s.time → fails (.refereeTimeout k) 4096)) ∧
  (∀ m site, s.deliver k = some m → MT.assigned.contains m.typ = false → m.dest = .core site →
    exec (.unassignedMessage k) s = .next ((s.dropMsg k).discard site m))

/-! ### Maintenance -/

/-- R317, R331, R332, R358, R365: TLBINV drops the entries it names once what went through them is performed; ICINV drops the lines of a range; ERRCLR empties
banks and writes the status of the last; KEYSLOT makes, erases and reports a key while its slot is FREE; MAPSET reports, loads, switches and opens; its
SWITCH waits for the requests that this device's homes had taken before it. The model's choices: with ALL, ERRCLR writes the status of bank 31 (log 76);
a key is a number, a new one one that no slot has had (log 8); what SWITCH waits for (log 70). -/
def Sys2Proof.Part.CacheKeyMap : Prop := ∀ (d s t : XReg),
  let x := fun (u : State) => (u.rx s).toNat
  let y := fun (u : State) => (u.rx t).toNat
  let word := fun (u : State) => u.ctx.word.setWidth 64
  let pick := fun (u : State) (e : TlbEnt) =>
    if y u / 4096 = 0 then e.covers (BitVec.ofNat 12 (y u)) (x u % 2 ^ 48) else if y u / 4096 = 1 then e.ten == BitVec.ofNat 12 (y u) else true
  let last := fun (u : State) => 32 * State.dieOf u.site + (if x u / 32 = 1 then 31 else x u)
  let ten := fun (u : State) => (u.rx s).setWidth 12
  let map := fun (u : State) => u.tmap (ten u)
  let tell := fun (u v : State) (st : Nat) => v.wx d (BitVec.ofNat 64 (st + (if u.hasContext (ten u) then
    (if (v.tmap (ten u)).active then 16 else 0) + (if (v.tmap (ten u)).st = .changing then 32 else 0) + (if (v.tmap (ten u)).st = .loaded then 64 else 0)
    else 0)))
  let table := fun (u : State) => u.myCore.mem.bytes.load (y u) 4096
  let block := fun (u : State) => y u % 64 = 0 ∧ y u + 4096 ≤ 0x60000 ∧ u.acqPending = false ∧ u.ownPending u.ctx.key u.nextId [(y u, 4096)] = false ∧
    poisoned u.myCore.mem.pois (y u) 4096 = false
  -- the requests that were translated through what goes, or through what a cache held before for its addresses
  let through := fun (u : State) => u.xlPending (u.tlbPick (pick u)) fun tn va =>
    y u / 4096 == 2 || tn == BitVec.ofNat 12 (y u) && (y u / 4096 == 1 || va / 65536 == x u % 2 ^ 48 / 65536)
  let calm := fun (u : State) => y u < 3 * 4096 ∧ u.src.quiet = true ∧ (∀ o ∈ u.src.outst, o.err = none) ∧ u.src.storelate = none ∧
    u.drained u.ctx.key = true
  DoesIf (.tlbinv s t) (fun u => calm u ∧ u.src.asked = false ∧ through u = []) (fun u => u.tlbDrop (pick u)) ∧
  (∀ v, Clear (.tlbinv s t) v → calm v.entered → v.entered.src.asked = false → through v.entered ≠ [] → exec (.tlbinv s t) v = .next
    (((v.tlbDrop (pick v.entered)).modCur fun x => { x with asked := true, xlIds := through v.entered }).ended .wait)) ∧
  DoesIf (.tlbinv s t) (fun u => calm u ∧ u.src.asked = true ∧ u.stillUnderWay u.src.xlIds = false) (fun u => u) ∧
  Traps (.tlbinv s t) (fun u => 3 * 4096 ≤ y u) .operand word ∧
  Does (.icinv s t) (fun u => u.modMyCore fun c => { c with icache := c.icache.filter fun l => !(decide (y u = 0) || decide (2 ^ 24 < y u) ||
    (decide (l.addr.toNat / 128 * 128 < x u + y u) && decide (x u < l.addr.toNat / 128 * 128 + 128))) }) ∧
  DoesIf (.errclr d s) (fun u => x u < 64) (fun u =>
    { u with banks := (if x u / 32 = 1 then List.range 32 else [x u]).foldl (fun m b => Map.erase m (32 * State.dieOf u.site + b)) u.banks }.wx d
      (State.errStatus (u.bank (last u)))) ∧
  Traps (.errclr d s) (fun u => 64 ≤ x u) .operand word ∧
  (∀ i n, i = .keyslotStat d s ∨ i = .keyslotGen d s ∨ i = .keyslotErase d s → 0 < n → n < 64 →
    let st := fun (u : State) => (u.slotOf n).st
    let has := fun (u : State) => if (u.slotOf n).key.isSome then 0x100#64 else 0
    DoesIf i (fun u => x u = n) (fun u => u.wx d (has u)) ∧
    DoesIf i (fun u => x u = 256 + n ∧ st u = .free)
      (fun u => ({ u with keyCtr := u.keyCtr + 1 }.modSlot n fun c => { c with key := some (u.keyCtr + 1) }).wx d 0x100) ∧
    DoesIf i (fun u => x u = 512 + n ∧ st u = .free) (fun u => (u.modSlot n fun c => { c with key := none }).wx d 0) ∧
    DoesIf i (fun u => (x u = 256 + n ∨ x u = 512 + n) ∧ st u ≠ .free) (fun u => u.wx d (1 ||| has u)) ∧
    Traps i (fun u => x u % 64 = 0 ∨ 3 * 256 ≤ x u ∨ 64 ≤ x u % 256) .operand word) ∧
  (∀ i, i = .mapsetStat d s t ∨ i = .mapsetLoad d s t ∨ i = .mapsetSwitch d s t ∨ i = .mapsetOpen d s t →
    DoesIf i (fun u => x u / 4096 = 0 ∧ u.hasContext (ten u) = true) (fun u => tell u u 0) ∧
    DoesIf i (fun u => (x u / 4096 = 0 ∨ x u / 4096 = 3) ∧ u.hasContext (ten u) = false) (fun u => tell u u 2) ∧
    DoesIf i (fun u => x u / 4096 = 1 ∧ block u ∧ State.tableBad (table u) = false ∧ u.hasContext (ten u) = true ∧ (map u).st ≠ .changing)
      (fun u => tell u (u.modMaps (ten u) fun m => if m.active then { m with st := .loaded, ver0 := State.tableMap (table u) }
        else { m with st := .loaded, ver1 := State.tableMap (table u) }) 0) ∧
    DoesIf i (fun u => x u / 4096 = 2 ∧ u.src.asked = false ∧ u.hasContext (ten u) = true ∧ (map u).st = .loaded ∧ (u.taken (ten u)).isEmpty = true)
      (fun u => tell u (u.switchMaps (ten u)) 0) ∧
    (∀ v, Clear i v → (v.entered.rx s).toNat / 4096 = 2 → v.entered.src.asked = false → v.entered.hasContext (ten v.entered) = true →
      (map v.entered).st = .loaded → (v.entered.taken (ten v.entered)).isEmpty = false →
      exec i v = .next (((v.switchMaps (ten v.entered)).modCur fun x => { x with asked := true, xlIds := v.taken (ten v.entered) }).ended .wait)) ∧
    DoesIf i (fun u => x u / 4096 = 2 ∧ u.src.asked = true ∧ ∀ n ∈ u.taken (ten u), n ∉ u.src.xlIds) (fun u => tell u u 0) ∧
    DoesIf i (fun u => x u / 4096 = 3 ∧ u.hasContext (ten u) = true ∧ (map u).st = .changing ∧ u.gains (map u) (y u % 2048) = true)
      (fun u => tell u (u.openId (ten u) (y u % 2048)) 0) ∧
    DoesIf i (fun u => x u / 4096 = 2 ∧ u.src.asked = false ∧ u.hasContext (ten u) = true ∧ (map u).st ≠ .loaded) (fun u => tell u u 1) ∧
    Traps i (fun u => x u / 4096 = 1 ∧ block u ∧ State.tableBad (table u) = true) .operand word ∧
    Traps i (fun u => 4 * 4096 ≤ x u) .operand word)

/-- R335, R338, R371: CORERET answers RANGE or in use, begins the replacement, and answers OK once the spare is scrubbed and every router has the new entry (an invalid id answers RANGE: the model's choice, log 73);
CKPT takes a promise slot and begins its walk, or resolves at once; a malformed descriptor raises OPERAND. -/
def Sys2Proof.Part.CoresAndCheckpoints : Prop := ∀ (d s t : XReg),
  let a := fun (u : State) => (u.rx s).toNat
  let sp := fun (u : State) => (u.rx t).toNat
  let word := fun (u : State) => u.ctx.word.setWidth 64
  let good := fun (u : State) (old : Nat) => a u < 4000 ∧ sp u < 4096 ∧ u.siteOf u.site (a u) = some old ∧ State.dieOf (sp u) = State.dieOf old ∧
    u.active (sp u) = true ∧ State.idsNaming (sp u) u.l2p.base = [] ∧ ∀ e ∈ u.l2p.upd, ¬(e.val.getLsbD 12 = true ∧ e.val.toNat % 4096 = sp u)
  let block := fun (u : State) => a u % 16 = 0 ∧ a u + 48 ≤ 0x60000 ∧ u.acqPending = false ∧ u.ownPending u.ctx.key u.nextId [(a u, 48)] = false ∧
    poisoned u.myCore.mem.pois (a u) 48 = false
  let desc := fun (u : State) => ckptOf (u.myCore.mem.bytes.load (a u) 48)
  let live := fun (u : State) (c : Ckpt) => let st := (u.slotOf c.slot).st; st = .active ∨ st = .growing ∨ st = .shrinking
  let busy := fun (u : State) (c : Ckpt) => ∃ o ∈ u.ckpts, o.slot = c.slot
  let h := fun (u : State) => u.newHandle u.ctx.key true
  let mine := fun (u : State) (c : Ckpt) => { c with key := u.ctx.key, handle := (h u).1 }
  DoesIf (.coreret d s t) (fun u => u.src.asked = false ∧ a u < 4096 ∧ sp u < 4096 ∧ u.siteOf u.site (a u) = none) (fun u => u.wx d 3) ∧
  (∀ old, DoesIf (.coreret d s t) (fun u => u.src.asked = false ∧ good u old ∧ u.coreInUse old = true) (fun u => u.wx d 1)) ∧
  (∀ old v, Clear (.coreret d s t) v → v.entered.src.asked = false → good v.entered old → v.entered.coreInUse old = false →
    exec (.coreret d s t) v = .next (((v.replaceCore v.site old (sp v.entered) (a v.entered)).modCur fun x => { x with asked := true }).ended .wait)) ∧
  DoesIf (.coreret d s t) (fun u => u.src.asked = true ∧ a u < 4096 ∧ sp u < 4096 ∧ (u.core (sp u)).scrub = none ∧
      ∀ e ∈ u.l2p.upd, e.idx = a u → 4096 ≤ e.got.length)
    (fun u => u.wx d 0) ∧
  Traps (.coreret d s t) (fun u => 4096 ≤ a u ∨ 4096 ≤ sp u) .operand word ∧
  (∀ c, DoesIf (.ckpt d s) (fun u => block u ∧ desc u = some c ∧ u.freePslots u.site ≠ [] ∧ ¬live u c)
      (fun u => ((h u).2.wx d (h u).1).ckptResolve (mine u c) 1) ∧
    DoesIf (.ckpt d s) (fun u => block u ∧ desc u = some c ∧ u.freePslots u.site ≠ [] ∧ live u c ∧ busy u c)
      (fun u => ((h u).2.wx d (h u).1).ckptResolve (mine u c) 2) ∧
    DoesIf (.ckpt d s) (fun u => block u ∧ desc u = some c ∧ u.freePslots u.site ≠ [] ∧ live u c ∧ ¬busy u c ∧ c.mode ≠ 1)
      (fun u => let v := (h u).2.wx d (h u).1; { v with ckpts := v.ckpts ++ [{ mine u c with await := 0 }] })) ∧
  Traps (.ckpt d s) (fun u => block u ∧ desc u = none) .operand word

/-- The maintenance instructions. -/
def Obligations.MaintenanceInstructions : Prop := Part.CacheKeyMap ∧ Part.CoresAndCheckpoints

/-! ### Traps -/

/-- R359: a fault that finds nothing outstanding enters the trap at once: the saved registers, the mode and the pc are written, and nothing else of the thread
but ISSUED changes. -/
def Sys2Proof.Part.TrapOfBundle : Prop := ∀ (s : State) (tr : Trap), (s.cur.consume tr).quiet = true → s.cur.restarts tr.cause = false →
    tr.cause ≠ .duplex →
  let o := s.cur
  let t := (s.raiseTrap tr).cur
  t.sys.epc = s.ctx.pc ∧ t.sys.ecause = BitVec.ofBool tr.slot ++ BitVec.ofNat 8 tr.cause.code ∧ t.sys.eval = tr.val ∧
  t.sys.estatus.getLsbD 0 = o.sup ∧ t.sys.estatus.getLsbD 1 = decide (o.sys.rgnpc ≠ 0) ∧ t.sys.estatus.getLsbD 2 = o.rep.isSome ∧
  t.sys.estatus.getLsbD 3 = o.act.isSome ∧ t.sup = true ∧ t.pc = o.sys.tvec &&& ~~~3#64 ∧ t.trap = none ∧
  t.regs = o.regs ∧ t.ctl = o.ctl ∧ t.act = o.act ∧ t.res = o.res ∧ t.sys.tvec = o.sys.tvec ∧ t.sys.rgnpc = o.sys.rgnpc ∧ t.sys.wdog = o.sys.wdog ∧
  t.sys.issued = o.sys.issued + 1 ∧ (∀ c x, ((s.raiseTrap tr).core c).mem.bytes.byte x = (s.core c).mem.bytes.byte x) ∧
  ∀ k, k ≠ s.ctx.key → (s.raiseTrap tr).thread k = s.thread k

/-- R31 to R33, R359, R367, R369: a fault that waited enters its trap once the outstanding work is done; a POISON inside a region restarts it instead while its
count is below 3 (that the restart also clears the marks of failed destinations is the model's choice, log 93); an expired watchdog ends the activation and traps in place of the next bundle. -/
def Sys2Proof.Part.TrapEvents : Prop := ∀ (s : State) (site thr : Nat) (p : PendTrap),
  let key := 4 * site + thr % 4
  let o := s.thread key
  (o.trap = some p → o.quiet = true → o.restarts p.trap.cause = false → ∃ t, exec (.trapEntry site thr) s = .next t ∧
    let n := t.thread key
    n.sup = true ∧ n.pc = o.sys.tvec &&& ~~~3#64 ∧ n.trap = none ∧ n.sys.epc = p.epc ∧ n.sys.eval = p.trap.val ∧ n.sys.estatus = p.st ∧
    n.sys.ecause = BitVec.ofBool p.trap.slot ++ BitVec.ofNat 8 p.trap.cause.code ∧ n.regs = o.regs ∧
    (p.trap.cause = .duplex → n.act = none) ∧ (p.trap.cause ≠ .duplex → n.act = o.act)) ∧
  (o.trap = some p → o.quiet = true → p.trap.cause = .poison → o.sys.rgnpc ≠ 0 → o.sys.rgnpc.toNat % 4 < 3 → ∃ t, exec (.regionRestart site thr) s = .next t ∧
    let n := t.thread key
    n.sys.rgnpc = o.sys.rgnpc + 1 ∧ n.pc = o.sys.rgnpc &&& ~~~3#64 ∧ n.trap = none ∧ n.sup = o.sup ∧ n.sys.epc = o.sys.epc ∧ n.sys.eval = o.sys.eval ∧
    n.sys.estatus = o.sys.estatus ∧ n.sys.ecause = o.sys.ecause ∧ n.regs = o.regs ∧ n.marks = [] ∧ n.storelate = none ∧
    ∀ e ∈ n.outst, e.fin = false) ∧
  (∀ b, o.running = true → o.act.isSome → o.sup = false → o.trap = none → o.rep = none → o.sys.armed = some b → o.sys.wdog = 0 → o.quiet = true →
    ∃ t, exec (.watchdog site thr) s = .next t ∧
      let n := t.thread key
      n.act = none ∧ n.sup = true ∧ n.pc = o.sys.tvec &&& ~~~3#64 ∧ n.sys.epc = o.pc ∧ n.sys.ecause = 0x11 ∧ n.sys.eval = b ∧ n.regs = o.regs)

/-- R31 to R33, R359, R367, R369: taking a trap. -/
def Obligations.TrapEntry : Prop := Part.TrapOfBundle ∧ Part.TrapEvents

/-! ### Boot, contexts, the host channel, the link, power and debug -/

/-- R309 to R311, R384, R385, R387 to R389: an image that passes releases the package, one that fails leaves the code of its first check; the flood collects its
answers, writes the site map and starts thread 0 of the corner at PC 0; L2PDATA reaches the routers; measurement and attestation; a reset returns the package
to its reset state. The model's choices: GO stages the image that it brings over what STAGE holds (log 83); the sites that failed self-test are kept across
a package reset (log 5); the order of the events (log 1). -/
def Obligations.BootEvents : Prop := ∀ (s : State) (k d : Nat) (m : Msg) (image : List Byte) (v : Word) (nonce : BitVec 512), d < 4 →
  let c := State.corner d
  (s.boot.st = .wait → ∃ t, exec (.bootctlGo image) s = .next t ∧ t.boot.st = .checking ∧
    ∀ i, i < 16512 → t.boot.stage.getD i 0 = if i < image.length then image.getD i 0 else s.boot.stage.getD i 0) ∧
  (s.boot.st = .checking → State.imageCode s.boot.stage ≠ 0 → ∃ t, exec .imageVerification s = .next t ∧ t.boot.st = .failed ∧
    t.boot.code = State.imageCode s.boot.stage) ∧
  (s.boot.st = .checking → State.imageCode s.boot.stage = 0 → ∃ t, exec .imageVerification s = .next t ∧ t.boot.st = .running ∧ t.boot.code = 0 ∧
    (t.core c).mem.bytes.load 0x10000 16384 = bytesNat (stageBytes s.boot.stage 128 16384) % 256 ^ 16384) ∧
  (∀ site, s.deliver k = some m → m.typ = MT.discover → m.cls = .req → m.dest = .router site →
    exec (.discover k) s = .next ((s.dropMsg k).reply m (if s.active site = true ∧ site ∉ s.failedTest then 0 else 2))) ∧
  (∀ p, s.deliver k = some m → m.typ = MT.ack ∨ m.typ = MT.nack → m.w[4] = MT.discover.setWidth 64 → m.dest = .router c → m.frm = .router p →
    exec (.discoverAnswer k) s = .next ((s.dropMsg k).absorb (State.dieOf c) (State.dieIndex p) (m.typ == MT.ack))) ∧
  (∀ t0 site, (s.die d).floodAt = some t0 → t0 + 4096 ≤ s.time → State.dieOf site = d → State.dieIndex site ≠ 0 →
    State.dieIndex site ∉ (s.die d).absorbed → ∃ t, exec (.silentRouter d site) s = .next t ∧
      (t.die d).absorbed = (s.die d).absorbed ++ [State.dieIndex site] ∧ (t.die d).good = (s.die d).good) ∧
  (s.boot.st = .running → (s.die d).floodDone = false → (s.die d).absorbed.length = 1023 → ∃ t, exec (.floodEnd d) s = .next t ∧
    (t.die d).floodDone = true ∧ (t.core c).mem.bytes.load 0x2000 128 = State.siteMap (s.die d) % 256 ^ 128 ∧
    (t.thread (4 * c)).running = true ∧ (t.thread (4 * c)).sup = true ∧ (t.thread (4 * c)).pc = 0) ∧
  (let i := s.myCore.sel.l2pidx
   ∃ t, exec (.l2pdataWrite v) s = .next t ∧ t.myCore.sel.l2pidx = i + 1 ∧ t.l2p.base = s.l2p.base ∧ t.l2p.upd =
     if i.toNat < 4000 then
       (s.l2p.upd.map fun u => if u.idx = i.toNat then { u with held := u.held.filter fun r => r != s.site } else u) ++
         [{ writer := s.site, idx := i.toNat, val := v.setWidth 13, got := [s.site], held := [s.site] }]
     else s.l2p.upd) ∧
  (∀ e router, s.l2p.upd = [e] → router < 4096 → router ∉ e.got → ∃ t, exec (.l2pUpdate 0 router) s = .next t ∧ t.l2pAt router e.idx = e.val) ∧
  (∃ t, exec (.measxWrite v) s = .next t ∧ t.boot.meas = Config.sha512 (bytesOf s.boot.meas.toNat 64 ++
    bytesOf (fieldsAt 0 8 ((s.myCore.sel.meas.set 7 v).toList.map fun w => w.toNat)) 64)) ∧
  (∃ t, exec (.attreqWrite nonce) s = .next t ∧ t.boot.attreq = nonce ∧ t.boot.pending = some nonce) ∧
  (s.boot.pending = some nonce → ∃ t, exec .attestationReport s = .next t ∧ t.boot.attrep = s.report nonce ∧ t.boot.pending = none) ∧
  (∀ e, e = Instr.packageReset ∨ e = Instr.overtemperature ∨ e = Instr.functionLevelReset 0 → ∃ t, exec e s = .next t ∧ t.host = s.host ∧
    t.fused = s.fused ∧ t.failedTest = s.failedTest ∧ t.cores = [] ∧ t.threads = [] ∧ t.groups = [] ∧ t.net = [] ∧ t.boot.st = .wait) ∧
  (∀ f n, 0 < f → f ≤ 64 → s.funcSlot f = some n → exec (.functionLevelReset f) s =
    .next (((s.ctxDestroy n).modSlot n fun c => { c with unbound := true }).unbind f)) ∧
  (∀ f off, (s.funcSlot f).isNone → s.chanReg f off = 0)

/-- R314, R316, R319: CREATE of a FREE slot that passes the checks begins, and binds its cores once none is being scrubbed; a write of CTXRECT sets the rectangle of
a FREE slot and grows or shrinks an ACTIVE one; DESTROY ends the groups, erases the key, scrubs the cores and frees the slot; a scrubbed core has zero memory
and threads as at reset. That shrinking waits for what members have left behind on a leaving core is the model's choice (log 103). -/
def Obligations.ContextEvents : Prop := ∀ (s : State) (slot site : Nat) (v : Word),
  let n := s.myCore.sel.ctxsel.toNat
  let c := s.slotOf n
  let e := s.slotOf slot
  let new := State.ctxSites e.newRect
  let r : BitVec 24 := v.setWidth 24
  (n ≠ 0 → c.st = .free → s.rectErr n c.rect (State.ctxSites c.rect) = 0 → c.tenant ≠ 0 → s.tenantUsed n c.tenant = false → c.key.isSome →
    ∃ t, exec .ctxcmdCreate s = .next t ∧ t.slotOf n = { c with st := .creating, newRect := c.rect, err := 0 }) ∧
  (n ≠ 0 → c.st ≠ .free → ∃ t, exec .ctxcmdCreate s = .next t ∧ t.slotOf n = { c with err := 1 }) ∧
  (n ≠ 0 → c.st = .active → exec .ctxcmdDestroy s = .next ((s.modSlot n fun c => { c with st := .destroying, err := 0 }).endGroups n)) ∧
  (n ≠ 0 → c.st ≠ .active → ∃ t, exec .ctxcmdDestroy s = .next t ∧ t.slotOf n = { c with err := 1 }) ∧
  (n ≠ 0 → c.st = .free → ∃ t, exec (.ctxrectWrite v) s = .next t ∧
    t.slotOf n = { c with rect := r, err := if rectOk (r.setWidth 64) then 0 else 3 }) ∧
  (n ≠ 0 → c.st = .active → r ≠ c.rect → State.rectIn c.rect r = true →
    s.rectErr n r ((State.ctxSites r).filter fun p => !(State.ctxSites c.rect).contains p) = 0 →
    ∃ t, exec (.ctxrectWrite v) s = .next t ∧ t.slotOf n = { c with st := .growing, newRect := r, err := 0 }) ∧
  (n ≠ 0 → c.st = .active → r ≠ c.rect → State.rectIn c.rect r = false → State.rectIn r c.rect = true →
    ∃ t, exec (.ctxrectWrite v) s = .next t ∧ t.slotOf n = { c with st := .shrinking, newRect := r, err := 0 }) ∧
  (n ≠ 0 → c.st = .active → State.rectIn c.rect r = false → State.rectIn r c.rect = false →
    ∃ t, exec (.ctxrectWrite v) s = .next t ∧ t.slotOf n = { c with err := 3 }) ∧
  (slot ≠ 0 → e.st = .creating ∨ e.st = .growing → (∀ p ∈ new, (s.core p).scrub = none) → ∃ t, exec (.contextBound slot) s = .next t ∧
    (t.slotOf slot).st = .active ∧ (t.slotOf slot).rect = e.newRect ∧ ∀ p ∈ new, (t.core p).ctx = BitVec.ofNat 6 slot) ∧
  (slot ≠ 0 → e.st = .shrinking → s.groups = [] →
    (∀ p ∈ State.ctxSites e.rect, p ∉ new → (s.core p).tags.copies = [] ∧ (s.core p).eng = []) → ∃ t, exec (.contextShrunk slot) s = .next t ∧ (t.slotOf slot).st = .active ∧
    (t.slotOf slot).rect = e.newRect ∧ ∀ p ∈ State.ctxSites e.rect, p ∉ new → (t.core p).ctx = 0) ∧
  (slot ≠ 0 → e.st = .destroying → e.key.isSome → s.groups = [] → (∀ p ∈ State.ctxSites e.rect, (s.core p).tags.copies = [] ∧ (s.core p).eng = []) →
    (s.chan e.func.toNat).queue = [] → (s.chan e.func.toNat).injected = false → ∃ t, exec (.contextDestroyed slot) s = .next t ∧
      (t.slotOf slot).key = none ∧ ∀ p ∈ State.ctxSites e.rect, (t.core p).ctx = 0) ∧
  (slot ≠ 0 → e.st = .destroying → e.key = none → s.groups = [] →
    (∀ p ∈ State.ctxSites e.rect, (s.core p).scrub = none ∧ (s.core p).tags.copies = [] ∧ (s.core p).eng = []) →
    (s.chan e.func.toNat).queue = [] → (s.chan e.func.toNat).injected = false → ∃ t, exec (.contextDestroyed slot) s = .next t ∧ (t.slotOf slot).st = .free ∧ (t.slotOf slot).tenant = e.tenant ∧
      (t.slotOf slot).func = e.func ∧ (t.slotOf slot).rect = e.rect ∧ (t.slotOf slot).root = e.root) ∧
  (∀ due, (s.core site).scrub = some due → due ≤ s.time → ∃ t, exec (.scrubComplete site) s = .next t ∧ (t.core site).scrub = none ∧
    (∀ x, (t.core site).mem.bytes.byte x = 0) ∧ ∀ i, i < 4 → t.thread (4 * site + i) = State.initThread (4 * site + i))

/-- R300, R301, R321 to R324, R383: HFSEND queues the 64 bytes of its frame; a frame with room in the ring is written to host memory, DSEQ advances and an interrupt
is raised; a host frame in order is taken from the window and goes to its core, and one of an unknown type is refused; the channel's registers; BAR2, within its
size. That what a BAR2 write cannot do is recorded is the model's choice (log 61: R334 gives only that it is not performed). -/
def Obligations.HostEvents : Prop := ∀ (s : State) (k f slot pa len : Nat) (m : Msg) (v : Word) (w : BitVec 32) (z : BitVec 5) (frame : BitVec 512)
    (x : CtxSlot) (data : List Byte),
  let c := s.chan f
  let n := frameSeq frame
  let found := s.openSlot f = some x ∧ c.got.find? (fun x => frameSeq x == c.hseqack + 1) = some frame ∧ c.injected = false ∧ s.boot.st = .running
  (v.toNat % 64 = 0 → v.toNat % 2 ^ 19 + 64 ≤ 0x60000 → v.toNat / 2 ^ 19 % 128 = f → f ≤ 64 → s.openSlot f = some x →
    ∃ t, exec (.hfsendWrite v) s = .next t ∧ (t.chan f).queue = c.queue ++
      [{ body := BitVec.ofNat 512 (s.myCore.mem.read (v.toNat % 2 ^ 19) 64).1, sender := some s.ctx.key }]) ∧
  (∀ q rest, c.queue = q :: rest → (c.dseq + 1 - c.drhead).toNat ≤ 2 ^ c.drsize.toNat →
    let d := c.dseq + 1
    let body := State.frameField (State.frameField (q.body &&& ~~~(0xFFFF0000FFFFFFFF#512)) 0 4 d.toNat) 6 2 f
    ∃ t, exec (.deviceFrame f) s = .next t ∧ (t.chan f).queue = rest ∧ (t.chan f).dseq = d ∧ (t.chan f).irqs = c.irqs ++ [c.msixv] ∧
      t.host = s.host.store (c.drbase.toNat / 64 * 64 + 64 * (d.toNat % 2 ^ c.drsize.toNat)) 64 body.toNat) ∧
  (s.openSlot f = some x → n.toNat % 64 = slot % 64 → seqAbove n c.hseqack = true → seqAbove n (c.hseqack + 64) = false →
    ∃ t, exec (.frameWindowWrite f slot frame) s = .next t ∧ (t.chan f).got = (c.got.filter fun y => frameSeq y != n) ++ [frame]) ∧
  (found → x.st ≠ .destroying → frameGet frame 4 1 = 2 ∨ frameGet frame 4 1 = 3 → ∃ t, exec (.hostframeInject f) s = .next t ∧
    (t.chan f).injected = true) ∧
  (found → frameGet frame 4 1 = 0 ∨ 3 < frameGet frame 4 1 → ∃ t, exec (.hostframeInject f) s = .next t ∧ (t.chan f).hseqack = c.hseqack + 1) ∧
  (∀ site, s.deliver k = some m → m.typ = MT.hostframe → m.cls = .req → m.dest = .core site → s.boot.st = .running → s.waitsTurn site m = true →
    exec (.hostframe k) s = .next (s.offer site m)) ∧
  (∀ site, s.deliver k = some m → m.typ = MT.hostframe → m.cls = .req → m.dest = .core site → s.boot.st = .running → s.waitsTurn site m = false →
    exec (.hostframe k) s = .next (let u := s.dropMsg k
      if u.present site = false then (u.acceptMsg m).reply m 2
      else if u.tenantOk site m = false then (u.acceptMsg m).reply m 3
      else (u.wake site).acceptRaw site m)) ∧
  (∀ t0, c.gapSince = some t0 → c.gapSent = false → 2 ^ 20 ≤ (s.time - t0).toNat → ∃ t, exec (.gap f) s = .next t ∧ (t.chan f).gapSent = true) ∧
  ((s.funcSlot f).isSome →
    (∃ t, exec (.drheadWrite f w) s = .next t ∧ (t.chan f).drhead = w) ∧
    (c.dseq = c.drhead → ∃ t, exec (.drbaseWrite f v) s = .next t ∧ (t.chan f).drbase = v) ∧
    (c.dseq = c.drhead → 6 ≤ z.toNat → z.toNat ≤ 16 → ∃ t, exec (.drsizeWrite f z) s = .next t ∧ (t.chan f).drsize = z) ∧
    (c.dseq ≠ c.drhead → exec (.drbaseWrite f v) s = .next s ∧ exec (.drsizeWrite f z) s = .next s)) ∧
  ((s.funcSlot f).isNone → exec (.drheadWrite f w) s = .next s ∧ exec (.drbaseWrite f v) s = .next s ∧ exec (.drsizeWrite f z) s = .next s) ∧
  (2 ^ (30 + s.boot.bar2) < pa + len → ∀ wr, exec (.bar2Access wr pa len data) s = .next s) ∧
  (pa + len ≤ 2 ^ (30 + s.boot.bar2) → linesOf pa len = [(pa, 0, len)] →
    let put := s.hbm.write 1 pa len (bytesNat (data.take len) % 2 ^ (8 * len)) false
    let u := s.mendSeen 0 1 pa len true
    exec (.bar2Access false pa len data) s = .next (s.secSeen 0 1 pa len) ∧
    (s.hbm.flaws 1 pa len false = [] → s.hbm.mended 1 pa len = [] → exec (.bar2Access false pa len data) s = .next s) ∧
    (put = none → exec (.bar2Access true pa len data) s = .next (u.flawSeen 0 (s.hbm.flaws 1 pa len true))) ∧
    ∀ h, put = some h → exec (.bar2Access true pa len data) s = .next { u with hbm := { h with rowErr := u.hbm.rowErr } })

/-- R340 to R342, R344, R345, R348, R350, R356: the route table and NODEID are written; a port that is switched off is DOWN; training sequences fix the peer and the
directions; a lane that has trained works or has failed; an expected link flit is accepted and any other is not; a port without progress replays; the slots
of a DOWN port leave by a detour; a marker is counted while its tenant's maps change. The model's choices: both ends agree once one that has been heard
transmits (log 100); a port that is off does not train (log 64); the flits of a DOWN port keep their numbers, with no slot used (log 66); the class that a
forwarded marker drains (log 69). -/
def Obligations.LinkEvents : Prop := ∀ (s : State) (k p l : Nat) (m : Msg) (v : Word) (seq : TrainSeq) (good : Bool) (flit : LinkFlit), p < 36 →
  let q := s.port p
  (let i := s.myCore.sel.rtidx
   ∃ t, exec (.rtdataWrite v) s = .next t ∧ t.myCore.sel.rtidx = i + 1 ∧
     (i.toNat < 1057 → Map.get (fun _ => 0) t.routes i.toNat = v.setWidth 14) ∧
     ∀ j, j ≠ i.toNat → Map.get (fun _ => 0) t.routes j = Map.get (fun _ => 0) s.routes j) ∧
  (∃ t, exec (.nodeidWrite v) s = .next t ∧ t.nodeId = v.setWidth 11) ∧
  (v.extractLsb' 34 2 = 2 → q.agreed = false → ∃ t, exec (.portctlWrite p v) s = .next t ∧ (t.port p).st = .down ∧ (t.port p).role = 2 ∧
    (t.port p).en = v.extractLsb' 8 8 ∧ (t.port p).dir = v.extractLsb' 0 8) ∧
  (q.agreed = true → v.extractLsb' 8 8 ≠ q.en ∨ v.extractLsb' 0 8 ≠ q.dir → q.work &&& v.extractLsb' 8 8 &&& v.extractLsb' 0 8 = 0 →
    exec (.portctlWrite p v) s = .next s) ∧
  (∀ due, Map.find q.draws l = some due → q.agreed = false → q.turning.getLsbD l = true → due ≤ s.time →
    ∃ t, exec (.trainingBackoff p l) s = .next t ∧ Map.find (t.port p).trained l = some ⟨s.nodeId, q.en, q.dir⟩ ∧
      (t.port p).agreed = q.heard) ∧
  (q.agreed = false → q.heard = false → q.turning.getLsbD l = true → seq.node.toNat < 1057 → ∃ t, exec (.trainingSequence p l seq) s = .next t ∧
    (t.port p).heard = true ∧ (t.port p).agreed = false ∧ (t.port p).peer = seq.node ∧
    (t.port p).dir = if s.nodeId.toNat < seq.node.toNat then q.dir else ~~~seq.dir &&& q.en &&& seq.en) ∧
  (q.agreed = false → q.heard = true → q.turning.getLsbD l = true → seq.node.toNat < 1057 → ∃ t, exec (.trainingSequence p l seq) s = .next t ∧
    (t.port p).peer = q.peer ∧ (t.port p).dir = q.dir ∧ ∃ due, Map.find (t.port p).draws l = some due) ∧
  (l < 8 → s.nodeId.toNat < 1057 → q.agreed = true → q.turning.getLsbD l = true → q.carried = [] → ∃ t, exec (.laneRetrain p l good) s = .next t ∧
    (t.port p).work.getLsbD l = good ∧ (t.port p).fail.getLsbD l = !good ∧ (t.port p).turning.getLsbD l = false) ∧
  (q.agreed = true → q.rx ≠ 0 → Wire.good flit = false ∨ Wire.seq flit ≠ q.expect →
    ∃ t, exec (.linkFlit p flit) s = .next t ∧ (t.port p).expect = q.expect ∧ t.net = s.net) ∧
  (q.agreed = true → q.rx ≠ 0 → Wire.good flit = true → Wire.seq flit = q.expect → Wire.used flit = 0 → Wire.nak flit = false →
    ∃ t, exec (.linkFlit p flit) s = .next t ∧ (t.port p).expect = q.expect + 1) ∧
  (q.st = .up → q.buf ≠ [] → q.progress + 4096 ≤ s.time → exec (.linkResendTimeout p) s = .next (s.replay p)) ∧
  (q.st = .down → q.toSend ≠ [] ∨ (∃ e ∈ q.buf, Wire.used e.1 ≠ 0) →
    let items := (q.buf.flatMap fun e => Wire.slots e.1) ++ q.toSend.map fun e => (e.1, e.2.1)
    exec (.portDown p) s = .next (items.foldl (fun u e => match u.sendFlits (tagDest e.1) [e] with
      | some v => v
      | none => u.noPath e.1 e.2) (s.modPort p fun x => { x with toSend := [], buf := x.buf.map fun e => (Wire.emptied e.1, 0) }))) ∧
  (s.deliver k = some m → m.typ = MT.marker → m.dest = .gate → s.mustRefuse m = false → s.stillComing m = false →
    let u := (s.dropMsg k).acceptMsg m
    let t := u.tmap m.tenant
    let lost := Map.find (State.oldVer t) (m.spec.toNat % 2048) == some u.nodeId
    let mk := ((Map.find (State.oldVer t) m.src.dev.toNat).getD 0x7FF, State.drains m lost, m.spec.toNat % 2048)
    exec (.marker k) s = .next (if t.st = .stable then u
      else ((u.modMaps m.tenant fun x => { x with got := x.got ++ [mk] }).releaseHeld m.tenant 0).settleMaps m.tenant))

/-- R336, R370, R372, R376 to R378, R382, R390, R391: the power monitor sets the throttle; an idle core without a context is gated; a supply that falls below the threshold (an input: log 108) is
recorded once until its detector is re-armed; a trace record is drained to its ring; TRTAIL and DBGCTL take what they may; a row of device memory is repaired; a checkpoint walks its range. -/
def Obligations.PowerAndDebugEvents : Prop := ∀ (s : State) (k die det : Nat) (v : Word),
  let c := s.core k
  (∃ t, exec (.powerLimit det) s = .next t ∧ t.throttled = decide (s.pwrlim.toNat < det)) ∧
  (s.active k = true → c.gated = false → c.gateHold = none → c.ctx = 0 → s.hasMember k = false → c.ran + 65536 ≤ s.time →
    ∃ t, exec (.powerGate k) s = .next t ∧ (c.trace.buf = [] → (t.core k).gated = true) ∧
      (c.trace.buf ≠ [] → (t.core k).gated = false ∧ (t.core k).gateHold = some (s.time + 2048))) ∧
  (∀ due, c.gateHold = some due → due ≤ s.time → ∃ t, exec (.gateDrainTimeout k) s = .next t ∧ (t.core k).gated = true ∧ (t.core k).trace.buf = [] ∧
    (t.core k).trace.lost = (c.trace.lost + c.trace.buf.length) % 2 ^ 32) ∧
  (die < 4 → det < 16 → (s.die die).drpctl.getLsbD 8 = true → Map.find (s.die die).fired det = none →
    (s.die die).drpctl.toNat % 256 < (Map.find (s.die die).supply det).getD 0 →
    ∃ t, exec (.droop die det) s = .next t ∧ Map.find (t.die die).fired det = some s.time) ∧
  ((Map.find (s.die die).supply det).getD 0 ≤ (s.die die).drpctl.toNat % 256 → exec (.droop die det) s = .next s) ∧
  (∀ t0, die < 4 → Map.find (s.die die).fired det = some t0 → t0 + 65536 ≤ s.time →
    ∃ t, exec (.droopRearm die det) s = .next t ∧ Map.find (t.die die).fired det = none) ∧
  (∀ r h, c.trace.buf = [r] → 32 ≤ c.trace.ringSize - c.trace.inRing →
    s.hbm.write 1 (c.trace.trbase.toNat + c.trace.trhead.toNat % c.trace.ringSize) 32 r.toNat false = some h → ∃ t, exec (.traceDrain k) s = .next t ∧
      (s.hbm.mended 1 (c.trace.trbase.toNat + c.trace.trhead.toNat % c.trace.ringSize) 32 true = [] → t.hbm = { h with rowErr := s.hbm.rowErr }) ∧
      (c.trace.lost = 0 → (t.core k).trace.buf = []) ∧ (t.core k).trace.lost = 0 ∧ (t.core k).trace.trhead = BitVec.ofNat 64 ((c.trace.trhead.toNat + 32) % 2 ^ 32)) ∧
  (let old := s.myCore.trace
   let new := { old with trtail := v &&& 0xFFFFFFE0 }
   ∃ t, exec (.trtailWrite v) s = .next t ∧ t.myCore.trace = if new.inRing ≤ new.ringSize then new else old) ∧
  (∃ t, exec (.dbgctlWrite v) s = .next t ∧ t.myCore.trace.dbgctl.getLsbD 0 = v.getLsbD 0 ∧
    t.myCore.trace.dbgctl.getLsbD 2 = (s.myCore.trace.dbgctl.getLsbD 2 && !v.getLsbD 2)) ∧
  (die < 8 → 4 ≤ Map.get (fun _ => 0) s.hbm.rowErr (8 * det + die) → ∃ t, exec (.hbmRowRepair die det) s = .next t ∧
    t.rows = s.rows ++ [(die, det)] ∧ t.hbm = s.hbm.repaired (8 * det + die)) ∧
  (Map.get (fun _ => 0) s.hbm.rowErr (8 * det + die) < 4 → exec (.hbmRowRepair die det) s = .next s) ∧
  (∀ x, s.ckpts.find? (fun x => x.slot == k) = some x → x.await = 0 →
    let e := s.slotOf k
    (∀ st, x.ending = some st → exec (.ckptWalk k) s = .next ((s.ckptResolve x st).dropCkpt k)) ∧
    (x.ending = none → s.keyOf e.tenant = none → exec (.ckptWalk k) s = .next (s.ckptEnd x 1)) ∧
    (∀ key l, x.ending = none → s.keyOf e.tenant = some key → x.cur = some l → l.clear = true → exec (.ckptWalk k) s = .next (s.ckptUnit x l key)) ∧
    (∀ key, x.ending = none → s.keyOf e.tenant = some key → x.cur = none →
      s.nextLeaf e.root.toNat x.upto (x.mode == 2) ((x.upto - x.va) / 65536 + 1) x.va = none → exec (.ckptWalk k) s = .next (s.ckptEnd x 0)))

/-! ### The frame of instructions that compute, and of accesses at issue -/

/-- The destination registers of the instructions that only compute: integer, F32, vector and mask instructions that complete at issue, the
instructions on address registers, jumps and branches; x1 is the link register of JAL. None for the other instructions. -/
def Sys2Proof.Part.dests : Instr → Option (List RegRef)
  | .add d _ _ | .sub d _ _ | .and d _ _ | .or d _ _ | .xor d _ _ | .sll d _ _ | .srl d _ _ | .sra d _ _ | .slt d _ _ | .sltu d _ _
  | .mul d _ _ | .mulh d _ _ | .mulhu d _ _ | .div d _ _ | .divu d _ _ | .rem d _ _ | .remu d _ _ | .min d _ _ | .max d _ _
  | .minu d _ _ | .maxu d _ _ | .fmin d _ _ | .fmax d _ _ => some [.x d.toNat]
  | .clz d _ | .ctz d _ | .popc d _ => some [.x d.toNat]
  | .addi d _ _ | .andi d _ _ | .ori d _ _ | .xori d _ _ | .slti d _ _ => some [.x d.toNat]
  | .slli d _ _ | .srli d _ _ | .srai d _ _ => some [.x d.toNat]
  | .lui d _ | .lcat d _ => some [.x d.toNat]
  | .fadd d _ _ _ | .fsub d _ _ _ | .fmul d _ _ _ | .fdiv d _ _ _ => some [.x d.toNat]
  | .fma d _ _ _ => some [.x d.toNat]
  | .fsqrt d _ _ | .fcvti d _ _ | .fcvtf d _ _ => some [.x d.toNat]
  | .fcmp d _ _ _ => some [.x d.toNat]
  | .vadd d _ _ _ _ _ | .vsub d _ _ _ _ _ | .vmul d _ _ _ _ _ | .vmin d _ _ _ _ _ | .vmax d _ _ _ _ _ | .vand d _ _ _ _ _
  | .vor d _ _ _ _ _ | .vxor d _ _ _ _ _ | .vsll d _ _ _ _ _ | .vsrl d _ _ _ _ _ | .vsra d _ _ _ _ _ => some [.v d.toNat]
  | .vabs d _ _ _ _ | .vneg d _ _ _ _ => some [.v d.toNat]
  | .vma d _ _ _ _ => some [.v d.toNat]
  | .vsel d _ _ _ _ => some [.v d.toNat]
  | .vmov d _ _ _ => some [.v d.toNat]
  | .vbcast d _ _ _ => some [.v d.toNat]
  | .vins d _ _ _ => some [.v d.toNat]
  | .vext d _ _ _ _ => some [.x d.toNat]
  | .vwadd d _ _ _ _ _ | .vwmul d _ _ _ _ _ | .vwma d _ _ _ _ _ => some [.v d.toNat, .v (d.toNat + 1)]
  | .vnarrow d _ _ _ _ => some [.v d.toNat]
  | .vcvt d _ st _ dt _ _ _ => some ((List.range (max 1 (dt.width / st.width))).map fun k => .v (d.toNat + k))
  | .vplane d _ => some [.v d.toNat]
  | .vunplane d _ _ _ _ => some [.v d.toNat]
  | .vquant d _ _ _ _ _ => some [.v d.toNat]
  | .vrsum d _ _ _ _ | .vrmax d _ _ _ _ => some [.x d.toNat]
  | .vperm d _ _ _ _ => some [.v d.toNat]
  | .vslide d _ _ _ _ => some [.v d.toNat]
  | .vrand d _ _ => some [.v d.toNat]
  | .vdot4 d _ _ _ _ => some [.v d.toNat]
  | .vcmp d _ _ _ _ _ => some [.m d.toNat]
  | .mand d _ _ | .mor d _ _ | .mxor d _ _ => some [.m d.toNat]
  | .mnot d _ => some [.m d.toNat]
  | .mpop d _ _ | .mfirst d _ _ => some [.x d.toNat]
  | .mfromx d _ _ => some [.m d.toNat]
  | .amov d _ => some [.a d.toNat]
  | .anarrow d _ _ _ => some [.a d.toNat]
  | .aadd d _ _ | .asetp d _ _ => some [.a d.toNat]
  | .aaddi d _ _ => some [.a d.toNat]
  | .amake d _ _ => some [.a d.toNat]
  | .agetp _ x | .agetb _ x | .agetl _ x | .aperm _ x => some [.x x.toNat]
  | .j _ => some []
  | .jal _ => some [.x 1]
  | .jalr d _ _ => some [.x d.toNat]
  | .beq _ _ _ | .bne _ _ _ | .blt _ _ _ | .bge _ _ _ | .bltu _ _ _ | .bgeu _ _ _ => some []
  | .bany _ _ | .bnone _ _ => some []
  | .nop | .anop => some []
  | _ => none

/-- The frame of an instruction that only computes, written lone: no register but its destinations changes; VFLAGS only gain flags and no other control
register changes; of the counters only ISSUED and the watchdog move; no byte of any memory, no tile row, and no other thread changes. -/
def Obligations.ComputeFrame : Prop := ∀ (i : Instr) (l : List RegRef) (s t : State),
  Part.dests i = some l → s.ctx.form = .lone → exec i s = .next t → t.ctx.last = .done →
  (∀ r : XReg, .x r.toNat ∉ l → t.cur.getX r = s.cur.getX r) ∧ (∀ r : VReg, .v r.toNat ∉ l → t.cur.getV r = s.cur.getV r) ∧
  (∀ r : AReg, .a r.toNat ∉ l → t.cur.getA r = s.cur.getA r) ∧ (∀ r : MReg, .m r.toNat ∉ l → t.cur.getM r = s.cur.getM r) ∧
  t.cur.ctl.vflags &&& s.cur.ctl.vflags = s.cur.ctl.vflags ∧ { t.cur.ctl with vflags := s.cur.ctl.vflags } = s.cur.ctl ∧
  { t.cur.sys with issued := s.cur.sys.issued, wdog := s.cur.sys.wdog } = s.cur.sys ∧ t.cur.sup = s.cur.sup ∧
  (∀ c, (t.core c).acc = (s.core c).acc ∧ ∀ a, (t.core c).mem.bytes.byte a = (s.core c).mem.bytes.byte a) ∧
  t.hbm = s.hbm ∧ t.host = s.host ∧ ∀ k, k ≠ s.ctx.key → t.thread k = s.thread k

/-- The frame of a load, a store, a full-empty access or an atomic at its issue, written lone: no register but its pointer changes, and no byte of a local
memory or of host memory (the bytes a store writes are written when it is performed, by OwnAccesses and RequestsAtHomes). -/
def Obligations.AccessFrame : Prop := ∀ (i : Instr) (c : Acc) (s t : State),
  accOf s.entered i = some c → s.ctx.form = .lone → exec i s = .next t → t.ctx.last = .done →
  t.cur.regs.x = s.cur.regs.x ∧ t.cur.regs.v = s.cur.regs.v ∧ t.cur.regs.m = s.cur.regs.m ∧ (∀ r, r ≠ c.a → t.cur.getA r = s.cur.getA r) ∧
  (c.chk.adv = none → t.cur.getA c.a = s.cur.getA c.a) ∧ (∀ n, c.chk.adv = some n → t.cur.getA c.a = { s.cur.getA c.a with ptr := BitVec.ofInt 64 n }) ∧
  t.cur.ctl = s.cur.ctl ∧ t.host = s.host ∧ ∀ k a, (t.core k).mem.bytes.byte a = (s.core k).mem.bytes.byte a

/-- R21: x0 reads as zero, and a write to it changes no register; a write to another register changes that one alone. -/
def Obligations.ZeroRegister : Prop := ∀ (u : State) (d r : XReg) (v : Word),
  u.cur.getX 0 = 0 ∧ (u.wx 0 v).cur.regs = u.cur.regs ∧ (d ≠ 0 → (u.wx d v).cur.getX d = v) ∧ (r ≠ d → (u.wx d v).cur.getX r = u.cur.getX r) ∧
  (u.wx d v).cur.regs.v = u.cur.regs.v ∧ (u.wx d v).cur.regs.a = u.cur.regs.a ∧ (u.wx d v).cur.regs.m = u.cur.regs.m

/-! ### Bundles: framing, pairs, waits, privilege -/

/-- R38, R54: the framing of the words at the pc, before any decoding; a word that no table defines raises ILLEGAL. FRAMING leaves the pc in EPC, the word in
EVAL and the slot bit 0, at once where nothing is outstanding and otherwise when TRAP_ENTRY finds it so. -/
def Obligations.Framing : Prop := ∀ (s u : State) (w0 w1 : IWord),
  let faults := fun (v : State) (w : IWord) => v.raised { cause := .framing, slot := false, val := w.setWidth 64 }
  let rep := isA w0 = false ∧ major w0 = 6
  let second := ({ s with ctx := { s.ctx with next := s.ctx.pc + 8 } }).fetchWord (s.ctx.pc + 4) = .word w1 u
  let pair := isA w0 = false ∧ isLone w0 = false ∧ major w0 ≠ 6
  (isA w0 = true → isLone w0 = false → s.frame w0 = faults s w0) ∧
  (rep → isLone w0 = false → s.frame w0 = faults s w0) ∧
  (rep → isLone w0 = true → second → isA w1 = false ∨ isLone w1 = false → s.frame w0 = faults u w1) ∧
  (rep → isLone w0 = true → second → isA w1 = true → isLone w1 = true → s.frame w0 = u.issueRep w0 w1) ∧
  (isLone w0 = true → ¬rep → s.frame w0 = s.issueLone w0) ∧
  (pair → s.ctx.pc.getLsbD 2 = true → s.frame w0 = faults s w0) ∧
  (pair → s.ctx.pc.getLsbD 2 = false → second → isA w1 = false ∨ isLone w1 = true → s.frame w0 = faults u w1) ∧
  (pair → s.ctx.pc.getLsbD 2 = false → second → isA w1 = true → isLone w1 = false → s.frame w0 = u.decodePair w0 w1) ∧
  (∀ e, decodeWord w0 = .error e → s.issueLone w0 = s.raised { cause := .illegal, slot := false, val := w0.setWidth 64 }) ∧
  (∀ (v : State) (w : IWord), (v.cur.consume { cause := .framing, slot := false, val := w.setWidth 64 }).quiet = true → ∃ t, faults v w = .next t ∧
    t.cur.sys.epc = v.ctx.pc ∧ t.cur.sys.eval = w.setWidth 64 ∧ t.cur.sys.ecause = 2 ∧ t.cur.regs = v.cur.regs)

/-- R29, R30, R242: a slot whose registers a window, a scoreboard entry or a hold bit guards is held: the state stays as it was. -/
def Sys2Proof.Part.HeldSlot : Prop := ∀ (i : Instr) (s : State), (encode true i).isSome → mustWait i s = true → exec i s = .next (s.ended .wait)

/-- R40 to R42: the slots of a pair run one after the other on one copy of the registers; where neither waits and neither faults the bundle is complete with the
effects of both; where one faults the bundle has no effect but its trap, of two faults the one of the lower rank, the C-slot's on a tie; two writes of one
register are such a fault; where one waits the bundle waits, and a wait that asks another agent begins only where no fault of the bundle is known. -/
def Sys2Proof.Part.PairOfSlots : Prop := ∀ (s s1 s2 : State) (c a : Instr) (wc wa : IWord) (t : Trap),
  let u := s.openBundle
  let v := (if s1.ctx.last = .done then s1 else u).withWord .aslot wa
  let clash := s.pairConflict c a wa
  let first := fun (x y : Trap) => if y.cause.rank < x.cause.rank then y else x
  let calm := mustWait c u = false ∧ mustWait a v = false
  exec c (u.withWord .cslot wc) = .next s1 → exec a v = .next s2 →
  (calm → s1.ctx.last = .done → s2.ctx.last = .done → clash = [] → s.issuePair c a wc wa = .next ((s2.retire.leaveNow s.ctx.key).ended .done)) ∧
  (calm → s1.ctx.last = .done → s2.ctx.last = .raise t → clash = [] → s.issuePair c a wc wa = s.raised t) ∧
  (calm → s1.ctx.last = .done → s2.ctx.last = .done → clash = [t] → s.issuePair c a wc wa = s.raised t) ∧
  (∀ q, calm → s1.ctx.last = .done → s2.ctx.last = .raise t → clash = [q] → s.issuePair c a wc wa = s.raised (first t q)) ∧
  (calm → s1.ctx.last = .raise t → s2.ctx.last = .done → clash = [] → s.issuePair c a wc wa = s.raised t) ∧
  (∀ q, calm → s1.ctx.last = .raise t → s2.ctx.last = .done → clash = [q] → s.issuePair c a wc wa = s.raised (first t q)) ∧
  (∀ q, calm → s1.ctx.last = .raise t → s2.ctx.last = .raise q → clash = [] → s.issuePair c a wc wa = s.raised (first t q)) ∧
  (calm → s1.ctx.last = .wait → waitActs c = false → s.issuePair c a wc wa = exec c (s.withWord .cslot wc)) ∧
  (calm → s1.ctx.last = .wait → waitActs c = true → s2.ctx.last = .done → clash = [] → s.issuePair c a wc wa = exec c (s.withWord .cslot wc)) ∧
  (calm → s1.ctx.last = .wait → waitActs c = true → s2.ctx.last = .raise t → clash = [] → s.issuePair c a wc wa = s.raised t) ∧
  (calm → s1.ctx.last ≠ .wait ∨ waitActs c = true → s2.ctx.last = .wait → s.issuePair c a wc wa = exec a (s.withWord .aslot wa)) ∧
  (¬calm → s.issuePair c a wc wa = .next (s.ended .wait)) ∧
  (∀ r, r ∈ writesOf c → r ∈ writesOf a → State.windowed c = [] →
    clash = [{ cause := .operand, slot := true, val := wa.setWidth 64 }]) ∧
  (s.raiseTrap t).cur.regs = s.cur.regs

/-- R29, R30, R40 to R42: waits and pairs. -/
def Obligations.PairsAndWaits : Prop := Part.HeldSlot ∧ Part.PairOfSlots

/-- A privileged encoding in user mode raises PRIVILEGE with EVAL = the word, alone or in a pair, unless an error that an earlier instruction left is of a cause
before PRIVILEGE. -/
def Sys2Proof.Part.PrivilegedWords : Prop := ∀ (i : Instr) (s : State),
  (i = .eret ∨ (∃ d b r, i = .amake d b r) ∨ (∃ d s, i = .gnew d s ∨ i = .gpark d s ∨ i = .grun d s) ∨
    (∃ d s t, i = .gplace d s t ∨ i = .gadd d s t ∨ i = .gdrop d s t ∨ i = .gmove d s t ∨ i = .gend d s t ∨ i = .barcfg d s t) ∨
    (∃ s t, i = .tlbinv s t ∨ i = .icinv s t) ∨ (∃ d s, i = .ckpt d s ∨ i = .errclr d s) ∨
    (∃ d s t, i = .coreret d s t ∨ i = .mapsetStat d s t ∨ i = .mapsetLoad d s t ∨ i = .mapsetSwitch d s t ∨ i = .mapsetOpen d s t) ∨
    (∃ d s, i = .keyslotStat d s ∨ i = .keyslotGen d s ∨ i = .keyslotErase d s)) →
  s.src.sup = false → mustWait i s = false →
  (∀ o ∈ s.src.outst, ∀ e, o.err = some e → 2 ≤ e.cause.rank) → (∀ m ∈ s.src.marks, 2 ≤ m.cause.rank) →
  exec i s = .next (s.trapped (s.trapOf .privilege (s.ctx.word.setWidth 64)))

/-- R50: the privileged encodings in user mode; a control-register instruction that names a supervisor register raises PRIVILEGE with EVAL = the register's
number. A trap changes no register. -/
def Obligations.Privilege : Prop := Part.PrivilegedWords ∧
  (∀ (i : Instr) (x : XReg) (cr : BitVec 12), (i = .crr x cr ∨ i = .crw x cr ∨ i = .crset x cr ∨ i = .crclr x cr) →
    Traps i (fun u => u.src.sup = false ∧ (0x800 ≤ cr.toNat ∨ crAssigned cr.toNat = true ∧ crSup cr.toNat = true)) .privilege
      (fun _ => BitVec.ofNat 64 cr.toNat)) ∧
  (∀ (s : State) (t : Trap), (s.trapped t).cur.regs = s.cur.regs)

/-! ### The step, the encodings, the whole machine -/

/-- R38 to R42, R54: a thread's turn fetches the word at its pc and runs the instruction it decodes to: a lone word by exec, a pair and a REP unit by their two
words; a word that decodes to nothing raises ILLEGAL; a bundle whose messages its Referee has no room for waits (R368); an expired watchdog takes the turn of the bundle; an event of the agenda runs its row; a word of clean local memory is its four bytes, the lowest first. -/
def Obligations.StepRunsDecoded : Prop := ∀ (s : State) (d site thr : Nat) (r : List (Nat × Turn)) (w : IWord) (v : State),
  let u := ({ s with agenda := r }).elapse d
  let key := 4 * site + thr % 4
  let pc := (u.thread key).pc
  let b := u.begun key pc 4
  let turn := s.agenda = (d, .issue site thr) :: r ∧ u.throttled = false ∧ (u.thread key).leave = none ∧ u.mayIssue key = true ∧
    (u.thread key).duplex = none ∧
    (u.thread key).expired = false ∧ (u.thread key).rep = none ∧ b.fetchWord pc = .word w v
  let after := fun (t : State) => if u.refereeFull t key = true then u else t.noted key pc
  let lone := isLone w = true ∧ (isA w = true ∨ major w ≠ 6)
  let second := fun (w1 : IWord) (v1 : State) => ({ v with ctx := { v.ctx with next := v.ctx.pc + 8 } }).fetchWord (v.ctx.pc + 4) = .word w1 v1
  (∀ i t, turn → lone → decodeWord w = .ok i → exec i (v.withWord .lone w) = .next t → step s = .next (after t)) ∧
  (∀ e t, turn → lone → decodeWord w = .error e → v.raised { cause := .illegal, slot := false, val := w.setWidth 64 } = .next t →
    step s = .next (after t)) ∧
  (∀ w1 v1 c a t, turn → isA w = false → isLone w = false → major w ≠ 6 → v.ctx.pc.getLsbD 2 = false → second w1 v1 → isA w1 = true → isLone w1 = false →
    decodeWord w = .ok c → decodeWord w1 = .ok a → v1.issuePair c a w w1 = .next t → step s = .next (after t)) ∧
  (∀ w1 v1 i t, turn → isA w = false → isLone w = true → major w = 6 → second w1 v1 → isA w1 = true → isLone w1 = true → decodeWord w = .ok i →
    exec i { v1.withWord .lone w with ctx := { (v1.withWord .lone w).ctx with word2 := w1 } } = .next t → step s = .next (after t)) ∧
  (s.agenda = (d, .issue site thr) :: r → u.throttled = false → (u.thread key).leave = none → u.mayIssue key = true →
    (u.thread key).expired = true → step s = exec (.watchdog site (key % 4)) u) ∧
  (∀ e i, s.agenda = (d, .event e) :: r → (∀ x : State, e.perform x = exec i x) → step s = exec i u) ∧
  (pc.toNat + 4 ≤ 0x60000 → pc.toNat % 4 = 0 → (u.core site).icache = [] → (u.core site).mem.pois = [] →
    ∃ x : State, b.fetchWord pc = .word (BitVec.ofNat 32 ((u.core site).mem.bytes.load pc.toNat 4)) x ∧ x.threads = u.threads ∧
      ∀ c a, (x.core c).mem.bytes.byte a = (u.core c).mem.bytes.byte a)

/-- A few words of the spec's encoding tables, written out, decode to the instructions they stand for, and what no table defines is refused. -/
def Obligations.DecodeWords : Prop :=
  decodeWord 0x14288098 = .ok (.lds 5 1 0 2 3 0) ∧ decodeWord 0x8018E800 = .ok (.add 6 7 8) ∧ decodeWord 0x40000000 = .ok .nop ∧
  decodeWord 0xFF800000 = .ok .anop ∧ decodeWord 0x75350002 = .ok (.errclr 6 20) ∧ decodeWord 0x6D1A4464 = .ok (.rstv 3 9 4 12 true) ∧
  decodeWord 0x6A2C0DE0 = .ok (.hwait 5 16 6 15) ∧ decodeWord 0x63A09501 = .ok (.mtile 20 4 42 false false 1) ∧
  decodeWord 0x5B39A179 = .ok (.atomCas 7 3 8 .package 3) ∧ decodeWord 0x40200C02 = .ok (.fence .group .rel) ∧
  decodeWord 0x60567000 = .ok (.copy 5 6 14 0 0) ∧ decodeWord 0x683B062A = .ok (.inv 7 12 3 5 .m false) ∧
  decodeWord 0x47000000 = .error .reservedMajor ∧ decodeWord 0xFFFFFFFF = .error .reservedField ∧ decodeWord 0x34000009 = .error .reservedFunction ∧
  decodeWord 0xBBC00000 = .error .reservedOpcode

/-- Decode undoes encode: the word of every well-formed instruction, lone or paired, decodes to it, whatever its operands; the rows of MAPSET and of KEYSLOT
share a word, and decode to the first of them. -/
def Obligations.DecodeEncode : Prop := ∀ (l : Bool) (i : Instr) (w : IWord), i.wf = true → encode l i = some w → decodeWord w = .ok i.base

/-- Encode undoes decode: a word that decodes to an instruction is the word of that well-formed instruction, with the same bit L, so that no bit of a defined word
is left unread; a paired REP word, which framing refuses, is the one word that has no instruction. -/
def Obligations.EncodeDecode : Prop := ∀ (w : IWord) (i : Instr), decodeWord w = .ok i →
  i.wf = true ∧ (encode (isLone w) i = some w ∨ (isA w = false ∧ major w = 6 ∧ isLone w = false))

/-- The machine never stops: every state has a next one; neither a fault nor a refusal ends a run. -/
def Obligations.NeverStops : Prop := ∀ s : State, s.safe

/-- Every step keeps the memories in their canonical form. -/
def Obligations.MemoryForm : Prop := ∀ s t : State, s.memWf → step s = .next t → t.memWf

/-- R308: the state at reset: memories in canonical form, the boot ROM's copy and zeros in local memory, empty instruction caches, registers at their reset values
(m0 always reads all ones, R25), PHYSXY the site code, every thread idle; the image waited for. -/
def Obligations.ResetState : Prop :=
  let r := State.reset
  r.memWf ∧ r.time = 0 ∧ r.boot.st = .wait ∧
  (∀ site a, (r.core site).mem.bytes.byte a = (if a < 0x1000 then romByte a else 0) ∧ (r.core site).icache = [] ∧ (r.core site).ctx = 0) ∧
  ∀ key, let t := r.thread key
    t.running = false ∧ t.act = none ∧ t.res = none ∧ (∀ x, t.getX x = 0) ∧ (∀ v, t.getV v = 0) ∧ (∀ m, m ≠ 0 → t.getM m = 0) ∧ t.getM 0 = BitVec.allOnes 1024 ∧ t.ctl.vallot = 32 ∧
    t.ctl.physxy = BitVec.ofNat 12 (key / 4) ∧ t.ctl.tgen = BitVec.allOnes 64 ∧ t.ctl.bartmo = 0x01000000 ∧ t.ctl.vflags = 0 ∧ t.sys.tvec = 0 ∧
    t.sys.issued = 0
end

