-- ==== Sys2Proof/Laws/Event.lean ====
section
/-! SUPPORT. An event of the agenda is a row of the opcode table: performing it is executing that row. -/

namespace Sys2Proof.Machine

/-- The row of an event. -/
noncomputable def Event.instr : Event → Instr
  | .trapEntry a b => .trapEntry a b
  | .regionRestart a b => .regionRestart a b
  | .watchdog a b => .watchdog a b
  | .accessComplete a b c => .accessComplete a b c
  | .load a => .load a
  | .store a => .store a
  | .atomic a => .atomic a
  | .loadfe a => .loadfe a
  | .storefe a => .storefe a
  | .loadResponse a => .loadResponse a
  | .ack a => .ack a
  | .nack a => .nack a
  | .retry a => .retry a
  | .retryResend a => .retryResend a
  | .retryListReoffer a b => .retryListReoffer a b
  | .translationWalk a b => .translationWalk a b
  | .sfuStart a => .sfuStart a
  | .sfuComplete a => .sfuComplete a
  | .mmComplete a b => .mmComplete a b
  | .matrixDispatch a => .matrixDispatch a
  | .kstepEnd a => .kstepEnd a
  | .matrixCommandComplete a => .matrixCommandComplete a
  | .matrixAgeing a b => .matrixAgeing a b
  | .copyLine a b => .copyLine a b
  | .copydata a => .copydata a
  | .mcastMsg a => .mcastMsg a
  | .copyComplete a b => .copyComplete a b
  | .invMsg a => .invMsg a
  | .invxMsg a => .invxMsg a
  | .activationStart a b => .activationStart a b
  | .rawArrivalStart a b => .rawArrivalStart a b
  | .kickStart a b => .kickStart a b
  | .arrivalAgeing a b => .arrivalAgeing a b
  | .pass a => .pass a
  | .passForward a => .passForward a
  | .passAtSlot a => .passAtSlot a
  | .bounce a => .bounce a
  | .readydelta a => .readydelta a
  | .rdyquery a => .rdyquery a
  | .rdyanswer a => .rdyanswer a
  | .reply a => .reply a
  | .break_ a => .break_ a
  | .fetch a => .fetch a
  | .value a => .value a
  | .hrelease a => .hrelease a
  | .relayForward a b => .relayForward a b
  | .rstvMsg a => .rstvMsg a
  | .redirectQueueDrain a b => .redirectQueueDrain a b
  | .directoryAnswer a => .directoryAnswer a
  | .grpctl a => .grpctl a
  | .grpstat a => .grpstat a
  | .memberPark a b => .memberPark a b
  | .saveImageComplete a b => .saveImageComplete a b
  | .groupEnded a => .groupEnded a
  | .kickMsg a => .kickMsg a
  | .kickoffFanout a => .kickoffFanout a
  | .kickend a => .kickend a
  | .bararrive a => .bararrive a
  | .barrelease a => .barrelease a
  | .barrierTimeout a b => .barrierTimeout a b
  | .barbreak a => .barbreak a
  | .barconfig a => .barconfig a
  | .refereePair a => .refereePair a
  | .refereeTimeout a => .refereeTimeout a
  | .unassignedMessage a => .unassignedMessage a
  | .l2pdataWrite a => .l2pdataWrite a
  | .l2pUpdate a b => .l2pUpdate a b
  | .rtdataWrite a => .rtdataWrite a
  | .vallotWrite a => .vallotWrite a
  | .tgenWrite a => .tgenWrite a
  | .ctxcmdCreate => .ctxcmdCreate
  | .ctxcmdDestroy => .ctxcmdDestroy
  | .ctxrectWrite a => .ctxrectWrite a
  | .contextBound a => .contextBound a
  | .contextShrunk a => .contextShrunk a
  | .contextDestroyed a => .contextDestroyed a
  | .scrubComplete a => .scrubComplete a
  | .hfsendWrite a => .hfsendWrite a
  | .deviceFrame a => .deviceFrame a
  | .frameWindowWrite a b c => .frameWindowWrite a b c
  | .hostframeInject a => .hostframeInject a
  | .hostframe a => .hostframe a
  | .gap a => .gap a
  | .drheadWrite a b => .drheadWrite a b
  | .drbaseWrite a b => .drbaseWrite a b
  | .drsizeWrite a b => .drsizeWrite a b
  | .bar2Access a b c d => .bar2Access a b c d
  | .functionLevelReset a => .functionLevelReset a
  | .packageReset => .packageReset
  | .bootctlGo a => .bootctlGo a
  | .imageVerification => .imageVerification
  | .discover a => .discover a
  | .discoverAnswer a => .discoverAnswer a
  | .silentRouter a b => .silentRouter a b
  | .floodEnd a => .floodEnd a
  | .measxWrite a => .measxWrite a
  | .attreqWrite a => .attreqWrite a
  | .attestationReport => .attestationReport
  | .powerLimit a => .powerLimit a
  | .overtemperature => .overtemperature
  | .powerGate a => .powerGate a
  | .gateDrainTimeout a => .gateDrainTimeout a
  | .droop a b => .droop a b
  | .droopRearm a b => .droopRearm a b
  | .traceDrain a => .traceDrain a
  | .trtailWrite a => .trtailWrite a
  | .dbgctlWrite a => .dbgctlWrite a
  | .hbmRowRepair a b => .hbmRowRepair a b
  | .nodeidWrite a => .nodeidWrite a
  | .portctlWrite a b => .portctlWrite a b
  | .trainingBackoff a b => .trainingBackoff a b
  | .trainingSequence a b c => .trainingSequence a b c
  | .laneRetrain a b c => .laneRetrain a b c
  | .linkFlit a b => .linkFlit a b
  | .linkResendTimeout a => .linkResendTimeout a
  | .portDown a => .portDown a
  | .marker a => .marker a
  | .ckptWalk a => .ckptWalk a
  | .acceptNotice a => .acceptNotice a

theorem perform_eq_exec (e : Event) (s : State) : e.perform s = exec e.instr s := by cases e <;> rfl

end Sys2Proof.Machine
end

