-- ==== Sys2Proof/Laws/Exec.lean ====
section
/-! SUPPORT. Executing an instruction is its meaning, one equation for each. -/

set_option Elab.async false

namespace Sys2Proof.Machine

theorem exec_nop (s : State) : exec (.nop) s = execNop s := rfl
theorem exec_trap (p0 : BitVec 10) (s : State) : exec (.trap p0) s = execTrap p0 s := rfl
theorem exec_eret (s : State) : exec (.eret) s = execEret s := rfl
theorem exec_idle (s : State) : exec (.idle) s = execIdle s := rfl
theorem exec_fence (p0 : Scope) (p1 : FenceKind) (s : State) : exec (.fence p0 p1) s = execFence p0 p1 s := rfl
theorem exec_drainnt (p0 : Scope) (s : State) : exec (.drainnt p0) s = execDrainnt p0 s := rfl
theorem exec_rgn (s : State) : exec (.rgn) s = execRgn s := rfl
theorem exec_rgnend (s : State) : exec (.rgnend) s = execRgnend s := rfl
theorem exec_brk (p0 : BitVec 10) (s : State) : exec (.brk p0) s = execBrk p0 s := rfl
theorem exec_tmark (p0 : XReg) (p1 : BitVec 10) (s : State) : exec (.tmark p0 p1) s = execTmark p0 p1 s := rfl
theorem exec_crr (p0 : XReg) (p1 : BitVec 12) (s : State) : exec (.crr p0 p1) s = execCrr p0 p1 s := rfl
theorem exec_crw (p0 : XReg) (p1 : BitVec 12) (s : State) : exec (.crw p0 p1) s = execCrw p0 p1 s := rfl
theorem exec_crset (p0 : XReg) (p1 : BitVec 12) (s : State) : exec (.crset p0 p1) s = execCrset p0 p1 s := rfl
theorem exec_crclr (p0 : XReg) (p1 : BitVec 12) (s : State) : exec (.crclr p0 p1) s = execCrclr p0 p1 s := rfl
theorem exec_yield (p0 : BitVec 8) (p1 : XReg) (s : State) : exec (.yield p0 p1) s = execYield p0 p1 s := rfl
theorem exec_rep (p0 : XReg) (p1 : BitVec 6) (p2 p3 p4 : BitVec 3) (s : State) : exec (.rep p0 p1 p2 p3 p4) s = execRep p0 p1 p2 p3 p4 s := rfl
theorem exec_j (p0 : BitVec 24) (s : State) : exec (.j p0) s = execJ p0 s := rfl
theorem exec_jal (p0 : BitVec 24) (s : State) : exec (.jal p0) s = execJal p0 s := rfl
theorem exec_jalr (p0 p1 : XReg) (p2 : BitVec 10) (s : State) : exec (.jalr p0 p1 p2) s = execJalr p0 p1 p2 s := rfl
theorem exec_beq (p0 p1 : XReg) (p2 : BitVec 14) (s : State) : exec (.beq p0 p1 p2) s = execBeq p0 p1 p2 s := rfl
theorem exec_bne (p0 p1 : XReg) (p2 : BitVec 14) (s : State) : exec (.bne p0 p1 p2) s = execBne p0 p1 p2 s := rfl
theorem exec_blt (p0 p1 : XReg) (p2 : BitVec 14) (s : State) : exec (.blt p0 p1 p2) s = execBlt p0 p1 p2 s := rfl
theorem exec_bge (p0 p1 : XReg) (p2 : BitVec 14) (s : State) : exec (.bge p0 p1 p2) s = execBge p0 p1 p2 s := rfl
theorem exec_bltu (p0 p1 : XReg) (p2 : BitVec 14) (s : State) : exec (.bltu p0 p1 p2) s = execBltu p0 p1 p2 s := rfl
theorem exec_bgeu (p0 p1 : XReg) (p2 : BitVec 14) (s : State) : exec (.bgeu p0 p1 p2) s = execBgeu p0 p1 p2 s := rfl
theorem exec_bany (p0 : MReg) (p1 : BitVec 14) (s : State) : exec (.bany p0 p1) s = execBany p0 p1 s := rfl
theorem exec_bnone (p0 : MReg) (p1 : BitVec 14) (s : State) : exec (.bnone p0 p1) s = execBnone p0 p1 s := rfl
theorem exec_lds (p0 : XReg) (p1 : AReg) (p2 : XReg) (p3 : BitVec 4) (p4 p5 : BitVec 3) (s : State) : exec (.lds p0 p1 p2 p3 p4 p5) s = execLds p0 p1 p2 p3 p4 p5 s := rfl
theorem exec_sts (p0 : XReg) (p1 : AReg) (p2 : XReg) (p3 p4 : BitVec 3) (s : State) : exec (.sts p0 p1 p2 p3 p4) s = execSts p0 p1 p2 p3 p4 s := rfl
theorem exec_ldv (p0 : VReg) (p1 : AReg) (p2 : BitVec 5) (p3 : BitVec 4) (p4 p5 : BitVec 3) (s : State) : exec (.ldv p0 p1 p2 p3 p4 p5) s = execLdv p0 p1 p2 p3 p4 p5 s := rfl
theorem exec_stv (p0 : VReg) (p1 : AReg) (p2 : BitVec 5) (p3 p4 : BitVec 3) (s : State) : exec (.stv p0 p1 p2 p3 p4) s = execStv p0 p1 p2 p3 p4 s := rfl
theorem exec_stnt (p0 : VReg) (p1 : AReg) (p2 : BitVec 5) (p3 p4 : BitVec 3) (s : State) : exec (.stnt p0 p1 p2 p3 p4) s = execStnt p0 p1 p2 p3 p4 s := rfl
theorem exec_ldfe (p0 : XReg) (p1 : AReg) (p2 : BitVec 4) (p3 : BitVec 2) (s : State) : exec (.ldfe p0 p1 p2 p3) s = execLdfe p0 p1 p2 p3 s := rfl
theorem exec_stfe (p0 : XReg) (p1 : AReg) (p2 : BitVec 2) (s : State) : exec (.stfe p0 p1 p2) s = execStfe p0 p1 p2 s := rfl
theorem exec_atomAdd (p0 : XReg) (p1 : AReg) (p2 : XReg) (p3 : Scope) (p4 : BitVec 2) (s : State) : exec (.atomAdd p0 p1 p2 p3 p4) s = execAtomAdd p0 p1 p2 p3 p4 s := rfl
theorem exec_atomAnd (p0 : XReg) (p1 : AReg) (p2 : XReg) (p3 : Scope) (p4 : BitVec 2) (s : State) : exec (.atomAnd p0 p1 p2 p3 p4) s = execAtomAnd p0 p1 p2 p3 p4 s := rfl
theorem exec_atomOr (p0 : XReg) (p1 : AReg) (p2 : XReg) (p3 : Scope) (p4 : BitVec 2) (s : State) : exec (.atomOr p0 p1 p2 p3 p4) s = execAtomOr p0 p1 p2 p3 p4 s := rfl
theorem exec_atomXor (p0 : XReg) (p1 : AReg) (p2 : XReg) (p3 : Scope) (p4 : BitVec 2) (s : State) : exec (.atomXor p0 p1 p2 p3 p4) s = execAtomXor p0 p1 p2 p3 p4 s := rfl
theorem exec_atomMin (p0 : XReg) (p1 : AReg) (p2 : XReg) (p3 : Scope) (p4 : BitVec 2) (s : State) : exec (.atomMin p0 p1 p2 p3 p4) s = execAtomMin p0 p1 p2 p3 p4 s := rfl
theorem exec_atomMax (p0 : XReg) (p1 : AReg) (p2 : XReg) (p3 : Scope) (p4 : BitVec 2) (s : State) : exec (.atomMax p0 p1 p2 p3 p4) s = execAtomMax p0 p1 p2 p3 p4 s := rfl
theorem exec_atomMinu (p0 : XReg) (p1 : AReg) (p2 : XReg) (p3 : Scope) (p4 : BitVec 2) (s : State) : exec (.atomMinu p0 p1 p2 p3 p4) s = execAtomMinu p0 p1 p2 p3 p4 s := rfl
theorem exec_atomMaxu (p0 : XReg) (p1 : AReg) (p2 : XReg) (p3 : Scope) (p4 : BitVec 2) (s : State) : exec (.atomMaxu p0 p1 p2 p3 p4) s = execAtomMaxu p0 p1 p2 p3 p4 s := rfl
theorem exec_atomSwap (p0 : XReg) (p1 : AReg) (p2 : XReg) (p3 : Scope) (p4 : BitVec 2) (s : State) : exec (.atomSwap p0 p1 p2 p3 p4) s = execAtomSwap p0 p1 p2 p3 p4 s := rfl
theorem exec_atomCas (p0 : XReg) (p1 : AReg) (p2 : XReg) (p3 : Scope) (p4 : BitVec 2) (s : State) : exec (.atomCas p0 p1 p2 p3 p4) s = execAtomCas p0 p1 p2 p3 p4 s := rfl
theorem exec_atomMaxrst (p0 : XReg) (p1 : AReg) (p2 : XReg) (p3 : Scope) (p4 : BitVec 2) (s : State) : exec (.atomMaxrst p0 p1 p2 p3 p4) s = execAtomMaxrst p0 p1 p2 p3 p4 s := rfl
theorem exec_atomFadd (p0 : XReg) (p1 : AReg) (p2 : XReg) (p3 : Scope) (p4 : BitVec 2) (s : State) : exec (.atomFadd p0 p1 p2 p3 p4) s = execAtomFadd p0 p1 p2 p3 p4 s := rfl
theorem exec_atomFmax (p0 : XReg) (p1 : AReg) (p2 : XReg) (p3 : Scope) (p4 : BitVec 2) (s : State) : exec (.atomFmax p0 p1 p2 p3 p4) s = execAtomFmax p0 p1 p2 p3 p4 s := rfl
theorem exec_atomFmaxrst (p0 : XReg) (p1 : AReg) (p2 : XReg) (p3 : Scope) (p4 : BitVec 2) (s : State) : exec (.atomFmaxrst p0 p1 p2 p3 p4) s = execAtomFmaxrst p0 p1 p2 p3 p4 s := rfl
theorem exec_amov (p0 p1 : AReg) (s : State) : exec (.amov p0 p1) s = execAmov p0 p1 s := rfl
theorem exec_anarrow (p0 p1 : AReg) (p2 p3 : XReg) (s : State) : exec (.anarrow p0 p1 p2 p3) s = execAnarrow p0 p1 p2 p3 s := rfl
theorem exec_aadd (p0 p1 : AReg) (p2 : XReg) (s : State) : exec (.aadd p0 p1 p2) s = execAadd p0 p1 p2 s := rfl
theorem exec_asetp (p0 p1 : AReg) (p2 : XReg) (s : State) : exec (.asetp p0 p1 p2) s = execAsetp p0 p1 p2 s := rfl
theorem exec_agetp (p0 : AReg) (p1 : XReg) (s : State) : exec (.agetp p0 p1) s = execAgetp p0 p1 s := rfl
theorem exec_agetb (p0 : AReg) (p1 : XReg) (s : State) : exec (.agetb p0 p1) s = execAgetb p0 p1 s := rfl
theorem exec_agetl (p0 : AReg) (p1 : XReg) (s : State) : exec (.agetl p0 p1) s = execAgetl p0 p1 s := rfl
theorem exec_aperm (p0 : AReg) (p1 : XReg) (s : State) : exec (.aperm p0 p1) s = execAperm p0 p1 s := rfl
theorem exec_amake (p0 : AReg) (p1 p2 : XReg) (s : State) : exec (.amake p0 p1 p2) s = execAmake p0 p1 p2 s := rfl
theorem exec_aaddi (p0 p1 : AReg) (p2 : BitVec 16) (s : State) : exec (.aaddi p0 p1 p2) s = execAaddi p0 p1 p2 s := rfl
theorem exec_copy (p0 p1 : AReg) (p2 : XReg) (p3 : BitVec 6) (p4 : BitVec 2) (s : State) : exec (.copy p0 p1 p2 p3 p4) s = execCopy p0 p1 p2 p3 p4 s := rfl
theorem exec_copy2d (p0 p1 : AReg) (p2 : XReg) (p3 : BitVec 6) (p4 : BitVec 2) (s : State) : exec (.copy2d p0 p1 p2 p3 p4) s = execCopy2d p0 p1 p2 p3 p4 s := rfl
theorem exec_copymc (p0 p1 : AReg) (p2 : XReg) (p3 : BitVec 6) (p4 : BitVec 2) (s : State) : exec (.copymc p0 p1 p2 p3 p4) s = execCopymc p0 p1 p2 p3 p4 s := rfl
theorem exec_copygt (p0 p1 : AReg) (p2 : XReg) (p3 : BitVec 6) (p4 : BitVec 2) (s : State) : exec (.copygt p0 p1 p2 p3 p4) s = execCopygt p0 p1 p2 p3 p4 s := rfl
theorem exec_waitany (p0 p1 : XReg) (s : State) : exec (.waitany p0 p1) s = execWaitany p0 p1 s := rfl
theorem exec_waitall (p0 : XReg) (s : State) : exec (.waitall p0) s = execWaitall p0 s := rfl
theorem exec_tfirst (p0 p1 : XReg) (s : State) : exec (.tfirst p0 p1) s = execTfirst p0 p1 s := rfl
theorem exec_tclr (p0 : XReg) (s : State) : exec (.tclr p0) s = execTclr p0 s := rfl
theorem exec_tget (p0 p1 : XReg) (s : State) : exec (.tget p0 p1) s = execTget p0 p1 s := rfl
theorem exec_mjob (p0 p1 : XReg) (s : State) : exec (.mjob p0 p1) s = execMjob p0 p1 s := rfl
theorem exec_mtile (p0 : XReg) (p1 p2 : BitVec 6) (p3 p4 : Bool) (p5 : BitVec 2) (s : State) : exec (.mtile p0 p1 p2 p3 p4 p5) s = execMtile p0 p1 p2 p3 p4 p5 s := rfl
theorem exec_mwait (p0 p1 : XReg) (p2 : BitVec 4) (s : State) : exec (.mwait p0 p1 p2) s = execMwait p0 p1 p2 s := rfl
theorem exec_mstat (p0 p1 : XReg) (s : State) : exec (.mstat p0 p1) s = execMstat p0 p1 s := rfl
theorem exec_mcancel (p0 : XReg) (s : State) : exec (.mcancel p0) s = execMcancel p0 s := rfl
theorem exec_acst (p0 p1 p2 : XReg) (p3 : BitVec 4) (s : State) : exec (.acst p0 p1 p2 p3) s = execAcst p0 p1 p2 p3 s := rfl
theorem exec_acstb (p0 p1 p2 : XReg) (p3 : BitVec 4) (s : State) : exec (.acstb p0 p1 p2 p3) s = execAcstb p0 p1 p2 p3 s := rfl
theorem exec_acld (p0 p1 p2 : XReg) (p3 : BitVec 4) (s : State) : exec (.acld p0 p1 p2 p3) s = execAcld p0 p1 p2 p3 s := rfl
theorem exec_aczero (p0 : XReg) (s : State) : exec (.aczero p0) s = execAczero p0 s := rfl
theorem exec_acstsc (p0 p1 p2 : XReg) (p3 : BitVec 4) (s : State) : exec (.acstsc p0 p1 p2 p3) s = execAcstsc p0 p1 p2 p3 s := rfl
theorem exec_inv (p0 p1 : XReg) (p2 : VReg) (p3 : BitVec 6) (p4 : InvKind) (p5 : Bool) (s : State) : exec (.inv p0 p1 p2 p3 p4 p5) s = execInv p0 p1 p2 p3 p4 p5 s := rfl
theorem exec_invx (p0 p1 : XReg) (p2 : VReg) (p3 : BitVec 6) (p4 : InvKind) (p5 : Bool) (s : State) : exec (.invx p0 p1 p2 p3 p4 p5) s = execInvx p0 p1 p2 p3 p4 p5 s := rfl
theorem exec_hwait (p0 p1 p2 : XReg) (p3 : BitVec 4) (s : State) : exec (.hwait p0 p1 p2 p3) s = execHwait p0 p1 p2 p3 s := rfl
theorem exec_hwaitv (p0 : VReg) (p1 p2 : XReg) (p3 : BitVec 4) (s : State) : exec (.hwaitv p0 p1 p2 p3) s = execHwaitv p0 p1 p2 p3 s := rfl
theorem exec_htest (p0 p1 : XReg) (s : State) : exec (.htest p0 p1) s = execHtest p0 p1 s := rfl
theorem exec_hfree (p0 : XReg) (s : State) : exec (.hfree p0) s = execHfree p0 s := rfl
theorem exec_hreply (p0 p1 : XReg) (s : State) : exec (.hreply p0 p1) s = execHreply p0 p1 s := rfl
theorem exec_hreplyv (p0 : XReg) (p1 : VReg) (s : State) : exec (.hreplyv p0 p1) s = execHreplyv p0 p1 s := rfl
theorem exec_hbreak (p0 p1 : XReg) (s : State) : exec (.hbreak p0 p1) s = execHbreak p0 p1 s := rfl
theorem exec_done (s : State) : exec (.done) s = execDone s := rfl
theorem exec_tgon (p0 : XReg) (s : State) : exec (.tgon p0) s = execTgon p0 s := rfl
theorem exec_tgoff (p0 : XReg) (s : State) : exec (.tgoff p0) s = execTgoff p0 s := rfl
theorem exec_tgset (p0 : XReg) (s : State) : exec (.tgset p0) s = execTgset p0 s := rfl
theorem exec_tgclr (p0 : XReg) (s : State) : exec (.tgclr p0) s = execTgclr p0 s := rfl
theorem exec_ready (p0 p1 : XReg) (s : State) : exec (.ready p0 p1) s = execReady p0 p1 s := rfl
theorem exec_unready (p0 p1 : XReg) (s : State) : exec (.unready p0 p1) s = execUnready p0 p1 s := rfl
theorem exec_rdyq (p0 p1 : XReg) (p2 : BitVec 4) (s : State) : exec (.rdyq p0 p1 p2) s = execRdyq p0 p1 p2 s := rfl
theorem exec_rstv (p0 : VReg) (p1 : XReg) (p2 : BitVec 6) (p3 : VReg) (p4 : Bool) (s : State) : exec (.rstv p0 p1 p2 p3 p4) s = execRstv p0 p1 p2 p3 p4 s := rfl
theorem exec_vhold (p0 : VReg) (s : State) : exec (.vhold p0) s = execVhold p0 s := rfl
theorem exec_vhclr (p0 : VReg) (s : State) : exec (.vhclr p0) s = execVhclr p0 s := rfl
theorem exec_vhtest (p0 : XReg) (s : State) : exec (.vhtest p0) s = execVhtest p0 s := rfl
theorem exec_barr (p0 : XReg) (s : State) : exec (.barr p0) s = execBarr p0 s := rfl
theorem exec_barw (p0 : XReg) (s : State) : exec (.barw p0) s = execBarw p0 s := rfl
theorem exec_barrw (p0 : XReg) (s : State) : exec (.barrw p0) s = execBarrw p0 s := rfl
theorem exec_barwd (p0 : XReg) (s : State) : exec (.barwd p0) s = execBarwd p0 s := rfl
theorem exec_barq (p0 p1 : XReg) (s : State) : exec (.barq p0 p1) s = execBarq p0 p1 s := rfl
theorem exec_kickTeam (p0 p1 p2 : XReg) (s : State) : exec (.kickTeam p0 p1 p2) s = execKickTeam p0 p1 p2 s := rfl
theorem exec_kickGroup (p0 p1 p2 : XReg) (s : State) : exec (.kickGroup p0 p1 p2) s = execKickGroup p0 p1 p2 s := rfl
theorem exec_mcast (p0 : VReg) (p1 : AReg) (p2 : XReg) (p3 : BitVec 6) (p4 : BitVec 2) (p5 : Bool) (s : State) : exec (.mcast p0 p1 p2 p3 p4 p5) s = execMcast p0 p1 p2 p3 p4 p5 s := rfl
theorem exec_gnew (p0 p1 : XReg) (s : State) : exec (.gnew p0 p1) s = execGnew p0 p1 s := rfl
theorem exec_gplace (p0 p1 p2 : XReg) (s : State) : exec (.gplace p0 p1 p2) s = execGplace p0 p1 p2 s := rfl
theorem exec_gadd (p0 p1 p2 : XReg) (s : State) : exec (.gadd p0 p1 p2) s = execGadd p0 p1 p2 s := rfl
theorem exec_gdrop (p0 p1 p2 : XReg) (s : State) : exec (.gdrop p0 p1 p2) s = execGdrop p0 p1 p2 s := rfl
theorem exec_gpark (p0 p1 : XReg) (s : State) : exec (.gpark p0 p1) s = execGpark p0 p1 s := rfl
theorem exec_grun (p0 p1 : XReg) (s : State) : exec (.grun p0 p1) s = execGrun p0 p1 s := rfl
theorem exec_gmove (p0 p1 p2 : XReg) (s : State) : exec (.gmove p0 p1 p2) s = execGmove p0 p1 p2 s := rfl
theorem exec_gend (p0 p1 p2 : XReg) (s : State) : exec (.gend p0 p1 p2) s = execGend p0 p1 p2 s := rfl
theorem exec_barcfg (p0 p1 p2 : XReg) (s : State) : exec (.barcfg p0 p1 p2) s = execBarcfg p0 p1 p2 s := rfl
theorem exec_tlbinv (p0 p1 : XReg) (s : State) : exec (.tlbinv p0 p1) s = execTlbinv p0 p1 s := rfl
theorem exec_ckpt (p0 p1 : XReg) (s : State) : exec (.ckpt p0 p1) s = execCkpt p0 p1 s := rfl
theorem exec_errclr (p0 p1 : XReg) (s : State) : exec (.errclr p0 p1) s = execErrclr p0 p1 s := rfl
theorem exec_coreret (p0 p1 p2 : XReg) (s : State) : exec (.coreret p0 p1 p2) s = execCoreret p0 p1 p2 s := rfl
theorem exec_mapsetStat (p0 p1 p2 : XReg) (s : State) : exec (.mapsetStat p0 p1 p2) s = execMapsetStat p0 p1 p2 s := rfl
theorem exec_mapsetLoad (p0 p1 p2 : XReg) (s : State) : exec (.mapsetLoad p0 p1 p2) s = execMapsetLoad p0 p1 p2 s := rfl
theorem exec_mapsetSwitch (p0 p1 p2 : XReg) (s : State) : exec (.mapsetSwitch p0 p1 p2) s = execMapsetSwitch p0 p1 p2 s := rfl
theorem exec_mapsetOpen (p0 p1 p2 : XReg) (s : State) : exec (.mapsetOpen p0 p1 p2) s = execMapsetOpen p0 p1 p2 s := rfl
theorem exec_keyslotStat (p0 p1 : XReg) (s : State) : exec (.keyslotStat p0 p1) s = execKeyslotStat p0 p1 s := rfl
theorem exec_keyslotGen (p0 p1 : XReg) (s : State) : exec (.keyslotGen p0 p1) s = execKeyslotGen p0 p1 s := rfl
theorem exec_keyslotErase (p0 p1 : XReg) (s : State) : exec (.keyslotErase p0 p1) s = execKeyslotErase p0 p1 s := rfl
theorem exec_icinv (p0 p1 : XReg) (s : State) : exec (.icinv p0 p1) s = execIcinv p0 p1 s := rfl
theorem exec_add (p0 p1 p2 : XReg) (s : State) : exec (.add p0 p1 p2) s = execAdd p0 p1 p2 s := rfl
theorem exec_sub (p0 p1 p2 : XReg) (s : State) : exec (.sub p0 p1 p2) s = execSub p0 p1 p2 s := rfl
theorem exec_and (p0 p1 p2 : XReg) (s : State) : exec (.and p0 p1 p2) s = execAnd p0 p1 p2 s := rfl
theorem exec_or (p0 p1 p2 : XReg) (s : State) : exec (.or p0 p1 p2) s = execOr p0 p1 p2 s := rfl
theorem exec_xor (p0 p1 p2 : XReg) (s : State) : exec (.xor p0 p1 p2) s = execXor p0 p1 p2 s := rfl
theorem exec_sll (p0 p1 p2 : XReg) (s : State) : exec (.sll p0 p1 p2) s = execSll p0 p1 p2 s := rfl
theorem exec_srl (p0 p1 p2 : XReg) (s : State) : exec (.srl p0 p1 p2) s = execSrl p0 p1 p2 s := rfl
theorem exec_sra (p0 p1 p2 : XReg) (s : State) : exec (.sra p0 p1 p2) s = execSra p0 p1 p2 s := rfl
theorem exec_slt (p0 p1 p2 : XReg) (s : State) : exec (.slt p0 p1 p2) s = execSlt p0 p1 p2 s := rfl
theorem exec_sltu (p0 p1 p2 : XReg) (s : State) : exec (.sltu p0 p1 p2) s = execSltu p0 p1 p2 s := rfl
theorem exec_mul (p0 p1 p2 : XReg) (s : State) : exec (.mul p0 p1 p2) s = execMul p0 p1 p2 s := rfl
theorem exec_mulh (p0 p1 p2 : XReg) (s : State) : exec (.mulh p0 p1 p2) s = execMulh p0 p1 p2 s := rfl
theorem exec_mulhu (p0 p1 p2 : XReg) (s : State) : exec (.mulhu p0 p1 p2) s = execMulhu p0 p1 p2 s := rfl
theorem exec_div (p0 p1 p2 : XReg) (s : State) : exec (.div p0 p1 p2) s = execDiv p0 p1 p2 s := rfl
theorem exec_divu (p0 p1 p2 : XReg) (s : State) : exec (.divu p0 p1 p2) s = execDivu p0 p1 p2 s := rfl
theorem exec_rem (p0 p1 p2 : XReg) (s : State) : exec (.rem p0 p1 p2) s = execRem p0 p1 p2 s := rfl
theorem exec_remu (p0 p1 p2 : XReg) (s : State) : exec (.remu p0 p1 p2) s = execRemu p0 p1 p2 s := rfl
theorem exec_min (p0 p1 p2 : XReg) (s : State) : exec (.min p0 p1 p2) s = execMin p0 p1 p2 s := rfl
theorem exec_max (p0 p1 p2 : XReg) (s : State) : exec (.max p0 p1 p2) s = execMax p0 p1 p2 s := rfl
theorem exec_minu (p0 p1 p2 : XReg) (s : State) : exec (.minu p0 p1 p2) s = execMinu p0 p1 p2 s := rfl
theorem exec_maxu (p0 p1 p2 : XReg) (s : State) : exec (.maxu p0 p1 p2) s = execMaxu p0 p1 p2 s := rfl
theorem exec_clz (p0 p1 : XReg) (s : State) : exec (.clz p0 p1) s = execClz p0 p1 s := rfl
theorem exec_ctz (p0 p1 : XReg) (s : State) : exec (.ctz p0 p1) s = execCtz p0 p1 s := rfl
theorem exec_popc (p0 p1 : XReg) (s : State) : exec (.popc p0 p1) s = execPopc p0 p1 s := rfl
theorem exec_addi (p0 p1 : XReg) (p2 : BitVec 13) (s : State) : exec (.addi p0 p1 p2) s = execAddi p0 p1 p2 s := rfl
theorem exec_andi (p0 p1 : XReg) (p2 : BitVec 13) (s : State) : exec (.andi p0 p1 p2) s = execAndi p0 p1 p2 s := rfl
theorem exec_ori (p0 p1 : XReg) (p2 : BitVec 13) (s : State) : exec (.ori p0 p1 p2) s = execOri p0 p1 p2 s := rfl
theorem exec_xori (p0 p1 : XReg) (p2 : BitVec 13) (s : State) : exec (.xori p0 p1 p2) s = execXori p0 p1 p2 s := rfl
theorem exec_slli (p0 p1 : XReg) (p2 : BitVec 6) (s : State) : exec (.slli p0 p1 p2) s = execSlli p0 p1 p2 s := rfl
theorem exec_srli (p0 p1 : XReg) (p2 : BitVec 6) (s : State) : exec (.srli p0 p1 p2) s = execSrli p0 p1 p2 s := rfl
theorem exec_srai (p0 p1 : XReg) (p2 : BitVec 6) (s : State) : exec (.srai p0 p1 p2) s = execSrai p0 p1 p2 s := rfl
theorem exec_slti (p0 p1 : XReg) (p2 : BitVec 13) (s : State) : exec (.slti p0 p1 p2) s = execSlti p0 p1 p2 s := rfl
theorem exec_lui (p0 : XReg) (p1 : BitVec 13) (s : State) : exec (.lui p0 p1) s = execLui p0 p1 s := rfl
theorem exec_lcat (p0 : XReg) (p1 : BitVec 13) (s : State) : exec (.lcat p0 p1) s = execLcat p0 p1 s := rfl
theorem exec_fadd (p0 p1 p2 : XReg) (p3 : BitVec 2) (s : State) : exec (.fadd p0 p1 p2 p3) s = execFadd p0 p1 p2 p3 s := rfl
theorem exec_fsub (p0 p1 p2 : XReg) (p3 : BitVec 2) (s : State) : exec (.fsub p0 p1 p2 p3) s = execFsub p0 p1 p2 p3 s := rfl
theorem exec_fmul (p0 p1 p2 : XReg) (p3 : BitVec 2) (s : State) : exec (.fmul p0 p1 p2 p3) s = execFmul p0 p1 p2 p3 s := rfl
theorem exec_fma (p0 p1 p2 p3 : XReg) (s : State) : exec (.fma p0 p1 p2 p3) s = execFma p0 p1 p2 p3 s := rfl
theorem exec_fdiv (p0 p1 p2 : XReg) (p3 : BitVec 2) (s : State) : exec (.fdiv p0 p1 p2 p3) s = execFdiv p0 p1 p2 p3 s := rfl
theorem exec_fsqrt (p0 p1 : XReg) (p2 : BitVec 2) (s : State) : exec (.fsqrt p0 p1 p2) s = execFsqrt p0 p1 p2 s := rfl
theorem exec_fmin (p0 p1 p2 : XReg) (s : State) : exec (.fmin p0 p1 p2) s = execFmin p0 p1 p2 s := rfl
theorem exec_fmax (p0 p1 p2 : XReg) (s : State) : exec (.fmax p0 p1 p2) s = execFmax p0 p1 p2 s := rfl
theorem exec_fcmp (p0 p1 p2 : XReg) (p3 : Cond) (s : State) : exec (.fcmp p0 p1 p2 p3) s = execFcmp p0 p1 p2 p3 s := rfl
theorem exec_fcvti (p0 p1 : XReg) (p2 : BitVec 2) (s : State) : exec (.fcvti p0 p1 p2) s = execFcvti p0 p1 p2 s := rfl
theorem exec_fcvtf (p0 p1 : XReg) (p2 : BitVec 2) (s : State) : exec (.fcvtf p0 p1 p2) s = execFcvtf p0 p1 p2 s := rfl
theorem exec_vadd (p0 p1 p2 : VReg) (p3 : Ty) (p4 : MReg) (p5 : BitVec 2) (s : State) : exec (.vadd p0 p1 p2 p3 p4 p5) s = execVadd p0 p1 p2 p3 p4 p5 s := rfl
theorem exec_vsub (p0 p1 p2 : VReg) (p3 : Ty) (p4 : MReg) (p5 : BitVec 2) (s : State) : exec (.vsub p0 p1 p2 p3 p4 p5) s = execVsub p0 p1 p2 p3 p4 p5 s := rfl
theorem exec_vmul (p0 p1 p2 : VReg) (p3 : Ty) (p4 : MReg) (p5 : BitVec 2) (s : State) : exec (.vmul p0 p1 p2 p3 p4 p5) s = execVmul p0 p1 p2 p3 p4 p5 s := rfl
theorem exec_vma (p0 p1 p2 p3 : VReg) (p4 : Ty) (s : State) : exec (.vma p0 p1 p2 p3 p4) s = execVma p0 p1 p2 p3 p4 s := rfl
theorem exec_vmin (p0 p1 p2 : VReg) (p3 : Ty) (p4 : MReg) (p5 : BitVec 2) (s : State) : exec (.vmin p0 p1 p2 p3 p4 p5) s = execVmin p0 p1 p2 p3 p4 p5 s := rfl
theorem exec_vmax (p0 p1 p2 : VReg) (p3 : Ty) (p4 : MReg) (p5 : BitVec 2) (s : State) : exec (.vmax p0 p1 p2 p3 p4 p5) s = execVmax p0 p1 p2 p3 p4 p5 s := rfl
theorem exec_vand (p0 p1 p2 : VReg) (p3 : Ty) (p4 : MReg) (p5 : BitVec 2) (s : State) : exec (.vand p0 p1 p2 p3 p4 p5) s = execVand p0 p1 p2 p3 p4 p5 s := rfl
theorem exec_vor (p0 p1 p2 : VReg) (p3 : Ty) (p4 : MReg) (p5 : BitVec 2) (s : State) : exec (.vor p0 p1 p2 p3 p4 p5) s = execVor p0 p1 p2 p3 p4 p5 s := rfl
theorem exec_vxor (p0 p1 p2 : VReg) (p3 : Ty) (p4 : MReg) (p5 : BitVec 2) (s : State) : exec (.vxor p0 p1 p2 p3 p4 p5) s = execVxor p0 p1 p2 p3 p4 p5 s := rfl
theorem exec_vsll (p0 p1 p2 : VReg) (p3 : Ty) (p4 : MReg) (p5 : BitVec 2) (s : State) : exec (.vsll p0 p1 p2 p3 p4 p5) s = execVsll p0 p1 p2 p3 p4 p5 s := rfl
theorem exec_vsrl (p0 p1 p2 : VReg) (p3 : Ty) (p4 : MReg) (p5 : BitVec 2) (s : State) : exec (.vsrl p0 p1 p2 p3 p4 p5) s = execVsrl p0 p1 p2 p3 p4 p5 s := rfl
theorem exec_vsra (p0 p1 p2 : VReg) (p3 : Ty) (p4 : MReg) (p5 : BitVec 2) (s : State) : exec (.vsra p0 p1 p2 p3 p4 p5) s = execVsra p0 p1 p2 p3 p4 p5 s := rfl
theorem exec_vabs (p0 p1 : VReg) (p2 : Ty) (p3 : MReg) (p4 : BitVec 2) (s : State) : exec (.vabs p0 p1 p2 p3 p4) s = execVabs p0 p1 p2 p3 p4 s := rfl
theorem exec_vneg (p0 p1 : VReg) (p2 : Ty) (p3 : MReg) (p4 : BitVec 2) (s : State) : exec (.vneg p0 p1 p2 p3 p4) s = execVneg p0 p1 p2 p3 p4 s := rfl
theorem exec_vcmp (p0 : MReg) (p1 p2 : VReg) (p3 : Cond) (p4 : Ty) (p5 : Bool) (s : State) : exec (.vcmp p0 p1 p2 p3 p4 p5) s = execVcmp p0 p1 p2 p3 p4 p5 s := rfl
theorem exec_vsel (p0 p1 p2 : VReg) (p3 : Ty) (p4 : MReg) (s : State) : exec (.vsel p0 p1 p2 p3 p4) s = execVsel p0 p1 p2 p3 p4 s := rfl
theorem exec_vmov (p0 p1 : VReg) (p2 : Ty) (p3 : MReg) (s : State) : exec (.vmov p0 p1 p2 p3) s = execVmov p0 p1 p2 p3 s := rfl
theorem exec_vbcast (p0 : VReg) (p1 : XReg) (p2 : Ty) (p3 : MReg) (s : State) : exec (.vbcast p0 p1 p2 p3) s = execVbcast p0 p1 p2 p3 s := rfl
theorem exec_vins (p0 : VReg) (p1 p2 : XReg) (p3 : Ty) (s : State) : exec (.vins p0 p1 p2 p3) s = execVins p0 p1 p2 p3 s := rfl
theorem exec_vext (p0 : XReg) (p1 : VReg) (p2 : XReg) (p3 : Ty) (p4 : Bool) (s : State) : exec (.vext p0 p1 p2 p3 p4) s = execVext p0 p1 p2 p3 p4 s := rfl
theorem exec_vwadd (p0 p1 p2 : VReg) (p3 : Ty) (p4 : MReg) (p5 : BitVec 2) (s : State) : exec (.vwadd p0 p1 p2 p3 p4 p5) s = execVwadd p0 p1 p2 p3 p4 p5 s := rfl
theorem exec_vwmul (p0 p1 p2 : VReg) (p3 : Ty) (p4 : MReg) (p5 : BitVec 2) (s : State) : exec (.vwmul p0 p1 p2 p3 p4 p5) s = execVwmul p0 p1 p2 p3 p4 p5 s := rfl
theorem exec_vwma (p0 p1 p2 : VReg) (p3 : Ty) (p4 : MReg) (p5 : BitVec 2) (s : State) : exec (.vwma p0 p1 p2 p3 p4 p5) s = execVwma p0 p1 p2 p3 p4 p5 s := rfl
theorem exec_vnarrow (p0 p1 : VReg) (p2 : Ty) (p3 : MReg) (p4 : BitVec 2) (s : State) : exec (.vnarrow p0 p1 p2 p3 p4) s = execVnarrow p0 p1 p2 p3 p4 s := rfl
theorem exec_vcvt (p0 p1 : VReg) (p2 : Ty) (p3 : BitVec 2) (p4 : Ty) (p5 p6 : Bool) (p7 : MReg) (s : State) : exec (.vcvt p0 p1 p2 p3 p4 p5 p6 p7) s = execVcvt p0 p1 p2 p3 p4 p5 p6 p7 s := rfl
theorem exec_vplane (p0 p1 : VReg) (s : State) : exec (.vplane p0 p1) s = execVplane p0 p1 s := rfl
theorem exec_vunplane (p0 p1 : VReg) (p2 : BitVec 4) (p3 : Bool) (p4 : MReg) (s : State) : exec (.vunplane p0 p1 p2 p3 p4) s = execVunplane p0 p1 p2 p3 p4 s := rfl
theorem exec_vquant (p0 p1 : VReg) (p2 : XReg) (p3 : Ty) (p4 : MReg) (p5 : Bool) (s : State) : exec (.vquant p0 p1 p2 p3 p4 p5) s = execVquant p0 p1 p2 p3 p4 p5 s := rfl
theorem exec_vrsum (p0 : XReg) (p1 : VReg) (p2 : Ty) (p3 : MReg) (p4 : BitVec 2) (s : State) : exec (.vrsum p0 p1 p2 p3 p4) s = execVrsum p0 p1 p2 p3 p4 s := rfl
theorem exec_vrmax (p0 : XReg) (p1 : VReg) (p2 : Ty) (p3 : MReg) (p4 : BitVec 2) (s : State) : exec (.vrmax p0 p1 p2 p3 p4) s = execVrmax p0 p1 p2 p3 p4 s := rfl
theorem exec_vperm (p0 p1 p2 : VReg) (p3 : Ty) (p4 : MReg) (s : State) : exec (.vperm p0 p1 p2 p3 p4) s = execVperm p0 p1 p2 p3 p4 s := rfl
theorem exec_vslide (p0 p1 : VReg) (p2 : XReg) (p3 : Ty) (p4 : MReg) (s : State) : exec (.vslide p0 p1 p2 p3 p4) s = execVslide p0 p1 p2 p3 p4 s := rfl
theorem exec_vrand (p0 : VReg) (p1 p2 : XReg) (s : State) : exec (.vrand p0 p1 p2) s = execVrand p0 p1 p2 s := rfl
theorem exec_vexp2 (p0 p1 : VReg) (p2 : Ty) (p3 : MReg) (s : State) : exec (.vexp2 p0 p1 p2 p3) s = execVexp2 p0 p1 p2 p3 s := rfl
theorem exec_vlog2 (p0 p1 : VReg) (p2 : Ty) (p3 : MReg) (s : State) : exec (.vlog2 p0 p1 p2 p3) s = execVlog2 p0 p1 p2 p3 s := rfl
theorem exec_vrcp (p0 p1 : VReg) (p2 : Ty) (p3 : MReg) (s : State) : exec (.vrcp p0 p1 p2 p3) s = execVrcp p0 p1 p2 p3 s := rfl
theorem exec_vrsq (p0 p1 : VReg) (p2 : Ty) (p3 : MReg) (s : State) : exec (.vrsq p0 p1 p2 p3) s = execVrsq p0 p1 p2 p3 s := rfl
theorem exec_vsig (p0 p1 : VReg) (p2 : Ty) (p3 : MReg) (s : State) : exec (.vsig p0 p1 p2 p3) s = execVsig p0 p1 p2 p3 s := rfl
theorem exec_vdot4 (p0 p1 p2 : VReg) (p3 : MReg) (p4 : BitVec 2) (s : State) : exec (.vdot4 p0 p1 p2 p3 p4) s = execVdot4 p0 p1 p2 p3 p4 s := rfl
theorem exec_mand (p0 p1 p2 : MReg) (s : State) : exec (.mand p0 p1 p2) s = execMand p0 p1 p2 s := rfl
theorem exec_mor (p0 p1 p2 : MReg) (s : State) : exec (.mor p0 p1 p2) s = execMor p0 p1 p2 s := rfl
theorem exec_mxor (p0 p1 p2 : MReg) (s : State) : exec (.mxor p0 p1 p2) s = execMxor p0 p1 p2 s := rfl
theorem exec_mnot (p0 p1 : MReg) (s : State) : exec (.mnot p0 p1) s = execMnot p0 p1 s := rfl
theorem exec_mpop (p0 : XReg) (p1 : MReg) (p2 : Ty) (s : State) : exec (.mpop p0 p1 p2) s = execMpop p0 p1 p2 s := rfl
theorem exec_mfirst (p0 : XReg) (p1 : MReg) (p2 : Ty) (s : State) : exec (.mfirst p0 p1 p2) s = execMfirst p0 p1 p2 s := rfl
theorem exec_mfromx (p0 : MReg) (p1 : XReg) (p2 : Ty) (s : State) : exec (.mfromx p0 p1 p2) s = execMfromx p0 p1 p2 s := rfl
theorem exec_mmadd (p0 p1 p2 : AReg) (p3 : Ty) (p4 : BitVec 2) (s : State) : exec (.mmadd p0 p1 p2 p3 p4) s = execMmadd p0 p1 p2 p3 p4 s := rfl
theorem exec_mmsub (p0 p1 p2 : AReg) (p3 : Ty) (p4 : BitVec 2) (s : State) : exec (.mmsub p0 p1 p2 p3 p4) s = execMmsub p0 p1 p2 p3 p4 s := rfl
theorem exec_mmmul (p0 p1 p2 : AReg) (p3 : Ty) (p4 : BitVec 2) (s : State) : exec (.mmmul p0 p1 p2 p3 p4) s = execMmmul p0 p1 p2 p3 p4 s := rfl
theorem exec_mmma (p0 p1 p2 : AReg) (p3 : Ty) (p4 : BitVec 2) (s : State) : exec (.mmma p0 p1 p2 p3 p4) s = execMmma p0 p1 p2 p3 p4 s := rfl
theorem exec_mmmax (p0 p1 p2 : AReg) (p3 : Ty) (p4 : BitVec 2) (s : State) : exec (.mmmax p0 p1 p2 p3 p4) s = execMmmax p0 p1 p2 p3 p4 s := rfl
theorem exec_mmcvt (p0 p1 p2 : AReg) (p3 : Ty) (p4 : BitVec 2) (s : State) : exec (.mmcvt p0 p1 p2 p3 p4) s = execMmcvt p0 p1 p2 p3 p4 s := rfl
theorem exec_anop (s : State) : exec (.anop) s = execAnop s := rfl
theorem exec_trapEntry (p0 p1 : Nat) (s : State) : exec (.trapEntry p0 p1) s = execTrapEntry p0 p1 s := rfl
theorem exec_regionRestart (p0 p1 : Nat) (s : State) : exec (.regionRestart p0 p1) s = execRegionRestart p0 p1 s := rfl
theorem exec_watchdog (p0 p1 : Nat) (s : State) : exec (.watchdog p0 p1) s = execWatchdog p0 p1 s := rfl
theorem exec_accessComplete (p0 p1 p2 : Nat) (s : State) : exec (.accessComplete p0 p1 p2) s = execAccessComplete p0 p1 p2 s := rfl
theorem exec_load (p0 : Nat) (s : State) : exec (.load p0) s = execLoad p0 s := rfl
theorem exec_store (p0 : Nat) (s : State) : exec (.store p0) s = execStore p0 s := rfl
theorem exec_atomic (p0 : Nat) (s : State) : exec (.atomic p0) s = execAtomic p0 s := rfl
theorem exec_loadfe (p0 : Nat) (s : State) : exec (.loadfe p0) s = execLoadfe p0 s := rfl
theorem exec_storefe (p0 : Nat) (s : State) : exec (.storefe p0) s = execStorefe p0 s := rfl
theorem exec_loadResponse (p0 : Nat) (s : State) : exec (.loadResponse p0) s = execLoadResponse p0 s := rfl
theorem exec_ack (p0 : Nat) (s : State) : exec (.ack p0) s = execAck p0 s := rfl
theorem exec_nack (p0 : Nat) (s : State) : exec (.nack p0) s = execNack p0 s := rfl
theorem exec_retry (p0 : Nat) (s : State) : exec (.retry p0) s = execRetry p0 s := rfl
theorem exec_retryResend (p0 : Nat) (s : State) : exec (.retryResend p0) s = execRetryResend p0 s := rfl
theorem exec_retryListReoffer (p0 p1 : Nat) (s : State) : exec (.retryListReoffer p0 p1) s = execRetryListReoffer p0 p1 s := rfl
theorem exec_translationWalk (p0 p1 : Nat) (s : State) : exec (.translationWalk p0 p1) s = execTranslationWalk p0 p1 s := rfl
theorem exec_sfuStart (p0 : Nat) (s : State) : exec (.sfuStart p0) s = execSfuStart p0 s := rfl
theorem exec_sfuComplete (p0 : Nat) (s : State) : exec (.sfuComplete p0) s = execSfuComplete p0 s := rfl
theorem exec_mmComplete (p0 p1 : Nat) (s : State) : exec (.mmComplete p0 p1) s = execMmComplete p0 p1 s := rfl
theorem exec_matrixDispatch (p0 : Nat) (s : State) : exec (.matrixDispatch p0) s = execMatrixDispatch p0 s := rfl
theorem exec_kstepEnd (p0 : Nat) (s : State) : exec (.kstepEnd p0) s = execKstepEnd p0 s := rfl
theorem exec_matrixCommandComplete (p0 : Nat) (s : State) : exec (.matrixCommandComplete p0) s = execMatrixCommandComplete p0 s := rfl
theorem exec_matrixAgeing (p0 p1 : Nat) (s : State) : exec (.matrixAgeing p0 p1) s = execMatrixAgeing p0 p1 s := rfl
theorem exec_copyLine (p0 p1 : Nat) (s : State) : exec (.copyLine p0 p1) s = execCopyLine p0 p1 s := rfl
theorem exec_copydata (p0 : Nat) (s : State) : exec (.copydata p0) s = execCopydata p0 s := rfl
theorem exec_mcastMsg (p0 : Nat) (s : State) : exec (.mcastMsg p0) s = execMcastMsg p0 s := rfl
theorem exec_copyComplete (p0 p1 : Nat) (s : State) : exec (.copyComplete p0 p1) s = execCopyComplete p0 p1 s := rfl
theorem exec_invMsg (p0 : Nat) (s : State) : exec (.invMsg p0) s = execInvMsg p0 s := rfl
theorem exec_invxMsg (p0 : Nat) (s : State) : exec (.invxMsg p0) s = execInvxMsg p0 s := rfl
theorem exec_activationStart (p0 p1 : Nat) (s : State) : exec (.activationStart p0 p1) s = execActivationStart p0 p1 s := rfl
theorem exec_rawArrivalStart (p0 p1 : Nat) (s : State) : exec (.rawArrivalStart p0 p1) s = execRawArrivalStart p0 p1 s := rfl
theorem exec_kickStart (p0 p1 : Nat) (s : State) : exec (.kickStart p0 p1) s = execKickStart p0 p1 s := rfl
theorem exec_arrivalAgeing (p0 p1 : Nat) (s : State) : exec (.arrivalAgeing p0 p1) s = execArrivalAgeing p0 p1 s := rfl
theorem exec_pass (p0 : Nat) (s : State) : exec (.pass p0) s = execPass p0 s := rfl
theorem exec_passForward (p0 : Nat) (s : State) : exec (.passForward p0) s = execPassForward p0 s := rfl
theorem exec_passAtSlot (p0 : Nat) (s : State) : exec (.passAtSlot p0) s = execPassAtSlot p0 s := rfl
theorem exec_bounce (p0 : Nat) (s : State) : exec (.bounce p0) s = execBounce p0 s := rfl
theorem exec_readydelta (p0 : Nat) (s : State) : exec (.readydelta p0) s = execReadydelta p0 s := rfl
theorem exec_rdyquery (p0 : Nat) (s : State) : exec (.rdyquery p0) s = execRdyquery p0 s := rfl
theorem exec_rdyanswer (p0 : Nat) (s : State) : exec (.rdyanswer p0) s = execRdyanswer p0 s := rfl
theorem exec_reply (p0 : Nat) (s : State) : exec (.reply p0) s = execReply p0 s := rfl
theorem exec_break_ (p0 : Nat) (s : State) : exec (.break_ p0) s = execBreak p0 s := rfl
theorem exec_fetch (p0 : Nat) (s : State) : exec (.fetch p0) s = execFetch p0 s := rfl
theorem exec_value (p0 : Nat) (s : State) : exec (.value p0) s = execValue p0 s := rfl
theorem exec_hrelease (p0 : Nat) (s : State) : exec (.hrelease p0) s = execHrelease p0 s := rfl
theorem exec_relayForward (p0 p1 : Nat) (s : State) : exec (.relayForward p0 p1) s = execRelayForward p0 p1 s := rfl
theorem exec_rstvMsg (p0 : Nat) (s : State) : exec (.rstvMsg p0) s = execRstvMsg p0 s := rfl
theorem exec_redirectQueueDrain (p0 p1 : Nat) (s : State) : exec (.redirectQueueDrain p0 p1) s = execRedirectQueueDrain p0 p1 s := rfl
theorem exec_directoryAnswer (p0 : Nat) (s : State) : exec (.directoryAnswer p0) s = execDirectoryAnswer p0 s := rfl
theorem exec_grpctl (p0 : Nat) (s : State) : exec (.grpctl p0) s = execGrpctl p0 s := rfl
theorem exec_grpstat (p0 : Nat) (s : State) : exec (.grpstat p0) s = execGrpstat p0 s := rfl
theorem exec_memberPark (p0 p1 : Nat) (s : State) : exec (.memberPark p0 p1) s = execMemberPark p0 p1 s := rfl
theorem exec_saveImageComplete (p0 p1 : Nat) (s : State) : exec (.saveImageComplete p0 p1) s = execSaveImageComplete p0 p1 s := rfl
theorem exec_groupEnded (p0 : Nat) (s : State) : exec (.groupEnded p0) s = execGroupEnded p0 s := rfl
theorem exec_kickMsg (p0 : Nat) (s : State) : exec (.kickMsg p0) s = execKickMsg p0 s := rfl
theorem exec_kickoffFanout (p0 : Nat) (s : State) : exec (.kickoffFanout p0) s = execKickoffFanout p0 s := rfl
theorem exec_kickend (p0 : Nat) (s : State) : exec (.kickend p0) s = execKickend p0 s := rfl
theorem exec_bararrive (p0 : Nat) (s : State) : exec (.bararrive p0) s = execBararrive p0 s := rfl
theorem exec_barrelease (p0 : Nat) (s : State) : exec (.barrelease p0) s = execBarrelease p0 s := rfl
theorem exec_barrierTimeout (p0 p1 : Nat) (s : State) : exec (.barrierTimeout p0 p1) s = execBarrierTimeout p0 p1 s := rfl
theorem exec_barbreak (p0 : Nat) (s : State) : exec (.barbreak p0) s = execBarbreak p0 s := rfl
theorem exec_barconfig (p0 : Nat) (s : State) : exec (.barconfig p0) s = execBarconfig p0 s := rfl
theorem exec_refereePair (p0 : Nat) (s : State) : exec (.refereePair p0) s = execRefereePair p0 s := rfl
theorem exec_refereeTimeout (p0 : Nat) (s : State) : exec (.refereeTimeout p0) s = execRefereeTimeout p0 s := rfl
theorem exec_unassignedMessage (p0 : Nat) (s : State) : exec (.unassignedMessage p0) s = execUnassignedMessage p0 s := rfl
theorem exec_l2pdataWrite (p0 : Word) (s : State) : exec (.l2pdataWrite p0) s = execL2pdataWrite p0 s := rfl
theorem exec_l2pUpdate (p0 p1 : Nat) (s : State) : exec (.l2pUpdate p0 p1) s = execL2pUpdate p0 p1 s := rfl
theorem exec_rtdataWrite (p0 : Word) (s : State) : exec (.rtdataWrite p0) s = execRtdataWrite p0 s := rfl
theorem exec_vallotWrite (p0 : Word) (s : State) : exec (.vallotWrite p0) s = execVallotWrite p0 s := rfl
theorem exec_tgenWrite (p0 : Word) (s : State) : exec (.tgenWrite p0) s = execTgenWrite p0 s := rfl
theorem exec_ctxcmdCreate (s : State) : exec (.ctxcmdCreate) s = execCtxcmdCreate s := rfl
theorem exec_ctxcmdDestroy (s : State) : exec (.ctxcmdDestroy) s = execCtxcmdDestroy s := rfl
theorem exec_ctxrectWrite (p0 : Word) (s : State) : exec (.ctxrectWrite p0) s = execCtxrectWrite p0 s := rfl
theorem exec_contextBound (p0 : Nat) (s : State) : exec (.contextBound p0) s = execContextBound p0 s := rfl
theorem exec_contextShrunk (p0 : Nat) (s : State) : exec (.contextShrunk p0) s = execContextShrunk p0 s := rfl
theorem exec_contextDestroyed (p0 : Nat) (s : State) : exec (.contextDestroyed p0) s = execContextDestroyed p0 s := rfl
theorem exec_scrubComplete (p0 : Nat) (s : State) : exec (.scrubComplete p0) s = execScrubComplete p0 s := rfl
theorem exec_hfsendWrite (p0 : Word) (s : State) : exec (.hfsendWrite p0) s = execHfsendWrite p0 s := rfl
theorem exec_deviceFrame (p0 : Nat) (s : State) : exec (.deviceFrame p0) s = execDeviceFrame p0 s := rfl
theorem exec_frameWindowWrite (p0 p1 : Nat) (p2 : BitVec 512) (s : State) : exec (.frameWindowWrite p0 p1 p2) s = execFrameWindowWrite p0 p1 p2 s := rfl
theorem exec_hostframeInject (p0 : Nat) (s : State) : exec (.hostframeInject p0) s = execHostframeInject p0 s := rfl
theorem exec_hostframe (p0 : Nat) (s : State) : exec (.hostframe p0) s = execHostframe p0 s := rfl
theorem exec_gap (p0 : Nat) (s : State) : exec (.gap p0) s = execGap p0 s := rfl
theorem exec_drheadWrite (p0 : Nat) (p1 : BitVec 32) (s : State) : exec (.drheadWrite p0 p1) s = execDrheadWrite p0 p1 s := rfl
theorem exec_drbaseWrite (p0 : Nat) (p1 : Word) (s : State) : exec (.drbaseWrite p0 p1) s = execDrbaseWrite p0 p1 s := rfl
theorem exec_drsizeWrite (p0 : Nat) (p1 : BitVec 5) (s : State) : exec (.drsizeWrite p0 p1) s = execDrsizeWrite p0 p1 s := rfl
theorem exec_bar2Access (p0 : Bool) (p1 p2 : Nat) (p3 : List Byte) (s : State) : exec (.bar2Access p0 p1 p2 p3) s = execBar2Access p0 p1 p2 p3 s := rfl
theorem exec_functionLevelReset (p0 : Nat) (s : State) : exec (.functionLevelReset p0) s = execFunctionLevelReset p0 s := rfl
theorem exec_packageReset (s : State) : exec (.packageReset) s = execPackageReset s := rfl
theorem exec_bootctlGo (p0 : List Byte) (s : State) : exec (.bootctlGo p0) s = execBootctlGo p0 s := rfl
theorem exec_imageVerification (s : State) : exec (.imageVerification) s = execImageVerification s := rfl
theorem exec_discover (p0 : Nat) (s : State) : exec (.discover p0) s = execDiscover p0 s := rfl
theorem exec_discoverAnswer (p0 : Nat) (s : State) : exec (.discoverAnswer p0) s = execDiscoverAnswer p0 s := rfl
theorem exec_silentRouter (p0 p1 : Nat) (s : State) : exec (.silentRouter p0 p1) s = execSilentRouter p0 p1 s := rfl
theorem exec_floodEnd (p0 : Nat) (s : State) : exec (.floodEnd p0) s = execFloodEnd p0 s := rfl
theorem exec_measxWrite (p0 : Word) (s : State) : exec (.measxWrite p0) s = execMeasxWrite p0 s := rfl
theorem exec_attreqWrite (p0 : BitVec 512) (s : State) : exec (.attreqWrite p0) s = execAttreqWrite p0 s := rfl
theorem exec_attestationReport (s : State) : exec (.attestationReport) s = execAttestationReport s := rfl
theorem exec_powerLimit (p0 : Nat) (s : State) : exec (.powerLimit p0) s = execPowerLimit p0 s := rfl
theorem exec_overtemperature (s : State) : exec (.overtemperature) s = execOvertemperature s := rfl
theorem exec_powerGate (p0 : Nat) (s : State) : exec (.powerGate p0) s = execPowerGate p0 s := rfl
theorem exec_gateDrainTimeout (p0 : Nat) (s : State) : exec (.gateDrainTimeout p0) s = execGateDrainTimeout p0 s := rfl
theorem exec_droop (p0 p1 : Nat) (s : State) : exec (.droop p0 p1) s = execDroop p0 p1 s := rfl
theorem exec_droopRearm (p0 p1 : Nat) (s : State) : exec (.droopRearm p0 p1) s = execDroopRearm p0 p1 s := rfl
theorem exec_traceDrain (p0 : Nat) (s : State) : exec (.traceDrain p0) s = execTraceDrain p0 s := rfl
theorem exec_trtailWrite (p0 : Word) (s : State) : exec (.trtailWrite p0) s = execTrtailWrite p0 s := rfl
theorem exec_dbgctlWrite (p0 : Word) (s : State) : exec (.dbgctlWrite p0) s = execDbgctlWrite p0 s := rfl
theorem exec_hbmRowRepair (p0 p1 : Nat) (s : State) : exec (.hbmRowRepair p0 p1) s = execHbmRowRepair p0 p1 s := rfl
theorem exec_nodeidWrite (p0 : Word) (s : State) : exec (.nodeidWrite p0) s = execNodeidWrite p0 s := rfl
theorem exec_portctlWrite (p0 : Nat) (p1 : Word) (s : State) : exec (.portctlWrite p0 p1) s = execPortctlWrite p0 p1 s := rfl
theorem exec_trainingBackoff (p0 p1 : Nat) (s : State) : exec (.trainingBackoff p0 p1) s = execTrainingBackoff p0 p1 s := rfl
theorem exec_trainingSequence (p0 p1 : Nat) (p2 : TrainSeq) (s : State) : exec (.trainingSequence p0 p1 p2) s = execTrainingSequence p0 p1 p2 s := rfl
theorem exec_laneRetrain (p0 p1 : Nat) (p2 : Bool) (s : State) : exec (.laneRetrain p0 p1 p2) s = execLaneRetrain p0 p1 p2 s := rfl
theorem exec_linkFlit (p0 : Nat) (p1 : LinkFlit) (s : State) : exec (.linkFlit p0 p1) s = execLinkFlit p0 p1 s := rfl
theorem exec_linkResendTimeout (p0 : Nat) (s : State) : exec (.linkResendTimeout p0) s = execLinkResendTimeout p0 s := rfl
theorem exec_portDown (p0 : Nat) (s : State) : exec (.portDown p0) s = execPortDown p0 s := rfl
theorem exec_marker (p0 : Nat) (s : State) : exec (.marker p0) s = execMarker p0 s := rfl
theorem exec_ckptWalk (p0 : Nat) (s : State) : exec (.ckptWalk p0) s = execCkptWalk p0 s := rfl
theorem exec_acceptNotice (p0 : Nat) (s : State) : exec (.acceptNotice p0) s = execAcceptNotice p0 s := rfl

end Sys2Proof.Machine
end

