-- ==== Sys2Proof/Laws/Map.lean ====
section
/-! SUPPORT. Reading a map after a write, and the canonical form. -/

namespace Sys2Proof.Machine.Map

variable {β : Type}

theorem find_erase_same (m : Map β) (k : Nat) : find (erase m k) k = none := by
  induction m with
  | nil => rfl
  | cons e r ih => obtain ⟨i, v⟩ := e; by_cases h : i = k <;> simp [erase, find, h, ih]

theorem find_erase_ne (m : Map β) {j k : Nat} (h : j ≠ k) : find (erase m k) j = find m j := by
  induction m with
  | nil => rfl
  | cons e r ih =>
    obtain ⟨i, v⟩ := e
    by_cases hi : i = k
    · subst hi; simp [erase, find, ih, Ne.symm h]
    · by_cases hj : i = j
      · subst hj; simp [erase, find, hi]
      · simp [erase, find, hi, hj, ih]

theorem find_insert_ne (m : Map β) {j k : Nat} (v : β) (h : j ≠ k) : find (insert m k v) j = find m j := by
  induction m with
  | nil => simp [insert, find, Ne.symm h]
  | cons e r ih =>
    obtain ⟨i, w⟩ := e
    by_cases hj : i = j
    · subst hj; by_cases hi : k < i <;> simp [insert, find, hi, Ne.symm h]
    · by_cases hi : k < i <;> simp [insert, find, hi, hj, ih, Ne.symm h]

theorem find_insert_same (m : Map β) (k : Nat) (v : β) (h : find m k = none) : find (insert m k v) k = some v := by
  induction m with
  | nil => simp [insert, find]
  | cons e r ih =>
    obtain ⟨i, w⟩ := e
    by_cases hk : i = k
    · simp [find, hk] at h
    · simp only [find, hk, if_false] at h
      by_cases hi : k < i <;> simp [insert, find, hi, hk, ih h]

@[simp] theorem find_put_same (m : Map β) (k : Nat) (v : β) : find (put m k v) k = some v :=
  find_insert_same _ _ _ (find_erase_same m k)

theorem find_put_ne (m : Map β) {j k : Nat} (v : β) (h : j ≠ k) : find (put m k v) j = find m j := by
  rw [put, find_insert_ne _ _ h, find_erase_ne _ h]

@[simp] theorem get_put_same (d : Nat → β) (m : Map β) (k : Nat) (v : β) : get d (put m k v) k = v := by simp [get]

theorem get_put_ne (d : Nat → β) (m : Map β) {j k : Nat} (v : β) (h : j ≠ k) : get d (put m k v) j = get d m j := by
  simp [get, find_put_ne m v h]

theorem get_put (d : Nat → β) (m : Map β) (j k : Nat) (v : β) : get d (put m k v) j = if j = k then v else get d m j := by
  by_cases h : j = k
  · subst h; simp
  · simp [h, get_put_ne d m v h]

theorem get_set [DecidableEq β] (d : Nat → β) (m : Map β) (j k : Nat) (v : β) :
    get d (set d m k v) j = if j = k then v else get d m j := by
  by_cases hv : v = d k
  · by_cases h : j = k
    · subst h; simp [set, hv, get, find_erase_same]
    · simp [set, hv, get, find_erase_ne m h, h]
  · simp only [set, if_neg hv, get_put]

@[simp] theorem get_set_same [DecidableEq β] (d : Nat → β) (m : Map β) (k : Nat) (v : β) : get d (set d m k v) k = v := by
  simp [get_set]

theorem get_set_ne [DecidableEq β] (d : Nat → β) (m : Map β) {j k : Nat} (v : β) (h : j ≠ k) :
    get d (set d m k v) j = get d m j := by simp [get_set, h]

/-! ### The canonical form -/

theorem mem_erase {m : Map β} {k : Nat} {e : Nat × β} (h : e ∈ erase m k) : e ∈ m ∧ e.1 ≠ k := by
  induction m with
  | nil => simp [erase] at h
  | cons a r ih =>
    obtain ⟨i, v⟩ := a
    by_cases hi : i = k
    · rw [erase, if_pos hi] at h; exact ⟨List.mem_cons_of_mem _ (ih h).1, (ih h).2⟩
    · rw [erase, if_neg hi, List.mem_cons] at h
      rcases h with rfl | h
      · exact ⟨List.mem_cons_self, hi⟩
      · exact ⟨List.mem_cons_of_mem _ (ih h).1, (ih h).2⟩

theorem mem_insert {m : Map β} {k : Nat} {v : β} {e : Nat × β} (h : e ∈ insert m k v) : e = (k, v) ∨ e ∈ m := by
  induction m with
  | nil => simpa [insert] using h
  | cons a r ih =>
    obtain ⟨i, w⟩ := a
    by_cases hi : k < i
    · rw [insert, if_pos hi, List.mem_cons] at h; exact h
    · rw [insert, if_neg hi, List.mem_cons] at h
      rcases h with rfl | h
      · exact .inr List.mem_cons_self
      · rcases ih h with h | h
        · exact .inl h
        · exact .inr (List.mem_cons_of_mem _ h)

theorem sorted_cons {i : Nat} {v : β} {r : Map β} : sorted ((i, v) :: r) = true ↔ (∀ e ∈ r, i < e.1) ∧ sorted r = true := by
  simp [sorted]

theorem sorted_erase {m : Map β} (k : Nat) (h : sorted m = true) : sorted (erase m k) = true := by
  induction m with
  | nil => rfl
  | cons a r ih =>
    obtain ⟨i, v⟩ := a
    rw [sorted_cons] at h
    by_cases hi : i = k
    · rw [erase, if_pos hi]; exact ih h.2
    · rw [erase, if_neg hi, sorted_cons]; exact ⟨fun e he => h.1 e (mem_erase he).1, ih h.2⟩

theorem sorted_insert {m : Map β} {k : Nat} (v : β) (h : sorted m = true) (hk : ∀ e ∈ m, e.1 ≠ k) : sorted (insert m k v) = true := by
  induction m with
  | nil => rfl
  | cons a r ih =>
    obtain ⟨i, w⟩ := a
    have hs := h
    rw [sorted_cons] at h
    have hne : i ≠ k := hk (i, w) List.mem_cons_self
    by_cases hi : k < i
    · rw [insert, if_pos hi, sorted_cons]
      refine ⟨fun e he => ?_, hs⟩
      rcases List.mem_cons.1 he with rfl | he
      · exact hi
      · exact Nat.lt_trans hi (h.1 e he)
    · rw [insert, if_neg hi, sorted_cons]
      refine ⟨fun e he => ?_, ih h.2 fun e he => hk e (List.mem_cons_of_mem _ he)⟩
      rcases mem_insert he with rfl | he
      · simp; omega
      · exact h.1 e he

theorem sorted_put {m : Map β} (k : Nat) (v : β) (h : sorted m = true) : sorted (put m k v) = true :=
  sorted_insert v (sorted_erase k h) fun _ he => (mem_erase he).2

theorem sorted_set [DecidableEq β] (d : Nat → β) {m : Map β} (k : Nat) (v : β) (h : sorted m = true) : sorted (set d m k v) = true := by
  by_cases hv : v = d k
  · rw [set, if_pos hv]; exact sorted_erase k h
  · rw [set, if_neg hv]; exact sorted_put k v h

theorem mem_set [DecidableEq β] {d : Nat → β} {m : Map β} {k : Nat} {v : β} {e : Nat × β} (h : e ∈ set d m k v) :
    (e = (k, v) ∧ v ≠ d k) ∨ e ∈ m := by
  by_cases hv : v = d k
  · rw [set, if_pos hv] at h; exact .inr (mem_erase h).1
  · rw [set, if_neg hv] at h
    rcases mem_insert h with h | h
    · exact .inl ⟨h, hv⟩
    · exact .inr (mem_erase h).1

end Sys2Proof.Machine.Map
end

