-- ==== Sys2Proof/Laws/Memory.lean ====
section
/-! SUPPORT. Read after write, and the canonical form of a memory: every operation keeps it. -/

namespace Sys2Proof.Machine.Memory

@[simp] theorem setByte_kind (m : Memory) (a : Nat) (b : Byte) : (m.setByte a b).kind = m.kind := rfl

theorem byte_setByte (m : Memory) (a : Nat) (b : Byte) (x : Nat) : (m.setByte a b).byte x = if x = a then b else m.byte x := by
  simp only [byte, setByte, Map.get_set]

@[simp] theorem byte_setByte_same (m : Memory) (a : Nat) (b : Byte) : (m.setByte a b).byte a = b := by simp [byte_setByte]

theorem wf_empty (k : MemKind) : (empty k).wf := by simp [wf, empty, Map.sorted]

theorem setByte_wf {m : Memory} (a : Nat) (b : Byte) (h : m.wf) : (m.setByte a b).wf := by
  refine ⟨Map.sorted_set _ a b h.1, fun e he => ?_⟩
  rcases Map.mem_set he with ⟨rfl, hv⟩ | he
  · exact hv
  · exact h.2 e he

@[simp] theorem store_kind (m : Memory) (a n v : Nat) : (m.store a n v).kind = m.kind := by
  induction n generalizing m a v with
  | zero => rfl
  | succ n ih => simp [store, ih]

theorem store_wf {m : Memory} (a n v : Nat) (h : m.wf) : (m.store a n v).wf := by
  induction n generalizing m a v with
  | zero => exact h
  | succ n ih => exact ih _ _ (setByte_wf a _ h)

theorem byte_store (m : Memory) (a n v x : Nat) :
    (m.store a n v).byte x = if a ≤ x ∧ x < a + n then BitVec.ofNat 8 (v / 256 ^ (x - a)) else m.byte x := by
  induction n generalizing m a v with
  | zero => rw [store, if_neg (by omega)]
  | succ n ih =>
    rw [store, ih, byte_setByte]
    by_cases h : x = a
    · subst h; rw [if_neg (by omega), if_pos rfl, if_pos (by omega)]; simp
    · by_cases h2 : a + 1 ≤ x ∧ x < a + 1 + n
      · rw [if_pos h2, if_pos (by omega)]
        have : x - a = (x - (a + 1)) + 1 := by omega
        rw [this, Nat.div_div_eq_div_mul, Nat.pow_succ, Nat.mul_comm 256]
      · rw [if_neg h2, if_neg h, if_neg (by omega)]

/-- A byte outside a store is as before. -/
theorem byte_store_out (m : Memory) (a n v x : Nat) (h : x < a ∨ a + n ≤ x) : (m.store a n v).byte x = m.byte x := by
  rw [byte_store, if_neg (by omega)]

theorem load_congr {m m' : Memory} (a n : Nat) (h : ∀ x, a ≤ x → x < a + n → m.byte x = m'.byte x) : m.load a n = m'.load a n := by
  induction n generalizing a with
  | zero => rfl
  | succ n ih => rw [load, load, h a (by omega) (by omega), ih (a + 1) fun x h1 h2 => h x (by omega) (by omega)]

/-- A load after a store of the same bytes gives the value stored. -/
theorem load_store (m : Memory) (a n v : Nat) : (m.store a n v).load a n = v % 256 ^ n := by
  induction n generalizing m a v with
  | zero => simp [load, Nat.mod_one]
  | succ n ih =>
    have hb : (m.store a (n + 1) v).byte a = BitVec.ofNat 8 v := by rw [byte_store, if_pos (by omega)]; simp
    rw [load, hb, store, ih, Nat.pow_succ, Nat.mul_comm (256 ^ n), Nat.mod_mul]
    simp

end Sys2Proof.Machine.Memory
end

