-- ==== Sys2Proof/Laws/PerInstr.lean ====
section
/-! SUPPORT. For every instruction: the words that encode it carry the framing bit L that the encoder was asked for; a REP word is always lone
(R36, R37). -/

set_option Elab.async false

namespace Sys2Proof.Laws.Framed

/-- A REP word (R111). -/
def isRep (i : Instr) : Bool := match i with
  | .rep _ _ _ _ _ => true
  | _ => false

/-- The framing bit of the instruction's words. -/
def Statement (i : Instr) : Prop := ∀ l w, encode l i = some w → isLone w = (l || isRep i)

@[simp] theorem lone_wCR (l : Bool) (maj : BitVec 6) (d s1 s2 : BitVec 5) (la : BitVec 4) (fn : BitVec 5) : isLone (wCR l maj d s1 s2 la fn) = l := by
  simp only [isLone, flag, wCR, BitVec.getLsbD_append]; cases l <;> rfl
@[simp] theorem lone_wCG (l : Bool) (fn s1 : BitVec 5) (sc : BitVec 4) (imm : BitVec 10) : isLone (wCG l fn s1 sc imm) = l := by
  simp only [isLone, flag, wCG, BitVec.getLsbD_append]; cases l <;> rfl
@[simp] theorem lone_wCC (l : Bool) (maj : BitVec 6) (x : BitVec 5) (cr : BitVec 12) : isLone (wCC l maj x cr) = l := by
  simp only [isLone, flag, wCC, BitVec.getLsbD_append]; cases l <;> rfl
@[simp] theorem lone_wCB (l : Bool) (maj : BitVec 6) (s t : BitVec 5) (off : BitVec 14) : isLone (wCB l maj s t off) = l := by
  simp only [isLone, flag, wCB, BitVec.getLsbD_append]; cases l <;> rfl
@[simp] theorem lone_wCM (l : Bool) (maj : BitVec 6) (d : BitVec 5) (a : BitVec 4) (xi : BitVec 5) (la : BitVec 4) (sz mode : BitVec 3) : isLone (wCM l maj d a xi la sz mode) = l := by
  simp only [isLone, flag, wCM, BitVec.getLsbD_append]; cases l <;> rfl
@[simp] theorem lone_wCA (l : Bool) (d : BitVec 5) (a : BitVec 4) (x : BitVec 5) (sc : BitVec 4) (ord : BitVec 2) (op : BitVec 4) : isLone (wCA l d a x sc ord op) = l := by
  simp only [isLone, flag, wCA, BitVec.getLsbD_append]; cases l <;> rfl
@[simp] theorem lone_wCQ (l : Bool) (ad asrc : BitVec 4) (x1 x2 : BitVec 5) (fn : BitVec 6) : isLone (wCQ l ad asrc x1 x2 fn) = l := by
  simp only [isLone, flag, wCQ, BitVec.getLsbD_append]; cases l <;> rfl
@[simp] theorem lone_wCX (l : Bool) (ad asrc : BitVec 4) (xl : BitVec 5) (tag : BitVec 6) (cpa : BitVec 2) (fn : BitVec 3) : isLone (wCX l ad asrc xl tag cpa fn) = l := by
  simp only [isLone, flag, wCX, BitVec.getLsbD_append]; cases l <;> rfl
@[simp] theorem lone_wCV (l : Bool) (maj : BitVec 6) (d xt va : BitVec 5) (tag : BitVec 6) (kind : BitVec 2) (sticky : Bool) : isLone (wCV l maj d xt va tag kind sticky) = l := by
  simp only [isLone, flag, wCV, BitVec.getLsbD_append]; cases l <;> rfl
@[simp] theorem lone_wAR (l : Bool) (op : BitVec 7) (d s t : BitVec 5) (ty mk : BitVec 3) (fl : BitVec 2) : isLone (wAR l op d s t ty mk fl) = l := by
  simp only [isLone, flag, wAR, BitVec.getLsbD_append]; cases l <;> rfl
@[simp] theorem lone_wAI (l : Bool) (op : BitVec 7) (d s : BitVec 5) (imm : BitVec 13) : isLone (wAI l op d s imm) = l := by
  simp only [isLone, flag, wAI, BitVec.getLsbD_append]; cases l <;> rfl
@[simp] theorem lone_wA4 (l : Bool) (op : BitVec 7) (d s t u : BitVec 5) (ty : BitVec 3) : isLone (wA4 l op d s t u ty) = l := by
  simp only [isLone, flag, wA4, BitVec.getLsbD_append]; cases l <;> rfl
@[simp] theorem lone_wAC (l : Bool) (op : BitVec 7) (md cond : BitVec 3) (s t : BitVec 5) (ty zero : BitVec 3) (u : Bool) : isLone (wAC l op md cond s t ty zero u) = l := by
  simp only [isLone, flag, wAC, BitVec.getLsbD_append]; cases l <;> rfl
@[simp] theorem lone_wAM (l : Bool) (op : BitVec 7) (ad s t : BitVec 4) (ty : BitVec 3) (fl : BitVec 2) : isLone (wAM l op ad s t ty fl) = l := by
  simp only [isLone, flag, wAM, BitVec.getLsbD_append]; cases l <;> rfl

theorem nop : Statement (.nop) := by
  intro l w h; obtain rfl := Option.some.inj h; exact (lone_wCG ..).trans (Bool.or_false l).symm
theorem trap (code : BitVec 10) : Statement (.trap code) := by
  intro l w h; obtain rfl := Option.some.inj h; exact (lone_wCG ..).trans (Bool.or_false l).symm
theorem eret : Statement (.eret) := by
  intro l w h; obtain rfl := Option.some.inj h; exact (lone_wCG ..).trans (Bool.or_false l).symm
theorem idle : Statement (.idle) := by
  intro l w h; obtain rfl := Option.some.inj h; exact (lone_wCG ..).trans (Bool.or_false l).symm
theorem fence (sc : Scope) (kind : FenceKind) : Statement (.fence sc kind) := by
  intro l w h; obtain rfl := Option.some.inj h; exact (lone_wCG ..).trans (Bool.or_false l).symm
theorem drainnt (sc : Scope) : Statement (.drainnt sc) := by
  intro l w h; obtain rfl := Option.some.inj h; exact (lone_wCG ..).trans (Bool.or_false l).symm
theorem rgn : Statement (.rgn) := by
  intro l w h; obtain rfl := Option.some.inj h; exact (lone_wCG ..).trans (Bool.or_false l).symm
theorem rgnend : Statement (.rgnend) := by
  intro l w h; obtain rfl := Option.some.inj h; exact (lone_wCG ..).trans (Bool.or_false l).symm
theorem brk (code : BitVec 10) : Statement (.brk code) := by
  intro l w h; obtain rfl := Option.some.inj h; exact (lone_wCG ..).trans (Bool.or_false l).symm
theorem tmark (s : XReg) (code : BitVec 10) : Statement (.tmark s code) := by
  intro l w h; obtain rfl := Option.some.inj h; exact (lone_wCG ..).trans (Bool.or_false l).symm
theorem crr (x : XReg) (cr : BitVec 12) : Statement (.crr x cr) := by
  intro l w h; obtain rfl := Option.some.inj h; exact (lone_wCC ..).trans (Bool.or_false l).symm
theorem crw (x : XReg) (cr : BitVec 12) : Statement (.crw x cr) := by
  intro l w h; obtain rfl := Option.some.inj h; exact (lone_wCC ..).trans (Bool.or_false l).symm
theorem crset (x : XReg) (cr : BitVec 12) : Statement (.crset x cr) := by
  intro l w h; obtain rfl := Option.some.inj h; exact (lone_wCC ..).trans (Bool.or_false l).symm
theorem crclr (x : XReg) (cr : BitVec 12) : Statement (.crclr x cr) := by
  intro l w h; obtain rfl := Option.some.inj h; exact (lone_wCC ..).trans (Bool.or_false l).symm
theorem yield (dl : BitVec 8) (xm : XReg) : Statement (.yield dl xm) := by
  intro l w h; obtain rfl := Option.some.inj h; simp only [isRep, isLone, flag, BitVec.getLsbD_append]; cases l <;> rfl
theorem rep (xc : XReg) (imm : BitVec 6) (ds s1s s2s : BitVec 3) : Statement (.rep xc imm ds s1s s2s) := by
  intro l w h; obtain rfl := Option.some.inj h; simp only [isRep, isLone, flag, BitVec.getLsbD_append]; cases l <;> rfl
theorem j (off : BitVec 24) : Statement (.j off) := by
  intro l w h; obtain rfl := Option.some.inj h; simp only [isRep, isLone, flag, BitVec.getLsbD_append]; cases l <;> rfl
theorem jal (off : BitVec 24) : Statement (.jal off) := by
  intro l w h; obtain rfl := Option.some.inj h; simp only [isRep, isLone, flag, BitVec.getLsbD_append]; cases l <;> rfl
theorem jalr (d s : XReg) (imm : BitVec 10) : Statement (.jalr d s imm) := by
  intro l w h; obtain rfl := Option.some.inj h; simp only [isRep, isLone, flag, BitVec.getLsbD_append]; cases l <;> rfl
theorem beq (s t : XReg) (off : BitVec 14) : Statement (.beq s t off) := by
  intro l w h; obtain rfl := Option.some.inj h; exact (lone_wCB ..).trans (Bool.or_false l).symm
theorem bne (s t : XReg) (off : BitVec 14) : Statement (.bne s t off) := by
  intro l w h; obtain rfl := Option.some.inj h; exact (lone_wCB ..).trans (Bool.or_false l).symm
theorem blt (s t : XReg) (off : BitVec 14) : Statement (.blt s t off) := by
  intro l w h; obtain rfl := Option.some.inj h; exact (lone_wCB ..).trans (Bool.or_false l).symm
theorem bge (s t : XReg) (off : BitVec 14) : Statement (.bge s t off) := by
  intro l w h; obtain rfl := Option.some.inj h; exact (lone_wCB ..).trans (Bool.or_false l).symm
theorem bltu (s t : XReg) (off : BitVec 14) : Statement (.bltu s t off) := by
  intro l w h; obtain rfl := Option.some.inj h; exact (lone_wCB ..).trans (Bool.or_false l).symm
theorem bgeu (s t : XReg) (off : BitVec 14) : Statement (.bgeu s t off) := by
  intro l w h; obtain rfl := Option.some.inj h; exact (lone_wCB ..).trans (Bool.or_false l).symm
theorem bany (m : MReg) (off : BitVec 14) : Statement (.bany m off) := by
  intro l w h; obtain rfl := Option.some.inj h; exact (lone_wCB ..).trans (Bool.or_false l).symm
theorem bnone (m : MReg) (off : BitVec 14) : Statement (.bnone m off) := by
  intro l w h; obtain rfl := Option.some.inj h; exact (lone_wCB ..).trans (Bool.or_false l).symm
theorem lds (d : XReg) (a : AReg) (xi : XReg) (la : BitVec 4) (sz mode : BitVec 3) : Statement (.lds d a xi la sz mode) := by
  intro l w h; obtain rfl := Option.some.inj h; exact (lone_wCM ..).trans (Bool.or_false l).symm
theorem sts (s : XReg) (a : AReg) (xi : XReg) (sz mode : BitVec 3) : Statement (.sts s a xi sz mode) := by
  intro l w h; obtain rfl := Option.some.inj h; exact (lone_wCM ..).trans (Bool.or_false l).symm
theorem ldv (d : VReg) (a : AReg) (xi : BitVec 5) (la : BitVec 4) (sz mode : BitVec 3) : Statement (.ldv d a xi la sz mode) := by
  intro l w h; obtain rfl := Option.some.inj h; exact (lone_wCM ..).trans (Bool.or_false l).symm
theorem stv (s : VReg) (a : AReg) (xi : BitVec 5) (sz mode : BitVec 3) : Statement (.stv s a xi sz mode) := by
  intro l w h; obtain rfl := Option.some.inj h; exact (lone_wCM ..).trans (Bool.or_false l).symm
theorem stnt (s : VReg) (a : AReg) (xi : BitVec 5) (sz mode : BitVec 3) : Statement (.stnt s a xi sz mode) := by
  intro l w h; obtain rfl := Option.some.inj h; exact (lone_wCM ..).trans (Bool.or_false l).symm
theorem ldfe (d : XReg) (a : AReg) (la : BitVec 4) (mode : BitVec 2) : Statement (.ldfe d a la mode) := by
  intro l w h; obtain rfl := Option.some.inj h; exact (lone_wCM ..).trans (Bool.or_false l).symm
theorem stfe (s : XReg) (a : AReg) (mode : BitVec 2) : Statement (.stfe s a mode) := by
  intro l w h; obtain rfl := Option.some.inj h; exact (lone_wCM ..).trans (Bool.or_false l).symm
theorem atomAdd (d : XReg) (a : AReg) (x : XReg) (sc : Scope) (ord : BitVec 2) : Statement (.atomAdd d a x sc ord) := by
  intro l w h; obtain rfl := Option.some.inj h; exact (lone_wCA ..).trans (Bool.or_false l).symm
theorem atomAnd (d : XReg) (a : AReg) (x : XReg) (sc : Scope) (ord : BitVec 2) : Statement (.atomAnd d a x sc ord) := by
  intro l w h; obtain rfl := Option.some.inj h; exact (lone_wCA ..).trans (Bool.or_false l).symm
theorem atomOr (d : XReg) (a : AReg) (x : XReg) (sc : Scope) (ord : BitVec 2) : Statement (.atomOr d a x sc ord) := by
  intro l w h; obtain rfl := Option.some.inj h; exact (lone_wCA ..).trans (Bool.or_false l).symm
theorem atomXor (d : XReg) (a : AReg) (x : XReg) (sc : Scope) (ord : BitVec 2) : Statement (.atomXor d a x sc ord) := by
  intro l w h; obtain rfl := Option.some.inj h; exact (lone_wCA ..).trans (Bool.or_false l).symm
theorem atomMin (d : XReg) (a : AReg) (x : XReg) (sc : Scope) (ord : BitVec 2) : Statement (.atomMin d a x sc ord) := by
  intro l w h; obtain rfl := Option.some.inj h; exact (lone_wCA ..).trans (Bool.or_false l).symm
theorem atomMax (d : XReg) (a : AReg) (x : XReg) (sc : Scope) (ord : BitVec 2) : Statement (.atomMax d a x sc ord) := by
  intro l w h; obtain rfl := Option.some.inj h; exact (lone_wCA ..).trans (Bool.or_false l).symm
theorem atomMinu (d : XReg) (a : AReg) (x : XReg) (sc : Scope) (ord : BitVec 2) : Statement (.atomMinu d a x sc ord) := by
  intro l w h; obtain rfl := Option.some.inj h; exact (lone_wCA ..).trans (Bool.or_false l).symm
theorem atomMaxu (d : XReg) (a : AReg) (x : XReg) (sc : Scope) (ord : BitVec 2) : Statement (.atomMaxu d a x sc ord) := by
  intro l w h; obtain rfl := Option.some.inj h; exact (lone_wCA ..).trans (Bool.or_false l).symm
theorem atomSwap (d : XReg) (a : AReg) (x : XReg) (sc : Scope) (ord : BitVec 2) : Statement (.atomSwap d a x sc ord) := by
  intro l w h; obtain rfl := Option.some.inj h; exact (lone_wCA ..).trans (Bool.or_false l).symm
theorem atomCas (d : XReg) (a : AReg) (x : XReg) (sc : Scope) (ord : BitVec 2) : Statement (.atomCas d a x sc ord) := by
  intro l w h; obtain rfl := Option.some.inj h; exact (lone_wCA ..).trans (Bool.or_false l).symm
theorem atomMaxrst (d : XReg) (a : AReg) (x : XReg) (sc : Scope) (ord : BitVec 2) : Statement (.atomMaxrst d a x sc ord) := by
  intro l w h; obtain rfl := Option.some.inj h; exact (lone_wCA ..).trans (Bool.or_false l).symm
theorem atomFadd (d : XReg) (a : AReg) (x : XReg) (sc : Scope) (ord : BitVec 2) : Statement (.atomFadd d a x sc ord) := by
  intro l w h; obtain rfl := Option.some.inj h; exact (lone_wCA ..).trans (Bool.or_false l).symm
theorem atomFmax (d : XReg) (a : AReg) (x : XReg) (sc : Scope) (ord : BitVec 2) : Statement (.atomFmax d a x sc ord) := by
  intro l w h; obtain rfl := Option.some.inj h; exact (lone_wCA ..).trans (Bool.or_false l).symm
theorem atomFmaxrst (d : XReg) (a : AReg) (x : XReg) (sc : Scope) (ord : BitVec 2) : Statement (.atomFmaxrst d a x sc ord) := by
  intro l w h; obtain rfl := Option.some.inj h; exact (lone_wCA ..).trans (Bool.or_false l).symm
theorem amov (ad asrc : AReg) : Statement (.amov ad asrc) := by
  intro l w h; obtain rfl := Option.some.inj h; exact (lone_wCQ ..).trans (Bool.or_false l).symm
theorem anarrow (ad asrc : AReg) (xb xr : XReg) : Statement (.anarrow ad asrc xb xr) := by
  intro l w h; obtain rfl := Option.some.inj h; exact (lone_wCQ ..).trans (Bool.or_false l).symm
theorem aadd (ad asrc : AReg) (xo : XReg) : Statement (.aadd ad asrc xo) := by
  intro l w h; obtain rfl := Option.some.inj h; exact (lone_wCQ ..).trans (Bool.or_false l).symm
theorem asetp (ad asrc : AReg) (xp : XReg) : Statement (.asetp ad asrc xp) := by
  intro l w h; obtain rfl := Option.some.inj h; exact (lone_wCQ ..).trans (Bool.or_false l).symm
theorem agetp (asrc : AReg) (x : XReg) : Statement (.agetp asrc x) := by
  intro l w h; obtain rfl := Option.some.inj h; exact (lone_wCQ ..).trans (Bool.or_false l).symm
theorem agetb (asrc : AReg) (x : XReg) : Statement (.agetb asrc x) := by
  intro l w h; obtain rfl := Option.some.inj h; exact (lone_wCQ ..).trans (Bool.or_false l).symm
theorem agetl (asrc : AReg) (x : XReg) : Statement (.agetl asrc x) := by
  intro l w h; obtain rfl := Option.some.inj h; exact (lone_wCQ ..).trans (Bool.or_false l).symm
theorem aperm (asrc : AReg) (x : XReg) : Statement (.aperm asrc x) := by
  intro l w h; obtain rfl := Option.some.inj h; exact (lone_wCQ ..).trans (Bool.or_false l).symm
theorem amake (ad : AReg) (xb xr : XReg) : Statement (.amake ad xb xr) := by
  intro l w h; obtain rfl := Option.some.inj h; exact (lone_wCQ ..).trans (Bool.or_false l).symm
theorem aaddi (ad asrc : AReg) (imm : BitVec 16) : Statement (.aaddi ad asrc imm) := by
  intro l w h; obtain rfl := Option.some.inj h; simp only [isRep, isLone, flag, BitVec.getLsbD_append]; cases l <;> rfl
theorem copy (ad asrc : AReg) (xl : XReg) (tag : BitVec 6) (cpa : BitVec 2) : Statement (.copy ad asrc xl tag cpa) := by
  intro l w h; obtain rfl := Option.some.inj h; exact (lone_wCX ..).trans (Bool.or_false l).symm
theorem copy2d (ad asrc : AReg) (xl : XReg) (tag : BitVec 6) (cpa : BitVec 2) : Statement (.copy2d ad asrc xl tag cpa) := by
  intro l w h; obtain rfl := Option.some.inj h; exact (lone_wCX ..).trans (Bool.or_false l).symm
theorem copymc (ad asrc : AReg) (xl : XReg) (tag : BitVec 6) (cpa : BitVec 2) : Statement (.copymc ad asrc xl tag cpa) := by
  intro l w h; obtain rfl := Option.some.inj h; exact (lone_wCX ..).trans (Bool.or_false l).symm
theorem copygt (ad asrc : AReg) (xl : XReg) (tag : BitVec 6) (cpa : BitVec 2) : Statement (.copygt ad asrc xl tag cpa) := by
  intro l w h; obtain rfl := Option.some.inj h; exact (lone_wCX ..).trans (Bool.or_false l).symm
theorem waitany (d s : XReg) : Statement (.waitany d s) := by
  intro l w h; obtain rfl := Option.some.inj h; exact (lone_wCR ..).trans (Bool.or_false l).symm
theorem waitall (s : XReg) : Statement (.waitall s) := by
  intro l w h; obtain rfl := Option.some.inj h; exact (lone_wCR ..).trans (Bool.or_false l).symm
theorem tfirst (d s : XReg) : Statement (.tfirst d s) := by
  intro l w h; obtain rfl := Option.some.inj h; exact (lone_wCR ..).trans (Bool.or_false l).symm
theorem tclr (s : XReg) : Statement (.tclr s) := by
  intro l w h; obtain rfl := Option.some.inj h; exact (lone_wCR ..).trans (Bool.or_false l).symm
theorem tget (d s : XReg) : Statement (.tget d s) := by
  intro l w h; obtain rfl := Option.some.inj h; exact (lone_wCR ..).trans (Bool.or_false l).symm
theorem mjob (d s : XReg) : Statement (.mjob d s) := by
  intro l w h; obtain rfl := Option.some.inj h; exact (lone_wCR ..).trans (Bool.or_false l).symm
theorem mtile (xc : XReg) (opA opB : BitVec 6) (tb ta : Bool) (mode : BitVec 2) : Statement (.mtile xc opA opB tb ta mode) := by
  intro l w h; obtain rfl := Option.some.inj h; simp only [isRep, isLone, flag, BitVec.getLsbD_append]; cases l <;> rfl
theorem mwait (d s : XReg) (la : BitVec 4) : Statement (.mwait d s la) := by
  intro l w h; obtain rfl := Option.some.inj h; exact (lone_wCR ..).trans (Bool.or_false l).symm
theorem mstat (d s : XReg) : Statement (.mstat d s) := by
  intro l w h; obtain rfl := Option.some.inj h; exact (lone_wCR ..).trans (Bool.or_false l).symm
theorem mcancel (s : XReg) : Statement (.mcancel s) := by
  intro l w h; obtain rfl := Option.some.inj h; exact (lone_wCR ..).trans (Bool.or_false l).symm
theorem acst (xp xc xl : XReg) (la : BitVec 4) : Statement (.acst xp xc xl la) := by
  intro l w h; obtain rfl := Option.some.inj h; exact (lone_wCR ..).trans (Bool.or_false l).symm
theorem acstb (xp xc xl : XReg) (la : BitVec 4) : Statement (.acstb xp xc xl la) := by
  intro l w h; obtain rfl := Option.some.inj h; exact (lone_wCR ..).trans (Bool.or_false l).symm
theorem acld (xp xc xl : XReg) (la : BitVec 4) : Statement (.acld xp xc xl la) := by
  intro l w h; obtain rfl := Option.some.inj h; exact (lone_wCR ..).trans (Bool.or_false l).symm
theorem aczero (xc : XReg) : Statement (.aczero xc) := by
  intro l w h; obtain rfl := Option.some.inj h; exact (lone_wCR ..).trans (Bool.or_false l).symm
theorem acstsc (xp xc xl : XReg) (la : BitVec 4) : Statement (.acstsc xp xc xl la) := by
  intro l w h; obtain rfl := Option.some.inj h; exact (lone_wCR ..).trans (Bool.or_false l).symm
theorem inv (d xt : XReg) (va : VReg) (tag : BitVec 6) (kind : InvKind) (sticky : Bool) : Statement (.inv d xt va tag kind sticky) := by
  intro l w h; obtain rfl := Option.some.inj h; exact (lone_wCV ..).trans (Bool.or_false l).symm
theorem invx (d xt : XReg) (va : VReg) (tag : BitVec 6) (kind : InvKind) (sticky : Bool) : Statement (.invx d xt va tag kind sticky) := by
  intro l w h; obtain rfl := Option.some.inj h; exact (lone_wCV ..).trans (Bool.or_false l).symm
theorem hwait (d xh xf : XReg) (la : BitVec 4) : Statement (.hwait d xh xf la) := by
  intro l w h; obtain rfl := Option.some.inj h; exact (lone_wCR ..).trans (Bool.or_false l).symm
theorem hwaitv (d : VReg) (xh xf : XReg) (la : BitVec 4) : Statement (.hwaitv d xh xf la) := by
  intro l w h; obtain rfl := Option.some.inj h; exact (lone_wCR ..).trans (Bool.or_false l).symm
theorem htest (d xh : XReg) : Statement (.htest d xh) := by
  intro l w h; obtain rfl := Option.some.inj h; exact (lone_wCR ..).trans (Bool.or_false l).symm
theorem hfree (xh : XReg) : Statement (.hfree xh) := by
  intro l w h; obtain rfl := Option.some.inj h; exact (lone_wCR ..).trans (Bool.or_false l).symm
theorem hreply (xt xv : XReg) : Statement (.hreply xt xv) := by
  intro l w h; obtain rfl := Option.some.inj h; exact (lone_wCR ..).trans (Bool.or_false l).symm
theorem hreplyv (xt : XReg) (vs : VReg) : Statement (.hreplyv xt vs) := by
  intro l w h; obtain rfl := Option.some.inj h; exact (lone_wCR ..).trans (Bool.or_false l).symm
theorem hbreak (xt xc : XReg) : Statement (.hbreak xt xc) := by
  intro l w h; obtain rfl := Option.some.inj h; exact (lone_wCR ..).trans (Bool.or_false l).symm
theorem done : Statement (.done) := by
  intro l w h; obtain rfl := Option.some.inj h; exact (lone_wCR ..).trans (Bool.or_false l).symm
theorem tgon (s : XReg) : Statement (.tgon s) := by
  intro l w h; obtain rfl := Option.some.inj h; exact (lone_wCR ..).trans (Bool.or_false l).symm
theorem tgoff (s : XReg) : Statement (.tgoff s) := by
  intro l w h; obtain rfl := Option.some.inj h; exact (lone_wCR ..).trans (Bool.or_false l).symm
theorem tgset (s : XReg) : Statement (.tgset s) := by
  intro l w h; obtain rfl := Option.some.inj h; exact (lone_wCR ..).trans (Bool.or_false l).symm
theorem tgclr (s : XReg) : Statement (.tgclr s) := by
  intro l w h; obtain rfl := Option.some.inj h; exact (lone_wCR ..).trans (Bool.or_false l).symm
theorem ready (xc xn : XReg) : Statement (.ready xc xn) := by
  intro l w h; obtain rfl := Option.some.inj h; exact (lone_wCR ..).trans (Bool.or_false l).symm
theorem unready (xc xn : XReg) : Statement (.unready xc xn) := by
  intro l w h; obtain rfl := Option.some.inj h; exact (lone_wCR ..).trans (Bool.or_false l).symm
theorem rdyq (d xc : XReg) (la : BitVec 4) : Statement (.rdyq d xc la) := by
  intro l w h; obtain rfl := Option.some.inj h; exact (lone_wCR ..).trans (Bool.or_false l).symm
theorem rstv (vs : VReg) (xt : XReg) (tag : BitVec 6) (n : VReg) (release : Bool) : Statement (.rstv vs xt tag n release) := by
  intro l w h; obtain rfl := Option.some.inj h; simp only [isRep, isLone, flag, BitVec.getLsbD_append]; cases l <;> rfl
theorem vhold (n : VReg) : Statement (.vhold n) := by
  intro l w h; obtain rfl := Option.some.inj h; exact (lone_wCR ..).trans (Bool.or_false l).symm
theorem vhclr (n : VReg) : Statement (.vhclr n) := by
  intro l w h; obtain rfl := Option.some.inj h; exact (lone_wCR ..).trans (Bool.or_false l).symm
theorem vhtest (d : XReg) : Statement (.vhtest d) := by
  intro l w h; obtain rfl := Option.some.inj h; exact (lone_wCR ..).trans (Bool.or_false l).symm
theorem barr (s : XReg) : Statement (.barr s) := by
  intro l w h; obtain rfl := Option.some.inj h; exact (lone_wCR ..).trans (Bool.or_false l).symm
theorem barw (s : XReg) : Statement (.barw s) := by
  intro l w h; obtain rfl := Option.some.inj h; exact (lone_wCR ..).trans (Bool.or_false l).symm
theorem barrw (s : XReg) : Statement (.barrw s) := by
  intro l w h; obtain rfl := Option.some.inj h; exact (lone_wCR ..).trans (Bool.or_false l).symm
theorem barwd (s : XReg) : Statement (.barwd s) := by
  intro l w h; obtain rfl := Option.some.inj h; exact (lone_wCR ..).trans (Bool.or_false l).symm
theorem barq (d s : XReg) : Statement (.barq d s) := by
  intro l w h; obtain rfl := Option.some.inj h; exact (lone_wCR ..).trans (Bool.or_false l).symm
theorem kickTeam (d s a : XReg) : Statement (.kickTeam d s a) := by
  intro l w h; obtain rfl := Option.some.inj h; exact (lone_wCR ..).trans (Bool.or_false l).symm
theorem kickGroup (d s a : XReg) : Statement (.kickGroup d s a) := by
  intro l w h; obtain rfl := Option.some.inj h; exact (lone_wCR ..).trans (Bool.or_false l).symm
theorem mcast (vs : VReg) (a : AReg) (xset : XReg) (tag : BitVec 6) (size : BitVec 2) (ordered : Bool) : Statement (.mcast vs a xset tag size ordered) := by
  intro l w h; obtain rfl := Option.some.inj h; simp only [isRep, isLone, flag, BitVec.getLsbD_append]; cases l <;> rfl
theorem gnew (d s : XReg) : Statement (.gnew d s) := by
  intro l w h; obtain rfl := Option.some.inj h; exact (lone_wCR ..).trans (Bool.or_false l).symm
theorem gplace (d s t : XReg) : Statement (.gplace d s t) := by
  intro l w h; obtain rfl := Option.some.inj h; exact (lone_wCR ..).trans (Bool.or_false l).symm
theorem gadd (d s t : XReg) : Statement (.gadd d s t) := by
  intro l w h; obtain rfl := Option.some.inj h; exact (lone_wCR ..).trans (Bool.or_false l).symm
theorem gdrop (d s t : XReg) : Statement (.gdrop d s t) := by
  intro l w h; obtain rfl := Option.some.inj h; exact (lone_wCR ..).trans (Bool.or_false l).symm
theorem gpark (d s : XReg) : Statement (.gpark d s) := by
  intro l w h; obtain rfl := Option.some.inj h; exact (lone_wCR ..).trans (Bool.or_false l).symm
theorem grun (d s : XReg) : Statement (.grun d s) := by
  intro l w h; obtain rfl := Option.some.inj h; exact (lone_wCR ..).trans (Bool.or_false l).symm
theorem gmove (d s t : XReg) : Statement (.gmove d s t) := by
  intro l w h; obtain rfl := Option.some.inj h; exact (lone_wCR ..).trans (Bool.or_false l).symm
theorem gend (d s t : XReg) : Statement (.gend d s t) := by
  intro l w h; obtain rfl := Option.some.inj h; exact (lone_wCR ..).trans (Bool.or_false l).symm
theorem barcfg (d s t : XReg) : Statement (.barcfg d s t) := by
  intro l w h; obtain rfl := Option.some.inj h; exact (lone_wCR ..).trans (Bool.or_false l).symm
theorem tlbinv (s t : XReg) : Statement (.tlbinv s t) := by
  intro l w h; obtain rfl := Option.some.inj h; exact (lone_wCR ..).trans (Bool.or_false l).symm
theorem ckpt (d s : XReg) : Statement (.ckpt d s) := by
  intro l w h; obtain rfl := Option.some.inj h; exact (lone_wCR ..).trans (Bool.or_false l).symm
theorem errclr (d s : XReg) : Statement (.errclr d s) := by
  intro l w h; obtain rfl := Option.some.inj h; exact (lone_wCR ..).trans (Bool.or_false l).symm
theorem coreret (d s t : XReg) : Statement (.coreret d s t) := by
  intro l w h; obtain rfl := Option.some.inj h; exact (lone_wCR ..).trans (Bool.or_false l).symm
theorem mapsetStat (d s t : XReg) : Statement (.mapsetStat d s t) := by
  intro l w h; obtain rfl := Option.some.inj h; exact (lone_wCR ..).trans (Bool.or_false l).symm
theorem mapsetLoad (d s t : XReg) : Statement (.mapsetLoad d s t) := by
  intro l w h; obtain rfl := Option.some.inj h; exact (lone_wCR ..).trans (Bool.or_false l).symm
theorem mapsetSwitch (d s t : XReg) : Statement (.mapsetSwitch d s t) := by
  intro l w h; obtain rfl := Option.some.inj h; exact (lone_wCR ..).trans (Bool.or_false l).symm
theorem mapsetOpen (d s t : XReg) : Statement (.mapsetOpen d s t) := by
  intro l w h; obtain rfl := Option.some.inj h; exact (lone_wCR ..).trans (Bool.or_false l).symm
theorem keyslotStat (d s : XReg) : Statement (.keyslotStat d s) := by
  intro l w h; obtain rfl := Option.some.inj h; exact (lone_wCR ..).trans (Bool.or_false l).symm
theorem keyslotGen (d s : XReg) : Statement (.keyslotGen d s) := by
  intro l w h; obtain rfl := Option.some.inj h; exact (lone_wCR ..).trans (Bool.or_false l).symm
theorem keyslotErase (d s : XReg) : Statement (.keyslotErase d s) := by
  intro l w h; obtain rfl := Option.some.inj h; exact (lone_wCR ..).trans (Bool.or_false l).symm
theorem icinv (s t : XReg) : Statement (.icinv s t) := by
  intro l w h; obtain rfl := Option.some.inj h; exact (lone_wCR ..).trans (Bool.or_false l).symm
theorem add (d s t : XReg) : Statement (.add d s t) := by
  intro l w h; obtain rfl := Option.some.inj h; exact (lone_wAR ..).trans (Bool.or_false l).symm
theorem sub (d s t : XReg) : Statement (.sub d s t) := by
  intro l w h; obtain rfl := Option.some.inj h; exact (lone_wAR ..).trans (Bool.or_false l).symm
theorem and (d s t : XReg) : Statement (.and d s t) := by
  intro l w h; obtain rfl := Option.some.inj h; exact (lone_wAR ..).trans (Bool.or_false l).symm
theorem or (d s t : XReg) : Statement (.or d s t) := by
  intro l w h; obtain rfl := Option.some.inj h; exact (lone_wAR ..).trans (Bool.or_false l).symm
theorem xor (d s t : XReg) : Statement (.xor d s t) := by
  intro l w h; obtain rfl := Option.some.inj h; exact (lone_wAR ..).trans (Bool.or_false l).symm
theorem sll (d s t : XReg) : Statement (.sll d s t) := by
  intro l w h; obtain rfl := Option.some.inj h; exact (lone_wAR ..).trans (Bool.or_false l).symm
theorem srl (d s t : XReg) : Statement (.srl d s t) := by
  intro l w h; obtain rfl := Option.some.inj h; exact (lone_wAR ..).trans (Bool.or_false l).symm
theorem sra (d s t : XReg) : Statement (.sra d s t) := by
  intro l w h; obtain rfl := Option.some.inj h; exact (lone_wAR ..).trans (Bool.or_false l).symm
theorem slt (d s t : XReg) : Statement (.slt d s t) := by
  intro l w h; obtain rfl := Option.some.inj h; exact (lone_wAR ..).trans (Bool.or_false l).symm
theorem sltu (d s t : XReg) : Statement (.sltu d s t) := by
  intro l w h; obtain rfl := Option.some.inj h; exact (lone_wAR ..).trans (Bool.or_false l).symm
theorem mul (d s t : XReg) : Statement (.mul d s t) := by
  intro l w h; obtain rfl := Option.some.inj h; exact (lone_wAR ..).trans (Bool.or_false l).symm
theorem mulh (d s t : XReg) : Statement (.mulh d s t) := by
  intro l w h; obtain rfl := Option.some.inj h; exact (lone_wAR ..).trans (Bool.or_false l).symm
theorem mulhu (d s t : XReg) : Statement (.mulhu d s t) := by
  intro l w h; obtain rfl := Option.some.inj h; exact (lone_wAR ..).trans (Bool.or_false l).symm
theorem div (d s t : XReg) : Statement (.div d s t) := by
  intro l w h; obtain rfl := Option.some.inj h; exact (lone_wAR ..).trans (Bool.or_false l).symm
theorem divu (d s t : XReg) : Statement (.divu d s t) := by
  intro l w h; obtain rfl := Option.some.inj h; exact (lone_wAR ..).trans (Bool.or_false l).symm
theorem rem (d s t : XReg) : Statement (.rem d s t) := by
  intro l w h; obtain rfl := Option.some.inj h; exact (lone_wAR ..).trans (Bool.or_false l).symm
theorem remu (d s t : XReg) : Statement (.remu d s t) := by
  intro l w h; obtain rfl := Option.some.inj h; exact (lone_wAR ..).trans (Bool.or_false l).symm
theorem min (d s t : XReg) : Statement (.min d s t) := by
  intro l w h; obtain rfl := Option.some.inj h; exact (lone_wAR ..).trans (Bool.or_false l).symm
theorem max (d s t : XReg) : Statement (.max d s t) := by
  intro l w h; obtain rfl := Option.some.inj h; exact (lone_wAR ..).trans (Bool.or_false l).symm
theorem minu (d s t : XReg) : Statement (.minu d s t) := by
  intro l w h; obtain rfl := Option.some.inj h; exact (lone_wAR ..).trans (Bool.or_false l).symm
theorem maxu (d s t : XReg) : Statement (.maxu d s t) := by
  intro l w h; obtain rfl := Option.some.inj h; exact (lone_wAR ..).trans (Bool.or_false l).symm
theorem clz (d s : XReg) : Statement (.clz d s) := by
  intro l w h; obtain rfl := Option.some.inj h; exact (lone_wAR ..).trans (Bool.or_false l).symm
theorem ctz (d s : XReg) : Statement (.ctz d s) := by
  intro l w h; obtain rfl := Option.some.inj h; exact (lone_wAR ..).trans (Bool.or_false l).symm
theorem popc (d s : XReg) : Statement (.popc d s) := by
  intro l w h; obtain rfl := Option.some.inj h; exact (lone_wAR ..).trans (Bool.or_false l).symm
theorem addi (d s : XReg) (imm : BitVec 13) : Statement (.addi d s imm) := by
  intro l w h; obtain rfl := Option.some.inj h; exact (lone_wAI ..).trans (Bool.or_false l).symm
theorem andi (d s : XReg) (imm : BitVec 13) : Statement (.andi d s imm) := by
  intro l w h; obtain rfl := Option.some.inj h; exact (lone_wAI ..).trans (Bool.or_false l).symm
theorem ori (d s : XReg) (imm : BitVec 13) : Statement (.ori d s imm) := by
  intro l w h; obtain rfl := Option.some.inj h; exact (lone_wAI ..).trans (Bool.or_false l).symm
theorem xori (d s : XReg) (imm : BitVec 13) : Statement (.xori d s imm) := by
  intro l w h; obtain rfl := Option.some.inj h; exact (lone_wAI ..).trans (Bool.or_false l).symm
theorem slli (d s : XReg) (sh : BitVec 6) : Statement (.slli d s sh) := by
  intro l w h; obtain rfl := Option.some.inj h; exact (lone_wAI ..).trans (Bool.or_false l).symm
theorem srli (d s : XReg) (sh : BitVec 6) : Statement (.srli d s sh) := by
  intro l w h; obtain rfl := Option.some.inj h; exact (lone_wAI ..).trans (Bool.or_false l).symm
theorem srai (d s : XReg) (sh : BitVec 6) : Statement (.srai d s sh) := by
  intro l w h; obtain rfl := Option.some.inj h; exact (lone_wAI ..).trans (Bool.or_false l).symm
theorem slti (d s : XReg) (imm : BitVec 13) : Statement (.slti d s imm) := by
  intro l w h; obtain rfl := Option.some.inj h; exact (lone_wAI ..).trans (Bool.or_false l).symm
theorem lui (d : XReg) (imm : BitVec 13) : Statement (.lui d imm) := by
  intro l w h; obtain rfl := Option.some.inj h; exact (lone_wAI ..).trans (Bool.or_false l).symm
theorem lcat (d : XReg) (imm : BitVec 13) : Statement (.lcat d imm) := by
  intro l w h; obtain rfl := Option.some.inj h; exact (lone_wAI ..).trans (Bool.or_false l).symm
theorem fadd (d s t : XReg) (fl : BitVec 2) : Statement (.fadd d s t fl) := by
  intro l w h; obtain rfl := Option.some.inj h; exact (lone_wAR ..).trans (Bool.or_false l).symm
theorem fsub (d s t : XReg) (fl : BitVec 2) : Statement (.fsub d s t fl) := by
  intro l w h; obtain rfl := Option.some.inj h; exact (lone_wAR ..).trans (Bool.or_false l).symm
theorem fmul (d s t : XReg) (fl : BitVec 2) : Statement (.fmul d s t fl) := by
  intro l w h; obtain rfl := Option.some.inj h; exact (lone_wAR ..).trans (Bool.or_false l).symm
theorem fma (d s t u : XReg) : Statement (.fma d s t u) := by
  intro l w h; obtain rfl := Option.some.inj h; exact (lone_wA4 ..).trans (Bool.or_false l).symm
theorem fdiv (d s t : XReg) (fl : BitVec 2) : Statement (.fdiv d s t fl) := by
  intro l w h; obtain rfl := Option.some.inj h; exact (lone_wAR ..).trans (Bool.or_false l).symm
theorem fsqrt (d s : XReg) (fl : BitVec 2) : Statement (.fsqrt d s fl) := by
  intro l w h; obtain rfl := Option.some.inj h; exact (lone_wAR ..).trans (Bool.or_false l).symm
theorem fmin (d s t : XReg) : Statement (.fmin d s t) := by
  intro l w h; obtain rfl := Option.some.inj h; exact (lone_wAR ..).trans (Bool.or_false l).symm
theorem fmax (d s t : XReg) : Statement (.fmax d s t) := by
  intro l w h; obtain rfl := Option.some.inj h; exact (lone_wAR ..).trans (Bool.or_false l).symm
theorem fcmp (d s t : XReg) (cond : Cond) : Statement (.fcmp d s t cond) := by
  intro l w h; obtain rfl := Option.some.inj h; exact (lone_wAR ..).trans (Bool.or_false l).symm
theorem fcvti (d s : XReg) (fl : BitVec 2) : Statement (.fcvti d s fl) := by
  intro l w h; obtain rfl := Option.some.inj h; exact (lone_wAR ..).trans (Bool.or_false l).symm
theorem fcvtf (d s : XReg) (fl : BitVec 2) : Statement (.fcvtf d s fl) := by
  intro l w h; obtain rfl := Option.some.inj h; exact (lone_wAR ..).trans (Bool.or_false l).symm
theorem vadd (d s t : VReg) (ty : Ty) (mk : MReg) (fl : BitVec 2) : Statement (.vadd d s t ty mk fl) := by
  intro l w h; obtain rfl := Option.some.inj h; exact (lone_wAR ..).trans (Bool.or_false l).symm
theorem vsub (d s t : VReg) (ty : Ty) (mk : MReg) (fl : BitVec 2) : Statement (.vsub d s t ty mk fl) := by
  intro l w h; obtain rfl := Option.some.inj h; exact (lone_wAR ..).trans (Bool.or_false l).symm
theorem vmul (d s t : VReg) (ty : Ty) (mk : MReg) (fl : BitVec 2) : Statement (.vmul d s t ty mk fl) := by
  intro l w h; obtain rfl := Option.some.inj h; exact (lone_wAR ..).trans (Bool.or_false l).symm
theorem vma (d s t u : VReg) (ty : Ty) : Statement (.vma d s t u ty) := by
  intro l w h; obtain rfl := Option.some.inj h; exact (lone_wA4 ..).trans (Bool.or_false l).symm
theorem vmin (d s t : VReg) (ty : Ty) (mk : MReg) (fl : BitVec 2) : Statement (.vmin d s t ty mk fl) := by
  intro l w h; obtain rfl := Option.some.inj h; exact (lone_wAR ..).trans (Bool.or_false l).symm
theorem vmax (d s t : VReg) (ty : Ty) (mk : MReg) (fl : BitVec 2) : Statement (.vmax d s t ty mk fl) := by
  intro l w h; obtain rfl := Option.some.inj h; exact (lone_wAR ..).trans (Bool.or_false l).symm
theorem vand (d s t : VReg) (ty : Ty) (mk : MReg) (fl : BitVec 2) : Statement (.vand d s t ty mk fl) := by
  intro l w h; obtain rfl := Option.some.inj h; exact (lone_wAR ..).trans (Bool.or_false l).symm
theorem vor (d s t : VReg) (ty : Ty) (mk : MReg) (fl : BitVec 2) : Statement (.vor d s t ty mk fl) := by
  intro l w h; obtain rfl := Option.some.inj h; exact (lone_wAR ..).trans (Bool.or_false l).symm
theorem vxor (d s t : VReg) (ty : Ty) (mk : MReg) (fl : BitVec 2) : Statement (.vxor d s t ty mk fl) := by
  intro l w h; obtain rfl := Option.some.inj h; exact (lone_wAR ..).trans (Bool.or_false l).symm
theorem vsll (d s t : VReg) (ty : Ty) (mk : MReg) (fl : BitVec 2) : Statement (.vsll d s t ty mk fl) := by
  intro l w h; obtain rfl := Option.some.inj h; exact (lone_wAR ..).trans (Bool.or_false l).symm
theorem vsrl (d s t : VReg) (ty : Ty) (mk : MReg) (fl : BitVec 2) : Statement (.vsrl d s t ty mk fl) := by
  intro l w h; obtain rfl := Option.some.inj h; exact (lone_wAR ..).trans (Bool.or_false l).symm
theorem vsra (d s t : VReg) (ty : Ty) (mk : MReg) (fl : BitVec 2) : Statement (.vsra d s t ty mk fl) := by
  intro l w h; obtain rfl := Option.some.inj h; exact (lone_wAR ..).trans (Bool.or_false l).symm
theorem vabs (d s : VReg) (ty : Ty) (mk : MReg) (fl : BitVec 2) : Statement (.vabs d s ty mk fl) := by
  intro l w h; obtain rfl := Option.some.inj h; exact (lone_wAR ..).trans (Bool.or_false l).symm
theorem vneg (d s : VReg) (ty : Ty) (mk : MReg) (fl : BitVec 2) : Statement (.vneg d s ty mk fl) := by
  intro l w h; obtain rfl := Option.some.inj h; exact (lone_wAR ..).trans (Bool.or_false l).symm
theorem vcmp (md : MReg) (s t : VReg) (cond : Cond) (ty : Ty) (u : Bool) : Statement (.vcmp md s t cond ty u) := by
  intro l w h; obtain rfl := Option.some.inj h; exact (lone_wAC ..).trans (Bool.or_false l).symm
theorem vsel (d s t : VReg) (ty : Ty) (mk : MReg) : Statement (.vsel d s t ty mk) := by
  intro l w h; obtain rfl := Option.some.inj h; exact (lone_wAR ..).trans (Bool.or_false l).symm
theorem vmov (d s : VReg) (ty : Ty) (mk : MReg) : Statement (.vmov d s ty mk) := by
  intro l w h; obtain rfl := Option.some.inj h; exact (lone_wAR ..).trans (Bool.or_false l).symm
theorem vbcast (d : VReg) (s : XReg) (ty : Ty) (mk : MReg) : Statement (.vbcast d s ty mk) := by
  intro l w h; obtain rfl := Option.some.inj h; exact (lone_wAR ..).trans (Bool.or_false l).symm
theorem vins (d : VReg) (s t : XReg) (ty : Ty) : Statement (.vins d s t ty) := by
  intro l w h; obtain rfl := Option.some.inj h; exact (lone_wAR ..).trans (Bool.or_false l).symm
theorem vext (d : XReg) (s : VReg) (t : XReg) (ty : Ty) (u : Bool) : Statement (.vext d s t ty u) := by
  intro l w h; obtain rfl := Option.some.inj h; exact (lone_wAR ..).trans (Bool.or_false l).symm
theorem vwadd (d s t : VReg) (ty : Ty) (mk : MReg) (fl : BitVec 2) : Statement (.vwadd d s t ty mk fl) := by
  intro l w h; obtain rfl := Option.some.inj h; exact (lone_wAR ..).trans (Bool.or_false l).symm
theorem vwmul (d s t : VReg) (ty : Ty) (mk : MReg) (fl : BitVec 2) : Statement (.vwmul d s t ty mk fl) := by
  intro l w h; obtain rfl := Option.some.inj h; exact (lone_wAR ..).trans (Bool.or_false l).symm
theorem vwma (d s t : VReg) (ty : Ty) (mk : MReg) (fl : BitVec 2) : Statement (.vwma d s t ty mk fl) := by
  intro l w h; obtain rfl := Option.some.inj h; exact (lone_wAR ..).trans (Bool.or_false l).symm
theorem vnarrow (d s : VReg) (ty : Ty) (mk : MReg) (fl : BitVec 2) : Statement (.vnarrow d s ty mk fl) := by
  intro l w h; obtain rfl := Option.some.inj h; exact (lone_wAR ..).trans (Bool.or_false l).symm
theorem vcvt (d s : VReg) (st : Ty) (fl : BitVec 2) (dt : Ty) (du ds : Bool) (mk : MReg) : Statement (.vcvt d s st fl dt du ds mk) := by
  intro l w h; obtain rfl := Option.some.inj h; exact (lone_wAR ..).trans (Bool.or_false l).symm
theorem vplane (d s : VReg) : Statement (.vplane d s) := by
  intro l w h; obtain rfl := Option.some.inj h; exact (lone_wAR ..).trans (Bool.or_false l).symm
theorem vunplane (d s : VReg) (p : BitVec 4) (cent : Bool) (mk : MReg) : Statement (.vunplane d s p cent mk) := by
  intro l w h; obtain rfl := Option.some.inj h; exact (lone_wAR ..).trans (Bool.or_false l).symm
theorem vquant (d s : VReg) (x : XReg) (ty : Ty) (mk : MReg) (u : Bool) : Statement (.vquant d s x ty mk u) := by
  intro l w h; obtain rfl := Option.some.inj h; exact (lone_wAR ..).trans (Bool.or_false l).symm
theorem vrsum (d : XReg) (s : VReg) (ty : Ty) (mk : MReg) (fl : BitVec 2) : Statement (.vrsum d s ty mk fl) := by
  intro l w h; obtain rfl := Option.some.inj h; exact (lone_wAR ..).trans (Bool.or_false l).symm
theorem vrmax (d : XReg) (s : VReg) (ty : Ty) (mk : MReg) (fl : BitVec 2) : Statement (.vrmax d s ty mk fl) := by
  intro l w h; obtain rfl := Option.some.inj h; exact (lone_wAR ..).trans (Bool.or_false l).symm
theorem vperm (d s t : VReg) (ty : Ty) (mk : MReg) : Statement (.vperm d s t ty mk) := by
  intro l w h; obtain rfl := Option.some.inj h; exact (lone_wAR ..).trans (Bool.or_false l).symm
theorem vslide (d s : VReg) (t : XReg) (ty : Ty) (mk : MReg) : Statement (.vslide d s t ty mk) := by
  intro l w h; obtain rfl := Option.some.inj h; exact (lone_wAR ..).trans (Bool.or_false l).symm
theorem vrand (d : VReg) (s t : XReg) : Statement (.vrand d s t) := by
  intro l w h; obtain rfl := Option.some.inj h; exact (lone_wAR ..).trans (Bool.or_false l).symm
theorem vexp2 (d s : VReg) (ty : Ty) (mk : MReg) : Statement (.vexp2 d s ty mk) := by
  intro l w h; obtain rfl := Option.some.inj h; exact (lone_wAR ..).trans (Bool.or_false l).symm
theorem vlog2 (d s : VReg) (ty : Ty) (mk : MReg) : Statement (.vlog2 d s ty mk) := by
  intro l w h; obtain rfl := Option.some.inj h; exact (lone_wAR ..).trans (Bool.or_false l).symm
theorem vrcp (d s : VReg) (ty : Ty) (mk : MReg) : Statement (.vrcp d s ty mk) := by
  intro l w h; obtain rfl := Option.some.inj h; exact (lone_wAR ..).trans (Bool.or_false l).symm
theorem vrsq (d s : VReg) (ty : Ty) (mk : MReg) : Statement (.vrsq d s ty mk) := by
  intro l w h; obtain rfl := Option.some.inj h; exact (lone_wAR ..).trans (Bool.or_false l).symm
theorem vsig (d s : VReg) (ty : Ty) (mk : MReg) : Statement (.vsig d s ty mk) := by
  intro l w h; obtain rfl := Option.some.inj h; exact (lone_wAR ..).trans (Bool.or_false l).symm
theorem vdot4 (d s t : VReg) (mk : MReg) (fl : BitVec 2) : Statement (.vdot4 d s t mk fl) := by
  intro l w h; obtain rfl := Option.some.inj h; exact (lone_wAR ..).trans (Bool.or_false l).symm
theorem mand (d s t : MReg) : Statement (.mand d s t) := by
  intro l w h; obtain rfl := Option.some.inj h; exact (lone_wAR ..).trans (Bool.or_false l).symm
theorem mor (d s t : MReg) : Statement (.mor d s t) := by
  intro l w h; obtain rfl := Option.some.inj h; exact (lone_wAR ..).trans (Bool.or_false l).symm
theorem mxor (d s t : MReg) : Statement (.mxor d s t) := by
  intro l w h; obtain rfl := Option.some.inj h; exact (lone_wAR ..).trans (Bool.or_false l).symm
theorem mnot (d s : MReg) : Statement (.mnot d s) := by
  intro l w h; obtain rfl := Option.some.inj h; exact (lone_wAR ..).trans (Bool.or_false l).symm
theorem mpop (d : XReg) (s : MReg) (ty : Ty) : Statement (.mpop d s ty) := by
  intro l w h; obtain rfl := Option.some.inj h; exact (lone_wAR ..).trans (Bool.or_false l).symm
theorem mfirst (d : XReg) (s : MReg) (ty : Ty) : Statement (.mfirst d s ty) := by
  intro l w h; obtain rfl := Option.some.inj h; exact (lone_wAR ..).trans (Bool.or_false l).symm
theorem mfromx (d : MReg) (s : XReg) (ty : Ty) : Statement (.mfromx d s ty) := by
  intro l w h; obtain rfl := Option.some.inj h; exact (lone_wAR ..).trans (Bool.or_false l).symm
theorem mmadd (ad s t : AReg) (ty : Ty) (fl : BitVec 2) : Statement (.mmadd ad s t ty fl) := by
  intro l w h; obtain rfl := Option.some.inj h; exact (lone_wAM ..).trans (Bool.or_false l).symm
theorem mmsub (ad s t : AReg) (ty : Ty) (fl : BitVec 2) : Statement (.mmsub ad s t ty fl) := by
  intro l w h; obtain rfl := Option.some.inj h; exact (lone_wAM ..).trans (Bool.or_false l).symm
theorem mmmul (ad s t : AReg) (ty : Ty) (fl : BitVec 2) : Statement (.mmmul ad s t ty fl) := by
  intro l w h; obtain rfl := Option.some.inj h; exact (lone_wAM ..).trans (Bool.or_false l).symm
theorem mmma (ad s t : AReg) (ty : Ty) (fl : BitVec 2) : Statement (.mmma ad s t ty fl) := by
  intro l w h; obtain rfl := Option.some.inj h; exact (lone_wAM ..).trans (Bool.or_false l).symm
theorem mmmax (ad s t : AReg) (ty : Ty) (fl : BitVec 2) : Statement (.mmmax ad s t ty fl) := by
  intro l w h; obtain rfl := Option.some.inj h; exact (lone_wAM ..).trans (Bool.or_false l).symm
theorem mmcvt (ad s t : AReg) (ty : Ty) (fl : BitVec 2) : Statement (.mmcvt ad s t ty fl) := by
  intro l w h; obtain rfl := Option.some.inj h; exact (lone_wAM ..).trans (Bool.or_false l).symm
theorem anop : Statement (.anop) := by
  intro l w h; obtain rfl := Option.some.inj h; exact (lone_wAR ..).trans (Bool.or_false l).symm
theorem trapEntry (site thr : Nat) : Statement (.trapEntry site thr) := by
  intro l w h; exact nomatch (h : none = some w)
theorem regionRestart (site thr : Nat) : Statement (.regionRestart site thr) := by
  intro l w h; exact nomatch (h : none = some w)
theorem watchdog (site thr : Nat) : Statement (.watchdog site thr) := by
  intro l w h; exact nomatch (h : none = some w)
theorem accessComplete (site thr k : Nat) : Statement (.accessComplete site thr k) := by
  intro l w h; exact nomatch (h : none = some w)
theorem load (msg : Nat) : Statement (.load msg) := by
  intro l w h; exact nomatch (h : none = some w)
theorem store (msg : Nat) : Statement (.store msg) := by
  intro l w h; exact nomatch (h : none = some w)
theorem atomic (msg : Nat) : Statement (.atomic msg) := by
  intro l w h; exact nomatch (h : none = some w)
theorem loadfe (msg : Nat) : Statement (.loadfe msg) := by
  intro l w h; exact nomatch (h : none = some w)
theorem storefe (msg : Nat) : Statement (.storefe msg) := by
  intro l w h; exact nomatch (h : none = some w)
theorem loadResponse (msg : Nat) : Statement (.loadResponse msg) := by
  intro l w h; exact nomatch (h : none = some w)
theorem ack (msg : Nat) : Statement (.ack msg) := by
  intro l w h; exact nomatch (h : none = some w)
theorem nack (msg : Nat) : Statement (.nack msg) := by
  intro l w h; exact nomatch (h : none = some w)
theorem retry (msg : Nat) : Statement (.retry msg) := by
  intro l w h; exact nomatch (h : none = some w)
theorem retryResend (k : Nat) : Statement (.retryResend k) := by
  intro l w h; exact nomatch (h : none = some w)
theorem retryListReoffer (site k : Nat) : Statement (.retryListReoffer site k) := by
  intro l w h; exact nomatch (h : none = some w)
theorem translationWalk (site k : Nat) : Statement (.translationWalk site k) := by
  intro l w h; exact nomatch (h : none = some w)
theorem sfuStart (site : Nat) : Statement (.sfuStart site) := by
  intro l w h; exact nomatch (h : none = some w)
theorem sfuComplete (site : Nat) : Statement (.sfuComplete site) := by
  intro l w h; exact nomatch (h : none = some w)
theorem mmComplete (site k : Nat) : Statement (.mmComplete site k) := by
  intro l w h; exact nomatch (h : none = some w)
theorem matrixDispatch (site : Nat) : Statement (.matrixDispatch site) := by
  intro l w h; exact nomatch (h : none = some w)
theorem kstepEnd (site : Nat) : Statement (.kstepEnd site) := by
  intro l w h; exact nomatch (h : none = some w)
theorem matrixCommandComplete (site : Nat) : Statement (.matrixCommandComplete site) := by
  intro l w h; exact nomatch (h : none = some w)
theorem matrixAgeing (site k : Nat) : Statement (.matrixAgeing site k) := by
  intro l w h; exact nomatch (h : none = some w)
theorem copyLine (site k : Nat) : Statement (.copyLine site k) := by
  intro l w h; exact nomatch (h : none = some w)
theorem copydata (msg : Nat) : Statement (.copydata msg) := by
  intro l w h; exact nomatch (h : none = some w)
theorem mcastMsg (msg : Nat) : Statement (.mcastMsg msg) := by
  intro l w h; exact nomatch (h : none = some w)
theorem copyComplete (site k : Nat) : Statement (.copyComplete site k) := by
  intro l w h; exact nomatch (h : none = some w)
theorem invMsg (msg : Nat) : Statement (.invMsg msg) := by
  intro l w h; exact nomatch (h : none = some w)
theorem invxMsg (msg : Nat) : Statement (.invxMsg msg) := by
  intro l w h; exact nomatch (h : none = some w)
theorem activationStart (site thr : Nat) : Statement (.activationStart site thr) := by
  intro l w h; exact nomatch (h : none = some w)
theorem rawArrivalStart (site thr : Nat) : Statement (.rawArrivalStart site thr) := by
  intro l w h; exact nomatch (h : none = some w)
theorem kickStart (site thr : Nat) : Statement (.kickStart site thr) := by
  intro l w h; exact nomatch (h : none = some w)
theorem arrivalAgeing (site k : Nat) : Statement (.arrivalAgeing site k) := by
  intro l w h; exact nomatch (h : none = some w)
theorem pass (msg : Nat) : Statement (.pass msg) := by
  intro l w h; exact nomatch (h : none = some w)
theorem passForward (msg : Nat) : Statement (.passForward msg) := by
  intro l w h; exact nomatch (h : none = some w)
theorem passAtSlot (msg : Nat) : Statement (.passAtSlot msg) := by
  intro l w h; exact nomatch (h : none = some w)
theorem bounce (msg : Nat) : Statement (.bounce msg) := by
  intro l w h; exact nomatch (h : none = some w)
theorem readydelta (msg : Nat) : Statement (.readydelta msg) := by
  intro l w h; exact nomatch (h : none = some w)
theorem rdyquery (msg : Nat) : Statement (.rdyquery msg) := by
  intro l w h; exact nomatch (h : none = some w)
theorem rdyanswer (msg : Nat) : Statement (.rdyanswer msg) := by
  intro l w h; exact nomatch (h : none = some w)
theorem reply (msg : Nat) : Statement (.reply msg) := by
  intro l w h; exact nomatch (h : none = some w)
theorem break_ (msg : Nat) : Statement (.break_ msg) := by
  intro l w h; exact nomatch (h : none = some w)
theorem fetch (msg : Nat) : Statement (.fetch msg) := by
  intro l w h; exact nomatch (h : none = some w)
theorem value (msg : Nat) : Statement (.value msg) := by
  intro l w h; exact nomatch (h : none = some w)
theorem hrelease (msg : Nat) : Statement (.hrelease msg) := by
  intro l w h; exact nomatch (h : none = some w)
theorem relayForward (site slot : Nat) : Statement (.relayForward site slot) := by
  intro l w h; exact nomatch (h : none = some w)
theorem rstvMsg (msg : Nat) : Statement (.rstvMsg msg) := by
  intro l w h; exact nomatch (h : none = some w)
theorem redirectQueueDrain (grp member : Nat) : Statement (.redirectQueueDrain grp member) := by
  intro l w h; exact nomatch (h : none = some w)
theorem directoryAnswer (msg : Nat) : Statement (.directoryAnswer msg) := by
  intro l w h; exact nomatch (h : none = some w)
theorem grpctl (msg : Nat) : Statement (.grpctl msg) := by
  intro l w h; exact nomatch (h : none = some w)
theorem grpstat (msg : Nat) : Statement (.grpstat msg) := by
  intro l w h; exact nomatch (h : none = some w)
theorem memberPark (site thr : Nat) : Statement (.memberPark site thr) := by
  intro l w h; exact nomatch (h : none = some w)
theorem saveImageComplete (site thr : Nat) : Statement (.saveImageComplete site thr) := by
  intro l w h; exact nomatch (h : none = some w)
theorem groupEnded (grp : Nat) : Statement (.groupEnded grp) := by
  intro l w h; exact nomatch (h : none = some w)
theorem kickMsg (msg : Nat) : Statement (.kickMsg msg) := by
  intro l w h; exact nomatch (h : none = some w)
theorem kickoffFanout (msg : Nat) : Statement (.kickoffFanout msg) := by
  intro l w h; exact nomatch (h : none = some w)
theorem kickend (msg : Nat) : Statement (.kickend msg) := by
  intro l w h; exact nomatch (h : none = some w)
theorem bararrive (msg : Nat) : Statement (.bararrive msg) := by
  intro l w h; exact nomatch (h : none = some w)
theorem barrelease (msg : Nat) : Statement (.barrelease msg) := by
  intro l w h; exact nomatch (h : none = some w)
theorem barrierTimeout (site thr : Nat) : Statement (.barrierTimeout site thr) := by
  intro l w h; exact nomatch (h : none = some w)
theorem barbreak (msg : Nat) : Statement (.barbreak msg) := by
  intro l w h; exact nomatch (h : none = some w)
theorem barconfig (msg : Nat) : Statement (.barconfig msg) := by
  intro l w h; exact nomatch (h : none = some w)
theorem refereePair (k : Nat) : Statement (.refereePair k) := by
  intro l w h; exact nomatch (h : none = some w)
theorem refereeTimeout (k : Nat) : Statement (.refereeTimeout k) := by
  intro l w h; exact nomatch (h : none = some w)
theorem unassignedMessage (msg : Nat) : Statement (.unassignedMessage msg) := by
  intro l w h; exact nomatch (h : none = some w)
theorem l2pdataWrite (v : Word) : Statement (.l2pdataWrite v) := by
  intro l w h; exact nomatch (h : none = some w)
theorem l2pUpdate (k router : Nat) : Statement (.l2pUpdate k router) := by
  intro l w h; exact nomatch (h : none = some w)
theorem rtdataWrite (v : Word) : Statement (.rtdataWrite v) := by
  intro l w h; exact nomatch (h : none = some w)
theorem vallotWrite (v : Word) : Statement (.vallotWrite v) := by
  intro l w h; exact nomatch (h : none = some w)
theorem tgenWrite (v : Word) : Statement (.tgenWrite v) := by
  intro l w h; exact nomatch (h : none = some w)
theorem ctxcmdCreate : Statement (.ctxcmdCreate) := by
  intro l w h; exact nomatch (h : none = some w)
theorem ctxcmdDestroy : Statement (.ctxcmdDestroy) := by
  intro l w h; exact nomatch (h : none = some w)
theorem ctxrectWrite (v : Word) : Statement (.ctxrectWrite v) := by
  intro l w h; exact nomatch (h : none = some w)
theorem contextBound (slot : Nat) : Statement (.contextBound slot) := by
  intro l w h; exact nomatch (h : none = some w)
theorem contextShrunk (slot : Nat) : Statement (.contextShrunk slot) := by
  intro l w h; exact nomatch (h : none = some w)
theorem contextDestroyed (slot : Nat) : Statement (.contextDestroyed slot) := by
  intro l w h; exact nomatch (h : none = some w)
theorem scrubComplete (site : Nat) : Statement (.scrubComplete site) := by
  intro l w h; exact nomatch (h : none = some w)
theorem hfsendWrite (v : Word) : Statement (.hfsendWrite v) := by
  intro l w h; exact nomatch (h : none = some w)
theorem deviceFrame (func : Nat) : Statement (.deviceFrame func) := by
  intro l w h; exact nomatch (h : none = some w)
theorem frameWindowWrite (func slot : Nat) (frame : BitVec 512) : Statement (.frameWindowWrite func slot frame) := by
  intro l w h; exact nomatch (h : none = some w)
theorem hostframeInject (func : Nat) : Statement (.hostframeInject func) := by
  intro l w h; exact nomatch (h : none = some w)
theorem hostframe (msg : Nat) : Statement (.hostframe msg) := by
  intro l w h; exact nomatch (h : none = some w)
theorem gap (func : Nat) : Statement (.gap func) := by
  intro l w h; exact nomatch (h : none = some w)
theorem drheadWrite (func : Nat) (v : BitVec 32) : Statement (.drheadWrite func v) := by
  intro l w h; exact nomatch (h : none = some w)
theorem drbaseWrite (func : Nat) (v : Word) : Statement (.drbaseWrite func v) := by
  intro l w h; exact nomatch (h : none = some w)
theorem drsizeWrite (func : Nat) (v : BitVec 5) : Statement (.drsizeWrite func v) := by
  intro l w h; exact nomatch (h : none = some w)
theorem bar2Access (write : Bool) (pa len : Nat) (data : List Byte) : Statement (.bar2Access write pa len data) := by
  intro l w h; exact nomatch (h : none = some w)
theorem functionLevelReset (func : Nat) : Statement (.functionLevelReset func) := by
  intro l w h; exact nomatch (h : none = some w)
theorem packageReset : Statement (.packageReset) := by
  intro l w h; exact nomatch (h : none = some w)
theorem bootctlGo (image : List Byte) : Statement (.bootctlGo image) := by
  intro l w h; exact nomatch (h : none = some w)
theorem imageVerification : Statement (.imageVerification) := by
  intro l w h; exact nomatch (h : none = some w)
theorem discover (msg : Nat) : Statement (.discover msg) := by
  intro l w h; exact nomatch (h : none = some w)
theorem discoverAnswer (msg : Nat) : Statement (.discoverAnswer msg) := by
  intro l w h; exact nomatch (h : none = some w)
theorem silentRouter (die site : Nat) : Statement (.silentRouter die site) := by
  intro l w h; exact nomatch (h : none = some w)
theorem floodEnd (die : Nat) : Statement (.floodEnd die) := by
  intro l w h; exact nomatch (h : none = some w)
theorem measxWrite (v : Word) : Statement (.measxWrite v) := by
  intro l w h; exact nomatch (h : none = some w)
theorem attreqWrite (nonce : BitVec 512) : Statement (.attreqWrite nonce) := by
  intro l w h; exact nomatch (h : none = some w)
theorem attestationReport : Statement (.attestationReport) := by
  intro l w h; exact nomatch (h : none = some w)
theorem powerLimit (watts : Nat) : Statement (.powerLimit watts) := by
  intro l w h; exact nomatch (h : none = some w)
theorem overtemperature : Statement (.overtemperature) := by
  intro l w h; exact nomatch (h : none = some w)
theorem powerGate (site : Nat) : Statement (.powerGate site) := by
  intro l w h; exact nomatch (h : none = some w)
theorem gateDrainTimeout (site : Nat) : Statement (.gateDrainTimeout site) := by
  intro l w h; exact nomatch (h : none = some w)
theorem droop (die det : Nat) : Statement (.droop die det) := by
  intro l w h; exact nomatch (h : none = some w)
theorem droopRearm (die det : Nat) : Statement (.droopRearm die det) := by
  intro l w h; exact nomatch (h : none = some w)
theorem traceDrain (site : Nat) : Statement (.traceDrain site) := by
  intro l w h; exact nomatch (h : none = some w)
theorem trtailWrite (v : Word) : Statement (.trtailWrite v) := by
  intro l w h; exact nomatch (h : none = some w)
theorem dbgctlWrite (v : Word) : Statement (.dbgctlWrite v) := by
  intro l w h; exact nomatch (h : none = some w)
theorem hbmRowRepair (stack row : Nat) : Statement (.hbmRowRepair stack row) := by
  intro l w h; exact nomatch (h : none = some w)
theorem nodeidWrite (v : Word) : Statement (.nodeidWrite v) := by
  intro l w h; exact nomatch (h : none = some w)
theorem portctlWrite (port : Nat) (v : Word) : Statement (.portctlWrite port v) := by
  intro l w h; exact nomatch (h : none = some w)
theorem trainingBackoff (port lane : Nat) : Statement (.trainingBackoff port lane) := by
  intro l w h; exact nomatch (h : none = some w)
theorem trainingSequence (port lane : Nat) (seq : TrainSeq) : Statement (.trainingSequence port lane seq) := by
  intro l w h; exact nomatch (h : none = some w)
theorem laneRetrain (port lane : Nat) (good : Bool) : Statement (.laneRetrain port lane good) := by
  intro l w h; exact nomatch (h : none = some w)
theorem linkFlit (port : Nat) (flit : LinkFlit) : Statement (.linkFlit port flit) := by
  intro l w h; exact nomatch (h : none = some w)
theorem linkResendTimeout (port : Nat) : Statement (.linkResendTimeout port) := by
  intro l w h; exact nomatch (h : none = some w)
theorem portDown (port : Nat) : Statement (.portDown port) := by
  intro l w h; exact nomatch (h : none = some w)
theorem marker (msg : Nat) : Statement (.marker msg) := by
  intro l w h; exact nomatch (h : none = some w)
theorem ckptWalk (slot : Nat) : Statement (.ckptWalk slot) := by
  intro l w h; exact nomatch (h : none = some w)
theorem acceptNotice (msg : Nat) : Statement (.acceptNotice msg) := by
  intro l w h; exact nomatch (h : none = some w)

end Sys2Proof.Laws.Framed
end

