-- ==== Sys2Proof/Laws/State.lean ====
section
/-! SUPPORT. What the basic updates of the state leave as it is, one lemma for each field, and reading back a thread or a core. -/

namespace Sys2Proof.Machine.State

/-! ### A thread or a core read back -/

@[simp] theorem thread_setThread_same (s : State) (k : Nat) (t : Thread) : (s.setThread k t).thread k = t := by
  simp [thread, setThread]
theorem thread_setThread (s : State) (j k : Nat) (t : Thread) : (s.setThread k t).thread j = if j = k then t else s.thread j := by
  simp only [thread, setThread, Map.get_put]
@[simp] theorem thread_modThread_same (s : State) (k : Nat) (f : Thread → Thread) : (s.modThread k f).thread k = f (s.thread k) := by
  simp [modThread]
theorem thread_modThread (s : State) (j k : Nat) (f : Thread → Thread) :
    (s.modThread k f).thread j = if j = k then f (s.thread k) else s.thread j := by
  simp only [modThread, thread_setThread]
@[simp] theorem core_setCore_same (s : State) (k : Nat) (c : Core) : (s.setCore k c).core k = c := by
  simp [core, setCore]
theorem core_setCore (s : State) (j k : Nat) (c : Core) : (s.setCore k c).core j = if j = k then c else s.core j := by
  simp only [core, setCore, Map.get_put]
@[simp] theorem core_modCore_same (s : State) (k : Nat) (f : Core → Core) : (s.modCore k f).core k = f (s.core k) := by
  simp [modCore]
theorem core_modCore (s : State) (j k : Nat) (f : Core → Core) :
    (s.modCore k f).core j = if j = k then f (s.core k) else s.core j := by
  simp only [modCore, core_setCore]
@[simp] theorem thread_setCore (s : State) (k j : Nat) (c : Core) : (s.setCore k c).thread j = s.thread j := rfl
@[simp] theorem core_setThread (s : State) (k j : Nat) (t : Thread) : (s.setThread k t).core j = s.core j := rfl
@[simp] theorem thread_modCore (s : State) (k j : Nat) (f : Core → Core) : (s.modCore k f).thread j = s.thread j := rfl
@[simp] theorem core_modThread (s : State) (k j : Nat) (f : Thread → Thread) : (s.modThread k f).core j = s.core j := rfl
@[simp] theorem cur_modCur (s : State) (f : Thread → Thread) : (s.modCur f).cur = f s.cur := by
  show (s.modThread s.ctx.key f).thread s.ctx.key = _; simp [cur]
@[simp] theorem src_modCur_some (s : State) (f : Thread → Thread) (t : Thread) (h : s.ctx.snap = some t) : (s.modCur f).src = t := by
  show s.ctx.snap.getD _ = t; simp [h]

/-! ### The other fields -/

@[simp] theorem setThread_time (s : State) (k : Nat) (t : Thread) : (s.setThread k t).time = s.time := rfl
@[simp] theorem setThread_agenda (s : State) (k : Nat) (t : Thread) : (s.setThread k t).agenda = s.agenda := rfl
@[simp] theorem setThread_fresh (s : State) (k : Nat) (t : Thread) : (s.setThread k t).fresh = s.fresh := rfl
@[simp] theorem setThread_nextId (s : State) (k : Nat) (t : Thread) : (s.setThread k t).nextId = s.nextId := rfl
@[simp] theorem setThread_ctx (s : State) (k : Nat) (t : Thread) : (s.setThread k t).ctx = s.ctx := rfl
@[simp] theorem setThread_cores (s : State) (k : Nat) (t : Thread) : (s.setThread k t).cores = s.cores := rfl
@[simp] theorem setThread_net (s : State) (k : Nat) (t : Thread) : (s.setThread k t).net = s.net := rfl
@[simp] theorem setThread_refused (s : State) (k : Nat) (t : Thread) : (s.setThread k t).refused = s.refused := rfl
@[simp] theorem setThread_resend (s : State) (k : Nat) (t : Thread) : (s.setThread k t).resend = s.resend := rfl
@[simp] theorem setThread_seqs (s : State) (k : Nat) (t : Thread) : (s.setThread k t).seqs = s.seqs := rfl
@[simp] theorem setThread_awaited (s : State) (k : Nat) (t : Thread) : (s.setThread k t).awaited = s.awaited := rfl
@[simp] theorem setThread_groups (s : State) (k : Nat) (t : Thread) : (s.setThread k t).groups = s.groups := rfl
@[simp] theorem setThread_tables (s : State) (k : Nat) (t : Thread) : (s.setThread k t).tables = s.tables := rfl
@[simp] theorem setThread_dir (s : State) (k : Nat) (t : Thread) : (s.setThread k t).dir = s.dir := rfl
@[simp] theorem setThread_hbm (s : State) (k : Nat) (t : Thread) : (s.setThread k t).hbm = s.hbm := rfl
@[simp] theorem setThread_host (s : State) (k : Nat) (t : Thread) : (s.setThread k t).host = s.host := rfl
@[simp] theorem setThread_ctxs (s : State) (k : Nat) (t : Thread) : (s.setThread k t).ctxs = s.ctxs := rfl
@[simp] theorem setThread_keyCtr (s : State) (k : Nat) (t : Thread) : (s.setThread k t).keyCtr = s.keyCtr := rfl
@[simp] theorem setThread_shared (s : State) (k : Nat) (t : Thread) : (s.setThread k t).shared = s.shared := rfl
@[simp] theorem setThread_l2p (s : State) (k : Nat) (t : Thread) : (s.setThread k t).l2p = s.l2p := rfl
@[simp] theorem setThread_nodeId (s : State) (k : Nat) (t : Thread) : (s.setThread k t).nodeId = s.nodeId := rfl
@[simp] theorem setThread_fused (s : State) (k : Nat) (t : Thread) : (s.setThread k t).fused = s.fused := rfl
@[simp] theorem setThread_retired (s : State) (k : Nat) (t : Thread) : (s.setThread k t).retired = s.retired := rfl
@[simp] theorem setThread_banks (s : State) (k : Nat) (t : Thread) : (s.setThread k t).banks = s.banks := rfl
@[simp] theorem setThread_chans (s : State) (k : Nat) (t : Thread) : (s.setThread k t).chans = s.chans := rfl
@[simp] theorem setThread_boot (s : State) (k : Nat) (t : Thread) : (s.setThread k t).boot = s.boot := rfl
@[simp] theorem setThread_dies (s : State) (k : Nat) (t : Thread) : (s.setThread k t).dies = s.dies := rfl
@[simp] theorem setThread_pwrlim (s : State) (k : Nat) (t : Thread) : (s.setThread k t).pwrlim = s.pwrlim := rfl
@[simp] theorem setThread_throttled (s : State) (k : Nat) (t : Thread) : (s.setThread k t).throttled = s.throttled := rfl
@[simp] theorem setThread_ports (s : State) (k : Nat) (t : Thread) : (s.setThread k t).ports = s.ports := rfl
@[simp] theorem setThread_parts (s : State) (k : Nat) (t : Thread) : (s.setThread k t).parts = s.parts := rfl
@[simp] theorem setThread_heads (s : State) (k : Nat) (t : Thread) : (s.setThread k t).heads = s.heads := rfl
@[simp] theorem setThread_outbox (s : State) (k : Nat) (t : Thread) : (s.setThread k t).outbox = s.outbox := rfl
@[simp] theorem setThread_routes (s : State) (k : Nat) (t : Thread) : (s.setThread k t).routes = s.routes := rfl
@[simp] theorem setThread_maps (s : State) (k : Nat) (t : Thread) : (s.setThread k t).maps = s.maps := rfl
@[simp] theorem setThread_pairs (s : State) (k : Nat) (t : Thread) : (s.setThread k t).pairs = s.pairs := rfl
@[simp] theorem setThread_ckpts (s : State) (k : Nat) (t : Thread) : (s.setThread k t).ckpts = s.ckpts := rfl
@[simp] theorem setThread_rows (s : State) (k : Nat) (t : Thread) : (s.setThread k t).rows = s.rows := rfl
@[simp] theorem setThread_failedTest (s : State) (k : Nat) (t : Thread) : (s.setThread k t).failedTest = s.failedTest := rfl
@[simp] theorem setThread_through (s : State) (k : Nat) (t : Thread) : (s.setThread k t).through = s.through := rfl
@[simp] theorem modThread_time (s : State) (k : Nat) (f : Thread → Thread) : (s.modThread k f).time = s.time := rfl
@[simp] theorem modThread_agenda (s : State) (k : Nat) (f : Thread → Thread) : (s.modThread k f).agenda = s.agenda := rfl
@[simp] theorem modThread_fresh (s : State) (k : Nat) (f : Thread → Thread) : (s.modThread k f).fresh = s.fresh := rfl
@[simp] theorem modThread_nextId (s : State) (k : Nat) (f : Thread → Thread) : (s.modThread k f).nextId = s.nextId := rfl
@[simp] theorem modThread_ctx (s : State) (k : Nat) (f : Thread → Thread) : (s.modThread k f).ctx = s.ctx := rfl
@[simp] theorem modThread_cores (s : State) (k : Nat) (f : Thread → Thread) : (s.modThread k f).cores = s.cores := rfl
@[simp] theorem modThread_net (s : State) (k : Nat) (f : Thread → Thread) : (s.modThread k f).net = s.net := rfl
@[simp] theorem modThread_refused (s : State) (k : Nat) (f : Thread → Thread) : (s.modThread k f).refused = s.refused := rfl
@[simp] theorem modThread_resend (s : State) (k : Nat) (f : Thread → Thread) : (s.modThread k f).resend = s.resend := rfl
@[simp] theorem modThread_seqs (s : State) (k : Nat) (f : Thread → Thread) : (s.modThread k f).seqs = s.seqs := rfl
@[simp] theorem modThread_awaited (s : State) (k : Nat) (f : Thread → Thread) : (s.modThread k f).awaited = s.awaited := rfl
@[simp] theorem modThread_groups (s : State) (k : Nat) (f : Thread → Thread) : (s.modThread k f).groups = s.groups := rfl
@[simp] theorem modThread_tables (s : State) (k : Nat) (f : Thread → Thread) : (s.modThread k f).tables = s.tables := rfl
@[simp] theorem modThread_dir (s : State) (k : Nat) (f : Thread → Thread) : (s.modThread k f).dir = s.dir := rfl
@[simp] theorem modThread_hbm (s : State) (k : Nat) (f : Thread → Thread) : (s.modThread k f).hbm = s.hbm := rfl
@[simp] theorem modThread_host (s : State) (k : Nat) (f : Thread → Thread) : (s.modThread k f).host = s.host := rfl
@[simp] theorem modThread_ctxs (s : State) (k : Nat) (f : Thread → Thread) : (s.modThread k f).ctxs = s.ctxs := rfl
@[simp] theorem modThread_keyCtr (s : State) (k : Nat) (f : Thread → Thread) : (s.modThread k f).keyCtr = s.keyCtr := rfl
@[simp] theorem modThread_shared (s : State) (k : Nat) (f : Thread → Thread) : (s.modThread k f).shared = s.shared := rfl
@[simp] theorem modThread_l2p (s : State) (k : Nat) (f : Thread → Thread) : (s.modThread k f).l2p = s.l2p := rfl
@[simp] theorem modThread_nodeId (s : State) (k : Nat) (f : Thread → Thread) : (s.modThread k f).nodeId = s.nodeId := rfl
@[simp] theorem modThread_fused (s : State) (k : Nat) (f : Thread → Thread) : (s.modThread k f).fused = s.fused := rfl
@[simp] theorem modThread_retired (s : State) (k : Nat) (f : Thread → Thread) : (s.modThread k f).retired = s.retired := rfl
@[simp] theorem modThread_banks (s : State) (k : Nat) (f : Thread → Thread) : (s.modThread k f).banks = s.banks := rfl
@[simp] theorem modThread_chans (s : State) (k : Nat) (f : Thread → Thread) : (s.modThread k f).chans = s.chans := rfl
@[simp] theorem modThread_boot (s : State) (k : Nat) (f : Thread → Thread) : (s.modThread k f).boot = s.boot := rfl
@[simp] theorem modThread_dies (s : State) (k : Nat) (f : Thread → Thread) : (s.modThread k f).dies = s.dies := rfl
@[simp] theorem modThread_pwrlim (s : State) (k : Nat) (f : Thread → Thread) : (s.modThread k f).pwrlim = s.pwrlim := rfl
@[simp] theorem modThread_throttled (s : State) (k : Nat) (f : Thread → Thread) : (s.modThread k f).throttled = s.throttled := rfl
@[simp] theorem modThread_ports (s : State) (k : Nat) (f : Thread → Thread) : (s.modThread k f).ports = s.ports := rfl
@[simp] theorem modThread_parts (s : State) (k : Nat) (f : Thread → Thread) : (s.modThread k f).parts = s.parts := rfl
@[simp] theorem modThread_heads (s : State) (k : Nat) (f : Thread → Thread) : (s.modThread k f).heads = s.heads := rfl
@[simp] theorem modThread_outbox (s : State) (k : Nat) (f : Thread → Thread) : (s.modThread k f).outbox = s.outbox := rfl
@[simp] theorem modThread_routes (s : State) (k : Nat) (f : Thread → Thread) : (s.modThread k f).routes = s.routes := rfl
@[simp] theorem modThread_maps (s : State) (k : Nat) (f : Thread → Thread) : (s.modThread k f).maps = s.maps := rfl
@[simp] theorem modThread_pairs (s : State) (k : Nat) (f : Thread → Thread) : (s.modThread k f).pairs = s.pairs := rfl
@[simp] theorem modThread_ckpts (s : State) (k : Nat) (f : Thread → Thread) : (s.modThread k f).ckpts = s.ckpts := rfl
@[simp] theorem modThread_rows (s : State) (k : Nat) (f : Thread → Thread) : (s.modThread k f).rows = s.rows := rfl
@[simp] theorem modThread_failedTest (s : State) (k : Nat) (f : Thread → Thread) : (s.modThread k f).failedTest = s.failedTest := rfl
@[simp] theorem modThread_through (s : State) (k : Nat) (f : Thread → Thread) : (s.modThread k f).through = s.through := rfl
@[simp] theorem setCore_time (s : State) (k : Nat) (c : Core) : (s.setCore k c).time = s.time := rfl
@[simp] theorem setCore_agenda (s : State) (k : Nat) (c : Core) : (s.setCore k c).agenda = s.agenda := rfl
@[simp] theorem setCore_fresh (s : State) (k : Nat) (c : Core) : (s.setCore k c).fresh = s.fresh := rfl
@[simp] theorem setCore_nextId (s : State) (k : Nat) (c : Core) : (s.setCore k c).nextId = s.nextId := rfl
@[simp] theorem setCore_ctx (s : State) (k : Nat) (c : Core) : (s.setCore k c).ctx = s.ctx := rfl
@[simp] theorem setCore_threads (s : State) (k : Nat) (c : Core) : (s.setCore k c).threads = s.threads := rfl
@[simp] theorem setCore_net (s : State) (k : Nat) (c : Core) : (s.setCore k c).net = s.net := rfl
@[simp] theorem setCore_refused (s : State) (k : Nat) (c : Core) : (s.setCore k c).refused = s.refused := rfl
@[simp] theorem setCore_resend (s : State) (k : Nat) (c : Core) : (s.setCore k c).resend = s.resend := rfl
@[simp] theorem setCore_seqs (s : State) (k : Nat) (c : Core) : (s.setCore k c).seqs = s.seqs := rfl
@[simp] theorem setCore_awaited (s : State) (k : Nat) (c : Core) : (s.setCore k c).awaited = s.awaited := rfl
@[simp] theorem setCore_groups (s : State) (k : Nat) (c : Core) : (s.setCore k c).groups = s.groups := rfl
@[simp] theorem setCore_tables (s : State) (k : Nat) (c : Core) : (s.setCore k c).tables = s.tables := rfl
@[simp] theorem setCore_dir (s : State) (k : Nat) (c : Core) : (s.setCore k c).dir = s.dir := rfl
@[simp] theorem setCore_hbm (s : State) (k : Nat) (c : Core) : (s.setCore k c).hbm = s.hbm := rfl
@[simp] theorem setCore_host (s : State) (k : Nat) (c : Core) : (s.setCore k c).host = s.host := rfl
@[simp] theorem setCore_ctxs (s : State) (k : Nat) (c : Core) : (s.setCore k c).ctxs = s.ctxs := rfl
@[simp] theorem setCore_keyCtr (s : State) (k : Nat) (c : Core) : (s.setCore k c).keyCtr = s.keyCtr := rfl
@[simp] theorem setCore_shared (s : State) (k : Nat) (c : Core) : (s.setCore k c).shared = s.shared := rfl
@[simp] theorem setCore_l2p (s : State) (k : Nat) (c : Core) : (s.setCore k c).l2p = s.l2p := rfl
@[simp] theorem setCore_nodeId (s : State) (k : Nat) (c : Core) : (s.setCore k c).nodeId = s.nodeId := rfl
@[simp] theorem setCore_fused (s : State) (k : Nat) (c : Core) : (s.setCore k c).fused = s.fused := rfl
@[simp] theorem setCore_retired (s : State) (k : Nat) (c : Core) : (s.setCore k c).retired = s.retired := rfl
@[simp] theorem setCore_banks (s : State) (k : Nat) (c : Core) : (s.setCore k c).banks = s.banks := rfl
@[simp] theorem setCore_chans (s : State) (k : Nat) (c : Core) : (s.setCore k c).chans = s.chans := rfl
@[simp] theorem setCore_boot (s : State) (k : Nat) (c : Core) : (s.setCore k c).boot = s.boot := rfl
@[simp] theorem setCore_dies (s : State) (k : Nat) (c : Core) : (s.setCore k c).dies = s.dies := rfl
@[simp] theorem setCore_pwrlim (s : State) (k : Nat) (c : Core) : (s.setCore k c).pwrlim = s.pwrlim := rfl
@[simp] theorem setCore_throttled (s : State) (k : Nat) (c : Core) : (s.setCore k c).throttled = s.throttled := rfl
@[simp] theorem setCore_ports (s : State) (k : Nat) (c : Core) : (s.setCore k c).ports = s.ports := rfl
@[simp] theorem setCore_parts (s : State) (k : Nat) (c : Core) : (s.setCore k c).parts = s.parts := rfl
@[simp] theorem setCore_heads (s : State) (k : Nat) (c : Core) : (s.setCore k c).heads = s.heads := rfl
@[simp] theorem setCore_outbox (s : State) (k : Nat) (c : Core) : (s.setCore k c).outbox = s.outbox := rfl
@[simp] theorem setCore_routes (s : State) (k : Nat) (c : Core) : (s.setCore k c).routes = s.routes := rfl
@[simp] theorem setCore_maps (s : State) (k : Nat) (c : Core) : (s.setCore k c).maps = s.maps := rfl
@[simp] theorem setCore_pairs (s : State) (k : Nat) (c : Core) : (s.setCore k c).pairs = s.pairs := rfl
@[simp] theorem setCore_ckpts (s : State) (k : Nat) (c : Core) : (s.setCore k c).ckpts = s.ckpts := rfl
@[simp] theorem setCore_rows (s : State) (k : Nat) (c : Core) : (s.setCore k c).rows = s.rows := rfl
@[simp] theorem setCore_failedTest (s : State) (k : Nat) (c : Core) : (s.setCore k c).failedTest = s.failedTest := rfl
@[simp] theorem setCore_through (s : State) (k : Nat) (c : Core) : (s.setCore k c).through = s.through := rfl
@[simp] theorem modCore_time (s : State) (k : Nat) (f : Core → Core) : (s.modCore k f).time = s.time := rfl
@[simp] theorem modCore_agenda (s : State) (k : Nat) (f : Core → Core) : (s.modCore k f).agenda = s.agenda := rfl
@[simp] theorem modCore_fresh (s : State) (k : Nat) (f : Core → Core) : (s.modCore k f).fresh = s.fresh := rfl
@[simp] theorem modCore_nextId (s : State) (k : Nat) (f : Core → Core) : (s.modCore k f).nextId = s.nextId := rfl
@[simp] theorem modCore_ctx (s : State) (k : Nat) (f : Core → Core) : (s.modCore k f).ctx = s.ctx := rfl
@[simp] theorem modCore_threads (s : State) (k : Nat) (f : Core → Core) : (s.modCore k f).threads = s.threads := rfl
@[simp] theorem modCore_net (s : State) (k : Nat) (f : Core → Core) : (s.modCore k f).net = s.net := rfl
@[simp] theorem modCore_refused (s : State) (k : Nat) (f : Core → Core) : (s.modCore k f).refused = s.refused := rfl
@[simp] theorem modCore_resend (s : State) (k : Nat) (f : Core → Core) : (s.modCore k f).resend = s.resend := rfl
@[simp] theorem modCore_seqs (s : State) (k : Nat) (f : Core → Core) : (s.modCore k f).seqs = s.seqs := rfl
@[simp] theorem modCore_awaited (s : State) (k : Nat) (f : Core → Core) : (s.modCore k f).awaited = s.awaited := rfl
@[simp] theorem modCore_groups (s : State) (k : Nat) (f : Core → Core) : (s.modCore k f).groups = s.groups := rfl
@[simp] theorem modCore_tables (s : State) (k : Nat) (f : Core → Core) : (s.modCore k f).tables = s.tables := rfl
@[simp] theorem modCore_dir (s : State) (k : Nat) (f : Core → Core) : (s.modCore k f).dir = s.dir := rfl
@[simp] theorem modCore_hbm (s : State) (k : Nat) (f : Core → Core) : (s.modCore k f).hbm = s.hbm := rfl
@[simp] theorem modCore_host (s : State) (k : Nat) (f : Core → Core) : (s.modCore k f).host = s.host := rfl
@[simp] theorem modCore_ctxs (s : State) (k : Nat) (f : Core → Core) : (s.modCore k f).ctxs = s.ctxs := rfl
@[simp] theorem modCore_keyCtr (s : State) (k : Nat) (f : Core → Core) : (s.modCore k f).keyCtr = s.keyCtr := rfl
@[simp] theorem modCore_shared (s : State) (k : Nat) (f : Core → Core) : (s.modCore k f).shared = s.shared := rfl
@[simp] theorem modCore_l2p (s : State) (k : Nat) (f : Core → Core) : (s.modCore k f).l2p = s.l2p := rfl
@[simp] theorem modCore_nodeId (s : State) (k : Nat) (f : Core → Core) : (s.modCore k f).nodeId = s.nodeId := rfl
@[simp] theorem modCore_fused (s : State) (k : Nat) (f : Core → Core) : (s.modCore k f).fused = s.fused := rfl
@[simp] theorem modCore_retired (s : State) (k : Nat) (f : Core → Core) : (s.modCore k f).retired = s.retired := rfl
@[simp] theorem modCore_banks (s : State) (k : Nat) (f : Core → Core) : (s.modCore k f).banks = s.banks := rfl
@[simp] theorem modCore_chans (s : State) (k : Nat) (f : Core → Core) : (s.modCore k f).chans = s.chans := rfl
@[simp] theorem modCore_boot (s : State) (k : Nat) (f : Core → Core) : (s.modCore k f).boot = s.boot := rfl
@[simp] theorem modCore_dies (s : State) (k : Nat) (f : Core → Core) : (s.modCore k f).dies = s.dies := rfl
@[simp] theorem modCore_pwrlim (s : State) (k : Nat) (f : Core → Core) : (s.modCore k f).pwrlim = s.pwrlim := rfl
@[simp] theorem modCore_throttled (s : State) (k : Nat) (f : Core → Core) : (s.modCore k f).throttled = s.throttled := rfl
@[simp] theorem modCore_ports (s : State) (k : Nat) (f : Core → Core) : (s.modCore k f).ports = s.ports := rfl
@[simp] theorem modCore_parts (s : State) (k : Nat) (f : Core → Core) : (s.modCore k f).parts = s.parts := rfl
@[simp] theorem modCore_heads (s : State) (k : Nat) (f : Core → Core) : (s.modCore k f).heads = s.heads := rfl
@[simp] theorem modCore_outbox (s : State) (k : Nat) (f : Core → Core) : (s.modCore k f).outbox = s.outbox := rfl
@[simp] theorem modCore_routes (s : State) (k : Nat) (f : Core → Core) : (s.modCore k f).routes = s.routes := rfl
@[simp] theorem modCore_maps (s : State) (k : Nat) (f : Core → Core) : (s.modCore k f).maps = s.maps := rfl
@[simp] theorem modCore_pairs (s : State) (k : Nat) (f : Core → Core) : (s.modCore k f).pairs = s.pairs := rfl
@[simp] theorem modCore_ckpts (s : State) (k : Nat) (f : Core → Core) : (s.modCore k f).ckpts = s.ckpts := rfl
@[simp] theorem modCore_rows (s : State) (k : Nat) (f : Core → Core) : (s.modCore k f).rows = s.rows := rfl
@[simp] theorem modCore_failedTest (s : State) (k : Nat) (f : Core → Core) : (s.modCore k f).failedTest = s.failedTest := rfl
@[simp] theorem modCore_through (s : State) (k : Nat) (f : Core → Core) : (s.modCore k f).through = s.through := rfl
@[simp] theorem modCur_time (s : State) (f : Thread → Thread) : (s.modCur f).time = s.time := rfl
@[simp] theorem modCur_agenda (s : State) (f : Thread → Thread) : (s.modCur f).agenda = s.agenda := rfl
@[simp] theorem modCur_fresh (s : State) (f : Thread → Thread) : (s.modCur f).fresh = s.fresh := rfl
@[simp] theorem modCur_nextId (s : State) (f : Thread → Thread) : (s.modCur f).nextId = s.nextId := rfl
@[simp] theorem modCur_ctx (s : State) (f : Thread → Thread) : (s.modCur f).ctx = s.ctx := rfl
@[simp] theorem modCur_cores (s : State) (f : Thread → Thread) : (s.modCur f).cores = s.cores := rfl
@[simp] theorem modCur_net (s : State) (f : Thread → Thread) : (s.modCur f).net = s.net := rfl
@[simp] theorem modCur_refused (s : State) (f : Thread → Thread) : (s.modCur f).refused = s.refused := rfl
@[simp] theorem modCur_resend (s : State) (f : Thread → Thread) : (s.modCur f).resend = s.resend := rfl
@[simp] theorem modCur_seqs (s : State) (f : Thread → Thread) : (s.modCur f).seqs = s.seqs := rfl
@[simp] theorem modCur_awaited (s : State) (f : Thread → Thread) : (s.modCur f).awaited = s.awaited := rfl
@[simp] theorem modCur_groups (s : State) (f : Thread → Thread) : (s.modCur f).groups = s.groups := rfl
@[simp] theorem modCur_tables (s : State) (f : Thread → Thread) : (s.modCur f).tables = s.tables := rfl
@[simp] theorem modCur_dir (s : State) (f : Thread → Thread) : (s.modCur f).dir = s.dir := rfl
@[simp] theorem modCur_hbm (s : State) (f : Thread → Thread) : (s.modCur f).hbm = s.hbm := rfl
@[simp] theorem modCur_host (s : State) (f : Thread → Thread) : (s.modCur f).host = s.host := rfl
@[simp] theorem modCur_ctxs (s : State) (f : Thread → Thread) : (s.modCur f).ctxs = s.ctxs := rfl
@[simp] theorem modCur_keyCtr (s : State) (f : Thread → Thread) : (s.modCur f).keyCtr = s.keyCtr := rfl
@[simp] theorem modCur_shared (s : State) (f : Thread → Thread) : (s.modCur f).shared = s.shared := rfl
@[simp] theorem modCur_l2p (s : State) (f : Thread → Thread) : (s.modCur f).l2p = s.l2p := rfl
@[simp] theorem modCur_nodeId (s : State) (f : Thread → Thread) : (s.modCur f).nodeId = s.nodeId := rfl
@[simp] theorem modCur_fused (s : State) (f : Thread → Thread) : (s.modCur f).fused = s.fused := rfl
@[simp] theorem modCur_retired (s : State) (f : Thread → Thread) : (s.modCur f).retired = s.retired := rfl
@[simp] theorem modCur_banks (s : State) (f : Thread → Thread) : (s.modCur f).banks = s.banks := rfl
@[simp] theorem modCur_chans (s : State) (f : Thread → Thread) : (s.modCur f).chans = s.chans := rfl
@[simp] theorem modCur_boot (s : State) (f : Thread → Thread) : (s.modCur f).boot = s.boot := rfl
@[simp] theorem modCur_dies (s : State) (f : Thread → Thread) : (s.modCur f).dies = s.dies := rfl
@[simp] theorem modCur_pwrlim (s : State) (f : Thread → Thread) : (s.modCur f).pwrlim = s.pwrlim := rfl
@[simp] theorem modCur_throttled (s : State) (f : Thread → Thread) : (s.modCur f).throttled = s.throttled := rfl
@[simp] theorem modCur_ports (s : State) (f : Thread → Thread) : (s.modCur f).ports = s.ports := rfl
@[simp] theorem modCur_parts (s : State) (f : Thread → Thread) : (s.modCur f).parts = s.parts := rfl
@[simp] theorem modCur_heads (s : State) (f : Thread → Thread) : (s.modCur f).heads = s.heads := rfl
@[simp] theorem modCur_outbox (s : State) (f : Thread → Thread) : (s.modCur f).outbox = s.outbox := rfl
@[simp] theorem modCur_routes (s : State) (f : Thread → Thread) : (s.modCur f).routes = s.routes := rfl
@[simp] theorem modCur_maps (s : State) (f : Thread → Thread) : (s.modCur f).maps = s.maps := rfl
@[simp] theorem modCur_pairs (s : State) (f : Thread → Thread) : (s.modCur f).pairs = s.pairs := rfl
@[simp] theorem modCur_ckpts (s : State) (f : Thread → Thread) : (s.modCur f).ckpts = s.ckpts := rfl
@[simp] theorem modCur_rows (s : State) (f : Thread → Thread) : (s.modCur f).rows = s.rows := rfl
@[simp] theorem modCur_failedTest (s : State) (f : Thread → Thread) : (s.modCur f).failedTest = s.failedTest := rfl
@[simp] theorem modCur_through (s : State) (f : Thread → Thread) : (s.modCur f).through = s.through := rfl
@[simp] theorem modMyCore_time (s : State) (f : Core → Core) : (s.modMyCore f).time = s.time := rfl
@[simp] theorem modMyCore_agenda (s : State) (f : Core → Core) : (s.modMyCore f).agenda = s.agenda := rfl
@[simp] theorem modMyCore_fresh (s : State) (f : Core → Core) : (s.modMyCore f).fresh = s.fresh := rfl
@[simp] theorem modMyCore_nextId (s : State) (f : Core → Core) : (s.modMyCore f).nextId = s.nextId := rfl
@[simp] theorem modMyCore_ctx (s : State) (f : Core → Core) : (s.modMyCore f).ctx = s.ctx := rfl
@[simp] theorem modMyCore_threads (s : State) (f : Core → Core) : (s.modMyCore f).threads = s.threads := rfl
@[simp] theorem modMyCore_net (s : State) (f : Core → Core) : (s.modMyCore f).net = s.net := rfl
@[simp] theorem modMyCore_refused (s : State) (f : Core → Core) : (s.modMyCore f).refused = s.refused := rfl
@[simp] theorem modMyCore_resend (s : State) (f : Core → Core) : (s.modMyCore f).resend = s.resend := rfl
@[simp] theorem modMyCore_seqs (s : State) (f : Core → Core) : (s.modMyCore f).seqs = s.seqs := rfl
@[simp] theorem modMyCore_awaited (s : State) (f : Core → Core) : (s.modMyCore f).awaited = s.awaited := rfl
@[simp] theorem modMyCore_groups (s : State) (f : Core → Core) : (s.modMyCore f).groups = s.groups := rfl
@[simp] theorem modMyCore_tables (s : State) (f : Core → Core) : (s.modMyCore f).tables = s.tables := rfl
@[simp] theorem modMyCore_dir (s : State) (f : Core → Core) : (s.modMyCore f).dir = s.dir := rfl
@[simp] theorem modMyCore_hbm (s : State) (f : Core → Core) : (s.modMyCore f).hbm = s.hbm := rfl
@[simp] theorem modMyCore_host (s : State) (f : Core → Core) : (s.modMyCore f).host = s.host := rfl
@[simp] theorem modMyCore_ctxs (s : State) (f : Core → Core) : (s.modMyCore f).ctxs = s.ctxs := rfl
@[simp] theorem modMyCore_keyCtr (s : State) (f : Core → Core) : (s.modMyCore f).keyCtr = s.keyCtr := rfl
@[simp] theorem modMyCore_shared (s : State) (f : Core → Core) : (s.modMyCore f).shared = s.shared := rfl
@[simp] theorem modMyCore_l2p (s : State) (f : Core → Core) : (s.modMyCore f).l2p = s.l2p := rfl
@[simp] theorem modMyCore_nodeId (s : State) (f : Core → Core) : (s.modMyCore f).nodeId = s.nodeId := rfl
@[simp] theorem modMyCore_fused (s : State) (f : Core → Core) : (s.modMyCore f).fused = s.fused := rfl
@[simp] theorem modMyCore_retired (s : State) (f : Core → Core) : (s.modMyCore f).retired = s.retired := rfl
@[simp] theorem modMyCore_banks (s : State) (f : Core → Core) : (s.modMyCore f).banks = s.banks := rfl
@[simp] theorem modMyCore_chans (s : State) (f : Core → Core) : (s.modMyCore f).chans = s.chans := rfl
@[simp] theorem modMyCore_boot (s : State) (f : Core → Core) : (s.modMyCore f).boot = s.boot := rfl
@[simp] theorem modMyCore_dies (s : State) (f : Core → Core) : (s.modMyCore f).dies = s.dies := rfl
@[simp] theorem modMyCore_pwrlim (s : State) (f : Core → Core) : (s.modMyCore f).pwrlim = s.pwrlim := rfl
@[simp] theorem modMyCore_throttled (s : State) (f : Core → Core) : (s.modMyCore f).throttled = s.throttled := rfl
@[simp] theorem modMyCore_ports (s : State) (f : Core → Core) : (s.modMyCore f).ports = s.ports := rfl
@[simp] theorem modMyCore_parts (s : State) (f : Core → Core) : (s.modMyCore f).parts = s.parts := rfl
@[simp] theorem modMyCore_heads (s : State) (f : Core → Core) : (s.modMyCore f).heads = s.heads := rfl
@[simp] theorem modMyCore_outbox (s : State) (f : Core → Core) : (s.modMyCore f).outbox = s.outbox := rfl
@[simp] theorem modMyCore_routes (s : State) (f : Core → Core) : (s.modMyCore f).routes = s.routes := rfl
@[simp] theorem modMyCore_maps (s : State) (f : Core → Core) : (s.modMyCore f).maps = s.maps := rfl
@[simp] theorem modMyCore_pairs (s : State) (f : Core → Core) : (s.modMyCore f).pairs = s.pairs := rfl
@[simp] theorem modMyCore_ckpts (s : State) (f : Core → Core) : (s.modMyCore f).ckpts = s.ckpts := rfl
@[simp] theorem modMyCore_rows (s : State) (f : Core → Core) : (s.modMyCore f).rows = s.rows := rfl
@[simp] theorem modMyCore_failedTest (s : State) (f : Core → Core) : (s.modMyCore f).failedTest = s.failedTest := rfl
@[simp] theorem modMyCore_through (s : State) (f : Core → Core) : (s.modMyCore f).through = s.through := rfl
@[simp] theorem openBundle_time (s : State)  : (s.openBundle).time = s.time := rfl
@[simp] theorem openBundle_agenda (s : State)  : (s.openBundle).agenda = s.agenda := rfl
@[simp] theorem openBundle_fresh (s : State)  : (s.openBundle).fresh = s.fresh := rfl
@[simp] theorem openBundle_nextId (s : State)  : (s.openBundle).nextId = s.nextId := rfl
@[simp] theorem openBundle_cores (s : State)  : (s.openBundle).cores = s.cores := rfl
@[simp] theorem openBundle_net (s : State)  : (s.openBundle).net = s.net := rfl
@[simp] theorem openBundle_refused (s : State)  : (s.openBundle).refused = s.refused := rfl
@[simp] theorem openBundle_resend (s : State)  : (s.openBundle).resend = s.resend := rfl
@[simp] theorem openBundle_seqs (s : State)  : (s.openBundle).seqs = s.seqs := rfl
@[simp] theorem openBundle_awaited (s : State)  : (s.openBundle).awaited = s.awaited := rfl
@[simp] theorem openBundle_groups (s : State)  : (s.openBundle).groups = s.groups := rfl
@[simp] theorem openBundle_tables (s : State)  : (s.openBundle).tables = s.tables := rfl
@[simp] theorem openBundle_dir (s : State)  : (s.openBundle).dir = s.dir := rfl
@[simp] theorem openBundle_hbm (s : State)  : (s.openBundle).hbm = s.hbm := rfl
@[simp] theorem openBundle_host (s : State)  : (s.openBundle).host = s.host := rfl
@[simp] theorem openBundle_ctxs (s : State)  : (s.openBundle).ctxs = s.ctxs := rfl
@[simp] theorem openBundle_keyCtr (s : State)  : (s.openBundle).keyCtr = s.keyCtr := rfl
@[simp] theorem openBundle_shared (s : State)  : (s.openBundle).shared = s.shared := rfl
@[simp] theorem openBundle_l2p (s : State)  : (s.openBundle).l2p = s.l2p := rfl
@[simp] theorem openBundle_nodeId (s : State)  : (s.openBundle).nodeId = s.nodeId := rfl
@[simp] theorem openBundle_fused (s : State)  : (s.openBundle).fused = s.fused := rfl
@[simp] theorem openBundle_retired (s : State)  : (s.openBundle).retired = s.retired := rfl
@[simp] theorem openBundle_banks (s : State)  : (s.openBundle).banks = s.banks := rfl
@[simp] theorem openBundle_chans (s : State)  : (s.openBundle).chans = s.chans := rfl
@[simp] theorem openBundle_boot (s : State)  : (s.openBundle).boot = s.boot := rfl
@[simp] theorem openBundle_dies (s : State)  : (s.openBundle).dies = s.dies := rfl
@[simp] theorem openBundle_pwrlim (s : State)  : (s.openBundle).pwrlim = s.pwrlim := rfl
@[simp] theorem openBundle_throttled (s : State)  : (s.openBundle).throttled = s.throttled := rfl
@[simp] theorem openBundle_ports (s : State)  : (s.openBundle).ports = s.ports := rfl
@[simp] theorem openBundle_parts (s : State)  : (s.openBundle).parts = s.parts := rfl
@[simp] theorem openBundle_heads (s : State)  : (s.openBundle).heads = s.heads := rfl
@[simp] theorem openBundle_outbox (s : State)  : (s.openBundle).outbox = s.outbox := rfl
@[simp] theorem openBundle_routes (s : State)  : (s.openBundle).routes = s.routes := rfl
@[simp] theorem openBundle_maps (s : State)  : (s.openBundle).maps = s.maps := rfl
@[simp] theorem openBundle_pairs (s : State)  : (s.openBundle).pairs = s.pairs := rfl
@[simp] theorem openBundle_ckpts (s : State)  : (s.openBundle).ckpts = s.ckpts := rfl
@[simp] theorem openBundle_rows (s : State)  : (s.openBundle).rows = s.rows := rfl
@[simp] theorem openBundle_failedTest (s : State)  : (s.openBundle).failedTest = s.failedTest := rfl
@[simp] theorem openBundle_through (s : State)  : (s.openBundle).through = s.through := rfl
@[simp] theorem closed_time (s : State)  : (s.closed).time = s.time := rfl
@[simp] theorem closed_agenda (s : State)  : (s.closed).agenda = s.agenda := rfl
@[simp] theorem closed_fresh (s : State)  : (s.closed).fresh = s.fresh := rfl
@[simp] theorem closed_nextId (s : State)  : (s.closed).nextId = s.nextId := rfl
@[simp] theorem closed_threads (s : State)  : (s.closed).threads = s.threads := rfl
@[simp] theorem closed_cores (s : State)  : (s.closed).cores = s.cores := rfl
@[simp] theorem closed_net (s : State)  : (s.closed).net = s.net := rfl
@[simp] theorem closed_refused (s : State)  : (s.closed).refused = s.refused := rfl
@[simp] theorem closed_resend (s : State)  : (s.closed).resend = s.resend := rfl
@[simp] theorem closed_seqs (s : State)  : (s.closed).seqs = s.seqs := rfl
@[simp] theorem closed_awaited (s : State)  : (s.closed).awaited = s.awaited := rfl
@[simp] theorem closed_groups (s : State)  : (s.closed).groups = s.groups := rfl
@[simp] theorem closed_tables (s : State)  : (s.closed).tables = s.tables := rfl
@[simp] theorem closed_dir (s : State)  : (s.closed).dir = s.dir := rfl
@[simp] theorem closed_hbm (s : State)  : (s.closed).hbm = s.hbm := rfl
@[simp] theorem closed_host (s : State)  : (s.closed).host = s.host := rfl
@[simp] theorem closed_ctxs (s : State)  : (s.closed).ctxs = s.ctxs := rfl
@[simp] theorem closed_keyCtr (s : State)  : (s.closed).keyCtr = s.keyCtr := rfl
@[simp] theorem closed_shared (s : State)  : (s.closed).shared = s.shared := rfl
@[simp] theorem closed_l2p (s : State)  : (s.closed).l2p = s.l2p := rfl
@[simp] theorem closed_nodeId (s : State)  : (s.closed).nodeId = s.nodeId := rfl
@[simp] theorem closed_fused (s : State)  : (s.closed).fused = s.fused := rfl
@[simp] theorem closed_retired (s : State)  : (s.closed).retired = s.retired := rfl
@[simp] theorem closed_banks (s : State)  : (s.closed).banks = s.banks := rfl
@[simp] theorem closed_chans (s : State)  : (s.closed).chans = s.chans := rfl
@[simp] theorem closed_boot (s : State)  : (s.closed).boot = s.boot := rfl
@[simp] theorem closed_dies (s : State)  : (s.closed).dies = s.dies := rfl
@[simp] theorem closed_pwrlim (s : State)  : (s.closed).pwrlim = s.pwrlim := rfl
@[simp] theorem closed_throttled (s : State)  : (s.closed).throttled = s.throttled := rfl
@[simp] theorem closed_ports (s : State)  : (s.closed).ports = s.ports := rfl
@[simp] theorem closed_parts (s : State)  : (s.closed).parts = s.parts := rfl
@[simp] theorem closed_heads (s : State)  : (s.closed).heads = s.heads := rfl
@[simp] theorem closed_outbox (s : State)  : (s.closed).outbox = s.outbox := rfl
@[simp] theorem closed_routes (s : State)  : (s.closed).routes = s.routes := rfl
@[simp] theorem closed_maps (s : State)  : (s.closed).maps = s.maps := rfl
@[simp] theorem closed_pairs (s : State)  : (s.closed).pairs = s.pairs := rfl
@[simp] theorem closed_ckpts (s : State)  : (s.closed).ckpts = s.ckpts := rfl
@[simp] theorem closed_rows (s : State)  : (s.closed).rows = s.rows := rfl
@[simp] theorem closed_failedTest (s : State)  : (s.closed).failedTest = s.failedTest := rfl
@[simp] theorem closed_through (s : State)  : (s.closed).through = s.through := rfl
@[simp] theorem retire_time (s : State)  : (s.retire).time = s.time := rfl
@[simp] theorem retire_agenda (s : State)  : (s.retire).agenda = s.agenda := rfl
@[simp] theorem retire_fresh (s : State)  : (s.retire).fresh = s.fresh := rfl
@[simp] theorem retire_nextId (s : State)  : (s.retire).nextId = s.nextId := rfl
@[simp] theorem retire_cores (s : State)  : (s.retire).cores = s.cores := rfl
@[simp] theorem retire_net (s : State)  : (s.retire).net = s.net := rfl
@[simp] theorem retire_refused (s : State)  : (s.retire).refused = s.refused := rfl
@[simp] theorem retire_resend (s : State)  : (s.retire).resend = s.resend := rfl
@[simp] theorem retire_seqs (s : State)  : (s.retire).seqs = s.seqs := rfl
@[simp] theorem retire_awaited (s : State)  : (s.retire).awaited = s.awaited := rfl
@[simp] theorem retire_groups (s : State)  : (s.retire).groups = s.groups := rfl
@[simp] theorem retire_tables (s : State)  : (s.retire).tables = s.tables := rfl
@[simp] theorem retire_dir (s : State)  : (s.retire).dir = s.dir := rfl
@[simp] theorem retire_hbm (s : State)  : (s.retire).hbm = s.hbm := rfl
@[simp] theorem retire_host (s : State)  : (s.retire).host = s.host := rfl
@[simp] theorem retire_ctxs (s : State)  : (s.retire).ctxs = s.ctxs := rfl
@[simp] theorem retire_keyCtr (s : State)  : (s.retire).keyCtr = s.keyCtr := rfl
@[simp] theorem retire_shared (s : State)  : (s.retire).shared = s.shared := rfl
@[simp] theorem retire_l2p (s : State)  : (s.retire).l2p = s.l2p := rfl
@[simp] theorem retire_nodeId (s : State)  : (s.retire).nodeId = s.nodeId := rfl
@[simp] theorem retire_fused (s : State)  : (s.retire).fused = s.fused := rfl
@[simp] theorem retire_retired (s : State)  : (s.retire).retired = s.retired := rfl
@[simp] theorem retire_banks (s : State)  : (s.retire).banks = s.banks := rfl
@[simp] theorem retire_chans (s : State)  : (s.retire).chans = s.chans := rfl
@[simp] theorem retire_boot (s : State)  : (s.retire).boot = s.boot := rfl
@[simp] theorem retire_dies (s : State)  : (s.retire).dies = s.dies := rfl
@[simp] theorem retire_pwrlim (s : State)  : (s.retire).pwrlim = s.pwrlim := rfl
@[simp] theorem retire_throttled (s : State)  : (s.retire).throttled = s.throttled := rfl
@[simp] theorem retire_ports (s : State)  : (s.retire).ports = s.ports := rfl
@[simp] theorem retire_parts (s : State)  : (s.retire).parts = s.parts := rfl
@[simp] theorem retire_heads (s : State)  : (s.retire).heads = s.heads := rfl
@[simp] theorem retire_outbox (s : State)  : (s.retire).outbox = s.outbox := rfl
@[simp] theorem retire_routes (s : State)  : (s.retire).routes = s.routes := rfl
@[simp] theorem retire_maps (s : State)  : (s.retire).maps = s.maps := rfl
@[simp] theorem retire_pairs (s : State)  : (s.retire).pairs = s.pairs := rfl
@[simp] theorem retire_ckpts (s : State)  : (s.retire).ckpts = s.ckpts := rfl
@[simp] theorem retire_rows (s : State)  : (s.retire).rows = s.rows := rfl
@[simp] theorem retire_failedTest (s : State)  : (s.retire).failedTest = s.failedTest := rfl
@[simp] theorem retire_through (s : State)  : (s.retire).through = s.through := rfl
@[simp] theorem ended_time (s : State) (e : SlotEnd) : (s.ended e).time = s.time := rfl
@[simp] theorem ended_agenda (s : State) (e : SlotEnd) : (s.ended e).agenda = s.agenda := rfl
@[simp] theorem ended_fresh (s : State) (e : SlotEnd) : (s.ended e).fresh = s.fresh := rfl
@[simp] theorem ended_nextId (s : State) (e : SlotEnd) : (s.ended e).nextId = s.nextId := rfl
@[simp] theorem ended_threads (s : State) (e : SlotEnd) : (s.ended e).threads = s.threads := rfl
@[simp] theorem ended_cores (s : State) (e : SlotEnd) : (s.ended e).cores = s.cores := rfl
@[simp] theorem ended_net (s : State) (e : SlotEnd) : (s.ended e).net = s.net := rfl
@[simp] theorem ended_refused (s : State) (e : SlotEnd) : (s.ended e).refused = s.refused := rfl
@[simp] theorem ended_resend (s : State) (e : SlotEnd) : (s.ended e).resend = s.resend := rfl
@[simp] theorem ended_seqs (s : State) (e : SlotEnd) : (s.ended e).seqs = s.seqs := rfl
@[simp] theorem ended_awaited (s : State) (e : SlotEnd) : (s.ended e).awaited = s.awaited := rfl
@[simp] theorem ended_groups (s : State) (e : SlotEnd) : (s.ended e).groups = s.groups := rfl
@[simp] theorem ended_tables (s : State) (e : SlotEnd) : (s.ended e).tables = s.tables := rfl
@[simp] theorem ended_dir (s : State) (e : SlotEnd) : (s.ended e).dir = s.dir := rfl
@[simp] theorem ended_hbm (s : State) (e : SlotEnd) : (s.ended e).hbm = s.hbm := rfl
@[simp] theorem ended_host (s : State) (e : SlotEnd) : (s.ended e).host = s.host := rfl
@[simp] theorem ended_ctxs (s : State) (e : SlotEnd) : (s.ended e).ctxs = s.ctxs := rfl
@[simp] theorem ended_keyCtr (s : State) (e : SlotEnd) : (s.ended e).keyCtr = s.keyCtr := rfl
@[simp] theorem ended_shared (s : State) (e : SlotEnd) : (s.ended e).shared = s.shared := rfl
@[simp] theorem ended_l2p (s : State) (e : SlotEnd) : (s.ended e).l2p = s.l2p := rfl
@[simp] theorem ended_nodeId (s : State) (e : SlotEnd) : (s.ended e).nodeId = s.nodeId := rfl
@[simp] theorem ended_fused (s : State) (e : SlotEnd) : (s.ended e).fused = s.fused := rfl
@[simp] theorem ended_retired (s : State) (e : SlotEnd) : (s.ended e).retired = s.retired := rfl
@[simp] theorem ended_banks (s : State) (e : SlotEnd) : (s.ended e).banks = s.banks := rfl
@[simp] theorem ended_chans (s : State) (e : SlotEnd) : (s.ended e).chans = s.chans := rfl
@[simp] theorem ended_boot (s : State) (e : SlotEnd) : (s.ended e).boot = s.boot := rfl
@[simp] theorem ended_dies (s : State) (e : SlotEnd) : (s.ended e).dies = s.dies := rfl
@[simp] theorem ended_pwrlim (s : State) (e : SlotEnd) : (s.ended e).pwrlim = s.pwrlim := rfl
@[simp] theorem ended_throttled (s : State) (e : SlotEnd) : (s.ended e).throttled = s.throttled := rfl
@[simp] theorem ended_ports (s : State) (e : SlotEnd) : (s.ended e).ports = s.ports := rfl
@[simp] theorem ended_parts (s : State) (e : SlotEnd) : (s.ended e).parts = s.parts := rfl
@[simp] theorem ended_heads (s : State) (e : SlotEnd) : (s.ended e).heads = s.heads := rfl
@[simp] theorem ended_outbox (s : State) (e : SlotEnd) : (s.ended e).outbox = s.outbox := rfl
@[simp] theorem ended_routes (s : State) (e : SlotEnd) : (s.ended e).routes = s.routes := rfl
@[simp] theorem ended_maps (s : State) (e : SlotEnd) : (s.ended e).maps = s.maps := rfl
@[simp] theorem ended_pairs (s : State) (e : SlotEnd) : (s.ended e).pairs = s.pairs := rfl
@[simp] theorem ended_ckpts (s : State) (e : SlotEnd) : (s.ended e).ckpts = s.ckpts := rfl
@[simp] theorem ended_rows (s : State) (e : SlotEnd) : (s.ended e).rows = s.rows := rfl
@[simp] theorem ended_failedTest (s : State) (e : SlotEnd) : (s.ended e).failedTest = s.failedTest := rfl
@[simp] theorem ended_through (s : State) (e : SlotEnd) : (s.ended e).through = s.through := rfl
@[simp] theorem jumpTo_time (s : State) (a : Word) : (s.jumpTo a).time = s.time := rfl
@[simp] theorem jumpTo_agenda (s : State) (a : Word) : (s.jumpTo a).agenda = s.agenda := rfl
@[simp] theorem jumpTo_fresh (s : State) (a : Word) : (s.jumpTo a).fresh = s.fresh := rfl
@[simp] theorem jumpTo_nextId (s : State) (a : Word) : (s.jumpTo a).nextId = s.nextId := rfl
@[simp] theorem jumpTo_threads (s : State) (a : Word) : (s.jumpTo a).threads = s.threads := rfl
@[simp] theorem jumpTo_cores (s : State) (a : Word) : (s.jumpTo a).cores = s.cores := rfl
@[simp] theorem jumpTo_net (s : State) (a : Word) : (s.jumpTo a).net = s.net := rfl
@[simp] theorem jumpTo_refused (s : State) (a : Word) : (s.jumpTo a).refused = s.refused := rfl
@[simp] theorem jumpTo_resend (s : State) (a : Word) : (s.jumpTo a).resend = s.resend := rfl
@[simp] theorem jumpTo_seqs (s : State) (a : Word) : (s.jumpTo a).seqs = s.seqs := rfl
@[simp] theorem jumpTo_awaited (s : State) (a : Word) : (s.jumpTo a).awaited = s.awaited := rfl
@[simp] theorem jumpTo_groups (s : State) (a : Word) : (s.jumpTo a).groups = s.groups := rfl
@[simp] theorem jumpTo_tables (s : State) (a : Word) : (s.jumpTo a).tables = s.tables := rfl
@[simp] theorem jumpTo_dir (s : State) (a : Word) : (s.jumpTo a).dir = s.dir := rfl
@[simp] theorem jumpTo_hbm (s : State) (a : Word) : (s.jumpTo a).hbm = s.hbm := rfl
@[simp] theorem jumpTo_host (s : State) (a : Word) : (s.jumpTo a).host = s.host := rfl
@[simp] theorem jumpTo_ctxs (s : State) (a : Word) : (s.jumpTo a).ctxs = s.ctxs := rfl
@[simp] theorem jumpTo_keyCtr (s : State) (a : Word) : (s.jumpTo a).keyCtr = s.keyCtr := rfl
@[simp] theorem jumpTo_shared (s : State) (a : Word) : (s.jumpTo a).shared = s.shared := rfl
@[simp] theorem jumpTo_l2p (s : State) (a : Word) : (s.jumpTo a).l2p = s.l2p := rfl
@[simp] theorem jumpTo_nodeId (s : State) (a : Word) : (s.jumpTo a).nodeId = s.nodeId := rfl
@[simp] theorem jumpTo_fused (s : State) (a : Word) : (s.jumpTo a).fused = s.fused := rfl
@[simp] theorem jumpTo_retired (s : State) (a : Word) : (s.jumpTo a).retired = s.retired := rfl
@[simp] theorem jumpTo_banks (s : State) (a : Word) : (s.jumpTo a).banks = s.banks := rfl
@[simp] theorem jumpTo_chans (s : State) (a : Word) : (s.jumpTo a).chans = s.chans := rfl
@[simp] theorem jumpTo_boot (s : State) (a : Word) : (s.jumpTo a).boot = s.boot := rfl
@[simp] theorem jumpTo_dies (s : State) (a : Word) : (s.jumpTo a).dies = s.dies := rfl
@[simp] theorem jumpTo_pwrlim (s : State) (a : Word) : (s.jumpTo a).pwrlim = s.pwrlim := rfl
@[simp] theorem jumpTo_throttled (s : State) (a : Word) : (s.jumpTo a).throttled = s.throttled := rfl
@[simp] theorem jumpTo_ports (s : State) (a : Word) : (s.jumpTo a).ports = s.ports := rfl
@[simp] theorem jumpTo_parts (s : State) (a : Word) : (s.jumpTo a).parts = s.parts := rfl
@[simp] theorem jumpTo_heads (s : State) (a : Word) : (s.jumpTo a).heads = s.heads := rfl
@[simp] theorem jumpTo_outbox (s : State) (a : Word) : (s.jumpTo a).outbox = s.outbox := rfl
@[simp] theorem jumpTo_routes (s : State) (a : Word) : (s.jumpTo a).routes = s.routes := rfl
@[simp] theorem jumpTo_maps (s : State) (a : Word) : (s.jumpTo a).maps = s.maps := rfl
@[simp] theorem jumpTo_pairs (s : State) (a : Word) : (s.jumpTo a).pairs = s.pairs := rfl
@[simp] theorem jumpTo_ckpts (s : State) (a : Word) : (s.jumpTo a).ckpts = s.ckpts := rfl
@[simp] theorem jumpTo_rows (s : State) (a : Word) : (s.jumpTo a).rows = s.rows := rfl
@[simp] theorem jumpTo_failedTest (s : State) (a : Word) : (s.jumpTo a).failedTest = s.failedTest := rfl
@[simp] theorem jumpTo_through (s : State) (a : Word) : (s.jumpTo a).through = s.through := rfl

end Sys2Proof.Machine.State
end

