-- ==== Sys2Proof/Laws/Slot.lean ====
section
/-! SUPPORT. What a slot can do: it waits, raises a fault or completes (R40, R42). -/

namespace Sys2Proof.Machine

@[simp] theorem firstTrap_nil : firstTrap [] = none := rfl
@[simp] theorem firstTrap_one (t : Trap) : firstTrap [t] = some t := rfl

/-- A slot that is clear to issue and whose body takes effect completes. -/
theorem slot_done {i : Instr} {body : State → SlotRes} {s v : State} (h : Clear i s) (hb : body s.entered = .done v) :
    slot i body s = .next (s.finished v) := by
  obtain ⟨hw, hf⟩ := h
  unfold slot State.entered State.finished at *
  simp only [hw, hf, Bool.false_eq_true, if_false]
  cases hform : s.ctx.form <;> simp only [hform] at hb ⊢ <;> simp [hb, SlotRes.withFaults]

/-- A slot that is clear to issue and whose body raises a fault raises it. -/
theorem slot_raise {i : Instr} {body : State → SlotRes} {s : State} {t : Trap} (h : Clear i s) (hb : body s.entered = .raise t) :
    slot i body s = .next (s.trapped t) := by
  obtain ⟨hw, hf⟩ := h
  unfold slot State.entered State.trapped at *
  simp only [hw, hf, Bool.false_eq_true, if_false]
  cases hform : s.ctx.form <;> simp only [hform] at hb ⊢ <;> simp [hb, SlotRes.withFaults]

/-- Whatever its body, a slot answers a next state. -/
theorem slot_next (i : Instr) (body : State → SlotRes) (s : State) : ∃ t, slot i body s = .next t := by
  unfold slot
  repeat' split
  all_goals exact ⟨_, rfl⟩

@[simp] theorem entered_key (s : State) : s.entered.ctx.key = s.ctx.key := by
  unfold State.entered; split <;> rfl
@[simp] theorem entered_pc (s : State) : s.entered.ctx.pc = s.ctx.pc := by
  unfold State.entered; split <;> rfl
@[simp] theorem entered_word (s : State) : s.entered.ctx.word = s.ctx.word := by
  unfold State.entered; split <;> rfl
@[simp] theorem entered_form (s : State) : s.entered.ctx.form = s.ctx.form := by
  unfold State.entered; split <;> rfl
@[simp] theorem entered_trapOf (s : State) (c : Cause) (v : Word) : s.entered.trapOf c v = s.trapOf c v := by simp [State.trapOf]

/-- What an instruction made of one slot does, from its body. -/
theorem does_of {i : Instr} {body : State → SlotRes} {f : State → State} (h : ∀ s, exec i s = slot i body s) (hb : ∀ u, body u = .done (f u)) : Does i f :=
  fun s hc => by rw [h]; exact slot_done hc (hb _)
theorem doesIf_of {i : Instr} {body : State → SlotRes} {p : State → Prop} {f : State → State} (h : ∀ s, exec i s = slot i body s)
    (hb : ∀ u, p u → body u = .done (f u)) : DoesIf i p f :=
  fun s hc hp => by rw [h]; exact slot_done hc (hb _ hp)
theorem traps_of {i : Instr} {body : State → SlotRes} {p : State → Prop} {c : Cause} {v : State → Word} (h : ∀ s, exec i s = slot i body s)
    (hb : ∀ u, p u → body u = .raise (u.trapOf c (v u))) : Traps i p c v :=
  fun s hc hp => by rw [h, ← entered_trapOf]; exact slot_raise hc (hb _ hp)

end Sys2Proof.Machine
end

