-- ==== Sys2Proof/Laws/Thread.lean ====
section
/-! SUPPORT. Registers of a thread: reading back a register that was written, and what a write leaves as it is (R21 to R25). -/

namespace Sys2Proof.Machine.Thread

/-! ### Reading back -/

@[simp] theorem getX_zero (t : Thread) : t.getX 0 = 0 := by simp [getX]
@[simp] theorem getM_zero (t : Thread) : t.getM 0 = BitVec.allOnes 1024 := by simp [getM]
theorem toNat_inj_ne {n : Nat} {r d : BitVec n} (h : r ≠ d) : ¬d.toNat = r.toNat := fun e => h (BitVec.eq_of_toNat_eq e.symm)
theorem setX_regs_x (t : Thread) (d : XReg) (v : Word) (h : d ≠ 0) : (t.setX d v).regs.x = t.regs.x.set d.toNat v := by
  simp only [setX, putX, unmark, if_neg h]
theorem setX_regs_x_zero (t : Thread) (v : Word) : (t.setX 0 v).regs.x = t.regs.x := rfl
/-- x0 discards a write and reads zero (R21). -/
theorem getX_setX (t : Thread) (d r : XReg) (v : Word) : (t.setX d v).getX r = if r = 0 then 0 else if r = d then v else t.getX r := by
  by_cases hr : r = 0
  · rw [if_pos hr, getX, if_pos hr]
  · rw [if_neg hr, getX, if_neg hr, getX, if_neg hr]
    by_cases hd : d = 0
    · rw [hd, if_neg hr]; rfl
    · simp only [setX_regs_x t d v hd]
      split
      · next h => subst h; exact Vector.getElem_set_self _
      · next h => exact Vector.getElem_set_ne _ _ (toNat_inj_ne h)
@[simp] theorem getX_setX_same (t : Thread) (d : XReg) (v : Word) (h : d ≠ 0) : (t.setX d v).getX d = v := by
  rw [getX_setX, if_neg h, if_pos rfl]
theorem getX_setX_ne (t : Thread) (d r : XReg) (v : Word) (h : r ≠ d) : (t.setX d v).getX r = t.getX r := by
  rw [getX_setX, if_neg h]; split
  · next hr => rw [getX, if_pos hr]
  · rfl
theorem getV_setV (t : Thread) (d r : VReg) (v : VWord) : (t.setV d v).getV r = if r = d then v else t.getV r := by
  by_cases h : r = d
  · subst h; simp [setV, putV, unmark, getV]
  · simp [setV, putV, unmark, getV, h, toNat_inj_ne h]
@[simp] theorem getV_setV_same (t : Thread) (d : VReg) (v : VWord) : (t.setV d v).getV d = v := by simp [getV_setV]
theorem getA_setA (t : Thread) (d r : AReg) (v : ARegV) : (t.setA d v).getA r = if r = d then v else t.getA r := by
  by_cases h : r = d
  · subst h; simp [setA, unmark, getA]
  · simp [setA, unmark, getA, h, toNat_inj_ne h]
@[simp] theorem getA_setA_same (t : Thread) (d : AReg) (v : ARegV) : (t.setA d v).getA d = v := by simp [getA_setA]
theorem setM_regs_m (t : Thread) (d : MReg) (v : MWord) (h : d ≠ 0) : (t.setM d v).regs.m = t.regs.m.set d.toNat v := by
  simp only [setM, unmark, if_neg h]
/-- m0 ignores a write and reads all ones (R25). -/
theorem getM_setM (t : Thread) (d r : MReg) (v : MWord) :
    (t.setM d v).getM r = if r = 0 then BitVec.allOnes 1024 else if r = d then v else t.getM r := by
  by_cases hr : r = 0
  · rw [if_pos hr, getM, if_pos hr]
  · rw [if_neg hr, getM, if_neg hr, getM, if_neg hr]
    by_cases hd : d = 0
    · rw [hd, if_neg hr]; rfl
    · simp only [setM_regs_m t d v hd]
      split
      · next h => subst h; exact Vector.getElem_set_self _
      · next h => exact Vector.getElem_set_ne _ _ (toNat_inj_ne h)

/-! ### The other registers -/

@[simp] theorem setX_regs_v (t : Thread) (d : XReg) (v : Word) : (t.setX d v).regs.v = t.regs.v := by unfold setX putX unmark; split <;> rfl
@[simp] theorem setX_regs_a (t : Thread) (d : XReg) (v : Word) : (t.setX d v).regs.a = t.regs.a := by unfold setX putX unmark; split <;> rfl
@[simp] theorem setX_regs_m (t : Thread) (d : XReg) (v : Word) : (t.setX d v).regs.m = t.regs.m := by unfold setX putX unmark; split <;> rfl
@[simp] theorem setV_regs_x (t : Thread) (d : VReg) (v : VWord) : (t.setV d v).regs.x = t.regs.x := rfl
@[simp] theorem setV_regs_a (t : Thread) (d : VReg) (v : VWord) : (t.setV d v).regs.a = t.regs.a := rfl
@[simp] theorem setV_regs_m (t : Thread) (d : VReg) (v : VWord) : (t.setV d v).regs.m = t.regs.m := rfl
@[simp] theorem setA_regs_x (t : Thread) (d : AReg) (v : ARegV) : (t.setA d v).regs.x = t.regs.x := rfl
@[simp] theorem setA_regs_v (t : Thread) (d : AReg) (v : ARegV) : (t.setA d v).regs.v = t.regs.v := rfl
@[simp] theorem setA_regs_m (t : Thread) (d : AReg) (v : ARegV) : (t.setA d v).regs.m = t.regs.m := rfl
@[simp] theorem setM_regs_x (t : Thread) (d : MReg) (v : MWord) : (t.setM d v).regs.x = t.regs.x := by unfold setM; split <;> rfl
@[simp] theorem setM_regs_v (t : Thread) (d : MReg) (v : MWord) : (t.setM d v).regs.v = t.regs.v := by unfold setM; split <;> rfl
@[simp] theorem setM_regs_a (t : Thread) (d : MReg) (v : MWord) : (t.setM d v).regs.a = t.regs.a := by unfold setM; split <;> rfl
@[simp] theorem flag_regs (t : Thread) (f : FFlags) : (t.flag f).regs = t.regs := rfl
@[simp] theorem flag_vflags (t : Thread) (f : FFlags) : (t.flag f).ctl.vflags = t.ctl.vflags ||| f := rfl
@[simp] theorem flag_sys (t : Thread) (f : FFlags) : (t.flag f).sys = t.sys := rfl
@[simp] theorem flag_pc (t : Thread) (f : FFlags) : (t.flag f).pc = t.pc := rfl
@[simp] theorem flag_sup (t : Thread) (f : FFlags) : (t.flag f).sup = t.sup := rfl

/-! ### The other fields -/

@[simp] theorem setX_ctl (t : Thread) (d : XReg) (v : Word) : (t.setX d v).ctl = t.ctl := by unfold setX putX unmark; split <;> rfl
@[simp] theorem setX_sys (t : Thread) (d : XReg) (v : Word) : (t.setX d v).sys = t.sys := by unfold setX putX unmark; split <;> rfl
@[simp] theorem setX_pc (t : Thread) (d : XReg) (v : Word) : (t.setX d v).pc = t.pc := by unfold setX putX unmark; split <;> rfl
@[simp] theorem setX_sup (t : Thread) (d : XReg) (v : Word) : (t.setX d v).sup = t.sup := by unfold setX putX unmark; split <;> rfl
@[simp] theorem setX_running (t : Thread) (d : XReg) (v : Word) : (t.setX d v).running = t.running := by unfold setX putX unmark; split <;> rfl
@[simp] theorem setX_act (t : Thread) (d : XReg) (v : Word) : (t.setX d v).act = t.act := by unfold setX putX unmark; split <;> rfl
@[simp] theorem setX_reqs (t : Thread) (d : XReg) (v : Word) : (t.setX d v).reqs = t.reqs := by unfold setX putX unmark; split <;> rfl
@[simp] theorem setX_res (t : Thread) (d : XReg) (v : Word) : (t.setX d v).res = t.res := by unfold setX putX unmark; split <;> rfl
@[simp] theorem setX_outst (t : Thread) (d : XReg) (v : Word) : (t.setX d v).outst = t.outst := by unfold setX putX unmark; split <;> rfl
@[simp] theorem setX_accs (t : Thread) (d : XReg) (v : Word) : (t.setX d v).accs = t.accs := by unfold setX putX unmark; split <;> rfl
@[simp] theorem setX_slots (t : Thread) (d : XReg) (v : Word) : (t.setX d v).slots = t.slots := by unfold setX putX unmark; split <;> rfl
@[simp] theorem setX_storelate (t : Thread) (d : XReg) (v : Word) : (t.setX d v).storelate = t.storelate := by unfold setX putX unmark; split <;> rfl
@[simp] theorem setX_trap (t : Thread) (d : XReg) (v : Word) : (t.setX d v).trap = t.trap := by unfold setX putX unmark; split <;> rfl
@[simp] theorem setX_rep (t : Thread) (d : XReg) (v : Word) : (t.setX d v).rep = t.rep := by unfold setX putX unmark; split <;> rfl
@[simp] theorem setX_hostW (t : Thread) (d : XReg) (v : Word) : (t.setX d v).hostW = t.hostW := by unfold setX putX unmark; split <;> rfl
@[simp] theorem setX_waitedOn (t : Thread) (d : XReg) (v : Word) : (t.setX d v).waitedOn = t.waitedOn := by unfold setX putX unmark; split <;> rfl
@[simp] theorem setX_xlIds (t : Thread) (d : XReg) (v : Word) : (t.setX d v).xlIds = t.xlIds := by unfold setX putX unmark; split <;> rfl
@[simp] theorem setX_leave (t : Thread) (d : XReg) (v : Word) : (t.setX d v).leave = t.leave := by unfold setX putX unmark; split <;> rfl
@[simp] theorem setX_viaEret (t : Thread) (d : XReg) (v : Word) : (t.setX d v).viaEret = t.viaEret := by unfold setX putX unmark; split <;> rfl
@[simp] theorem setX_park (t : Thread) (d : XReg) (v : Word) : (t.setX d v).park = t.park := by unfold setX putX unmark; split <;> rfl
@[simp] theorem setX_sticky (t : Thread) (d : XReg) (v : Word) : (t.setX d v).sticky = t.sticky := by unfold setX putX unmark; split <;> rfl
@[simp] theorem setX_jobCtr (t : Thread) (d : XReg) (v : Word) : (t.setX d v).jobCtr = t.jobCtr := by unfold setX putX unmark; split <;> rfl
@[simp] theorem setX_jobHist (t : Thread) (d : XReg) (v : Word) : (t.setX d v).jobHist = t.jobHist := by unfold setX putX unmark; split <;> rfl
@[simp] theorem setX_ready (t : Thread) (d : XReg) (v : Word) : (t.setX d v).ready = t.ready := by unfold setX putX unmark; split <;> rfl
@[simp] theorem setX_bar (t : Thread) (d : XReg) (v : Word) : (t.setX d v).bar = t.bar := by unfold setX putX unmark; split <;> rfl
@[simp] theorem setX_tagUsed (t : Thread) (d : XReg) (v : Word) : (t.setX d v).tagUsed = t.tagUsed := by unfold setX putX unmark; split <;> rfl
@[simp] theorem setX_answer (t : Thread) (d : XReg) (v : Word) : (t.setX d v).answer = t.answer := by unfold setX putX unmark; split <;> rfl
@[simp] theorem setX_asked (t : Thread) (d : XReg) (v : Word) : (t.setX d v).asked = t.asked := by unfold setX putX unmark; split <;> rfl
@[simp] theorem setX_stalled (t : Thread) (d : XReg) (v : Word) : (t.setX d v).stalled = t.stalled := by unfold setX putX unmark; split <;> rfl
@[simp] theorem setX_duplex (t : Thread) (d : XReg) (v : Word) : (t.setX d v).duplex = t.duplex := by unfold setX putX unmark; split <;> rfl
@[simp] theorem setX_xfail (t : Thread) (d : XReg) (v : Word) : (t.setX d v).xfail = t.xfail := by unfold setX putX unmark; split <;> rfl
@[simp] theorem setV_ctl (t : Thread) (d : VReg) (v : VWord) : (t.setV d v).ctl = t.ctl := rfl
@[simp] theorem setV_sys (t : Thread) (d : VReg) (v : VWord) : (t.setV d v).sys = t.sys := rfl
@[simp] theorem setV_pc (t : Thread) (d : VReg) (v : VWord) : (t.setV d v).pc = t.pc := rfl
@[simp] theorem setV_sup (t : Thread) (d : VReg) (v : VWord) : (t.setV d v).sup = t.sup := rfl
@[simp] theorem setV_running (t : Thread) (d : VReg) (v : VWord) : (t.setV d v).running = t.running := rfl
@[simp] theorem setV_act (t : Thread) (d : VReg) (v : VWord) : (t.setV d v).act = t.act := rfl
@[simp] theorem setV_reqs (t : Thread) (d : VReg) (v : VWord) : (t.setV d v).reqs = t.reqs := rfl
@[simp] theorem setV_res (t : Thread) (d : VReg) (v : VWord) : (t.setV d v).res = t.res := rfl
@[simp] theorem setV_outst (t : Thread) (d : VReg) (v : VWord) : (t.setV d v).outst = t.outst := rfl
@[simp] theorem setV_accs (t : Thread) (d : VReg) (v : VWord) : (t.setV d v).accs = t.accs := rfl
@[simp] theorem setV_slots (t : Thread) (d : VReg) (v : VWord) : (t.setV d v).slots = t.slots := rfl
@[simp] theorem setV_storelate (t : Thread) (d : VReg) (v : VWord) : (t.setV d v).storelate = t.storelate := rfl
@[simp] theorem setV_trap (t : Thread) (d : VReg) (v : VWord) : (t.setV d v).trap = t.trap := rfl
@[simp] theorem setV_rep (t : Thread) (d : VReg) (v : VWord) : (t.setV d v).rep = t.rep := rfl
@[simp] theorem setV_hostW (t : Thread) (d : VReg) (v : VWord) : (t.setV d v).hostW = t.hostW := rfl
@[simp] theorem setV_waitedOn (t : Thread) (d : VReg) (v : VWord) : (t.setV d v).waitedOn = t.waitedOn := rfl
@[simp] theorem setV_xlIds (t : Thread) (d : VReg) (v : VWord) : (t.setV d v).xlIds = t.xlIds := rfl
@[simp] theorem setV_leave (t : Thread) (d : VReg) (v : VWord) : (t.setV d v).leave = t.leave := rfl
@[simp] theorem setV_viaEret (t : Thread) (d : VReg) (v : VWord) : (t.setV d v).viaEret = t.viaEret := rfl
@[simp] theorem setV_park (t : Thread) (d : VReg) (v : VWord) : (t.setV d v).park = t.park := rfl
@[simp] theorem setV_sticky (t : Thread) (d : VReg) (v : VWord) : (t.setV d v).sticky = t.sticky := rfl
@[simp] theorem setV_jobCtr (t : Thread) (d : VReg) (v : VWord) : (t.setV d v).jobCtr = t.jobCtr := rfl
@[simp] theorem setV_jobHist (t : Thread) (d : VReg) (v : VWord) : (t.setV d v).jobHist = t.jobHist := rfl
@[simp] theorem setV_ready (t : Thread) (d : VReg) (v : VWord) : (t.setV d v).ready = t.ready := rfl
@[simp] theorem setV_bar (t : Thread) (d : VReg) (v : VWord) : (t.setV d v).bar = t.bar := rfl
@[simp] theorem setV_tagUsed (t : Thread) (d : VReg) (v : VWord) : (t.setV d v).tagUsed = t.tagUsed := rfl
@[simp] theorem setV_answer (t : Thread) (d : VReg) (v : VWord) : (t.setV d v).answer = t.answer := rfl
@[simp] theorem setV_asked (t : Thread) (d : VReg) (v : VWord) : (t.setV d v).asked = t.asked := rfl
@[simp] theorem setV_stalled (t : Thread) (d : VReg) (v : VWord) : (t.setV d v).stalled = t.stalled := rfl
@[simp] theorem setV_duplex (t : Thread) (d : VReg) (v : VWord) : (t.setV d v).duplex = t.duplex := rfl
@[simp] theorem setV_xfail (t : Thread) (d : VReg) (v : VWord) : (t.setV d v).xfail = t.xfail := rfl
@[simp] theorem setA_ctl (t : Thread) (d : AReg) (v : ARegV) : (t.setA d v).ctl = t.ctl := rfl
@[simp] theorem setA_sys (t : Thread) (d : AReg) (v : ARegV) : (t.setA d v).sys = t.sys := rfl
@[simp] theorem setA_pc (t : Thread) (d : AReg) (v : ARegV) : (t.setA d v).pc = t.pc := rfl
@[simp] theorem setA_sup (t : Thread) (d : AReg) (v : ARegV) : (t.setA d v).sup = t.sup := rfl
@[simp] theorem setA_running (t : Thread) (d : AReg) (v : ARegV) : (t.setA d v).running = t.running := rfl
@[simp] theorem setA_act (t : Thread) (d : AReg) (v : ARegV) : (t.setA d v).act = t.act := rfl
@[simp] theorem setA_reqs (t : Thread) (d : AReg) (v : ARegV) : (t.setA d v).reqs = t.reqs := rfl
@[simp] theorem setA_res (t : Thread) (d : AReg) (v : ARegV) : (t.setA d v).res = t.res := rfl
@[simp] theorem setA_outst (t : Thread) (d : AReg) (v : ARegV) : (t.setA d v).outst = t.outst := rfl
@[simp] theorem setA_accs (t : Thread) (d : AReg) (v : ARegV) : (t.setA d v).accs = t.accs := rfl
@[simp] theorem setA_slots (t : Thread) (d : AReg) (v : ARegV) : (t.setA d v).slots = t.slots := rfl
@[simp] theorem setA_storelate (t : Thread) (d : AReg) (v : ARegV) : (t.setA d v).storelate = t.storelate := rfl
@[simp] theorem setA_trap (t : Thread) (d : AReg) (v : ARegV) : (t.setA d v).trap = t.trap := rfl
@[simp] theorem setA_rep (t : Thread) (d : AReg) (v : ARegV) : (t.setA d v).rep = t.rep := rfl
@[simp] theorem setA_hostW (t : Thread) (d : AReg) (v : ARegV) : (t.setA d v).hostW = t.hostW := rfl
@[simp] theorem setA_waitedOn (t : Thread) (d : AReg) (v : ARegV) : (t.setA d v).waitedOn = t.waitedOn := rfl
@[simp] theorem setA_xlIds (t : Thread) (d : AReg) (v : ARegV) : (t.setA d v).xlIds = t.xlIds := rfl
@[simp] theorem setA_leave (t : Thread) (d : AReg) (v : ARegV) : (t.setA d v).leave = t.leave := rfl
@[simp] theorem setA_viaEret (t : Thread) (d : AReg) (v : ARegV) : (t.setA d v).viaEret = t.viaEret := rfl
@[simp] theorem setA_park (t : Thread) (d : AReg) (v : ARegV) : (t.setA d v).park = t.park := rfl
@[simp] theorem setA_sticky (t : Thread) (d : AReg) (v : ARegV) : (t.setA d v).sticky = t.sticky := rfl
@[simp] theorem setA_jobCtr (t : Thread) (d : AReg) (v : ARegV) : (t.setA d v).jobCtr = t.jobCtr := rfl
@[simp] theorem setA_jobHist (t : Thread) (d : AReg) (v : ARegV) : (t.setA d v).jobHist = t.jobHist := rfl
@[simp] theorem setA_ready (t : Thread) (d : AReg) (v : ARegV) : (t.setA d v).ready = t.ready := rfl
@[simp] theorem setA_bar (t : Thread) (d : AReg) (v : ARegV) : (t.setA d v).bar = t.bar := rfl
@[simp] theorem setA_tagUsed (t : Thread) (d : AReg) (v : ARegV) : (t.setA d v).tagUsed = t.tagUsed := rfl
@[simp] theorem setA_answer (t : Thread) (d : AReg) (v : ARegV) : (t.setA d v).answer = t.answer := rfl
@[simp] theorem setA_asked (t : Thread) (d : AReg) (v : ARegV) : (t.setA d v).asked = t.asked := rfl
@[simp] theorem setA_stalled (t : Thread) (d : AReg) (v : ARegV) : (t.setA d v).stalled = t.stalled := rfl
@[simp] theorem setA_duplex (t : Thread) (d : AReg) (v : ARegV) : (t.setA d v).duplex = t.duplex := rfl
@[simp] theorem setA_xfail (t : Thread) (d : AReg) (v : ARegV) : (t.setA d v).xfail = t.xfail := rfl
@[simp] theorem setM_ctl (t : Thread) (d : MReg) (v : MWord) : (t.setM d v).ctl = t.ctl := by unfold setM; split <;> rfl
@[simp] theorem setM_sys (t : Thread) (d : MReg) (v : MWord) : (t.setM d v).sys = t.sys := by unfold setM; split <;> rfl
@[simp] theorem setM_pc (t : Thread) (d : MReg) (v : MWord) : (t.setM d v).pc = t.pc := by unfold setM; split <;> rfl
@[simp] theorem setM_sup (t : Thread) (d : MReg) (v : MWord) : (t.setM d v).sup = t.sup := by unfold setM; split <;> rfl
@[simp] theorem setM_running (t : Thread) (d : MReg) (v : MWord) : (t.setM d v).running = t.running := by unfold setM; split <;> rfl
@[simp] theorem setM_act (t : Thread) (d : MReg) (v : MWord) : (t.setM d v).act = t.act := by unfold setM; split <;> rfl
@[simp] theorem setM_reqs (t : Thread) (d : MReg) (v : MWord) : (t.setM d v).reqs = t.reqs := by unfold setM; split <;> rfl
@[simp] theorem setM_res (t : Thread) (d : MReg) (v : MWord) : (t.setM d v).res = t.res := by unfold setM; split <;> rfl
@[simp] theorem setM_outst (t : Thread) (d : MReg) (v : MWord) : (t.setM d v).outst = t.outst := by unfold setM; split <;> rfl
@[simp] theorem setM_accs (t : Thread) (d : MReg) (v : MWord) : (t.setM d v).accs = t.accs := by unfold setM; split <;> rfl
@[simp] theorem setM_slots (t : Thread) (d : MReg) (v : MWord) : (t.setM d v).slots = t.slots := by unfold setM; split <;> rfl
@[simp] theorem setM_storelate (t : Thread) (d : MReg) (v : MWord) : (t.setM d v).storelate = t.storelate := by unfold setM; split <;> rfl
@[simp] theorem setM_trap (t : Thread) (d : MReg) (v : MWord) : (t.setM d v).trap = t.trap := by unfold setM; split <;> rfl
@[simp] theorem setM_rep (t : Thread) (d : MReg) (v : MWord) : (t.setM d v).rep = t.rep := by unfold setM; split <;> rfl
@[simp] theorem setM_hostW (t : Thread) (d : MReg) (v : MWord) : (t.setM d v).hostW = t.hostW := by unfold setM; split <;> rfl
@[simp] theorem setM_waitedOn (t : Thread) (d : MReg) (v : MWord) : (t.setM d v).waitedOn = t.waitedOn := by unfold setM; split <;> rfl
@[simp] theorem setM_xlIds (t : Thread) (d : MReg) (v : MWord) : (t.setM d v).xlIds = t.xlIds := by unfold setM; split <;> rfl
@[simp] theorem setM_leave (t : Thread) (d : MReg) (v : MWord) : (t.setM d v).leave = t.leave := by unfold setM; split <;> rfl
@[simp] theorem setM_viaEret (t : Thread) (d : MReg) (v : MWord) : (t.setM d v).viaEret = t.viaEret := by unfold setM; split <;> rfl
@[simp] theorem setM_park (t : Thread) (d : MReg) (v : MWord) : (t.setM d v).park = t.park := by unfold setM; split <;> rfl
@[simp] theorem setM_sticky (t : Thread) (d : MReg) (v : MWord) : (t.setM d v).sticky = t.sticky := by unfold setM; split <;> rfl
@[simp] theorem setM_jobCtr (t : Thread) (d : MReg) (v : MWord) : (t.setM d v).jobCtr = t.jobCtr := by unfold setM; split <;> rfl
@[simp] theorem setM_jobHist (t : Thread) (d : MReg) (v : MWord) : (t.setM d v).jobHist = t.jobHist := by unfold setM; split <;> rfl
@[simp] theorem setM_ready (t : Thread) (d : MReg) (v : MWord) : (t.setM d v).ready = t.ready := by unfold setM; split <;> rfl
@[simp] theorem setM_bar (t : Thread) (d : MReg) (v : MWord) : (t.setM d v).bar = t.bar := by unfold setM; split <;> rfl
@[simp] theorem setM_tagUsed (t : Thread) (d : MReg) (v : MWord) : (t.setM d v).tagUsed = t.tagUsed := by unfold setM; split <;> rfl
@[simp] theorem setM_answer (t : Thread) (d : MReg) (v : MWord) : (t.setM d v).answer = t.answer := by unfold setM; split <;> rfl
@[simp] theorem setM_asked (t : Thread) (d : MReg) (v : MWord) : (t.setM d v).asked = t.asked := by unfold setM; split <;> rfl
@[simp] theorem setM_stalled (t : Thread) (d : MReg) (v : MWord) : (t.setM d v).stalled = t.stalled := by unfold setM; split <;> rfl
@[simp] theorem setM_duplex (t : Thread) (d : MReg) (v : MWord) : (t.setM d v).duplex = t.duplex := by unfold setM; split <;> rfl
@[simp] theorem setM_xfail (t : Thread) (d : MReg) (v : MWord) : (t.setM d v).xfail = t.xfail := by unfold setM; split <;> rfl

/-! ### A bundle begins and ends; a trap is entered (R30, R32, R40, R359) -/

@[simp] theorem opened_regs (t : Thread) : t.opened.regs = t.regs := rfl
@[simp] theorem opened_ctl (t : Thread) : t.opened.ctl = t.ctl := rfl
@[simp] theorem opened_pc (t : Thread) : t.opened.pc = t.pc := rfl
@[simp] theorem opened_sup (t : Thread) : t.opened.sup = t.sup := rfl
@[simp] theorem opened_act (t : Thread) : t.opened.act = t.act := rfl
@[simp] theorem opened_issued (t : Thread) : t.opened.sys.issued = t.sys.issued + 1 := rfl
@[simp] theorem consume_regs (t : Thread) (tr : Trap) : (t.consume tr).regs = t.regs := rfl
@[simp] theorem consume_ctl (t : Thread) (tr : Trap) : (t.consume tr).ctl = t.ctl := rfl
@[simp] theorem consume_sys (t : Thread) (tr : Trap) : (t.consume tr).sys = t.sys := rfl
@[simp] theorem consume_act (t : Thread) (tr : Trap) : (t.consume tr).act = t.act := rfl
/-- What entering a trap writes (R359): the saved registers, the mode, the pc. -/
theorem enterTrap_saves (t : Thread) (p : PendTrap) :
    (t.enterTrap p).sys.epc = p.epc ∧ (t.enterTrap p).sys.eval = p.trap.val ∧ (t.enterTrap p).sys.estatus = p.st ∧
    (t.enterTrap p).sys.ecause = BitVec.ofBool p.trap.slot ++ BitVec.ofNat 8 p.trap.cause.code ∧ (t.enterTrap p).sup = true ∧
    (t.enterTrap p).pc = t.sys.tvec &&& ~~~3#64 ∧ (t.enterTrap p).trap = none := ⟨rfl, rfl, rfl, rfl, rfl, rfl, rfl⟩
/-- What entering a trap leaves (R359). -/
theorem enterTrap_keeps (t : Thread) (p : PendTrap) :
    (t.enterTrap p).regs = t.regs ∧ (t.enterTrap p).ctl = t.ctl ∧ (t.enterTrap p).act = t.act ∧ (t.enterTrap p).res = t.res ∧
    (t.enterTrap p).sys.tvec = t.sys.tvec ∧ (t.enterTrap p).sys.rgnpc = t.sys.rgnpc ∧ (t.enterTrap p).sys.wdog = t.sys.wdog ∧
    (t.enterTrap p).sys.issued = t.sys.issued := ⟨rfl, rfl, rfl, rfl, rfl, rfl, rfl, rfl⟩

end Sys2Proof.Machine.Thread

namespace Sys2Proof.Machine.State

theorem regs_ite {c : Prop} [Decidable c] {a b : Thread} {r : Regs} (ha : a.regs = r) (hb : b.regs = r) :
    (if c then a else b).regs = r := by split <;> assumption
/-- A frame joins a channel: threads and bundle stay (R322). -/
theorem queueFrame_keeps (s : State) (f typ : Nat) (b : BitVec 512) :
    (s.queueFrame f typ b).1.threads = s.threads ∧ (s.queueFrame f typ b).1.ctx = s.ctx := by unfold queueFrame; dsimp only; split <;> exact ⟨rfl, rfl⟩
/-- An error record goes to a bank, and its frames to channels: threads and bundle stay (R362, R364). -/
theorem record_keeps (s : State) (k : Nat) (e : Err) : (s.record k e).threads = s.threads ∧ (s.record k e).ctx = s.ctx := by
  unfold record
  dsimp only
  repeat' split
  all_goals simp [(queueFrame_keeps _ _ _ _).1, (queueFrame_keeps _ _ _ _).2]
/-- The record of a trap's poison leaves threads and bundle (R367). -/
theorem found_keeps (s : State) (f : Option Nat) :
    (match f with | some a => s.localPoison s.site a | none => s).threads = s.threads ∧
    (match f with | some a => s.localPoison s.site a | none => s).ctx = s.ctx := by
  cases f with
  | none => exact ⟨rfl, rfl⟩
  | some a => exact record_keeps _ _ _
/-- A fault stays in its bundle. -/
theorem raiseTrap_ctx (s : State) (tr : Trap) : (s.raiseTrap tr).ctx = s.ctx := (found_keeps s tr.found).2
/-- A fault leaves the registers of its thread as they were (R42, R359). -/
theorem raiseTrap_regs (s : State) (tr : Trap) : (s.raiseTrap tr).cur.regs = s.cur.regs := by
  rw [cur, raiseTrap_ctx]
  show (Map.get initThread (Map.put _ s.ctx.key _) s.ctx.key).regs = _
  rw [Map.get_put_same]
  exact regs_ite rfl rfl
/-- A fault changes no other thread (R359). -/
theorem raiseTrap_thread (s : State) (tr : Trap) (k : Nat) (h : k ≠ s.ctx.key) : (s.raiseTrap tr).thread k = s.thread k := by
  show Map.get initThread (Map.put (match tr.found with | some a => s.localPoison s.site a | none => s).threads s.ctx.key _) k = _
  rw [Map.get_put_ne _ _ _ h, (found_keeps s tr.found).1]; rfl

end Sys2Proof.Machine.State
end

