-- ==== Sys2Proof/Tests/Slice0.lean ====
section
/-! SUPPORT. Tests: ill-formed terms, words written out from the spec's encodings, results worked out from the spec's tables, and for every
statement a state and operands that meet its hypotheses. -/

set_option Elab.async false
set_option maxRecDepth 20000

namespace Sys2Proof.Tests

open Sys2Proof.Machine

/-! ### Ill-formed terms are refused (R44, R47, R51, R53) -/

theorem test_wf_rep : Instr.wf (.rep 3 5 0 0 0) = false ∧ Instr.wf (.rep 0 5 0 0 0) = true := by decide
theorem test_wf_loads : Instr.wf (.lds 1 0 0 0 7 0) = false ∧ Instr.wf (.lds 1 0 0 0 3 5) = false ∧ Instr.wf (.lds 1 0 4 0 3 0) = false ∧
    Instr.wf (.sts 1 0 0 4 0) = false ∧ Instr.wf (.ldv 1 0 0 0 4 1) = false ∧ Instr.wf (.stv 1 0 0 6 0) = false ∧ Instr.wf (.stnt 1 0 0 4 0) = false := by
  decide
theorem test_wf_stfe : Instr.wf (.stfe 3 0 2) = false := by decide
theorem test_wf_atomics : Instr.wf (.atomAdd 1 0 2 .group 0) = false ∧ Instr.wf (.atomCas 1 0 2 .package 3) = true := by decide
theorem test_wf_invocations : Instr.wf (.inv 1 2 3 4 .m true) = false ∧ Instr.wf (.invx 1 2 3 4 .p true) = false := by decide
theorem test_wf_vectors : Instr.wf (.vmin 1 2 3 .i8 0 1) = false ∧ Instr.wf (.vand 1 2 3 .f32 0 0) = false ∧ Instr.wf (.vsra 1 2 3 .i8 0 2) = false ∧
    Instr.wf (.vabs 1 2 .i8 0 2) = false ∧ Instr.wf (.vcmp 1 2 3 .unord .i8 false) = false ∧ Instr.wf (.vext 1 2 3 .f16 true) = false := by decide
theorem test_wf_widths : Instr.wf (.vwadd 2 4 5 .i32 0 0) = false ∧ Instr.wf (.vwmul 2 4 5 .i8 0 1) = false ∧ Instr.wf (.vwma 2 4 5 .f32 0 0) = false ∧
    Instr.wf (.vnarrow 1 2 .i32 0 0) = false ∧ Instr.wf (.vcvt 1 2 .i4 0 .i32 false false 0) = false ∧ Instr.wf (.vquant 1 4 3 .i32 0 false) = false ∧
    Instr.wf (.vunplane 1 2 9 false 0) = false := by decide
theorem test_wf_others : Instr.wf (.vrsum 1 2 .i8 0 1) = false ∧ Instr.wf (.vrmax 1 2 .f16 0 1) = false ∧ Instr.wf (.vexp2 1 2 .i8 0) = false ∧
    Instr.wf (.vsig 1 2 .i32 0) = false ∧ Instr.wf (.mmmax 1 2 3 .f32 1) = false ∧ Instr.wf (.mmcvt 1 2 3 .i32 0) = false := by decide

/-! ### Words of the spec's encoding tables and worked encodings -/

theorem test_decode_load : decodeWord 0x14288098 = .ok (.lds 5 1 0 2 3 0) ∧ decodeWord 0x54288098 = .ok (.lds 5 1 0 2 3 0) := by decide
theorem test_decode_add : decodeWord 0x8018E800 = .ok (.add 6 7 8) ∧ decodeWord 0xC018E800 = .ok (.add 6 7 8) := by decide
theorem test_decode_system : decodeWord 0x40000000 = .ok .nop ∧ decodeWord 0xFF800000 = .ok .anop ∧ decodeWord 0x40300000 = .ok .rgn ∧
    decodeWord 0x40380000 = .ok .rgnend ∧ decodeWord 0x40400005 = .ok (.brk 5) ∧ decodeWord 0x4049C003 = .ok (.tmark 7 3) := by decide
theorem test_decode_fences : decodeWord 0x40200C02 = .ok (.fence .group .rel) ∧ decodeWord 0x40200001 = .ok (.fence .thread .acq) ∧
    decodeWord 0x40281000 = .ok (.drainnt .die) := by decide
theorem test_decode_maintenance : decodeWord 0x75350002 = .ok (.errclr 6 20) ∧ decodeWord 0x75352A03 = .ok (.coreret 6 20 21) ∧
    decodeWord 0x75052A00 = .ok (.tlbinv 20 21) ∧ decodeWord 0x75052A06 = .ok (.icinv 20 21) ∧ decodeWord 0x75350001 = .ok (.ckpt 6 20) ∧
    decodeWord 0x75350005 = .ok (.keyslotStat 6 20) ∧ decodeWord 0x75352A04 = .ok (.mapsetStat 6 20 21) := by decide
theorem test_decode_registers : decodeWord 0x6D1A4464 = .ok (.rstv 3 9 4 12 true) ∧ decodeWord 0x6E030000 = .ok (.vhold 12) ∧
    decodeWord 0x6E380002 = .ok (.vhtest 7) := by decide
theorem test_decode_groups : decodeWord 0x74350004 = .ok (.gpark 6 20) ∧ decodeWord 0x74352A08 = .ok (.barcfg 6 20 21) ∧
    decodeWord 0x70352A01 = .ok (.kickGroup 6 20 21) ∧ decodeWord 0x70352A00 = .ok (.kickTeam 6 20 21) := by decide
theorem test_decode_handles : decodeWord 0x6A2C0DE0 = .ok (.hwait 5 16 6 15) ∧ decodeWord 0x6A040003 = .ok (.hfree 16) ∧
    decodeWord 0x6A00B004 = .ok (.hreply 2 24) := by decide
theorem test_decode_activations : decodeWord 0x6C05FA00 = .ok (.ready 23 29) ∧ decodeWord 0x6C3A41E2 = .ok (.rdyq 7 9 15) ∧
    decodeWord 0x683B062A = .ok (.inv 7 12 3 5 .m false) ∧ decodeWord 0x6B000000 = .ok .done ∧ decodeWord 0x6B024003 = .ok (.tgset 9) := by decide
theorem test_decode_matrix : decodeWord 0x63A09501 = .ok (.mtile 20 4 42 false false 1) ∧ decodeWord 0x622CC000 = .ok (.mjob 5 19) ∧
    decodeWord 0x64314000 = .ok (.mwait 6 5 0) ∧ decodeWord 0x65A82DE0 = .ok (.acst 21 0 22 15) := by decide
theorem test_decode_memory : decodeWord 0x5B39A179 = .ok (.atomCas 7 3 8 .package 3) ∧ decodeWord 0x594A03DA = .ok (.ldfe 9 4 15 2) := by decide
theorem test_decode_barriers : decodeWord 0x6F000000 = .ok (.barr 0) ∧ decodeWord 0x6F000002 = .ok (.barrw 0) ∧
    decodeWord 0x6F3A4004 = .ok (.barq 7 9) := by decide
theorem test_decode_copies : decodeWord 0x60567000 = .ok (.copy 5 6 14 0 0) ∧ decodeWord 0x6103C001 = .ok (.waitall 15) := by decide
/-- The fates of R54: an unassigned major, a field that must be zero, an unassigned function, an unassigned opcode. -/
theorem test_decode_refused : decodeWord 0x47000000 = .error .reservedMajor ∧ decodeWord 0xFFFFFFFF = .error .reservedField ∧
    decodeWord 0x34000009 = .error .reservedFunction ∧ decodeWord 0xBBC00000 = .error .reservedOpcode := by decide
theorem test_decode_mode : decodeWord 0x34000000 = .ok (.gnew 0 0) ∧ isPriv (.gnew 0 0) = true := by decide
/-- The boot code is what its listing encodes to (R310). -/
theorem test_rom : romWords.map (fun w => some (BitVec.ofNat 32 w)) = romListing.map (encode true) := by decide +kernel

/-! ### States that meet the statements' hypotheses

Each theorem wit_<Name> shows concrete states and operands for every clause of the statement of that name. -/

/-- The state after reset with another thread 0 of site 0, which issues. -/
def on (t : Thread) : State := State.reset.setThread 0 t
/-- The same with another core 0. -/
def onc (t : Thread) (c : Core) : State := (on t).setCore 0 c
/-- A thread that runs in supervisor mode. -/
def sv : Thread := { sup := true, running := true }
/-- A thread that runs in user mode, in an activation. -/
def us : Thread := { running := true, act := some { kind := .arrival, tag := 3, handle := 0x1000 } }
/-- A state as the A-slot of a pair begins. -/
def aslot (s : State) : State := { s with ctx := { s.ctx with form := .aslot, snap := some s.cur } }
/-- The same for the C-slot. -/
def cslot (s : State) : State := { s with ctx := { s.ctx with form := .cslot, snap := some s.cur } }

theorem wit_IntegerInstructions : (∀ i ∈ [Instr.add 5 6 7, .div 0 6 7, .clz 31 0, .addi 5 6 0x1FFF, .lui 5 1, .lcat 5 1, .slli 5 6 63],
    Clear i (on sv) ∧ Clear i (aslot (on us))) := by decide +kernel
theorem wit_ScalarFloats : (∀ i ∈ [Instr.fadd 5 6 7 0, .fma 5 6 7 8, .fcvti 5 6 3, .fcmp 0 6 7 .eq], Clear i (on sv) ∧ Clear i (aslot (on us))) ∧
    (Fmt.f32.value 0x7FC00000).isNan = true ∧ (Fmt.f32.value 0x7F800001).isSig = true := by decide +kernel
theorem wit_MaskedWrite : 127 < lanes Ty.f32.width ∧ 1023 < lanes Ty.i4.width := by decide +kernel
theorem wit_VectorElements : (∀ i ∈ [Instr.vadd 1 2 3 .i8 0 0, .vma 1 2 3 4 .f32, .vins 31 2 3 .i4, .vrand 1 2 3, .vplane 1 2], Clear i (on sv) ∧ Clear i (aslot (on us))) ∧
    (on (sv.setX 3 127)).entered.rx 3 = 127 ∧ 127 < lanes Ty.i32.width ∧ Clear (.vext 5 1 3 .i32 false) (on (sv.setX 3 127)) ∧
    (on (sv.setX 3 128)).entered.rx 3 = 128 ∧ lanes Ty.i32.width ≤ 128 ∧ Clear (.vext 5 1 3 .i32 false) (on (sv.setX 3 128)) := by decide +kernel


theorem wit_VectorWidths : (∀ i ∈ [Instr.vwadd 2 4 5 .i8 0 0, .vwmul 30 4 5 .f16 0 0, .vwma 2 4 5 .i8 0 1, .vnarrow 1 2 .i8 0 3, .vcvt 4 8 .i8 0 .f32 false false 0,
      .vquant 1 4 3 .i8 0 false], Clear i (on sv) ∧ Clear i (aslot (on us))) ∧
    (4 : VReg).toNat % dstCount Ty.i8.width Ty.f32.width = 0 ∧ (8 : VReg).toNat % srcCount Ty.i8.width Ty.f32.width = 0 ∧ (4 : VReg).toNat % quantCount .i8 = 0 ∧
    (∀ i ∈ [Instr.vwadd 3 4 5 .i8 0 0, .vwmul 29 4 5 .f16 0 0, .vwma 1 4 5 .i8 0 1, .vnarrow 1 3 .i8 0 3, .vcvt 2 8 .i8 0 .f32 false false 0,
      .vquant 1 2 3 .i8 0 false], Clear i (on { sv with ctl := { sv.ctl with vallot := 32 } })) ∧
    (2 : VReg).toNat % dstCount Ty.i8.width Ty.f32.width ≠ 0 ∧ (2 : VReg).toNat % quantCount .i8 ≠ 0 := by decide +kernel
theorem wit_MasksAndReductions : ∀ i ∈ [Instr.vcmp 1 2 3 .lt .i8 true, .vrsum 5 1 .f32 0 0, .vrmax 5 1 .i4 1 2, .mand 1 2 3, .mnot 0 1, .mpop 5 0 .i4, .mfirst 5 1 .i8,
    .mfromx 1 5 .i16], Clear i (on sv) ∧ Clear i (aslot (on us)) := by decide +kernel

/-- A thread with an address register a1 over [0, 32), its pointer at 16, with every permission. -/
def ar : Thread := sv.setA 1 ⟨16, 0, 32, 0x3F⟩
theorem wit_AddressInstructions : (∀ i ∈ [Instr.amov 2 1, .aadd 1 1 3, .asetp 1 1 3, .aaddi 0 1 16, .aaddi 0 1 17, .agetp 1 0, .agetb 1 5, .agetl 1 5, .aperm 1 5],
      Clear i (on ar)) ∧
    -- AADD, ASETP and AADDI to LIMIT, and one beyond it
    (on (ar.setX 3 16)).entered.ra 1 = ⟨16, 0, 32, 0x3F⟩ ∧ (on (ar.setX 3 16)).entered.rx 3 = 16 ∧ 16 + (16 : Word).toInt ≤ (32 : BitVec 65).toNat ∧
    ¬16 + (17 : Word).toInt ≤ (32 : BitVec 65).toNat ∧ (33 : Word).toNat > (32 : BitVec 65).toNat ∧
    -- ANARROW of the whole range, of one byte more, without D, and across two windows
    Clear (.anarrow 2 1 3 4) (on (ar.setX 4 32)) ∧ ((on (ar.setX 4 32)).entered.ra 1).perm.getLsbD 5 = true ∧
    ((on (ar.setX 4 33)).entered.rx 4).toNat % 2 ^ 56 = 33 ∧ ((on (ar.setA 1 ⟨0, 0, 32, 0x1F⟩)).entered.ra 1).perm.getLsbD 5 = false ∧
    (2 ^ 60 - 1) / 2 ^ 60 % 16 ≠ (2 ^ 60 - 1 + 2 - 1) / 2 ^ 60 % 16 ∧
    -- AMAKE up to the top of the address space, and one byte beyond
    Clear (.amake 2 3 4) (on ((ar.setX 3 (-16)).setX 4 16)) ∧ (-16 : Word).toNat + 16 = 2 ^ 64 ∧ 2 ^ 64 < (-16 : Word).toNat + 17 := by decide +kernel
theorem wit_Branches : (∀ i ∈ [Instr.j 4, .jal 0xFFFFFF, .jalr 0 6 4, .jalr 1 6 2, .beq 0 0 3, .bne 5 0 0x3FFF, .blt 5 0 1, .bge 0 0 1, .bltu 0 5 1, .bgeu 0 0 1, .bany 0 2,
      .bany 1 2, .bnone 0 2, .bnone 1 2], Clear i (on sv) ∧ Clear i (cslot (on us))) ∧
    ((on sv).entered.rx 6 + (4 : BitVec 10).signExtend 64).toNat % 4 = 0 ∧ ((on sv).entered.rx 6 + (2 : BitVec 10).signExtend 64).toNat % 4 ≠ 0 ∧
    (on sv).entered.rx 0 = (on sv).entered.rx 5 ∧ (on (sv.setX 5 (-1))).entered.rx 0 ≠ (on (sv.setX 5 (-1))).entered.rx 5 ∧
    ((on (sv.setX 5 (-1))).entered.rx 5).toInt < ((on sv).entered.rx 0).toInt ∧ ((on sv).entered.rm 0).getLsbD 1023 = true ∧ (on sv).entered.rm 1 = 0 := by decide +kernel
/-- A thread with a load outstanding. -/
def busy : Thread := { sv with outst := [{ id := 9, pc := 0, dst := [.x 5], win := none }] }
/-- A thread that has written to host memory. -/
def hw : Thread := { sv with hostW := true }
/-- A thread with a non-temporal store issued and not performed. -/
def ntt : Thread := { sv with accs := [{ id := 9, ord := 3, op := .store 7, els := [⟨0x5FFF8, 0, 8⟩], nt := true }] }
theorem wit_SystemInstructions_waits : (∀ i ∈ [Instr.fence .host .rel, .fence .io .full, .fence .system .rel], Clear i (on hw)) ∧
    (on hw).entered.src.quiet = true ∧ (on hw).entered.src.hostW = true ∧ (on hw).entered.src.answer = none ∧ (on hw).cur.asked = false ∧
    (on hw).entered.drained 0 = true ∧ (on { hw with answer := some 0 }).entered.src.answer.isSome ∧
    Clear (.drainnt .core) (on ntt) ∧ Clear (.drainnt .host) (on ntt) ∧ (on ntt).entered.scopeHome 0 .core (.core 0) = true ∧
    (on ntt).entered.scopeHome 0 .host (.core 0) = true ∧ (on ntt).entered.scopeHome 0 .host (.slice 0) = false := by decide +kernel
/-- An error at completion, and what is left of the instruction that found it. -/
def er1 : Trap := { cause := .poison, slot := false, val := 8 }
def le (win : Option Nat) : Outst := { id := 9, pc := 0, dst := [.x 6, .v 2, .a 1, .m 2], win := win, fin := true, err := some er1 }
theorem wit_RaisedErrors : (∀ r ∈ [RegRef.x 6, .v 2, .a 1, .m 2], let t := { sv with marks := [{ reg := r, cause := .poison, val := 8 }] }
      (on t).src.outst = [] ∧ (on t).src.marks = [{ reg := r, cause := .poison, val := 8 }] ∧ (on t).ctx.form = .lone ∧ (on t).ctx.snap = none ∧
      (2 : VReg).toNat < (on t).src.ctl.vallot.toNat ∧ (on t).src.ctl.sbhold = 0 ∧ (le none).dst.contains r = true) ∧
    readsOf (.add 5 6 0) = [.x 6] ∧ readsOf (.vmov 1 2 .i8 0) = [.v 2] ∧ readsOf (.amov 2 1) = [.a 1] ∧ readsOf (.mand 1 2 3) = [.m 2, .m 3] ∧
    (∀ w ∈ [some 0, none], let t := { sv with outst := [le w], waitedOn := [9] }
      (on t).src.outst = [le w] ∧ (on t).src.marks = [] ∧ (le w).fin = true ∧ (le w).err = some er1 ∧ (le w).traps = 0 ∧ (on t).src.waitedOn.contains (le w).id = true) ∧
    -- the same error at a FENCE
    (let s := on { sv with outst := [le none] }
     Clear (.fence .die .rel) s ∧ s.entered.src.quiet = true ∧ s.entered.src.storelate = none ∧ s.entered.src.outst = [le none] ∧
      (firstTrap (s.entered.pendingErrors true)).isSome) := by decide +kernel
theorem wit_SystemInstructions : (∀ i ∈ [Instr.nop, .anop, .trap 0x3FF, .brk 0, .tmark 5 7, .rgn, .rgnend, .fence .die .rel, .fence .thread .acq, .drainnt .group],
      Clear i (on sv)) ∧
    (on sv).entered.src.quiet = true ∧ (on sv).entered.src.outst = [] ∧ (on sv).entered.src.storelate = none ∧ (on sv).entered.drained 0 = true ∧
    (on { sv with storelate := some 8 }).entered.src.storelate ≠ none ∧ Clear (.fence .die .rel) (on { sv with storelate := some 8 }) ∧
    Clear (.fence .die .full) (on busy) ∧ (on busy).entered.src.quiet = false ∧ (on sv).entered.cur.accs = [] ∧
    ∀ r ∈ (on sv).entered.cur.slots.toList, r = none := by decide +kernel
/-- A supervisor thread with ESTATUS and EPC. -/
def er (st : BitVec 4) (pc : Word) (a : Option Activation) : State := on { sv with act := a, sys := { sv.sys with estatus := st, epc := pc } }
theorem wit_EndsOfCode :
    (∀ p ∈ [er 0 2 none, er 8 4 us.act, er 8 4 none, er 0 4 us.act, er 1 4 none], Clear .eret p) ∧
    (er 0 2 none).entered.src.sys.epc.toNat % 4 ≠ 0 ∧ (er 8 4 none).entered.src.sys.epc.toNat % 4 = 0 ∧ (er 8 4 us.act).entered.src.sys.estatus.getLsbD 3 = true ∧
    (er 0 4 us.act).entered.src.act.isSome ∧ (er 1 4 none).entered.src.act = none ∧
    (∀ i ∈ [Instr.yield 255 5, .done, .idle], Clear i (on us) ∧ Clear i (on sv) ∧ Clear i (er 8 0 us.act) ∧
      Clear i (on { us with act := some { kind := .kick, tag := 0, handle := 0 } })) ∧
    (on us).entered.src.sup = false ∧ (on us).entered.src.act.isSome ∧ (on us).entered.drained 0 = true ∧ (er 8 0 us.act).entered.src.interrupted = true ∧
    (on sv).entered.src.interrupted = false := by decide +kernel
theorem wit_EndsOfCode_pairs : (∀ i ∈ [Instr.yield 255 5, .done, .idle], Clear i (cslot (on us)) ∧ Clear i (cslot (on sv)) ∧ Clear i (cslot (er 8 0 us.act))) ∧
    (cslot (on us)).ctx.form = .cslot ∧ (cslot (on us)).cur.sup = false ∧ (cslot (on us)).cur.act.isSome ∧
    ((er 8 0 us.act).thread 0).sys.estatus.getLsbD 3 = true ∧ ((er 8 0 us.act).thread 0).act.isSome ∧ ((er 8 0 us.act).thread 0).sup = true ∧
    ∀ l ∈ [Leave.yield 5, .finish 0, .finish 1], ((on { us with leave := some l }).thread 0).leave = some l ∧
      ((on { us with leave := some l }).thread 0).quiet = true := by decide +kernel
theorem wit_ControlRegisterAccess : (∀ n ∈ [(0x082 : BitVec 12), 0x006, 0x840, 0x0FF, 0x180, 0x800], Clear (.crr 5 n) (on sv) ∧ Clear (.crw 5 n) (on us) ∧ Clear (.crset 5 n) (on us) ∧
      Clear (.crclr 0 n) (on us)) ∧
    crAssigned 0x082 = true ∧ crSup 0x082 = false ∧ crAssigned 0x180 = true ∧ crSup 0x180 = true ∧ crAssigned 0x0FF = false ∧
    (on us).entered.src.sup = false ∧ (on sv).entered.src.sup = true ∧
    (aslot (on us)).ctx.snap = some (aslot (on us)).cur ∧ (aslot (on us)).cur.sup = false := by decide +kernel
/-- The first word of a REP unit over a word of the A-set. -/
def rp (t : Thread) (w : IWord) : State := { on t with ctx := { word2 := w } }
theorem wit_RepUnit : Clear (.rep 0 26 1 1 1) (rp sv 0xC018E800) ∧ decodeWord 0xC018E800 = .ok (.add 6 7 8) ∧ strideBad (.add 6 7 8) 1 1 1 = false ∧
    repOut (.add 6 7 8) 32 1 1 1 0 24 = none ∧ repOut (.add 6 7 8) 32 1 1 1 0 25 = some 32 ∧
    decodeWord 0xD0180001 = .ok (.addi 6 0 1) ∧ strideBad (.addi 6 0 1) 1 0 1 = true ∧ Clear (.rep 0 2 1 0 1) (rp sv 0xD0180001) ∧
    Clear (.rep 3 0 1 1 1) (rp (sv.setX 3 65536) 0xC018E800) ∧ (rp (sv.setX 3 65536) 0xC018E800).openBundle.repCount 3 0 = 65536 ∧
    (rp sv 0xC018E800).openBundle.repCount 0 24 = 24 ∧ (rp sv 0xC018E800).openBundle.repCount 0 0 = 0 := by decide +kernel
/-- A special-function request of thread 0. -/
def sfq (b : Bool) : SfuReq := { key := 0, id := 9, instr := .vrcp 1 2 .f32 0, src := 0, mask := BitVec.allOnes 1024, ftz := false, started := b }
theorem wit_SpecialFunctions : (∀ i ∈ [Instr.vexp2 1 2 .f32 0, .vlog2 1 2 .f16 1, .vrcp 1 1 .bf16 0, .vrsq 1 2 .f32 0, .vsig 31 2 .f32 0],
      Clear i (onc sv { sfu := List.replicate 7 (sfq true) })) ∧ (onc sv { sfu := List.replicate 7 (sfq true) }).entered.myCore.sfu.length = 7 ∧
    (onc sv { sfu := [sfq true, sfq false] }).core 0 = { sfu := [sfq true] ++ sfq false :: [] } ∧ (∀ x ∈ [sfq true], x.started = true) ∧ (sfq false).started = false ∧
    (sfuFn (sfq true).instr).isSome ∧ (1 : VReg).toNat < ((on sv).thread 0).ctl.vallot.toNat ∧
    ¬(1 : VReg).toNat < ((on { sv with ctl := { sv.ctl with vallot := 1 } }).thread 0).ctl.vallot.toNat := by decide +kernel
/-- A thread whose a1, a2 and a3 name blocks of 512 bytes, the last one at the end of local memory. -/
def blk : Thread := ((sv.setA 1 ⟨0, 0, 0x60000, 0x3F⟩).setA 2 ⟨512, 0, 0x60000, 0x3F⟩).setA 3 ⟨0x5FE00, 0, 0x60000, 0x3F⟩
/-- A memory-to-memory instruction in progress. -/
def mo : MmOp := { key := 0, id := 9, instr := .mmadd 1 2 3 .i32 0, d := 0, s1 := 0, s2 := 512, mode := .rne, ftz := false }
theorem wit_MemoryToMemory : (∀ i ∈ [Instr.mmadd 1 2 3 .i32 0, .mmsub 1 1 1 .f32 0, .mmmul 1 2 3 .i8 1, .mmma 1 2 3 .f16 0, .mmmax 1 2 3 .i4 0, .mmcvt 1 2 3 .f16 0],
      Clear i (on blk)) ∧
    (∀ r ∈ [(1 : AReg), 2, 3], let a := (on blk).entered.ra r
      a.ptr.toNat % 128 = 0 ∧ boundOk a a.ptr.toNat 512 = true ∧ windowOf a.ptr.toNat = 0 ∧ windowOk a.ptr.toNat 512 = true ∧ permW a.perm = true ∧ permR a.perm = true) ∧
    (on blk).entered.acqPending = false ∧ (onc sv { mm := [mo] }).mmReady 0 0 = some mo ∧
    ∀ p ∈ [mo.s1, mo.s2], p = mo.d ∨ p + 512 ≤ mo.d ∨ mo.d + 512 ≤ p := by decide +kernel

/-- What the check of an access finds, and where it leads: 0 a fault, 1 the thread's own memory, 2 requests, 3 a failed or awaited translation. -/
def accKind (s : State) (i : Instr) : Option (Option (Cause × Word) × Nat) :=
  (accOf s.entered i).map fun c =>
    (c.chk.fault (s.entered.ra c.a), match s.entered.locate 0 c.chk.e.toNat c.chk.size c.chk.need with
      | .own _ => 1 | .parts ps _ _ => if ps.length ≤ s.entered.cur.freeSlots.length ∧ s.entered.cur.feWaits ps = false then 2 else 0 | .bad _ _ => 3
      | .miss _ _ => 4)
/-- A thread with a1 over local memory, its pointer at the last 512 bytes, and a2 over the HOST window. -/
def lc : Thread := (sv.setA 1 ⟨0x5FE00, 0, 0x60000, 0x3F⟩).setA 2 ⟨0x4000000000000000, 0x4000000000000000, 0x4000000000001000, 0x3F⟩
/-- The same in user mode, its a2 over the DEVICE window of a context that is not bound. -/
def lu : Thread := { lc.setA 2 ⟨0x2000000000000000, 0x2000000000000000, 0x2000000000001000, 0x3F⟩ with sup := false }
theorem wit_MemoryIssue :
    (∀ i ∈ [Instr.lds 5 1 0 15 3 0, .sts 5 1 0 0 0, .ldv 1 1 0 2 3 0, .stv 1 1 0 3 0, .stnt 1 1 0 3 0, .ldfe 5 1 2 1, .stfe 5 1 0, .atomAdd 5 1 6 .thread 0,
        .atomAnd 5 1 6 .thread 0, .atomOr 5 1 6 .thread 0, .atomXor 5 1 6 .thread 0, .atomMin 5 1 6 .thread 0, .atomMax 5 1 6 .thread 0, .atomMinu 5 1 6 .thread 0,
        .atomMaxu 5 1 6 .thread 0, .atomSwap 5 1 6 .thread 0, .atomCas 5 1 6 .thread 0, .atomMaxrst 5 1 6 .thread 0, .atomFadd 5 1 6 .thread 0, .atomFmax 5 1 6 .thread 0,
        .atomFmaxrst 5 1 6 .package 3], Clear i (on lc) ∧ accKind (on lc) i = some (none, 1)) ∧
    (on lc).entered.acqPending = false ∧ (on lc).entered.drained 0 = true ∧
    accKind (on lc) (.lds 5 1 0 15 3 1) = some (none, 1) := by decide +kernel
theorem wit_MemoryIssue_other :
    accKind (on (lc.setX 4 1)) (.lds 5 1 4 15 3 1) = some (some (.align, 0x5FE01), 1) ∧
    accKind (on (lc.setX 4 512)) (.sts 5 1 4 3 1) = some (some (.bound, 0x60000), 1) ∧
    (∀ i ∈ [Instr.lds 5 2 0 15 3 0, .stv 1 2 0 3 0, .atomAdd 5 2 6 .package 3], Clear i (on lc) ∧ accKind (on lc) i = some (none, 2)) ∧
    accKind (on lu) (.lds 5 2 0 15 3 0) = some (none, 3) := by decide +kernel
/-- A thread with a1 over its local memory and a stride of 4 in x4, which makes element 127 the last word of the range. -/
def gt : Thread := (lc.setX 4 4).setA 1 ⟨0, 0, 512, 0x3F⟩
theorem wit_MemoryIssue_gather : Clear (.ldv 1 1 4 2 4 0) (on gt) ∧ Clear (.stv 1 1 4 4 0) (on gt) ∧ Clear (.ldv 1 1 4 2 5 0) (on gt) ∧
    (∀ k : Nat, k < 128 → let e : Int := ((on gt).entered.ra 1).ptr.toNat + (k : Int) * ((on gt).entered.rx 4).toInt
      e % 4 = 0 ∧ boundOk ((on gt).entered.ra 1) e 4 = true ∧ windowOf e.toNat = 0 ∧ windowOk e.toNat 4 = true) ∧
    permR 0x3F = true ∧ permW 0x3F = true ∧ (127 * (3 : Word).toInt) % 4 ≠ 0 := by decide +kernel
/-- Element 127 is beyond the range where LIMIT is 508; element 0 has no permission, or lies in the HOST window. -/
theorem wit_MemoryIssue_gather_faults : (∀ i ∈ [Instr.ldv 1 1 4 2 4 0, .stv 1 1 4 4 0],
      Clear i (on (gt.setA 1 ⟨0, 0, 508, 0x3F⟩)) ∧ Clear i (on (gt.setA 1 ⟨0, 0, 512, 0⟩)) ∧ Clear i (on (gt.setA 1 ⟨0x4000000000000000, 0x4000000000000000, 0x4000000000001000, 0x3F⟩)) ∧
      Clear i (on (gt.setX 4 3))) ∧
    (∀ k : Nat, k < 127 → boundOk ⟨0, 0, 508, 0x3F⟩ ((k : Int) * 4) 4 = true) ∧ boundOk ⟨0, 0, 508, 0x3F⟩ 508 4 = false ∧
    boundOk ⟨0, 0, 512, 0⟩ 0 4 = true ∧ permR 0 = false ∧ permW 0 = false ∧
    boundOk ⟨0x4000000000000000, 0x4000000000000000, 0x4000000000001000, 0x3F⟩ 0x4000000000000000 4 = true ∧ windowOf 0x4000000000000000 ≠ 0 ∧
    windowOk (2 ^ 64 - 4) 4 = false := by decide +kernel

/-- A thread with one access of its own memory issued and not performed. -/
def pend (op : AccOp) (n : Nat) : State := on { sv with accs := [{ id := 9, ord := 3, op := op, els := [⟨0x5FFF8, 0, n⟩] }] }
theorem wit_OwnAccesses : (∀ op ∈ [AccOp.loadX 5 3, .store 7, .atomic 5 0 1 2, .atomic 5 9 1 2, .ldfe 5 0, .ldfe 5 1, .ldfe 5 2, .ldfe 5 3, .stfe 7 0, .stfe 7 1, .stfe 7 2, .stfe 7 3,
        .loadV 1 8], (pend op 8).nextOwn 0 0 = some { id := 9, ord := 3, op := op, els := [⟨0x5FFF8, 0, 8⟩] }) ∧
    ((pend (.store 7) 8).core 0).mem.retry = [] ∧ ((pend (.store 7) 8).core 0).mem.full 0x5FFF8 = true ∧ poisoned ((pend (.store 7) 8).core 0).mem.pois 0x5FFF8 8 = false ∧
    ((pend (.stfe 7 1) 8).modCore 0 fun c => { c with mem := { c.mem with fe := [(0x5FFF8 / 8, false)] } }).nextOwn 0 0 =
      some { id := 9, ord := 3, op := .stfe 7 1, els := [⟨0x5FFF8, 0, 8⟩] } ∧ (1 : VReg).toNat < ((pend (.loadV 1 8) 8).thread 0).ctl.vallot.toNat ∧
    ¬(1 : VReg).toNat < (({ sv with ctl := { sv.ctl with vallot := 0 } } : Thread).ctl.vallot.toNat) ∧
    ((pend (.stfe 7 3) 8).modCore 0 fun c => { c with mem := { c.mem with fe := [(0x5FFF8 / 8, false)] } }).nextOwn 0 0 =
      some { id := 9, ord := 3, op := .stfe 7 3, els := [⟨0x5FFF8, 0, 8⟩] } ∧
    (((pend (.stfe 7 1) 8).modCore 0 fun c => { c with mem := { c.mem with fe := [(0x5FFF8 / 8, false)] } }).core 0).mem.full 0x5FFF8 = false := by decide +kernel

/-- A core whose tag 0 is done and tag 63 done with an error. -/
def tg : Core := { tags := { tdone := 0x8000000000000001, terr := 0x8000000000000000 } }
theorem wit_TagInstructions_idle : ∀ j, j < 64 → tg.tags.cnt[j]?.getD 0 = 0 := by
  intro j h; simp [tg, h]
theorem wit_TagInstructions : (∀ i ∈ [Instr.waitall 5, .waitany 6 5, .tfirst 6 5, .tclr 5, .tget 6 5], Clear i (onc (sv.setX 5 1) tg)) ∧
    (onc (sv.setX 5 1) tg).entered.myCore.tags = tg.tags ∧ (onc (sv.setX 5 1) tg).entered.rx 5 = 1 ∧
    ((onc (sv.setX 5 1) tg).entered.rx 5 &&& (onc (sv.setX 5 1) tg).entered.myCore.tags.terr) = 0 ∧
    ((onc (sv.setX 5 (-1)) tg).entered.rx 5 &&& (onc sv tg).entered.myCore.tags.terr &&& (onc sv tg).entered.myCore.tags.tdone) ≠ 0 ∧
    ((onc (sv.setX 5 (-1)) tg).entered.rx 5 &&& (onc sv tg).entered.myCore.tags.tdone) ≠ 0 ∧
    ((onc (sv.setX 5 0x8000000000000000) tg).entered.rx 5 &&& (onc sv tg).entered.myCore.tags.tdone).getLsbD 63 = true ∧
    (∀ i, i < 63 → ((onc (sv.setX 5 0x8000000000000000) tg).entered.rx 5 &&& (onc sv tg).entered.myCore.tags.tdone).getLsbD i = false) ∧
    ((onc (sv.setX 5 2) tg).entered.rx 5 &&& (onc sv tg).entered.myCore.tags.tdone) = 0 := by decide +kernel

/-- A thread that copies from a1 to a2, with attribute register 1 for four rows at pitch 128. -/
def cp (n : Word) : Thread := let t := (sv.setX 14 n).setA 1 ⟨0, 0, 0x1000, 0x3F⟩ |>.setA 2 ⟨0x1000, 0x1000, 0x2000, 0x3F⟩
  { t with ctl := { t.ctl with cpa := (t.ctl.cpa.set 1 (BitVec.ofNat 64 (3 * 2 ^ 44 + 128 * 2 ^ 22 + 128))).set 2 (BitVec.ofNat 64 (2 ^ 43 + 64 + 64 * 4096)) } }
/-- A core with 95 copies, and tag 0 at 254. -/
def cpc : Core := { tags := { copies := List.replicate 95 { id := 0, owner := 1, kind := .copy, tag := 0, src := ⟨0, 0, 0, 0⟩, dst := ⟨0, 0, 0, 0⟩, len := 0 },
                              cnt := (Vector.replicate 64 0).set 0 254 } }
theorem wit_CopyInstructions : (∀ i ∈ [Instr.copy 2 1 14 0 0, .copy2d 2 1 14 0 1, .copygt 2 1 14 0 1, .copymc 2 1 14 0 2, .mcast 3 2 14 0 3 false, .mcast 3 2 14 0 3 true],
      Clear i (onc (cp 128) cpc)) ∧
    (onc sv cpc).entered.myCore.tags.copies.length = 95 ∧ (onc sv cpc).entered.myCore.tags.cnt[0]?.getD 0 = 254 ∧
    (let u := (onc (cp 4096) cpc).entered
     (u.ra 1).ptr.toNat + 4096 ≤ (u.ra 2).ptr.toNat ∧ boundOk (u.ra 1) (u.ra 1).ptr.toNat 4096 = true ∧ boundOk (u.ra 2) (u.ra 2).ptr.toNat 4096 = true ∧
     windowOk (u.ra 2).ptr.toNat 4096 = true ∧ permR (u.ra 1).perm = true ∧ permW (u.ra 2).perm = true ∧ windowOf (u.ra 2).ptr.toNat = 0) ∧
    (let a := ((onc (cp 128) cpc).entered.src.ctl.cpa[1]?.getD 0).toNat
     a / 2 ^ 44 % 2 ^ 12 + 1 = 4 ∧ a / 2 ^ 22 % 2 ^ 22 = 128 ∧ a % 2 ^ 22 % 8 = 0 ∧ a % 2 ^ 22 + 8 * 4 ≤ 0x60000 ∧ a.testBit 58 = false ∧ a.testBit 59 = false ∧ 3 * 128 + 128 ≤ 4096) ∧
    (let a := (onc (cp 128) cpc).entered.src.ctl.cpa[2]?.getD 0
     a.getLsbD 43 = true ∧ ((onc (cp 128) cpc).entered.setRect true (a &&& 0x7FFFFFFFFFF#64)).toOption = some (BitVec.ofNat 64 (64 + 64 * 4096)) ∧ a.toNat / 2 ^ 24 % 2 ^ 19 = 0) ∧
    (let u := (onc (cp 0x8000000000000000) cpc).entered
     (u.rx 14).getLsbD 63 = true ∧ (u.setRect true (u.rx 14 &&& 0x7FFFFFFFFFFFFFFF#64)).toOption = some 0 ∧ (u.ra 2).ptr.toNat % 128 = 0 ∧ u.copyRoom 0 = true) := by decide +kernel

/-- A copy that reads its only piece from local memory, and one that has read it; neither has more to do. -/
def cl (todo : List (Nat × Nat)) (lines : List CopyJob) (pend : Nat) : Copy :=
  { id := 7, owner := 0, kind := .copy, tag := 63, src := ⟨0, 0, 0x1000, 0x3F⟩, dst := ⟨0x5FF80, 0, 0x60000, 0x3F⟩, len := 128, todo := todo, lines := lines, pend := pend }
def clc (c : Copy) : State := onc sv { tags := { copies := [c] } }
/-- A message from the core at site 1 to an agent, as the first in flight. -/
def mg (typ : BitVec 6) (dest : Agent) (cls : MClass := .req) : Msg :=
  { id := 5, frm := .core 1, dest := dest, cls := cls, typ := typ, dst := ⟨0x7FF, 0, 0⟩, src := ⟨0x7FF, 1, 0⟩ }
def sent (m : Msg) (s : State := on sv) : State := { s with net := [m] }
/-- A gather entry as the engine read it, and a piece that is read whole. -/
def cg : Copy := { cl [(0, 1)] [] 0 with kind := .copygt, gread := [(0, 0x800)] }
def jw : CopyJob := { line := 0, dst := 0x5FF80, len := 128, data := 9, got := 128 }
theorem wit_CopyProgress :
    ((clc (cl [(0, 1)] [] 0)).core 0).tags.copies[0]? = some (cl [(0, 1)] [] 0) ∧ (clc (cl [(0, 1)] [] 0)).copyWaits 0 (cl [(0, 1)] [] 0) = false ∧
    (cl [(0, 1)] [] 0).part 0 = (0, 0, 128) ∧ windowOk 0 128 = true ∧ placeOf 0 = .own 0 ∧
    ((clc cg).core 0).tags.copies[0]? = some cg ∧ (cg.gread.any fun e => e.1 == (cg.piece 0).1) = true ∧ boundOk cg.src (cg.rowSrc (cg.piece 0).1) cg.len = true ∧
    permR cg.src.perm = true ∧ cg.part 0 = (0x800, 0, 128) ∧
    windowOk 0x5FF80 128 = true ∧ placeOf 0x5FF80 = .own 0x5FF80 ∧ (on sv).present 0 = true ∧ (cl [] [] 0).ten = (on sv).coreTenant 0 ∧
    ((clc (cl [] [jw] 0)).core 0).tags.copies[0]? = some (cl [] [jw] 0) ∧ jw.got = jw.len ∧
    ((clc (cl [] [] 0)).core 0).tags.copies[0]? = some (cl [] [] 0) ∧ (clc (cl [] [] 0)).copyWaits 0 (cl [] [] 0) = false ∧
    (let c := { cl [] [] 0 with hostRead := true, cpaRel := true }; ((clc c).core 0).tags.copies[0]? = some c ∧ (clc c).copyWaits 0 c = false) ∧
    ((sent (mg MT.mcast (.core 0))).dropMsg 0).coreTenant 0 = (mg MT.mcast (.core 0)).tenant ∧
    { mg MT.mcast (.core 0) with tenant := 5, fl := { sup := true } }.tenant ≠ (on sv).coreTenant 0 ∧
    ((sent (mg MT.mcast (.core 0)) { on sv with fused := [0] }).dropMsg 0).present 0 = false ∧
    (∀ d ∈ [Agent.core 0, .slice 3, .bridge, .router 0], ∀ y ∈ [MT.copydata, MT.mcast], (sent (mg y d)).deliver 0 = some (mg y d)) ∧
    ((sent (mg MT.mcast (.core 0))).dropMsg 0).present 0 = true ∧ ((sent (mg MT.mcast (.core 0))).dropMsg 0).tenantOk 0 (mg MT.mcast (.core 0)) = true ∧
    ((sent (mg MT.copydata (.slice 3))).dropMsg 0).keyOf (mg MT.copydata (.slice 3)).tenant = some 1 ∧
    (((sent (mg MT.copydata (.slice 3))).dropMsg 0).hbm.write 1 0 0 0 false).isSome := by decide +kernel

/-- A thread with 64 rows of the accumulator store, whose pair x4, x5 names rows of 64 bytes. -/
def mx : Thread := let t := (sv.setX 4 0x1000).setX 5 64
  { t with ctl := { t.ctl with acclen := 64 } }
/-- A card: one level of one k-step over tile 0, operands at 0x1000 and 0x2000 with rows of 64 bytes. -/
def cd : Nat := 0x1000 + 64 * 2 ^ 32 + (0x2000 + 64 * 2 ^ 32) * 2 ^ 128 + 2 ^ (256 + 6) + (1 + 2 ^ 56) * 2 ^ 320
def cdc : Core := { mem := { bytes := (Memory.empty .localMem).store 0x5FF80 128 cd } }
/-- A job of thread 0. -/
def jb (st : MSt) : MCmd := { key := 0, id := 0, ord := 3, kind := .job, st := st, prio := 0, jobId := 7 }
theorem wit_MatrixInstructions : (∀ i ∈ [Instr.acst 21 0 22 15, .acstb 21 0 22 15, .acld 21 0 22 0, .acstsc 21 0 22 1, .aczero 0, .mtile 0 0x24 4 false false 1, .mjob 5 19,
      .mstat 5 6, .mwait 5 6 0, .mcancel 6], Clear i (onc mx { eng := List.replicate 7 (jb .queued) })) ∧
    checkTile mx.ctl 0 = some 0 ∧ checkTile mx.ctl 0x20 = some 1 ∧ (onc mx { eng := List.replicate 7 (jb .queued) }).entered.myCore.eng.length = 7 ∧
    (on mx).entered.acqPending = false ∧
    -- a transfer whose last row ends at the end of local memory
    (128 : Nat) % 128 = 0 ∧ 0x5F000 % 128 = 0 ∧ 0x5F000 + 31 * 128 + 128 = 0x60000 ∧
    fieldBad 0x24 = false ∧ fieldBad 4 = false ∧ formatsOk mx.ctl.fmta mx.ctl.fmtb = true ∧ mx.ctl.fmta ≠ 2 ∧
    ((on mx).entered.tileOperand 0x24).faults false (rowShape true 0 0 false) 0 = [] ∧ ((on mx).entered.tileOperand 4).faults false (rowShape false 0 0 false) 0 = [] := by
  decide +kernel
theorem wit_MatrixInstructions_job : (onc (mx.setX 19 0x5FF80) cdc).entered.rx 19 = 0x5FF80 ∧ 0x5FF80 % 128 = 0 ∧ 0x5FF80 + 128 = 0x60000 ∧
    (onc mx cdc).entered.ownPending 0 1 [(0x5FF80, 128)] = false ∧ poisoned (onc mx cdc).entered.myCore.mem.pois 0x5FF80 128 = false ∧
    jobFault mx.ctl (jobOf (BitVec.ofNat 1024 (cdc.mem.bytes.load 0x5FF80 128)) (sampled (onc mx cdc).entered .job)) 0 = none ∧
    -- an unknown job is final; a queued, a suspended and a running one are not
    3 ≤ ((on mx).entered.jobStatus 0 7).toNat % 8 ∧ (∀ st ∈ [MSt.queued, .suspended, .running], ((onc mx { eng := [jb st] }).entered.jobStatus 0 7).toNat % 8 < 3 ∧
      ((onc mx { eng := [jb st] }).entered.myCore.eng.find? fun c => c.key == 0 && c.kind == .job && c.jobId == 7) = some (jb st)) := by decide +kernel
/-- An engine with one command. -/
def en (c : MCmd) : State := onc mx { eng := [c] }
def mc (k : MKind) (st : MSt) : MCmd := { jb st with kind := k, pitch := 128, addr := 0x5F000, update := some (0, List.replicate 1024 0, false) }
theorem wit_MatrixEvents : ((en (mc .mtile .queued)).core 0).running = none ∧ ((en (mc .mtile .queued)).core 0).nextCmd 0 = some (mc .mtile .queued) ∧
    ((en (mc .mtile .queued)).core 0).eng[0]? = some (mc .mtile .queued) ∧ 4096 ≤ ((4096 : Word) - (mc .mtile .queued).since).toNat ∧
    ((en (mc .mtile .running)).core 0).running = some (mc .mtile .running) ∧ (en (mc .mtile .running)).ownPending 0 3 (mc .mtile .running).reads = false ∧
    (en (mc .mtile .ending)).completing 0 = some (mc .mtile .ending) ∧ (en (mc .acst .running)).completing 0 = some (mc .acst .running) ∧
    (en (mc .aczero .running)).completing 0 = some (mc .aczero .running) ∧ (∀ x ∈ ((en (mc .mtile .running)).core 0).eng, x.st ≠ .ending) ∧
    (∀ k ∈ [MKind.acstb, .acstsc, .acld], (en (mc k .running)).completing 0 = some (mc k .running) ∧ 128 ≤ (mc k .running).pitch) ∧
    (en (mc .job .ending)).completing 0 = some (mc .job .ending) ∧ (mc .job .ending).orphan = false ∧ (mc .job .ending).key / 4 = 0 ∧ (mc .job .ending).update.isSome ∧
    (mc .mtile .running).unread = [] ∧ { mc .mtile .running with fmta := 2, scla := 0x1000 }.unread ≠ [] := by decide +kernel

/-- A request of 8 bytes at an address. -/
def rq (typ : BitVec 6) (dest : Agent) (a : Word) (spec : BitVec 19) : Msg := { mg typ dest with w := #v[a, 7, 0, 0, 0, 0], spec := spec }
def reqTypes : List (BitVec 6) := [MT.load, MT.store, MT.atomic, MT.loadfe, MT.storefe]
theorem wit_RequestsAtHomes : (∀ y ∈ reqTypes, let m := rq y (.core 0) 0x5FFF8 0x3000; let u := (sent m).dropMsg 0
      (sent m).deliver 0 = some m ∧ m.size = 8 ∧ m.addr = 0x5FFF8 ∧ u.present 0 = true ∧ u.tenantOk 0 m = true ∧ (u.wake 0).mustRefuse m = false ∧
      (u.core 0).mem.full m.addr = true ∧ poisoned (u.core 0).mem.pois m.addr 8 = false ∧ (u.core 0).mem.retry = []) ∧
    -- a fused core, a core of another tenant
    ((sent (rq MT.store (.core 0) 0 0) { on sv with fused := [0] }).dropMsg 0).present 0 = false ∧
    ((sent (rq MT.store (.core 0) 0 0)).dropMsg 0).tenantOk 0 { rq MT.store (.core 0) 0 0 with tenant := 5 } = false ∧
    -- an access of four lines, as it arrives and with two of them performed
    (∀ y ∈ [MT.load, MT.store], ∀ l ∈ [none, some [1, 3]], let m := { rq y (.core 0) 0x5FE00 0x7000 with todo := l }
      (sent m).deliver 0 = some m ∧ State.byLines m = true ∧ m.todo.getD (List.range (m.size / 128)) ≠ [] ∧
      (m.todo.getD (List.range (m.size / 128))).filter (fun j => j != 3) ≠ []) ∧
    State.byLines (rq MT.load (.core 0) 0x5FFF8 0x3000) = false ∧
    -- the full-empty modes
    (rq MT.storefe (.core 0) 0 0x3C00).mode = 3 ∧ (rq MT.loadfe (.core 0) 0 0x3800).mode = 2 := by decide +kernel
theorem wit_RequestsAtHomes_slices : (∀ y ∈ reqTypes, let m := rq y (.slice 0) 56 0x3000
      let u := (sent m { on sv with hbm := { sec := [(0, 1)] } }).dropMsg 0
      (sent m { on sv with hbm := { sec := [(0, 1)] } }).deliver 0 = some m ∧ u.keyOf m.tenant = some 1 ∧ u.mustRefuse m = false ∧ u.hbm.ready 1 56 8 = true ∧
      u.hbm.covers 1 56 8 = true ∧ poisoned u.hbm.pois 56 8 = false ∧ u.hbm.retry = []) ∧
    (on sv).hbm.covers 1 56 8 = false ∧ (on sv).keyOf 5 = none ∧
    (∀ y ∈ reqTypes, let m := rq y .bridge 0x1000 0x3000; (sent m).deliver 0 = some m ∧ ((sent m).dropMsg 0).mustRefuse m = false) := by decide +kernel

/-- A thread whose response slot 7 awaits an answer. -/
def rs (op : AccOp) : Thread := { sv with
  slots := (Vector.replicate 8 none).set 0 (some { id := 9, op := op, el := ⟨0, 0, 8⟩, addr := 0x4000000000000000, home := .bridge, loc := 0 })
  outst := [{ id := 9, pc := 0, dst := [.x 5], win := none }] }
def an (typ rt : BitVec 6) (status : Nat) : Msg := { mg typ (.core 0) .rsp with w := #v[0, 7, 0, 0, rt.setWidth 64, 5], spec := BitVec.ofNat 19 (2048 * status) }
theorem wit_AnswersAndRetries : (∀ m ∈ [an MT.load MT.load 0, an MT.ack MT.store 0, an MT.nack MT.load 1, an MT.nack MT.load 2, an MT.nack MT.store 3],
      (sent m (on (rs (.loadX 5 3)))).deliver 0 = some m ∧ ((sent m (on (rs (.loadX 5 3)))).dropMsg 0).present 0 = true ∧ ((sent m (on (rs (.loadX 5 3)))).dropMsg 0).tenantOk 0 m = true ∧
      (((sent m (on (rs (.loadX 5 3)))).dropMsg 0).thread 0).slots[0]?.getD none = (rs (.loadX 5 3)).slots[0]?.getD none ∧ m.w[2] ≠ 1) ∧
    (∀ p ∈ [(AccOp.loadV 1 8, MT.load), (.ldfe 5 1, MT.loadfe), (.atomic 5 0 1 2, MT.atomic), (.atomic 5 11 1 2, MT.atomic)], let m := an MT.load p.2 0; let s := sent m (on (rs p.1))
      s.deliver 0 = some m ∧ (s.dropMsg 0).present 0 = true ∧ (s.dropMsg 0).tenantOk 0 m = true ∧ m.status = 0 ∧ m.w[2] = 0 ∧ m.w[4] = p.2.setWidth 64 ∧
      (((s.dropMsg 0).thread 0).slots[0]?.getD none).map (fun q => (q.op, q.el)) = some (p.1, ⟨0, 0, 8⟩)) ∧
    (let m := an MT.retry MT.store 0; (sent m).present 0 = true ∧ (sent m).tenantOk 0 m = true ∧ (sent m { on sv with fused := [0] }).present 0 = false) ∧
    (an MT.load MT.load 0).status = 0 ∧ (an MT.nack MT.load 1).status = 1 ∧
    (let m := an MT.retry MT.store 0; let s := sent m ({ on sv with refused := [mg MT.store (.core 1)] } : State)
     s.deliver 0 = some m ∧ State.isOutAgent m.dest = false ∧
      ((s.dropMsg 0).refused.find? fun x => x.id == m.w[5].toNat && !State.isOutAgent x.frm) = some (mg MT.store (.core 1))) ∧
    ({ on sv with time := 64, resend := [({ mg MT.store (.core 1) with tries := 8 }, 64)] } : State).resend[0]? = some ({ mg MT.store (.core 1) with tries := 8 }, 64) ∧
    (({ pend (.ldfe 5 1) 8 with time := 64 } : State).modThread 0 fun t => { t with accs := t.accs.map fun a => { a with holdTo := 64 } }).heldOwn 0 =
      [(0, { id := 9, ord := 3, op := .ldfe 5 1, els := [⟨0x5FFF8, 0, 8⟩], holdTo := 64 })] := by decide +kernel
/-- A core that awaits a translation of address 0 in context slot 0. -/
def wk : Core := { walks := [⟨0, 0, 0, 0, none⟩] }
def pt : Hbm := { bytes := ((Memory.empty .device).store 0 8 0x10001).store 0x10000 8 0x2000004F, sec := [(0, 1), (0x10000 / 64, 1)] }
theorem wit_TranslationWalk : ((onc sv wk).core 0).walks[0]? = some ⟨0, 0, 0, 0, none⟩ ∧ (onc sv wk).walking 0 ⟨0, 0, 0, 0, none⟩ = true ∧
    (onc sv { walks := (List.range 65).map fun i => ⟨0, 0, 65536 * i, i, none⟩ }).walking 0 ⟨0, 0, 65536 * 64, 64, none⟩ = false ∧ (onc sv wk).walk ((onc sv wk).slotOf 0).root.toNat 0 = none ∧
    (({ onc sv wk with hbm := pt } : State).walk 0 0).isSome := by decide +kernel
theorem wit_QueueControl : (∀ i ∈ [Instr.tgon 5, .tgoff 5, .tgset 5, .tgclr 5, .vhold 31, .vhclr 31, .vhtest 5], Clear i (on sv) ∧ Clear i (cslot (on us))) ∧
    (31 : VReg).toNat < sv.ctl.vallot.toNat ∧ ¬(8 : VReg).toNat < (8 : BitVec 6).toNat ∧
    (∀ i ∈ [Instr.vhold 8, .vhclr 8], Clear i (on { sv with ctl := { sv.ctl with vallot := 8 } })) ∧
    (on sv).entered.src.res = none ∧ (on { us with res := some { grp := 0, name := 0, member := 0 } }).entered.src.res = some { grp := 0, name := 0, member := 0 } := by
  decide +kernel

/-- Group 3 of generation 1, running on sites 0 and 1, and the member 0 of it that slot 0 of site 0 holds; its method 3 is valid. -/
def gp : Group :=
  { idx := 3, gen := 1, dev := 0x7FF, st := .running, desc := default, tenant := 0, pool := some 0, members := [{}, {}]
    teams := [{ site := 0, w := 2, h := 1, tmask := 1, first := 0, accb := 0, spillOff := 0 }] }
def mem0 : Resident := { grp := 3, name := gp.name, member := 0, mtab := BitVec.ofNat 4096 (2 ^ (64 * 3 + 42)) }
/-- The thread of member 0, idle. -/
def mt : Thread := { res := some mem0, ready := (Vector.replicate 4 0).set 0 1, ctl := { gname := gp.name } }
/-- A state with the group and its member. -/
def gs (t : Thread) (c : Core := {}) : State := { onc t c with groups := [(3, gp)] }
def nameW : Word := gp.name.setWidth 64
/-- An invocation of method 3 of member 0. -/
def iv (typ : BitVec 6) (dest : Agent) : Msg := { mg typ dest with rtag := 3, w := #v[nameW, 0x8000000000000000, 1, 0, 0, 0], nflit := 1 }
def arr (raw kick : Bool) (since : Option Word := none) : Arrival := { msg := iv MT.inv (.core 0), key := 0, ord := 1, raw := raw, kick := kick, since := since }
theorem wit_ActivationStarts : (gs mt).freeThread 0 = true ∧ ((gs mt).thread 0).res = some mem0 ∧ State.memberReady mem0 = true ∧
    (gs mt { arrivals := [arr true false] }).rawOf 0 = [arr true false] ∧
    ({ gs mt { arrivals := [arr true false] } with boot := { st := .running } } : State).boot.st = .running ∧ (gs mt { arrivals := [arr true false] }).freeThread 0 = true ∧
    (gs mt { arrivals := [arr false true] }).rawOf 0 = [] ∧ (gs mt { arrivals := [arr false true] }).kickOf 0 = [arr false true] ∧
    (gs { mt with reqs := [{ tag := 3, ord := 2, tacc := 0 }] }).nextWork 0 mem0 = some (.req { tag := 3, ord := 2, tacc := 0 }) ∧
    (gs mt { arrivals := [arr false false] }).nextWork 0 mem0 = some (.arr (arr false false)) ∧
    ((onc sv { arrivals := [arr false false (some 0)] }).core 0).arrivals[0]? = some (arr false false (some 0)) ∧ 65536 ≤ 0 + ((65536 : Word) - 0).toNat := by
  decide +kernel

/-- A sticky entry for the group and class 0. -/
def sk (a : Option (BitVec 12)) : Sticky := { grp := gp.name, cls := 0, acceptor := a, handle := 0, used := 0, waiting := [] }
def iu (t : Thread) (x : Word) : State := gs ({ t with running := true }.setX 12 x)
theorem wit_Invocations :
    (∀ i ∈ [Instr.inv 7 12 1 3 .m false, .invx 7 12 1 3 .p false, .inv 7 12 1 3 .g true, .inv 7 12 1 3 .g false, .inv 7 12 1 3 .h false],
      Clear i (iu mt nameW) ∧ Clear i (iu { mt with sup := true } nameW)) ∧
    (let u := (iu mt nameW).entered
     u.rx 12 = nameW ∧ rawForm .m nameW = false ∧ targetOk .m nameW = true ∧ targetOk .g nameW = true ∧ headerOk 1 (u.rv 1) = true ∧ headerOk 3 (u.rv 1) = true ∧
     u.freePslots 0 ≠ [] ∧ u.unaccepted 0 = 0 ∧ u.mustStay 0 nameW (u.memberAgent 0 nameW).1 = false ∧ u.cur.stickyOf gp.name 0 = none ∧ stickyRoom u.cur.sticky = some []) ∧
    targetOk .h 0x8000000000000000 = true ∧ rawForm .p 0x8000000000003FFF = true ∧ targetOk .p 0x8000000000003FFF = true ∧ targetOk .m 0x8000000000004000 = false ∧
    (iu mt 0x8000000000003FFF).entered.src.sup = false ∧ (iu { mt with sup := true } 0x8000000000003FFF).entered.src.sup = true ∧
    (iu { mt with sticky := [sk (some 1)] } nameW).entered.cur.stickyOf gp.name 0 = some (sk (some 1)) ∧
    (iu { mt with sticky := [sk none] } nameW).entered.cur.stickyOf gp.name 0 = some (sk none) ∧
    (let u := (iu { mt with sticky := [sk (some 1)] } nameW).entered
     u.mustStay 0 (memberWord gp.name 1) (u.memberAgent 0 (memberWord gp.name 1)).1 = false) := by decide +kernel
/-- A core at which message 5 has been ready before. -/
def tk : Core := { offered := [(5, 0, 5)] }
theorem wit_InvocationArrival_turns : (∀ y ∈ [MT.inv, MT.invx], let m := iv y (.core 0)
      (sent m (gs mt tk)).waitsTurn 0 m = false ∧ (sent m (gs mt tk)).refusal 0 m = none ∧ (sent m (gs mt tk)).heldForLast m = false ∧
      (sent m (gs mt)).waitsTurn 0 m = true ∧ (sent m (gs mt { tk with lastAcc := some 0 })).waitsTurn 0 m = true ∧
      ({ sent m (gs mt tk) with net := [m, { m with src := ⟨0, 0, 0⟩ }] } : State).waitsTurn 0 m = true ∧
      -- a group that drains, and a message accepted before
      (({ sent m (gs mt tk) with groups := [(3, { gp with st := .draining })] } : State).groupOf gp.name).map (fun g => g.st) = some .draining ∧ m.kept = false) := by
  decide +kernel
theorem wit_InvocationArrival : (∀ y ∈ [MT.inv, MT.invx], let m := iv y (.core 0); let u := (sent m (gs mt)).dropMsg 0; let v := u.wake 0
      v.hasRoom 0 m = true ∧ u.fwdHeld (.core 0) = false ∧ mem0.late = false ∧
      (sent m (gs { mt with res := some { mem0 with lastOf := [m.stream] } })).heldForLast m = true ∧
      ((sent m).dropMsg 0).mustRefuse m = false ∧ ((sent m).dropMsg 0).tenantOk 0 { m with fl := { raw := true } } = true ∧
      (sent m (gs mt)).deliver 0 = some m ∧ m.cls ≠ .rsp ∧ m.dest = .core 0 ∧ m.fl.twin = false ∧ (sent m (gs mt)).heldForLast m = false ∧
      m.fl.raw = false ∧ ¬(m.kind = 2 ∧ m.cls = .req) ∧ u.residentAt 0 m.member = some 0 ∧ (u.thread 0).res = some mem0 ∧ u.tenantOk 0 m = true ∧
      mem0.st = .active ∧ mem0.saving = false ∧ v.mustRefuse m = false ∧ m.fl.last = false ∧ v.placeFor 0 mem0 = some none ∧
      State.methodV (State.method mem0.mtab 3) = true ∧ State.methodV (State.method mem0.mtab 4) = false ∧
      -- a core without the member, and room for a raw one
      ((sent m).dropMsg 0).residentAt 0 m.member = none ∧ ((sent m).dropMsg 0).present 0 = true ∧ State.bufUsed (((sent m).dropMsg 0).core 0) = 0) ∧
    (∀ g, (gs mt).groupOf gp.name = some g → g.st ≠ .draining) ∧
    State.bufUsed { arrivals := List.replicate 27 (arr false false) } = 27 := by
  refine ⟨by decide +kernel, ?_, by decide +kernel⟩
  intro g h
  have : (gs mt).groupOf gp.name = some gp := by decide +kernel
  rw [this] at h; cases h; decide
/-- A slot of a Relay that is bound to member 0. -/
def ps (st : PState) (fifo : List Msg := []) : PSlot := { gen := 1, st := st, consumer := some ⟨gp.name, 0, ⟨0x7FF, 0, 0⟩⟩, fifo := fifo }
def hd (core : BitVec 12 := 0) : Word := mkHandle 0x7FF core 0 1
def rl (p : PSlot) : Core := { relay := { slots := [(0, p)] } }
theorem wit_InvocationArrival_handle : (let m := { iv MT.inv (.core 0) with w := #v[hd, 0, 2, 0, 0, 0] }; let u := (sent m (onc sv (rl (ps .bound)))).dropMsg 0
     (sent m (onc sv (rl (ps .bound)))).deliver 0 = some m ∧ m.kind = 2 ∧ m.cls = .req ∧ u.present 0 = true ∧ u.tenantOk 0 m = true ∧ u.mustRefuse m = false ∧
      u.fwdHeld (.core 0) = false ∧ { u with outbox := [{ m with frm := .core 0, cls := .fwd }] }.fwdHeld (.core 0) = true ∧
      (u.pslot 0 (hSlot m.target)).gen = hGen m.target ∧ (u.pslot 0 (hSlot m.target)).st = .bound ∧ (u.pslot 0 (hSlot m.target)).control = false ∧
      (u.pslot 0 (hSlot m.target)).consumer.isSome ∧ (u.pslot 0 (hSlot m.target)).fifo = []) := by decide +kernel

theorem wit_Readiness : (∀ i ∈ [Instr.ready 12 13, .unready 12 13, .rdyq 7 12 15], Clear i (iu mt nameW) ∧ Clear i (iu {} nameW)) ∧
    (let u := (iu (mt.setX 13 65535) nameW).entered
     (u.rx 12).extractLsb' 50 14 = 0#14 ∧ u.src.ctl.gname = grpOf (u.rx 12) ∧ u.src.res = some mem0 ∧ mem0.name = grpOf (u.rx 12) ∧ u.rx 13 = 65535 ∧ u.readyOf 0 0 = 1) ∧
    (iu mt nameW).entered.rx 13 = 0 ∧ (iu mt (nameW ||| 0x4000000000000)).entered.rx 12 = nameW ||| 0x4000000000000 ∧
    (nameW ||| 0x4000000000000).extractLsb' 50 14 ≠ 0#14 ∧ (iu {} nameW).entered.src.res = none := by decide +kernel
/-- A pass of the group, at an agent. -/
def pm (typ : BitVec 6) (dest : Agent) : Msg := { iv typ dest with cls := .fwd, w := #v[nameW, 0x8000000000000000, 0, 0, 0, 0] }
/-- The group with readiness at its slot, as its root and the node of its site count it. -/
def gr : State := { gs mt tk with groups := [(3, { gp with steer := [⟨4096, 0, 0, 1, 1⟩, ⟨1, 0, 0, 1, 1⟩] })] }
theorem wit_PassMessages : (∀ d ∈ [Agent.root 3, .router 0, .router 1, .core 0], (sent (pm MT.pass d) gr).deliver 0 = some (pm MT.pass d) ∧
      (sent (pm MT.bounce d) gr).deliver 0 = some (pm MT.bounce d)) ∧
    ((sent (pm MT.pass (.root 3)) gr).liveRoot 3 gp.name).map (fun g => (g.st, g.pool, g.tenant, g.bench)) = some (.running, some 0, 0, []) ∧
    (((sent (pm MT.pass (.root 3)) gr).dropMsg 0).descend 3 rootNode (pm MT.pass (.root 3))).isSome = true ∧
    (((sent (pm MT.pass (.root 3)) (gs mt)).dropMsg 0).descend 3 rootNode (pm MT.pass (.root 3))).isNone = true ∧
    (((sent (pm MT.pass (.router 1)) gr).dropMsg 0).descend 3 1 (pm MT.pass (.router 1))).isSome = true ∧
    (((sent (pm MT.pass (.router 1)) (gs mt)).dropMsg 0).descend 3 1 (pm MT.pass (.router 1))).isNone = true ∧
    ((sent (pm MT.bounce (.router 1)) gr).groupOf gp.name).isSome = true ∧
    (let v := ((sent (pm MT.pass (.core 0)) gr).dropMsg 0).wake 0
     (sent (pm MT.pass (.core 0)) gr).waitsTurn 0 (pm MT.pass (.core 0)) = false ∧ (sent (pm MT.pass (.core 0)) gr).refusal 0 (pm MT.pass (.core 0)) = none ∧
     (sent (pm MT.pass (.core 0)) { gr with fused := [0] }).refusal 0 (pm MT.pass (.core 0)) = some 2 ∧
     gp.fromChild 1 0 (pm MT.bounce (.router 1)) = true ∧ gp.fromChild 1 4 (pm MT.bounce (.router 1)) = false ∧ State.denied gp (pm MT.pass (.root 3)) = false ∧
     (∀ d ∈ [Agent.root 3, .router 1, .core 0], ((sent (pm MT.pass d) gr).dropMsg 0).mustRefuse (pm MT.pass d) = false ∧
       ((sent (pm MT.pass d) gr).dropMsg 0).fwdHeld d = false) ∧
     (v.thread 0).res = some mem0 ∧ v.readyOf 0 0 = 1 ∧ v.placeFor 0 mem0 = some none ∧ State.methodV (State.method mem0.mtab 3) = true ∧ mem0.late = false) := by decide +kernel
/-- A report of readiness, a query and its answer. -/
def rdm (typ : BitVec 6) (dest : Agent) (cls : MClass) : Msg := { mg typ dest cls with w := #v[nameW, 0, 9, 5, 0, 0], spec := 8 }
theorem wit_PassMessages_readiness : (∀ d ∈ [Agent.root 3, .router 1], (sent (rdm MT.readydelta d .rsp) gr).deliver 0 = some (rdm MT.readydelta d .rsp)) ∧
    ((sent (rdm MT.readydelta (.root 3) .rsp) gr).groupOf gp.name).isSome = true ∧
    -- children of the root and of the node of the second site, and a child of neither
    (0 ∈ gp.children rootNode ∧ gp.childAgent rootNode 0 = .core 0) ∧ (4 ∈ gp.children rootNode ∧ gp.childAgent rootNode 4 = .router 1) ∧
    (0 ∈ gp.children 1 ∧ gp.childAgent 1 0 = .core 1) ∧ 5 ∉ gp.children rootNode ∧ 5 ∉ gp.children 1 ∧ gp.treeAt ≤ (rdm MT.readydelta (.root 3) .rsp).id ∧
    (sent (rdm MT.rdyquery (.root 3) .req) gr).deliver 0 = some (rdm MT.rdyquery (.root 3) .req) ∧ ((sent (rdm MT.rdyquery (.root 3) .req) gr).liveRoot 3 gp.name).isSome = true ∧
    ((sent (rdm MT.rdyquery (.root 3) .req) gr).dropMsg 0).mustRefuse (rdm MT.rdyquery (.root 3) .req) = false ∧
    (let m := rdm MT.rdyanswer (.core 0) .rsp; let s := sent m gr
     s.deliver 0 = some m ∧ s.present 0 = true ∧ s.tenantOk 0 m = true ∧ m.w[3].toNat % 32 = 5) := by decide +kernel

/-- A thread whose x16 is a handle (x17: the same as a reply token). -/
def ht (h : Word) : Thread := (sv.setX 16 h).setX 17 (h ||| tokenBit)
/-- A state whose L2P map gives site 0 the number 0. -/
def ol (t : Thread) (c : Core := {}) : State := { onc t c with l2p := { base := [(0, 0x1000)] } }
theorem wit_HandleInstructions : (∀ i ∈ [Instr.hwait 5 16 6 15, .hwaitv 1 16 6 0, .htest 5 16, .hfree 16, .hreply 17 24, .hreplyv 17 1, .hbreak 17 24],
      Clear i (ol (ht hd) (rl (ps .bound)))) ∧
    wellHandle hd = true ∧ (ol (ht hd) (rl (ps .bound))).entered.ownHandle hd = true ∧ wellToken (hd ||| tokenBit) = true ∧ wellHandle 1 = false ∧ wellToken hd = false ∧
    (∀ st ∈ [PState.pending, .bound, .resolved, .broken], ((ol (ht hd) (rl (ps st))).entered.pslot 0 (hSlot hd)).st = st) ∧
    ((ol (ht hd) (rl (ps .bound))).entered.pslot 0 (hSlot hd)).gen = hGen hd ∧ ((onc (ht hd) {}).entered.pslot 0 (hSlot hd)).gen ≠ hGen hd ∧
    wellHandle (hd 3999) = true ∧ (ol (ht (hd 3999))).entered.ownHandle (hd 3999) = false ∧ (ol (ht (hd 3999))).entered.cur.freeSlots = [0, 1, 2, 3, 4, 5, 6, 7] ∧
    (on { ht (hd 3999) with answer := some 1 }).entered.src.answer = some 1 ∧ (ol (ht hd)).entered.drained 0 = true := by decide +kernel
/-- A message about the handle. -/
def hm (typ : BitVec 6) (cls : MClass := .rsp) : Msg := { mg typ (.core 0) cls with w := #v[hd, 1, 0, 0, 0, 0] }
theorem wit_RelayTraffic : (∀ y ∈ [MT.reply, MT.brk, MT.fetch, MT.accept, MT.value, MT.hrelease], let m := hm y; let s := sent m (onc sv (rl (ps .pending)))
      s.deliver 0 = some m ∧ s.present 0 = true ∧ s.tenantOk 0 m = true ∧ (s.pslot 0 (hSlot m.w[0])).gen = hGen m.w[0] ∧ (s.pslot 0 (hSlot m.w[0])).st = .pending ∧
      (s.pslot 0 (hSlot m.w[0])).freeMark = false ∧ (s.pslot 0 (hSlot m.w[0])).control = false) ∧
    (let m := hm MT.fetch .req; let s := sent m (onc sv (rl (ps .resolved)))
     s.deliver 0 = some m ∧ ((s.dropMsg 0).wake 0).mustRefuse m = false ∧ m.w[1] ≠ 2 ∧ (s.pslot 0 (hSlot m.w[0])).st = .resolved) ∧
    ((sent (hm MT.fetch .req)).pslot 0 (hSlot hd)).gen ≠ hGen hd ∧
    (let s := sent (hm MT.value) (on (rs (.hwait false 5 6)))
     s.deliver 0 = some (hm MT.value) ∧ ((s.thread 0).slots[(hm MT.value).spec.toNat % 8]?.getD none).map (·.op) = some (.hwait false 5 6) ∧ (hm MT.value).spec.getLsbD 11 = false) ∧
    (let s := onc sv (rl (ps .bound [iv MT.inv (.core 0)]))
     (s.pslot 0 0).consumer = some ⟨gp.name, 0, ⟨0x7FF, 0, 0⟩⟩ ∧ (s.pslot 0 0).fifo = iv MT.inv (.core 0) :: [] ∧ (s.pslot 0 0).freeMark = false) := by decide +kernel
theorem wit_MemberTraffic : Clear (.rstv 3 12 4 31 true) (iu mt nameW) ∧ Clear (.rstv 3 12 4 31 true) (iu mt (-1)) ∧
    (let u := (iu mt nameW).entered
     (u.rx 12).toNat / 2 ^ 60 = 0 ∧ u.copyRoom 4 = true ∧ u.mustStay 0 nameW (u.memberAgent 0 nameW).1 = false) ∧ (-1 : Word).toNat / 2 ^ 60 ≠ 0 ∧
    (let m := { iv MT.rstv (.core 0) with w := #v[nameW, 63, 1, 0, 0, 0] }; let s := sent m (gs mt); let u := s.dropMsg 0
     s.deliver 0 = some m ∧ s.heldForLast m = false ∧ s.present 0 = true ∧ u.residentAt 0 m.member = some 0 ∧ (u.thread 0).res = some mem0 ∧ u.tenantOk 0 m = true ∧
      (u.wake 0).mustRefuse m = false ∧ m.w[1].toNat % 32 = 31 ∧ (s.thread 0).ctl.vallot = 32 ∧ u.grp 3 = some gp) ∧
    (let m := iv MT.rstv (.root 3); (sent m).deliver 0 = some m ∧ (sent m).liveRoot 3 m.groupName = none) ∧
    (let g := { gp with members := [{ queue := [iv MT.inv (.root 3)] }, {}] }; let s := { gs mt with groups := [(3, g)] }
     State.drainOut g 0 = false ∧ State.drainOut { g with fwds := [(9, iv MT.inv (.root 3))] } 0 = true ∧ s.fwdHeld (.root 3) = false ∧ g.idx = 3 ∧
      s.grp 3 = some g ∧ State.memberRec g 0 = some { queue := [iv MT.inv (.root 3)] } ∧ (g.seat 0).map (·.key) = some 0 ∧ s.slotHolds 0 g.name = some mem0) := by decide +kernel

/-- Bytes at the end of local memory. -/
def atEnd (n x : Nat) : Core := { mem := { bytes := (Memory.empty .localMem).store (0x60000 - n) n x } }
/-- A descriptor of one team with an allotment of 32 and a pool in context slot 1, and a team entry of two sites. -/
def descB : Nat := 1 + 32 * 2 ^ 16 + 2 * 2 ^ 24 + 0x20000 * 2 ^ 192 + 2 ^ 368
def teamB (first : Nat) : Nat := 2 ^ 12 + 2 ^ 24 + first * 2 ^ 28
/-- The group, its descriptor of one team; a supervisor names it in x20, and an address in x21. -/
def gq (n x : Nat) (a : Word) (name : Word := nameW) : State :=
  { gs ((sv.setX 20 name).setX 21 a) (atEnd n x) with
    groups := [(3, { gp with desc := { gp.desc with teams := 1, spill := 64 } })], ctxs := [(1, { st := .active })] }
theorem wit_GroupInstructions :
    (∀ i ∈ [Instr.gnew 6 20, .gplace 6 20 21, .gadd 6 20 21, .gdrop 6 20 21, .gpark 6 20, .grun 6 20, .gmove 6 20 21, .gend 6 20 21, .barcfg 6 20 21],
      Clear i (gq 32 (teamB 0) 0x5FFE0) ∧ Clear i (gq 32 0 0x5FFE0 (-1))) ∧
    (gq 64 descB 1 0x5FFC0).entered.rx 20 = 0x5FFC0 ∧ 0x5FFC0 % 32 = 0 ∧ 0x5FFC0 + 64 = 0x60000 ∧ (gq 64 descB 1).entered.acqPending = false ∧
    (gq 64 descB 1).entered.ownPending 0 1 [(0x5FFC0, 64)] = false ∧ poisoned (gq 64 descB 1).entered.myCore.mem.pois 0x5FFC0 64 = false ∧
    (descOf ((gq 64 descB 1).entered.myCore.mem.bytes.load 0x5FFC0 64)).map (·.slot) = some 1 ∧ (((gq 64 descB 1).entered.slotOf 1).st = .active) ∧
    (gq 64 descB 1).entered.freeIndex 8192 0 = some 0 ∧ descOf ((on sv).myCore.mem.bytes.load 0x5FFC0 64) = none ∧
    nameW.toNat < 2 ^ 48 ∧ ¬(-1 : Word).toNat < 2 ^ 48 ∧ (gq 32 (teamB 0) 0x5FFE0).entered.freePslots 0 ≠ [] ∧
    ((gq 32 (teamB 0) 0x5FFE0).entered.namedHere nameW).isSome ∧ 0x5FFE1 % 32 ≠ 0 ∧
    (on { sv with answer := some 7 }).entered.src.answer = some 7 ∧ (1 : Word).toNat < 2 ∧ 2 ≤ (2 : Word).toNat := by decide +kernel
theorem wit_GroupInstructions_tables : (let d := { gp.desc with teams := 1, spill := 64 }
     (tableOf d (teamB 0) 1 0).map (fun ts => (ts.map Team.size, (seatIn ts 64 0 1).map (·.acc))) = some ([2], (gp.seat 1).map (·.acc)) ∧
      (tableOf d (teamB 2) 1 2).isSome ∧ (tableOf d 0 1 0).isNone ∧
      ((gq 32 (teamB 0) 0x5FFE0).entered.myCore.mem.bytes.load 0x5FFE0 32 = teamB 0)) := by decide +kernel
/-- A redirect queue's entry that the root area holds: tables at 0x10000 of context slot 1 lead page 0x100000 to 0x400000. -/
def ra0 : State :=
  let w := fun (h : Hbm) (pa v : Nat) => ((h.claim 1 pa 8).write 1 pa 8 v false).getD h
  { on sv with hbm := w (w (w (on sv).hbm 0x10000 0x20001) 0x20000 0x30001) (0x30000 + 8 * 16) 0x4000C7, ctxs := [(1, { st := .active, tenant := 5, key := some 9, root := 0x10000 })] }
def gra : Group := { gp with desc := { gp.desc with slot := 1, qbase := 0x100000 } }
def raw : State :=
  let h := (ra0.hbm.claim 9 0x400000 256)
  { ra0 with hbm := (h.write 9 0x400000 256 0 false).getD h }
theorem wit_MemberTraffic_area : (raw.queueGet gra 0 { iv MT.inv (.root 3) with ent := some 0 }).isSome = true := by decide +kernel
theorem wit_GroupInstructions_unnamed : (gq 32 (teamB 0) 0x5FFE0 (nameW + 4)).entered.namedHere (nameW + 4) = none ∧
    ((gq 32 (teamB 0) 0x5FFE0 (nameW + 4)).entered.rx 20).toNat < 2 ^ 48 := by decide +kernel
theorem find_retired (n k i : Nat) (h : k ≤ i) (h2 : i < k + n) :
    Map.find ((List.range' k n).map fun j => (j, ({ retired := true } : DirEnt))) i = some { retired := true } := by
  induction n generalizing k with
  | zero => omega
  | succ n ih =>
    simp only [List.range'_succ, List.map_cons, Map.find]
    split
    · rfl
    · exact ih (k + 1) (by omega) (by omega)
theorem wit_GroupInstructions_full : ({ on sv with dir := (List.range' 0 8192).map fun j => (j, { retired := true }) } : State).freeIndex 8192 0 = none := by
  have h : ∀ n i, n + i ≤ 8192 → ({ on sv with dir := (List.range' 0 8192).map fun j => (j, { retired := true }) } : State).freeIndex n i = none := by
    intro n
    induction n with
    | zero => intros; rfl
    | succ n ih =>
      intro i hi
      have hr : (({ on sv with dir := (List.range' 0 8192).map fun j => (j, { retired := true }) } : State).dirEnt i).retired = true := by
        simp only [State.dirEnt, Map.get, find_retired 8192 0 i (by omega) (by omega)]; rfl
      unfold State.freeIndex
      rw [hr, ih (i + 1) (by omega)]; simp
  exact h 8192 0 (by omega)

/-- A transition, a status, a report about the group. -/
def gc (fn : BitVec 19) (dest : Agent) (cls : MClass := .req) (typ : BitVec 6 := MT.grpctl) : Msg := { mg typ dest cls with spec := fn, w := #v[0, hd, nameW, 0, 0, 0] }
/-- The group in a state, alone. -/
def gst (st : GState) (f : Group → Group := id) : State := { on sv with groups := [(3, f { gp with st := st })] }
/-- What a name names: 0 a group (and whether it is in a transition), 1 an ended one, 2 a later one. -/
def named : NameSt → Nat × Bool
  | .live g => (0, g.trans.isSome)
  | .ended => (1, false)
  | .stale => (2, false)
theorem wit_GroupEvents : ((sent (gc 4 (.root 3)) (gst .running)).deliver 0 = some (gc 4 (.root 3))) ∧
    ((sent (gc 5 (.root 3)) (gst .placed)).deliver 0 = some (gc 5 (.root 3))) ∧
    ((sent (gc 4 (.root 3)) (gst .running)).dropMsg 0).mustRefuse (gc 4 (.root 3)) = false ∧
    named ((((sent (gc 4 (.root 3)) (gst .running)).dropMsg 0).acceptMsg (gc 4 (.root 3))).nameState gp.name) = (0, false) ∧
    named ((gst .running fun g => { g with trans := some { fn := 4 } }).nameState gp.name) = (0, true) ∧
    named ((on sv).nameState gp.name) = (1, false) ∧ named ((gst .running fun g => { g with gen := 2 }).nameState gp.name) = (2, false) ∧
    ((gst .running).grp 3).map (fun g => g.barcfg.isSome) ≠ some true ∧ (gc 4 (.root 3)).frm ≠ .bridge ∧ (sent (gc 4 (.core 0)) (gs mt)).present 0 = true ∧
    (sent (gc 4 (.core 0)) (gs mt)).deliver 0 = some (gc 4 (.core 0)) ∧ ((sent (gc 4 (.core 0)) (gs mt)).thread 0).res = some mem0 ∧ mem0.name = grpOf nameW ∧
    (let m := gc 0 (.core 0) .rsp MT.grpstat; let s := sent m (onc sv (rl (ps .pending)))
     s.present 0 = true ∧ s.tenantOk 0 m = true ∧
      s.deliver 0 = some m ∧ m.w[1] ≠ 0 ∧ (s.pslot 0 (hSlot m.w[1])).gen = hGen m.w[1] ∧ (s.pslot 0 (hSlot m.w[1])).st = .pending ∧ (s.pslot 0 (hSlot m.w[1])).freeMark = false) ∧
    ((gs { mt with res := some { mem0 with parkReq := true } }).thread 0).parkable = true ∧
    (gs { mt with res := some { mem0 with saving := true } }).saveReady 0 = true ∧ (gs mt).grp 3 = some gp ∧
    (gst .draining).grp 3 = some { gp with st := .draining } ∧ (∀ x ∈ gp.members, x.queue = []) ∧ gp.fwds = [] ∧ gp.knodes = [] ∧ gp.trans = none ∧
    (∀ e ∈ (gst .draining).threads, e.2.res = none) := by decide +kernel

/-- A member's thread with a kick word in x6, a pc in x20. -/
def kt (t : Thread) (k pc : Word) : State := gs (({ t with running := true }.setX 6 k).setX 20 pc)
/-- A KICK of team 0, and its start at slot 0. -/
def km (ten : BitVec 12) (dest : Agent) (cls : MClass) : Msg := { mg MT.kick dest cls with tenant := ten, w := #v[nameW, hd, 0, 0, 0, 0], spec := if cls = .fwd then 1 else 0 }
/-- A node of a Kickoff tree that awaits two reports, and one of them. -/
def kn : KNode := { kick := 9, site := 0, pend := 2, msg := km 0 (.root 3) .req }
def ke : Msg := { mg MT.kickend (.router 0) .rsp with w := #v[1, 0, 9, nameW, 0, 0] }
theorem wit_Kickoff : (∀ i ∈ [Instr.kickTeam 6 20 21, .kickGroup 6 20 21], Clear i (kt mt nameW 0x1000) ∧ Clear i (kt mt nameW 0x1002) ∧ Clear i (kt mt (nameW + 2 ^ 62) 0)) ∧
    (let u := (kt mt nameW 0x1000).entered
     (u.rx 6).toNat < 2 ^ 62 ∧ (u.rx 6).extractLsb' 48 6 = 0 ∧ u.src.res.isSome ∧ grpOf (u.rx 6) = u.src.ctl.gname ∧ (u.rx 20).toNat % 4 = 0 ∧ u.freePslots 0 ≠ [] ∧ u.unaccepted 0 = 0) ∧
    ((kt mt nameW 0x1002).entered.rx 20).toNat % 4 ≠ 0 ∧ ¬(nameW + 2 ^ 62).toNat < 2 ^ 62 ∧
    (∀ st ∈ [GState.running, .parked, .draining], ∀ ten ∈ [(0 : BitVec 12), 5], let m := km ten (.root 3) .req; let s := sent m (gst st)
      s.deliver 0 = some m ∧ (s.liveRoot 3 (grpOf m.w[0])).isSome ∧ (s.dropMsg 0).mustRefuse m = false ∧ (m.w[0].extractLsb' 48 6).toNat < gp.teams.length) ∧
    (let m := km 0 (.core 0) .fwd; let s := sent m (gs mt tk)
     s.deliver 0 = some m ∧ s.groupOf (grpOf m.w[0]) = some gp ∧ ((List.range 4).filter fun i => m.spec.getLsbD i) = [0] ∧ m.spec.getLsbD 4 = false ∧
      s.refusal 0 m = none ∧ s.waitsTurn 0 m = false ∧ (s.dropMsg 0).kickBehind m = false ∧ State.kickSeat gp (State.kickTeams gp m.w[5].toNat) 0 0 (m.w[4].toNat / 4096) = some 0 ∧
      (State.memberRec gp 0).map (·.st) = some .active ∧ (s.dropMsg 0).residentAt 0 (memberWord gp.name 0) = some 0 ∧
      ((s.dropMsg 0).thread 0).res = some mem0 ∧ mem0.grp = gp.idx ∧ (s.dropMsg 0).placeFor 0 mem0 = some none) ∧
    (let s := sent ke (gst .running fun g => { g with knodes := [kn] })
     s.deliver 0 = some ke ∧ (s.groupOf (grpOf ke.w[3])).map (·.knodes) = some [kn] ∧ ((s.dropMsg 0).grp 3).map (·.knodes) = some [kn] ∧ kn.kick = ke.w[2].toNat ∧ 1 < kn.pend) := by
  decide +kernel
theorem wit_Kickoff_egress : (let m := km 0 (.root 3) .req; let s := (sent m (gst .running)).dropMsg 0
     s.fwdHeld (.root 3) = false ∧ { s with outbox := [{ m with frm := .root 3, cls := .fwd }] }.fwdHeld (.root 3) = true) ∧
    (sent (km 0 (.core 0) .fwd) { gs mt with fused := [0] }).refusal 0 (km 0 (.core 0) .fwd) = some 2 := by decide +kernel

/-- A member's thread with its barrier bits, the barrier in x5. -/
def bt (b : BarBits) (x : Word := 15) : State := gs ({ mt with running := true, bar := b }.setX 5 x)
theorem wit_BarrierInstructions :
    (∀ i ∈ [Instr.barr 5, .barw 5, .barrw 5, .barwd 5, .barq 7 5], Clear i (bt { part := 0x8000 }) ∧ Clear i (bt {} 16) ∧ Clear i (bt { part := 0x8000, arrived := 0x8000 })) ∧
    ((bt {}).entered.rx 5).toNat % 16 = 15 ∧ (bt {}).entered.src.res = some mem0 ∧ mem0.late = false ∧ (bt {}).entered.drained 0 = true ∧
    (∀ b ∈ [({ part := 0x8000 } : BarBits), { part := 0x8000, arrived := 0x8000 }, { part := 0x8000, waiting := 0x8000 }, { part := 0x8000, broken := 0x8000 },
        { part := 0x8000, arrived := 0x8000, waiting := 0x8000, broken := 0x8000 }, { leave := 0x8000 },
        { cut := 0x8000 }, {}], (bt b).entered.src.bar = b) ∧ (0x8000 : BitVec 16).getLsbD 15 = true ∧ (on sv).entered.src.res = none ∧ ¬(16 : Word).toNat < 16 := by decide +kernel
/-- The group with the counts of barrier 0. -/
def gb (exp arr : Nat) (st : GState := .running) : State :=
  { gs { mt with bar := { part := 1 } } with
    groups := [(3, { gp with st := st, bars := Vector.replicate 16 { team := [(0, { exp := exp, arr := arr })], pkg := { exp := exp, arr := arr } } })] }
def bm (typ : BitVec 6) (dest : Agent) (lvl : Word) (cls : MClass := .rsp) : Msg := { mg typ dest cls with w := #v[nameW, 0, lvl, 0, 0, 0], pay := 1 }
theorem wit_BarrierMessages : (∀ y ∈ [MT.bararrive, MT.barrelease, MT.barbreak], ∀ d ∈ [Agent.router 0, .core 0, .root 3], let m := bm y d 2; let s := sent m (gb 2 1)
      s.deliver 0 = some m ∧ State.isOutAgent m.dest = false ∧ (s.groupOf (grpOf m.w[0])).isSome ∧ ((s.dropMsg 0).grp 3).isSome ∧
      (s.groupOf (grpOf m.w[0])).map (fun g => State.barNow g m) = some true ∧ s.present 0 = true ∧ s.tenantOk 0 m = true ∧
      0 ∈ State.membersOf gp 0 ∧ (gp.seat 0).map (fun x => x.key) = some 0 ∧ s.holds gp 0 0 false = true) ∧
    ((gb 2 0).groupOf gp.name).map (fun g => ((g.bar 0).huddle 0 0, (g.bar 0).huddle 2 0)) = some ({ exp := 2 }, { exp := 2 }) ∧
    ((gb 2 1).groupOf gp.name).map (fun g => ((g.bar 0).huddle 2 0, (g.bar 0).broken)) = some ({ exp := 2, arr := 1 }, false) ∧
    (((gb 2 1).thread 0).bar.part.getLsbD 0 = true) ∧ mem0.late = false ∧
    (let s : State := { gs { mt with park := .barrier, bar := { since := some 0 } } with time := 0x1000000 }
     (s.thread 0).bar.since = some 0 ∧ (s.thread 0).res = some mem0 ∧ (s.thread 0).park = .barrier ∧ (s.thread 0).ctl.bartmo.toNat ≤ ((s.thread 0).bar.waited + (s.time - 0)).toNat) ∧
    (let b : BarBits := { since := some 0, on := 15, arrived := 0x8000 }; b.arrived.getLsbD b.on.toNat = true ∧ b.broken.getLsbD b.on.toNat = false) ∧
    (let m := bm MT.barconfig (.router 0) 0 .req; let s := sent m (gb 2 1)
     s.deliver 0 = some m ∧ (s.groupOf (grpOf m.w[0])).isSome ∧ (m.pay.extractLsb' 0 16 : BitVec 16).getLsbD 0 = true) := by decide +kernel
/-- A release and a break that come before their configuration. -/
theorem wit_BarrierMessages_early : ∀ y ∈ [MT.barrelease, MT.barbreak], let m := { bm y (.router 0) 0 with w := #v[nameW, 0, 0, 0, 0, 1] }
    (sent m (gb 2 1)).deliver 0 = some m ∧ m.w[2] = 0 ∧ m.w[5].toNat = 1 ∧ ((gb 2 1).groupOf gp.name).map (fun g => State.teamEp g 0 0) = some 0 := by
  decide +kernel
/-- A twin pair whose Referee holds messages. -/
def pr (a b : Option Msg) : State := { on sv with pairs := [{ pkey := 0, tkey := 4, prim := (a.map fun m => (m, 0)).toList, twin := (b.map fun m => (m, 0)).toList }], time := 4096 }
theorem wit_RefereeAndUnassigned : (∀ q ∈ [pr (some ke) (some ke), pr (some ke) (some (gc 4 (.core 0))), pr (some ke) none, pr none (some ke)], (q.pairs[0]?).isSome) ∧
    4096 ≤ ((0 : Word) - 0x2000).toNat ∧ 4096 ≤ ((0x2000 : Word) - 0).toNat ∧ ¬4096 ≤ ((0 : Word) - 0).toNat ∧ ke.refereeCrc = ke.refereeCrc ∧ ke.refereeCrc ≠ (gc 4 (.core 0)).refereeCrc ∧ (0 : Word) + 4096 ≤ (pr none none).time ∧
    (sent (mg 0x3F (.core 0))).deliver 0 = some (mg 0x3F (.core 0)) ∧ MT.assigned.contains 0x3F = false := by decide +kernel

/-- A supervisor thread with operands in x20 and x21. -/
def op (x y : Word) : State := on ((sv.setX 20 x).setX 21 y)
theorem wit_MaintenanceInstructions : (∀ i ∈ [Instr.tlbinv 20 21, .icinv 20 21, .errclr 6 20, .coreret 6 20 21, .ckpt 6 20, .mapsetStat 6 20 21, .mapsetLoad 6 20 21, .mapsetSwitch 6 20 21,
      .mapsetOpen 6 20 21, .keyslotStat 6 20, .keyslotGen 6 20, .keyslotErase 6 20], Clear i (op 1 0)) ∧
    (op 1 0x2FFF).entered.rx 21 = 0x2FFF ∧ (0x2FFF : Word).toNat < 3 * 4096 ∧ 3 * 4096 ≤ (0x3000 : Word).toNat ∧ (op 1 0).entered.src.quiet = true ∧ (op 1 0).entered.src.outst = [] ∧
    (op 1 0).entered.drained 0 = true ∧ (∀ l ∈ [([] : List TlbEnt)], (op 1 0).entered.xlPending l (fun _ _ => true) = []) ∧
    ({ op 1 0 with net := [rq MT.store (.slice 0) 0 0x3000] } : State).entered.xlPending [⟨0, 0, false, 0, 0, 0⟩] (fun _ _ => true) ≠ [] ∧
    (on { sv with asked := true }).entered.src.asked = true ∧ (on { sv with asked := true, xlIds := [9] }).entered.stillUnderWay [9] = false ∧ (63 : Word).toNat < 64 ∧
    -- KEYSLOT of slot 63, FREE, and of slot 1, ACTIVE
    ((op (512 + 63) 0).entered.slotOf 63).st = .free ∧ (({ op (256 + 1) 0 with ctxs := [(1, { st := .active })] } : State).entered.slotOf 1).st ≠ .free ∧
    -- MAPSET of tenant 0 (its operations 0 to 3), of an unknown tenant, of maps that are loaded and that change
    (op 0 0).entered.hasContext 0 = true ∧ (op 5 0).entered.hasContext 5 = false ∧ ((op 0 0).entered.tmap 0).st = .stable ∧ (op 0 0).entered.src.asked = false ∧
    ((op 0x2000 0).entered.taken 0).isEmpty = true ∧ (op 0x2000 0).entered.taken 0 = [] ∧
    (({ op 0x2000 0 with net := [{ rq MT.store (.slice 0) 0 0x3000 with todo := some [1] }] } : State).entered.taken 0).isEmpty = false ∧
    (let t : TMap := { st := .changing, ver1 := [(3, 0x7FF)] }
     (({ op 0x3000 3 with maps := [(0, t)] } : State).entered.tmap 0) = t ∧ (op 0x3000 3).entered.gains t 3 = true) ∧
    (({ op 0x2000 0 with maps := [(0, { st := .loaded })] } : State).entered.tmap 0).st = .loaded := by decide +kernel
theorem wit_MaintenanceInstructions_blocks : (0x5F000 % 64 = 0 ∧ 0x5F000 + 4096 = 0x60000) ∧ (op 0 0).entered.acqPending = false ∧ (op 0 0).entered.ownPending 0 1 [(0x5F000, 4096)] = false ∧
    State.tableBad 0 = false ∧ State.tableBad (32768 + 1057) = true ∧
    -- CORERET: an absent id, a core in use, a free spare, a replacement that is done
    (op 4095 0).entered.siteOf 0 4095 = none ∧
    (let u := ({ op 0 7 with l2p := { base := [(0, 0x1000)] } } : State).entered
     u.siteOf 0 0 = some 0 ∧ State.dieOf 7 = State.dieOf 0 ∧ u.active 7 = true ∧ State.idsNaming 7 u.l2p.base = [] ∧ u.l2p.upd = []) ∧
    (gs mt).entered.coreInUse 0 = true ∧ (on {}).entered.coreInUse 0 = false ∧ (on { sv with asked := true }).entered.src.asked = true ∧ ((on sv).entered.core 7).scrub = none ∧
    -- CKPT of context slot 63 over one page, and a malformed descriptor
    (ckptOf (0x4000000000000000 + 2 ^ 16 * 2 ^ 192 + 63 * 2 ^ (8 * 0x25))).map (fun c => (c.slot, c.va, c.upto, c.mode)) = some (63, 0, 65536, 0) ∧ (ckptOf 0).isNone ∧
    ((on sv).entered.slotOf 63).st = .free ∧ (({ on sv with ctxs := [(63, { st := .shrinking })] } : State).entered.slotOf 63).st = .shrinking ∧ (on sv).entered.freePslots 0 ≠ [] := by
  decide +kernel

/-- A thread that has a fault waiting, inside a region, of an activation. -/
def tr (c : Cause) : Thread := { us with trap := some { trap := { cause := c, slot := true, val := 7 }, epc := 8, rep := none, st := 8 } }
theorem wit_TrapEntry : ((on us).cur.consume { cause := .operand, slot := true, val := 7 }).quiet = true ∧ (on us).cur.restarts .operand = false ∧
    (∀ c ∈ [Cause.duplex, .poison], (tr c).quiet = true ∧ (tr c).restarts c = false) ∧ (tr .poison).trap.map (·.trap.cause) = some .poison ∧
    (let r := { tr .poison with sys := { us.sys with rgnpc := 0x1002 } }; r.sys.rgnpc ≠ 0 ∧ r.sys.rgnpc.toNat % 4 < 3 ∧ r.quiet = true) ∧
    (let w := { us with sys := { us.sys with armed := some 50, wdog := 0 } }
     (on w).thread 0 = w ∧ w.running = true ∧ w.act.isSome ∧ w.sup = false ∧ w.trap = none ∧ w.rep = none ∧ w.sys.armed = some 50 ∧ w.quiet = true) := by decide +kernel

/-- Boot as it stands once an image has been staged, and the pieces of a die's flood. -/
def bo (st : BootSt) (image : List Byte) : State := { on sv with boot := { st := st, stage := image } }
theorem wit_BootEvents : (on sv).boot.st = .wait ∧ State.imageCode [] ≠ 0 ∧ (bo .checking []).boot.st = .checking ∧ (bo .running []).boot.st = .running ∧
    (let m := mg MT.discover (.router 33); (sent m).deliver 0 = some m) ∧
    (let m := { mg MT.nack (.router 32) .rsp with frm := .router 33, w := #v[0, 0, 0, 0, MT.discover.setWidth 64, 0] }; (sent m).deliver 0 = some m ∧ State.corner 1 = 32) ∧
    (let s := { (bo .running []).modDie 3 (fun x => { x with floodAt := some 0, absorbed := List.range 1022 }) with time := 4096 }
     (s.die 3).floodAt = some 0 ∧ (0 : Word) + 4096 ≤ s.time ∧ State.dieOf 4095 = 3 ∧ State.dieIndex 4095 = 1023 ∧ 1023 ∉ (s.die 3).absorbed) ∧
    (let s := (bo .running []).modDie 0 (fun x => { x with absorbed := (List.range 1023).map (· + 1) }); (s.die 0).floodDone = false ∧ (s.die 0).absorbed.length = 1023) ∧
    (let s := { on sv with l2p := { base := [], upd := [{ writer := 0, idx := 3999, val := 0x1005, got := [0], held := [0] }] } }
     s.l2p.upd = [{ writer := 0, idx := 3999, val := 0x1005, got := [0], held := [0] }] ∧ 4095 ∉ [0]) ∧
    (let s := { on sv with boot := { pending := some 5 } }; s.boot.pending = some 5) ∧
    (let s := { on sv with ctxs := [(1, { func := 64, st := .active })] }; s.funcSlot 64 = some 1) := by decide +kernel
/-- An image with the magic word, the greatest SVN and zero fields. -/
def im : List Byte := [0x42, 0x4F, 0x4F, 0x54, 0xFF, 0xFF]
-- Whether an image passes rests on the hash, the signature and the fuses; with those that accept this one, it does.
theorem wit_BootEvents_image (h1 : (Config.sha512 (stageBytes im 0x20 32)).setWidth 256 = Config.keyFuse)
    (h2 : Config.ed25519Ok (BitVec.ofNat 256 (bytesNat (stageBytes im 0x20 32))) (BitVec.ofNat 512 (bytesNat (stageBytes im 0x40 64)))
      (stageBytes im 0 64 ++ bytesOf (Config.sha512 (stageBytes im 128 16384)).toNat 64) = true) : State.imageCode im = 0 := by
  have a : bytesNat (stageBytes im 0 4) = 0x544F4F42 := by decide +kernel
  have b : bytesNat (stageBytes im 6 26) = 0 := by decide +kernel
  have c : bytesNat (stageBytes im 4 2) = 0xFFFF := by decide +kernel
  have d := Config.svnFuse.isLt
  simp only [State.imageCode, a, b, c, h1, h2]
  simp
  omega

/-- Context slot 1 in a state, the supervisor's CTXSEL 1. -/
def cs (c : CtxSlot) : State := { onc sv { sel := { ctxsel := 1 } } with ctxs := [(1, c)] }
/-- Rectangles of one site, and of two. -/
def one : BitVec 24 := 0
def two : BitVec 24 := 1 * 2 ^ 12
theorem wit_ContextEvents :
    (let s := cs { tenant := 5, key := some 1 }
     s.myCore.sel.ctxsel.toNat = 1 ∧ (s.slotOf 1).st = .free ∧ s.rectErr 1 0 (State.ctxSites 0) = 0 ∧ s.tenantUsed 1 5 = false) ∧
    (let s := cs { st := .active, key := some 1 }
     (s.slotOf 1).st ≠ .free ∧ State.rectIn 0 0x1000 = true ∧ State.rectIn 0x1000 0 = false ∧ State.rectIn 0x40 0x1000 = false ∧ State.rectIn 0x1000 0x40 = false ∧
      s.rectErr 1 0x1000 ((State.ctxSites 0x1000).filter fun p => !(State.ctxSites 0).contains p) = 0) ∧
    (∀ p ∈ State.ctxSites 0x1000, ((cs { st := .creating, newRect := 0x1000 }).core p).scrub = none) ∧
    (cs { st := .shrinking }).groups = [] ∧ (∀ p ∈ State.ctxSites 0x1000, ((cs { st := .shrinking }).core p).tags.copies = [] ∧ ((cs { st := .shrinking }).core p).eng = []) ∧
    (∀ p ∈ State.ctxSites 0, let s := cs { st := .destroying }; (s.core p).scrub = none ∧ (s.core p).tags.copies = [] ∧ (s.core p).eng = [] ∧
      (s.chan 0).queue = [] ∧ (s.chan 0).injected = false) ∧
    (let s := cs { st := .destroying, key := some 1 }
     (s.slotOf 1).key.isSome ∧ (∀ p ∈ State.ctxSites 0, (s.core p).tags.copies = [] ∧ (s.core p).eng = []) ∧ (s.chan 0).queue = [] ∧ (s.chan 0).injected = false) ∧
    ((cs { st := .destroying }).slotOf 1).key = none ∧ ((onc sv { scrub := some 0 }).core 0).scrub = some 0 := by decide +kernel

/-- Function 1 bound to slot 1, with its channel. -/
def ch (c : Chan) (x : Thread := sv) : State := { on x with ctxs := [(1, { func := 1, st := .active })], chans := [(1, c)], boot := { st := .running } }
/-- A frame of a type, with SEQ 1. -/
def fr (y : Nat) : BitVec 512 := BitVec.ofNat 512 (1 + y * 2 ^ 32)
theorem wit_HostEvents :
    (let v : Word := 0x8DFFC0
     v.toNat % 64 = 0 ∧ v.toNat % 2 ^ 19 + 64 = 0x60000 ∧ v.toNat / 2 ^ 19 % 128 = 17) ∧ (ch {}).openSlot 1 = some { func := 1, st := .active } ∧
    (let s := ch { queue := [{ body := 5, sender := none }] }
     (s.chan 1).queue = { body := 5, sender := none } :: [] ∧ ((s.chan 1).dseq + 1 - (s.chan 1).drhead).toNat ≤ 2 ^ (s.chan 1).drsize.toNat) ∧
    (frameSeq (fr 2)).toNat % 64 = 1 % 64 ∧ seqAbove (frameSeq (fr 2)) 0 = true ∧ seqAbove (frameSeq (fr 2)) (0 + 64) = false ∧
    (∀ y ∈ [0, 2, 3, 4], let s := ch { got := [fr y] }
      (s.chan 1).got.find? (fun x => frameSeq x == (s.chan 1).hseqack + 1) = some (fr y) ∧ (s.chan 1).injected = false ∧ s.boot.st = .running ∧ s.openSlot 1 = some { func := 1, st := .active } ∧ frameGet (fr y) 4 1 = y) ∧
    (let m := mg MT.hostframe (.core 5); let s := sent m ((ch {}).setCore 5 tk)
     s.boot.st = .running ∧ s.deliver 0 = some m ∧ s.waitsTurn 5 m = false ∧ (sent m (ch {})).waitsTurn 5 m = true) ∧
    (let m := mg MT.hostframe (.core 5); (sent m).deliver 0 = some m ∧ ((sent m).dropMsg 0).present 5 = true ∧ ((sent m).dropMsg 0).tenantOk 5 m = true ∧
      ((sent m { on sv with fused := [5] }).dropMsg 0).present 5 = false ∧ ((sent m).dropMsg 0).tenantOk 5 { m with tenant := 5 } = false) ∧
    ((ch {}).funcSlot 2).isNone = true ∧
    (let s := { ch { gapSince := some 0 } with time := 0x100000 }; (s.chan 1).gapSince = some 0 ∧ (s.chan 1).gapSent = false ∧ 2 ^ 20 ≤ (s.time - 0).toNat) ∧
    ((ch {}).funcSlot 1).isSome ∧ ((ch {}).chan 1).dseq = ((ch {}).chan 1).drhead ∧ ((ch { dseq := 1 }).chan 1).dseq ≠ ((ch { dseq := 1 }).chan 1).drhead ∧
    linesOf 0x1000 128 = [(0x1000, 0, 128)] := by decide +kernel

theorem wit_HostEvents_memory : (on sv).hbm.flaws 1 0x1000 64 false ≠ [] ∧ 0x1000 + 64 ≤ 2 ^ (30 + (on sv).boot.bar2) ∧ 2 ^ (30 + (on sv).boot.bar2) < 2 ^ 30 - 63 + 64 ∧ (on sv).hbm.write 1 0x1000 32 7 false = none ∧ linesOf 0x1000 32 = [(0x1000, 0, 32)] ∧
    (let h := ((on sv).hbm.write 1 0x1000 64 7 false).getD (on sv).hbm
     ((on sv).hbm.write 1 0x1000 64 7 false).isSome ∧ h.flaws 1 0x1000 64 false = [] ∧ h.mended 1 0x1000 64 = []) ∧ linesOf 0x1000 64 = [(0x1000, 0, 64)] := by
  decide +kernel

/-- Agreed, lane 4 receives, lane 0 turns. -/
def ag : Port := { agreed := true, work := 0x10, turning := 1 }
theorem wit_LinkEvents : ((0x800000000 : Word).extractLsb' 34 2 = 2) ∧ (on sv).port 35 = {} ∧ ({} : Port).agreed = false ∧ ag.agreed = true ∧
    (0x0300 : Word).extractLsb' 8 8 ≠ ag.en ∧ ag.work &&& (0x0300 : Word).extractLsb' 8 8 &&& (0x0300 : Word).extractLsb' 0 8 = 0 ∧
    (let q : Port := { draws := [(7, 0)], turning := 0x80 }; Map.find q.draws 7 = some 0 ∧ q.agreed = false ∧ q.turning.getLsbD 7 = true) ∧
    (let q : Port := { turning := 0x80, heard := true, draws := [(7, 0)] }; q.agreed = false ∧ q.heard = true ∧ q.turning.getLsbD 7 = true) ∧
    ({} : Port).heard = false ∧ ({ on sv with nodeId := 1056 } : State).nodeId.toNat < 1057 ∧
    ag.turning.getLsbD 0 = true ∧ ag.carried = [] ∧ ag.rx ≠ 0 ∧
    Wire.good 0 = false ∧ (let f := Wire.make 0 0 false none []; Wire.good f = true ∧ Wire.seq f = ag.expect ∧ Wire.used f = 0 ∧ Wire.nak f = false) ∧
    (let q : Port := { st := .up, buf := [(0, 0)] }; q.st = .up ∧ q.buf ≠ [] ∧ q.progress + 4096 ≤ 4096) ∧
    (let q : Port := { toSend := [(0, 0, 1)] }; q.st = .down ∧ q.toSend ≠ []) ∧ Wire.used (Wire.make 0 0 false none [(0, 0)]) ≠ 0 ∧
    (let m := mg MT.marker .gate; (sent m).deliver 0 = some m ∧ (sent m).mustRefuse m = false ∧ (sent m).stillComing m = false) := by decide +kernel

theorem wit_PowerAndDebugEvents :
    (let s := { onc {} {} with time := 65536 }
     s.active 1 = true ∧ (s.core 1).gated = false ∧ (s.core 1).gateHold = none ∧ (s.core 1).ctx = 0 ∧ s.hasMember 1 = false ∧ (s.core 1).ran + 65536 ≤ s.time) ∧
    ((onc {} { gateHold := some 0 }).core 0).gateHold = some 0 ∧
    (let s := (on sv).modDie 3 fun x => { x with drpctl := 0x102, supply := [(15, 3)] }; (s.die 3).drpctl.getLsbD 8 = true ∧ (s.die 3).drpctl.toNat % 256 < (Map.find (s.die 3).supply 15).getD 0 ∧
      (Map.find (s.die 3).supply 14).getD 0 ≤ (s.die 3).drpctl.toNat % 256 ∧ Map.find (s.die 3).fired 15 = none) ∧
    (let s := { (on sv).modDie 3 fun x => { x with fired := [(15, 0)] } with time := 65536 }; Map.find (s.die 3).fired 15 = some 0 ∧ (0 : Word) + 65536 ≤ s.time) ∧
    (let h : Hbm := { rowErr := [(8 * 5 + 7, 4)] }; 4 ≤ Map.get (fun _ => 0) h.rowErr (8 * 5 + 7) ∧ Map.get (fun _ => 0) h.rowErr (8 * 5 + 6) < 4) ∧
    (let c : Trace := { buf := [9] }; 32 ≤ c.ringSize - c.inRing ∧
      ((on sv).hbm.write 1 (c.trbase.toNat + c.trhead.toNat % c.ringSize) 32 9 false).isSome = false ∧
      ((on sv).hbm.claim 1 0 64).mended 1 (c.trbase.toNat + c.trhead.toNat % c.ringSize) 32 true = [] ∧
      (((on sv).hbm.claim 1 0 64).write 1 (c.trbase.toNat + c.trhead.toNat % c.ringSize) 32 9 false).isSome) := by decide +kernel
/-- A checkpoint of slot 1, which has a key or none. -/
def ck (e : Option Nat) (x : Ckpt) : State := { on sv with ctxs := [(1, { tenant := 5, st := .active, key := e })], ckpts := [x] }
def c0 : Ckpt := { slot := 1, key := 0, handle := 0, dest := 0, room := 0, va := 0, upto := 65536, incr := 0, mode := 0 }
theorem wit_PowerAndDebugEvents_ckpt :
    (∀ x ∈ [c0, { c0 with ending := some 0 }, { c0 with cur := some { addr := 0, page := 0, pa := 0, large := false, unit := 0, upto := 1, clear := true } }],
      (ck (some 9) x).ckpts.find? (fun x => x.slot == 1) = some x ∧ x.await = 0) ∧
    (ck none c0).keyOf ((ck none c0).slotOf 1).tenant = none ∧ (ck (some 9) c0).keyOf ((ck (some 9) c0).slotOf 1).tenant = some 9 ∧
    (ck (some 9) c0).nextLeaf 0 65536 (c0.mode == 2) ((65536 - 0) / 65536 + 1) 0 = none := by decide +kernel

/-- A bundle of one slot ended with its effects. -/
def okay (r : Host.Outcome State Fault Refusal) : Bool := match r with
  | .next t => t.ctx.last == .done
  | .fault _ => false
  | .refused _ => false
theorem wit_ComputeFrame : Part.dests (.add 5 6 7) = some [.x 5] ∧ Part.dests (.vwma 2 4 5 .i8 0 1) = some [.v 2, .v 3] ∧ Part.dests (.jal 0) = some [.x 1] ∧
    (on sv).ctx.form = .lone ∧ okay (exec (.add 5 6 7) (on sv)) = true ∧ okay (exec (.jal 1) (on us)) = true := by decide +kernel
theorem wit_AccessFrame : (accOf (on ar).entered (.lds 5 1 0 3 3 0)).isSome ∧ okay (exec (.lds 5 1 0 3 3 0) (on ar)) = true := by decide +kernel
theorem wit_ZeroRegister : (5 : XReg) ≠ 0 ∧ (6 : XReg) ≠ 5 := by decide

/-- The word that a fetch gives. -/
def fetched (r : Fetched) : Option IWord := match r with
  | .word w _ => some w
  | .held _ => none
  | .fault _ _ _ => none
/-- The words at the pc of a state made to run a word, and 4 bytes on. -/
def twoWords (w : Nat) : Option IWord × Option IWord :=
  let s := (State.reset.withFetchWord 32 w).begun 0 0 4
  (fetched (s.fetchWord s.ctx.pc), fetched (({ s with ctx := { s.ctx with next := s.ctx.pc + 8 } }).fetchWord (s.ctx.pc + 4)))
theorem wit_Framing : twoWords 0x8018E800 = (some 0, some 0x8018E800) ∧ twoWords 0 = (some 0, some 0xBF800000) ∧
    isA 0xC018E800 = true ∧ isLone 0xC018E800 = true ∧ isA 0x8018E800 = true ∧ isLone 0x8018E800 = false ∧ isA 0xBF800000 = true ∧ isLone 0xBF800000 = false ∧
    isA 0x46000000 = false ∧ isLone 0x46000000 = true ∧ major 0x46000000 = 6 ∧ isA 0x06000000 = false ∧ isLone 0x06000000 = false ∧ major 0x06000000 = 6 ∧
    twoWords 0x46000000 = (some 0x46000000, some 0xFF800000) ∧ isA 0xFF800000 = true ∧ isLone 0xFF800000 = true ∧
    isA 0 = false ∧ isLone 0 = false ∧ major 0 ≠ 6 ∧ decodeWord 0x47000000 = .error .reservedMajor ∧
    ((0 : Word).getLsbD 2 = false ∧ (4 : Word).getLsbD 2 = true) ∧ ((on sv).cur.consume { cause := .framing, slot := false, val := 0 }).quiet = true := by decide +kernel

/-- How a slot that runs as the first or the second of a pair ends. -/
def endOf (i : Instr) (s : State) : Option SlotEnd := match exec i s with
  | .next t => some t.ctx.last
  | .fault _ => none
  | .refused _ => none
/-- The state after the C-slot of a pair. -/
def after (c : Instr) (s : State) : State := match exec c (s.openBundle.withWord .cslot 0) with
  | .next t => t
  | .fault _ => s
  | .refused _ => s
theorem wit_PairsAndWaits : (encode true (.add 5 6 7)).isSome ∧ mustWait (.add 6 5 7) (on busy) = true ∧
    mustWait (.nop) (on sv).openBundle = false ∧ mustWait (.add 5 6 7) ((after .nop (on sv)).withWord .aslot 0) = false ∧
    endOf .nop ((on sv).openBundle.withWord .cslot 0) = some .done ∧ (after .nop (on sv)).ctx.last = .done ∧
    endOf (.add 5 6 7) ((after .nop (on sv)).withWord .aslot 0) = some .done ∧ (on sv).pairConflict .nop (.add 5 6 7) 0 = [] ∧
    -- a fault of the second slot, two writes of one register, and a wait of the body
    endOf (.vins 1 2 3 .f32) ((after .nop (on sv)).withWord .aslot 0) = some .done ∧
    endOf (.aaddi 1 1 1) ((after .nop (on sv)).withWord .aslot 0) = some (.raise { cause := .bound, slot := true, val := 1 }) ∧
    (on sv).pairConflict .nop (.aaddi 1 1 1) 0 = [] ∧
    RegRef.x 5 ∈ writesOf (.crr 5 0x082) ∧ RegRef.x 5 ∈ writesOf (.add 5 6 7) ∧ State.windowed (.crr 5 0x082) = [] ∧
    mustWait (.nop) (on busy).openBundle = false ∧ mustWait (.add 6 5 7) ((after .nop (on busy)).withWord .aslot 0) = true := by decide +kernel
/-- The second slot's state where the first one has not ended with its effects. -/
def second (s : State) : State := s.openBundle.withWord .aslot 0
theorem wit_PairsAndWaits_faults :
    -- the C-slot raises, alone, with the A-slot, and beside two writes of one register
    endOf (.ready 12 13) ((on sv).openBundle.withWord .cslot 0) = some (.raise { cause := .operand, slot := false, val := 0 }) ∧
    endOf (.rdyq 5 12 15) ((on sv).openBundle.withWord .cslot 0) = some (.raise { cause := .operand, slot := false, val := 0 }) ∧
    endOf (.add 5 6 7) (second (on sv)) = some .done ∧ endOf (.aaddi 1 1 1) (second (on sv)) = some (.raise { cause := .bound, slot := true, val := 1 }) ∧
    (on sv).pairConflict (.ready 12 13) (.aaddi 1 1 1) 0 = [] ∧ ((on sv).pairConflict (.rdyq 5 12 15) (.add 5 6 7) 0).length = 1 ∧
    -- the A-slot raises beside two writes of one register
    endOf (.vext 5 1 3 .i32 false) ((after (.crr 5 0x082) (on (sv.setX 3 128))).withWord .aslot 0) = some (.raise { cause := .operand, slot := true, val := 0 }) ∧
    (after (.crr 5 0x082) (on (sv.setX 3 128))).ctx.last = .done ∧ ((on sv).pairConflict (.crr 5 0x082) (.vext 5 1 3 .i32 false) 0).length = 1 ∧
    -- the C-slot waits, by itself or for another agent; the A-slot waits
    endOf (.fence .die .full) ((on busy).openBundle.withWord .cslot 0) = some .wait ∧ waitActs (.fence .die .full) = false ∧
    endOf (.barrw 5) ((bt { part := 0x8000 }).openBundle.withWord .cslot 0) = some .wait ∧ waitActs (.barrw 5) = true ∧
    (on sv).pairConflict (.barrw 5) (.add 9 6 7) 0 = [] ∧ endOf (.add 9 6 7) (second (bt { part := 0x8000 })) = some .done ∧
    endOf (.aaddi 1 1 1) (second (bt { part := 0x8000 })) = some (.raise { cause := .bound, slot := true, val := 1 }) ∧
    endOf (.vexp2 1 2 .f32 0) ((after .nop (onc sv { sfu := List.replicate 8 (sfq true) })).withWord .aslot 0) = some .wait ∧
    mustWait (.ready 12 13) (on sv).openBundle = false ∧ mustWait (.aaddi 1 1 1) (second (on sv)) = false ∧
    mustWait (.fence .die .full) (on busy).openBundle = false ∧ mustWait (.barrw 5) (bt { part := 0x8000 }).openBundle = false ∧
    mustWait (.aaddi 1 1 1) (second (bt { part := 0x8000 })) = false := by decide +kernel
theorem wit_Privilege : (on us).src.sup = false ∧ (∀ i ∈ [Instr.eret, .amake 1 2 3, .gnew 5 6, .gpark 5 6, .grun 5 6, .gplace 5 6 7, .gend 5 6 7, .barcfg 5 6 7, .tlbinv 5 6,
      .icinv 5 6, .ckpt 5 6, .errclr 5 6, .coreret 5 6 7, .mapsetStat 5 6 7, .mapsetOpen 5 6 7, .keyslotStat 5 6, .keyslotErase 5 6],
      mustWait i (on us) = false ∧ mustWait i (aslot (on us)) = false) ∧
    (∀ o ∈ (on us).src.outst, ∀ e, o.err = some e → 2 ≤ e.cause.rank) ∧ (∀ m ∈ (on us).src.marks, 2 ≤ m.cause.rank) ∧
    (∀ i ∈ [Instr.crr 5 0x800, .crw 5 0x180, .crset 5 0x180, .crclr 5 0xFFF], Clear i (on us)) ∧ (on us).entered.src.sup = false ∧
    crAssigned 0x180 = true ∧ crSup 0x180 = true := by
  refine ⟨by decide +kernel, by decide +kernel, ?_, ?_, by decide +kernel, by decide +kernel, by decide +kernel, by decide +kernel⟩
  · have : (on us).src.outst = [] := by decide +kernel
    simp [this]
  · have : (on us).src.marks = [] := by decide +kernel
    simp [this]

/-- The first turn of a state made to run a word, as StepRunsDecoded takes it apart. -/
def turnOf (w : Nat) : State := (({ State.reset.withFetchWord 32 w with agenda := [] }).elapse 1)
theorem wit_StepRunsDecoded : (∀ w ∈ [0xC018E800, 0x47000000, 0x8018E800, 0x46000000], (State.reset.withFetchWord 32 w).agenda = (1, .issue 0 0) :: [] ∧
      let u := turnOf w
      u.throttled = false ∧ (u.thread 0).leave = none ∧ u.mayIssue 0 = true ∧ (u.thread 0).duplex = none ∧ (u.thread 0).expired = false ∧ (u.thread 0).rep = none ∧ (u.thread 0).pc = 0 ∧
        (u.core 0).icache = [] ∧ (u.core 0).mem.pois = []) ∧
    fetched (((turnOf 0xC018E800).begun 0 0 4).fetchWord 0) = some 0xC018E800 ∧
    twoWords 0x8018E800 = (some 0, some 0x8018E800) ∧ twoWords 0x46000000 = (some 0x46000000, some 0xFF800000) ∧
    isLone 0xC018E800 = true ∧ isA 0xC018E800 = true ∧ decodeWord 0xC018E800 = .ok (.add 6 7 8) ∧ decodeWord 0x47000000 = .error .reservedMajor ∧
    decodeWord 0x46000000 = .ok (.rep 0 0 0 0 0) ∧ decodeWord 0 = .ok .nop ∧ decodeWord 0x8018E800 = .ok (.add 6 7 8) := by decide +kernel
theorem wit_StepRunsDecoded_watchdog :
    let u := { on { us with sys := { us.sys with armed := some 50, wdog := 0 } } with agenda := [(1, .issue 0 0)], boot := { st := .running } }
    u.agenda = (1, .issue 0 0) :: [] ∧ (u.elapse 1).throttled = false ∧ ((u.elapse 1).thread 0).leave = none ∧ (u.elapse 1).mayIssue 0 = true ∧
      ((u.elapse 1).thread 0).expired = true := by decide +kernel
theorem wit_StepRunsDecoded_event : ∀ x : State, (Event.floodEnd 0).perform x = exec (.floodEnd 0) x := fun _ => rfl
theorem wit_DecodeEncode : (Instr.add 6 7 8).wf = true ∧ encode true (.add 6 7 8) = some 0xC018E800 ∧ (Instr.mapsetOpen 5 6 7).wf = true ∧
    (encode true (.mapsetOpen 5 6 7)).isSome := by decide +kernel
theorem wit_EncodeDecode : decodeWord 0xC018E800 = .ok (.add 6 7 8) ∧ decodeWord 0x06000000 = .ok (.rep 0 0 0 0 0) := by decide +kernel
theorem wit_MemoryForm : (on sv).memWf ∧ (match step (on sv) with | .next _ => true | .fault _ => false | .refused _ => false) = true := by
  refine ⟨⟨by decide +kernel, by decide +kernel, fun c => ?_⟩, by decide +kernel⟩
  have h : (({} : Core).mem.bytes).wf := by decide +kernel
  exact h


/-! ### Results worked out in the spec -/

/-- Register x5 after a lone instruction that ended with its effects. -/
def x5 (i : Instr) (s : State) : Option Word := match exec i s with
  | .next t => if t.ctx.last = .done then some (t.cur.getX 5) else none
  | .fault _ => none
  | .refused _ => none
/-- A lane of v1 after a lone instruction. -/
def v1lane (w k : Nat) (i : Instr) (s : State) : Option Nat := match exec i s with
  | .next t => if t.ctx.last = .done then some ((t.cur.getV 1).toNat / 2 ^ (w * k) % 2 ^ w) else none
  | .fault _ => none
  | .refused _ => none
/-- x6 and x7 of a running thread. -/
def xs (a b : Word) : State := on ((sv.setX 6 a).setX 7 b)
/-- R95: division by zero, and the most negative number by -1. -/
theorem test_div : x5 (.div 5 6 7) (xs 9 0) = some (-1) ∧ x5 (.rem 5 6 7) (xs 9 0) = some 9 ∧
    x5 (.div 5 6 7) (xs 0x8000000000000000 (-1)) = some 0x8000000000000000 ∧ x5 (.rem 5 6 7) (xs 0x8000000000000000 (-1)) = some 0 := by decide +kernel
theorem test_divu : x5 (.divu 5 6 7) (xs 9 0) = some (-1) ∧ x5 (.remu 5 6 7) (xs 9 0) = some 9 ∧ x5 (.divu 5 6 7) (xs 0x8000000000000000 (-1)) = some 0 := by
  decide +kernel
/-- R96: LUI and LCAT. -/
theorem test_wide : x5 (.lui 5 0x1FFF) (xs 0 0) = some (BitVec.ofInt 64 (-8192)) ∧ x5 (.lcat 5 0x1FFF) (on (sv.setX 5 1)) = some 0x3FFF := by decide +kernel
/-- R80, R92: 2^24 + 1 rounds to even, 2 + 2^24 is exact, 2^24 - 2^24 is +0. -/
theorem test_fadd : x5 (.fadd 5 6 7 0) (xs 0x4B800000 0x3F800000) = some 0x4B800000 ∧ x5 (.fadd 5 6 7 0) (xs 0x40000000 0x4B800000) = some 0x4B800001 ∧
    x5 (.fadd 5 6 7 0) (xs 0x4B800000 0xCB800000) = some 0 := by decide +kernel
/-- R83: 100 + 100 in I8, wrapped and saturated; 0 - 1 unsigned. -/
theorem test_vadd : v1lane 8 511 (.vadd 1 2 3 .i8 0 0) (on ((sv.setV 2 (BitVec.ofNat 4096 (100 * 2 ^ 4088))).setV 3 (BitVec.ofNat 4096 (100 * 2 ^ 4088)))) = some 0xC8 ∧
    v1lane 8 511 (.vadd 1 2 3 .i8 0 1) (on ((sv.setV 2 (BitVec.ofNat 4096 (100 * 2 ^ 4088))).setV 3 (BitVec.ofNat 4096 (100 * 2 ^ 4088)))) = some 0x7F := by
  decide +kernel
theorem test_vsub : v1lane 8 0 (.vsub 1 2 3 .i8 0 2) (on (sv.setV 3 1)) = some 255 ∧ v1lane 8 0 (.vsub 1 2 3 .i8 0 3) (on (sv.setV 3 1)) = some 0 := by decide +kernel
/-- R86: the 2-bit views of -1 and of -128. -/
theorem test_views : bpiView 2 false (fun _ => true) = -64 ∧ bpiView 2 true (fun _ => true) = -32 ∧ bpiView 2 false (fun j => j == 0) = -128 ∧
    bpiView 2 true (fun j => j == 0) = -96 := by decide +kernel
/-- R147: the slices of the addresses that the chapter lists. -/
theorem test_slices : sliceOf 0 = 0 ∧ sliceOf 0x80 = 1 ∧ sliceOf 0x100 = 2 ∧ sliceOf 0x4000 = 1 ∧ sliceOf 0x204080 = 1 ∧ sliceOf 0x200080 = 0 := by decide
/-- R11, R12: the site codes of the worked example. -/
theorem test_sites : State.dieSite 1 116 = 0x0F4 ∧ State.dieSite 1 1010 = 0x7F2 ∧ State.dieIndex 0x0F4 = 116 := by decide
/-- R347: node 67 and node 1 are not adjacent; node 33 lies between them, and is not self-orthogonal; node 1 is. -/
theorem test_pod : Pod.adjacent 67 1 = false ∧ Pod.between 67 1 = some 33 ∧ Pod.adjacent 67 33 = true ∧ Pod.adjacent 33 1 = true ∧
    Pod.orthogonal 33 33 = false ∧ Pod.orthogonal 1 1 = true := by decide +kernel
/-- R326, R327: the tables of the worked example at 0x10000, 0x20000 and 0x40000, written under the key of tenant 0. -/
def tables : State :=
  let w := fun (h : Hbm) (pa v : Nat) => ((h.claim 1 pa 8).write 1 pa 8 v false).getD h
  { on sv with hbm := w (w (w (on sv).hbm 0x10018 0x20001) 0x20028 0x40001) 0x40038 0x300C7 }
theorem test_walk : (tables.walk 0x10000 0x0C00A0079AB0).map (fun l => (l.addr, l.val, l.large)) = some (0x40038, 0x300C7, false) ∧
    frameOf 0x300C7 + 0x0C00A0079AB0 % 65536 = 0x39AB0 := by decide +kernel
/-- R344: the CRC-32 of IEEE 802.3, at the standard's own check value. -/
theorem test_crc : crc32 [0x31, 0x32, 0x33, 0x34, 0x35, 0x36, 0x37, 0x38, 0x39] = 0xCBF43926 := by decide +kernel

/-- The pc, ECAUSE and EVAL after one step of a state made to run a word. -/
def oneStep (w : Nat) (f : State → State := id) : Option (Word × BitVec 9 × Word) := match step (f (State.reset.withFetchWord 32 w)) with
  | .next t => some ((t.thread 0).pc, (t.thread 0).sys.ecause, (t.thread 0).sys.eval)
  | .fault _ => none
  | .refused _ => none
/-- The chapter of encodings: a lone ADD and a pair issue; the fates of the words after them. -/
theorem test_step_issue : oneStep 0xC018E800 = some (4, 0, 0) ∧ oneStep 0x8018E800 = some (8, 0, 0) := by decide +kernel
theorem test_step_illegal : oneStep 0x47000000 = some (0, 1, 0x47000000) ∧ oneStep 0xFFFFFFFF = some (0, 1, 0xFFFFFFFF) ∧
    oneStep 0x34000009 = some (0, 1, 0x34000009) ∧ oneStep 0xBBC00000 = some (0, 0x101, 0xBBC00000) := by decide +kernel
theorem test_step_privilege : oneStep 0x34000000 (fun s => s.modThread 0 fun t => { t with sup := false }) = some (0, 3, 0x34000000) := by decide +kernel
theorem test_step_framing : oneStep 0xC018E800 (fun s => s.setCore 0 { s.core 0 with mem := { (s.core 0).mem with bytes := (s.core 0).mem.bytes.store 0 8 0xC018E80014288098 } }) =
    some (0, 2, 0xC018E800) := by decide +kernel

end Sys2Proof.Tests
end

section
/-! ### x0, and the write of one register (R21) -/

namespace Sys2Proof.Machine

@[simp] theorem State.cur_wx (u : State) (d : XReg) (v : Word) : (u.wx d v).cur = u.cur.setX d v := State.cur_modCur u _

/-- A write to x0 changes no register (R21). -/
theorem Thread.setX_zero_regs (t : Thread) (v : Word) : (t.setX 0 v).regs = t.regs := rfl

/-- Settles O49: the two readings of x[d] after a write, and the files that the write does not touch. -/
theorem zeroRegister : Obligations.ZeroRegister := by
  intro u d r v
  simp only [State.cur_wx, Thread.getX_zero, Thread.setX_zero_regs, Thread.setX_regs_v, Thread.setX_regs_a, Thread.setX_regs_m, true_and, and_true]
  exact ⟨Thread.getX_setX_same _ _ _, Thread.getX_setX_ne _ _ _ _⟩

end Sys2Proof.Machine
end

section
/-! ### The turn of a thread, from the agenda to the bundle (R38 to R42, R54) -/

namespace Sys2Proof.Machine.State

/-- A turn of a thread, where no core skips its issue slot. -/
theorem step_issue {s : State} {d site thr : Nat} {r : List (Nat × Turn)} (ha : s.agenda = (d, .issue site thr) :: r)
    (ht : (({ s with agenda := r }).elapse d).throttled = false) :
    step s = (({ s with agenda := r }).elapse d).turnOf (4 * site + thr % 4) := by
  simp [step, turn, take, ha, ht, keyAt]

/-- A turn of an event. -/
theorem step_event {s : State} {d : Nat} {e : Event} {r : List (Nat × Turn)} (ha : s.agenda = (d, .event e) :: r) :
    step s = e.perform (({ s with agenda := r }).elapse d) := by
  simp [step, turn, take, ha]

/-- WATCHDOG takes the turn of the bundle (R32). -/
theorem turnOf_expired {u : State} {key : Nat} (hl : (u.thread key).leave = none) (hm : u.mayIssue key = true)
    (he : (u.thread key).expired = true) : u.turnOf key = execWatchdog (key / 4) (key % 4) u := by
  simp [turnOf, hl, hm, he]

/-- A bundle takes its turn, where its Referee has room for its messages (R368). -/
theorem turnOf_bundle {u t : State} {key : Nat} (hl : (u.thread key).leave = none) (hm : u.mayIssue key = true)
    (he : (u.thread key).expired = false) (hd : (u.thread key).duplex = none) (hb : u.bundleTurn key = .next t) :
    u.turnOf key = .next (if u.refereeFull t key = true then u else t.noted key (u.thread key).pc) := by
  simp only [turnOf, hl, hm, he, hd, hb, Option.isSome_none, Bool.false_eq_true, if_false, Bool.true_eq_false]
  split <;> rfl

/-- Outside a REP unit the turn begins with the word at the pc (R38, R39). -/
theorem bundleTurn_word {u v : State} {key : Nat} {w : IWord} (hr : (u.thread key).rep = none)
    (hf : (u.begun key (u.thread key).pc 4).fetchWord (u.thread key).pc = .word w v) : u.bundleTurn key = v.frame w := by
  have hf' : (u.begun key (u.thread key).pc 4).fetchWord (u.begun key (u.thread key).pc 4).ctx.pc = .word w v := hf
  simp only [bundleTurn, hr, nextBundle, hf']

/-- A lone word that is no REP word issues by itself (R38). -/
theorem frame_lone {v : State} {w : IWord} (hl : isLone w = true) (h : isA w = true ∨ major w ≠ 6) : v.frame w = v.issueLone w := by
  have hrep : (!isA w && major w == 6) = false := by
    rcases h with h | h
    · simp only [h, Bool.not_true, Bool.false_and]
    · simp only [beq_eq_false_iff_ne.2 h, Bool.and_false]
  simp only [frame, hl, hrep, Bool.not_true, Bool.and_false, Bool.false_eq_true, if_false, if_true]

/-- The second word of a bundle, once fetched, is taken with the first. -/
theorem second_word {s u : State} {w : IWord} {k : State → IWord → Host.Outcome State Fault Refusal}
    (h : s.fetchWord (s.ctx.pc + 4) = .word w u) : s.second k = k u w := by simp only [second, h]

/-- The two words of a pair (R38). -/
theorem frame_pair {v v1 : State} {w w1 : IWord} (ha : isA w = false) (hl : isLone w = false) (hm : major w ≠ 6)
    (hp : v.ctx.pc.getLsbD 2 = false)
    (h2 : ({ v with ctx := { v.ctx with next := v.ctx.pc + 8 } }).fetchWord (v.ctx.pc + 4) = .word w1 v1)
    (ha1 : isA w1 = true) (hl1 : isLone w1 = false) : v.frame w = v1.decodePair w w1 := by
  simp only [frame, ha, hl, hm, hp, second_word h2, ha1, hl1, Bool.not_false, Bool.not_true, Bool.false_and, Bool.true_and,
    Bool.false_eq_true, if_false, beq_iff_eq, Bool.or_false]

/-- The two words of a REP unit (R38, R111). -/
theorem frame_rep {v v1 : State} {w w1 : IWord} (ha : isA w = false) (hl : isLone w = true) (hm : major w = 6)
    (h2 : ({ v with ctx := { v.ctx with next := v.ctx.pc + 8 } }).fetchWord (v.ctx.pc + 4) = .word w1 v1)
    (ha1 : isA w1 = true) (hl1 : isLone w1 = true) : v.frame w = v1.issueRep w w1 := by
  simp only [frame, ha, hl, hm, second_word h2, ha1, hl1, Bool.not_false, Bool.not_true, Bool.false_and, Bool.true_and, beq_self_eq_true,
    Bool.false_eq_true, if_false, if_true, Bool.or_false]

/-! ### The word of clean local memory (R39, R298) -/

@[simp] theorem oneOf_nil (i : Nat) (now : ICLine) (s : State) : s.oneOf i now [] = (now.slotAt i, s) := rfl

/-- Where nothing is cached of the core's lines, the cache returns the word of the line as memory holds it, and keeps the line. -/
theorem throughCache_empty {s : State} {site : Nat} {a : Word} {now : ICLine} (hi : (s.core site).icache = [])
    (hp : now.pois.getLsbD (a.toNat / 4 % 32) = false) :
    s.throughCache site a now = .word (now.wordAt (a.toNat / 4 % 32)) (s.modCore site fun c => { c with icache := c.icache ++ [now] }) := by
  simp [throughCache, hi, ICLine.slotAt, hp]

/-- A word of the line that holds it: its four bytes. -/
theorem localLine_wordAt (s : State) (site : Nat) (a : Word) (h : a.toNat < 2 ^ 60) (h4 : a.toNat % 4 = 0) :
    (s.localLine site a).wordAt (a.toNat / 4 % 32) = BitVec.ofNat 32 ((s.core site).mem.bytes.load a.toNat 4) := by
  have hi : a.toNat / 4 % 32 < 32 := Nat.mod_lt _ (by decide)
  have ho : a.toNat % 2 ^ 60 / 128 * 128 + 4 * (a.toNat / 4 % 32) = a.toNat := by omega
  simp only [localLine, ICLine.wordAt, Vector.getElem?_eq_getElem hi, Vector.getElem_ofFn, Option.getD_some, ho]

/-- The word at an address of clean local memory, none of its lines cached. -/
theorem fetchWord_local {s : State} {a : Word} (h : a.toNat + 4 ≤ 0x60000) (h4 : a.toNat % 4 = 0)
    (hi : (s.core s.site).icache = []) (hp : (s.core s.site).mem.pois = []) :
    s.fetchWord a = .word (BitVec.ofNat 32 ((s.core s.site).mem.bytes.load a.toNat 4))
      (s.modCore s.site fun c => { c with icache := c.icache ++ [s.localLine s.site a] }) := by
  have hw : windowOf a.toNat = 0 := by unfold windowOf; omega
  have hok : windowOk a.toNat 4 = true := by
    have : a.toNat % 2 ^ 60 + 4 ≤ localTop := by unfold localTop; omega
    simp only [windowOk, hw, this, decide_true]
  have hc : (s.localLine s.site a).pois.getLsbD (a.toNat / 4 % 32) = false := by simp [localLine, hp]
  have hl := localLine_wordAt s s.site a (by omega) h4
  simp only [fetchWord, hok, hw, throughCache_empty hi hc, hl, Bool.true_eq_false, if_false]

end Sys2Proof.Machine.State

namespace Sys2Proof.Machine

/-- Settles O53: the turn is the thread's or the event's, the bundle begins with the word fetched, its framing chooses the issue, and the decoder the
instruction. -/
theorem stepRunsDecoded : Obligations.StepRunsDecoded := by
  intro s d site thr r w v u key pc b turn after lone second
  -- the bundle of a turn that runs to a next state
  have bundle : ∀ t, turn → v.frame w = .next t → step s = .next (after t) := by
    rintro t ⟨ha, ht, hl, hm, hd, he, hr, hf⟩ h
    rw [State.step_issue ha ht, State.turnOf_bundle hl hm he hd ((State.bundleTurn_word hr hf).trans h)]
  refine ⟨fun i t ht hl hi h => bundle t ht ?_, fun e t ht hl hi h => bundle t ht ?_, ?_, ?_, ?_, ?_, ?_⟩
  · rw [State.frame_lone hl.1 hl.2, State.issueLone, hi]; exact h
  · rw [State.frame_lone hl.1 hl.2, State.issueLone, hi]; exact h
  · intro w1 v1 c a t ht ha hl hm hp h2 ha1 hl1 hc hd h
    refine bundle t ht ?_
    rw [State.frame_pair ha hl hm hp h2 ha1 hl1, State.decodePair, hc, hd]; exact h
  · intro w1 v1 i t ht ha hl hm h2 ha1 hl1 hi h
    refine bundle t ht ?_
    rw [State.frame_rep ha hl hm h2 ha1 hl1, State.issueRep, hi]; exact h
  · intro ha ht hl hm he
    rw [State.step_issue ha ht, State.turnOf_expired hl hm he, exec_watchdog]
    have hk : key / 4 = site := by simp only [key]; omega
    exact congrArg (fun n => execWatchdog n (key % 4) u) hk
  · intro e i ha h
    rw [State.step_event ha, h]
  · intro hpc h4 hi hp
    have hs : b.site = site := by show key / 4 = site; simp only [key]; omega
    have hf := State.fetchWord_local (s := b) hpc h4 (by rw [hs]; exact hi) (by rw [hs]; exact hp)
    rw [hs] at hf
    refine ⟨_, hf, rfl, fun c a => ?_⟩
    rw [State.core_modCore]
    split
    · next h => subst h; rfl
    · rfl

end Sys2Proof.Machine
end

section
/-! ### What sending leaves unchanged (R146, R157, R364, R368) -/

namespace Sys2Proof.Machine.State

/-- The state without what sending a message, recording an error and drawing a free value may change: the messages on their way, ports, pairs, records,
channels and counters. Two states that agree in it differ by what was sent and recorded alone. -/
def still (s : State) : State :=
  { s with
    net := [], nextId := 0, seqs := [], awaited := [], refused := [], ports := [], outbox := [], pairs := [], banks := [], chans := [], fresh := 0 }

section
variable {s t : State}

theorem threads_of_still (h : t.still = s.still) : t.threads = s.threads := (congrArg State.threads h :)
theorem cores_of_still (h : t.still = s.still) : t.cores = s.cores := (congrArg State.cores h :)
theorem thread_congr (h : t.threads = s.threads) (k : Nat) : t.thread k = s.thread k := by
  rw [thread, h]; rfl
theorem core_of_still (h : t.still = s.still) (c : Nat) : t.core c = s.core c := by
  rw [core, cores_of_still h]; rfl

theorem still_ite {c : Prop} [Decidable c] {a b : State} (ha : a.still = s.still) (hb : b.still = s.still) :
    (if c then a else b).still = s.still := by split <;> assumption
theorem threads_ite {c : Prop} [Decidable c] {a b : State} (ha : a.threads = s.threads) (hb : b.threads = s.threads) :
    (if c then a else b).threads = s.threads := by split <;> assumption

end

@[simp] theorem still_queueFrame (s : State) (f typ : Nat) (b : BitVec 512) : (s.queueFrame f typ b).1.still = s.still := by
  unfold queueFrame
  dsimp only
  split <;> rfl
/-- An error record: the bank, and the frames that report it (R364). -/
@[simp] theorem still_record (s : State) (k : Nat) (e : Err) : (s.record k e).still = s.still := by
  unfold record
  extract_lets b cnt nb body
  split
  · rfl
  · have h1 : (queueFrame { s with banks := Map.put s.banks k nb } 0 0x82 body).1.still = s.still := still_queueFrame _ _ _ _
    generalize queueFrame { s with banks := Map.put s.banks k nb } 0 0x82 body = q at h1 ⊢
    apply still_ite <;> split
    · exact (still_queueFrame _ _ _ _).trans h1
    · exact h1
    · exact (still_queueFrame _ _ _ _).trans h1
    · exact h1
@[simp] theorem still_localPoison (s : State) (site a : Nat) : (s.localPoison site a).still = s.still := still_record _ _ _

theorem still_sendToHop {s t : State} {n : BitVec 11} {l : List (BitVec 128 × BitVec 512)} (h : s.sendToHop n l = some t) : t.still = s.still := by
  unfold sendToHop at h
  split at h
  · cases h
  · cases h; rfl
theorem still_sendFlits {s t : State} {n : BitVec 11} {l : List (BitVec 128 × BitVec 512)} (h : s.sendFlits n l = some t) : t.still = s.still := by
  unfold sendFlits at h
  split at h
  · cases h
  · exact still_sendToHop h
@[simp] theorem still_bulkHop (s : State) (m : Msg) (d : BitVec 11) : (s.bulkHop m d).2.still = s.still := by
  unfold bulkHop
  dsimp only
  split
  · rfl
  · split
    next h => exact congrArg (fun x => still x.2) h.symm
    next h => exact congrArg (fun x => still x.2) h.symm
/-- A message that cannot leave the device: an answer by the links or here, or a record. -/
@[simp] theorem still_unreachable (s : State) (m : Msg) : (s.unreachable m).still = s.still := by
  unfold unreachable
  split
  · exact still_record _ _ _
  all_goals
    dsimp only
    refine still_ite ?_ rfl
    cases h : s.sendFlits _ _ with
    | none => exact still_record _ _ _
    | some t => exact still_sendFlits h
@[simp] theorem still_linkOut (s : State) (m : Msg) (d : BitVec 11) : (s.linkOut m d).still = s.still := by
  unfold linkOut
  dsimp only
  split
  · exact (still_unreachable _ _).trans (still_bulkHop s m d)
  next s1 h =>
    obtain ⟨n, _, hn⟩ := Option.bind_eq_some_iff.1 h
    have h1 : s1.still = s.still := (still_sendToHop hn).trans (still_bulkHop s m d)
    split <;> exact h1
@[simp] theorem still_route (s : State) (m : Msg) : (s.route m).still = s.still := by
  unfold route
  split
  · exact still_linkOut _ _ _
  all_goals rfl
@[simp] theorem still_nextSeq (s : State) (k : Agent × Agent × MClass) : (s.nextSeq k).2.still = s.still := by
  unfold nextSeq
  split <;> rfl
@[simp] theorem still_emit (s : State) (m : Msg) : (s.emit m).still = s.still := (still_route _ _).trans (still_nextSeq _ _)
@[simp] theorem still_toReferee (s : State) (key : Nat) (a : Msg) : (s.toReferee key a).still = s.still := still_ite rfl (still_emit s a)
/-- Sending a message changes only what is on its way. -/
@[simp] theorem still_send (s : State) (m : Msg) : (s.send m).still = s.still := by
  unfold send
  dsimp only
  split
  · exact still_emit _ _
  · exact still_toReferee _ _ _
@[simp] theorem send_threads (s : State) (m : Msg) : (s.send m).threads = s.threads := threads_of_still (still_send s m)
@[simp] theorem still_sendOf (s : State) (key : Nat) (m : Msg) : (s.sendOf key m).still = s.still := still_toReferee _ _ _

end Sys2Proof.Machine.State
end

section
/-! ### The end of an activation, as its thread sees it (R225, R375) -/

namespace Sys2Proof.Machine

/-- A thread whose activation has ended: the counters of R375 have taken it, the watchdog is disarmed. -/
def Thread.actClosed (t : Thread) (now : Word) : Thread :=
  match t.act with
  | none => t
  | some a => { t with
      act := none
      sys := { t.sys with
        qwait := t.sys.qwait + (a.start - a.acc), srch := t.sys.srch + a.search, runc := t.sys.runc + (now - a.start)
        wdog := 0, armed := none } }

namespace Thread

@[simp] theorem actClosed_act (t : Thread) (now : Word) : (t.actClosed now).act = none := by
  unfold actClosed
  split
  next h => exact h
  next => rfl
/-- The end of an activation changes the counters, the watchdog and the activation itself alone. -/
theorem actClosed_keeps (t : Thread) (now : Word) :
    (t.actClosed now).regs = t.regs ∧ (t.actClosed now).pc = t.pc ∧ (t.actClosed now).outst = t.outst ∧ (t.actClosed now).sys.tvec = t.sys.tvec := by
  unfold actClosed
  split <;> exact ⟨rfl, rfl, rfl, rfl⟩
theorem actClosed_quiet (t : Thread) (now : Word) : (t.actClosed now).quiet = t.quiet := by
  rw [quiet, (actClosed_keeps t now).2.2.1, quiet]

end Thread

namespace State


@[simp] theorem still_breakAct (s : State) (key : Nat) (a : Activation) (code : Nat) : (s.breakAct key a code).still = s.still :=
  still_ite rfl (still_sendOf _ _ _)

/-- The thread after its activation, ended how so ever. -/
theorem finishAct_thread (s : State) (key how : Nat) (code : Option Nat) :
    (s.finishAct key how code).thread key = (s.thread key).actClosed s.time := by
  unfold finishAct
  extract_lets t
  split
  next h => rw [Thread.actClosed, h]
  next a h =>
    extract_lets s1 name s2 s3
    have h1 : s1.threads = s.threads := by
      cases code with
      | none => rfl
      | some c => exact threads_of_still (still_breakAct s key a c)
    have h2 : s2.threads = s.threads :=
      threads_ite ((send_threads _ _).trans h1) h1
    have h3 : s3.thread key = s.thread key := thread_congr h2 key
    rw [thread_modThread_same, h3, Thread.actClosed, h]

/-- A fetch that an arrival awaits no longer changes no thread. -/
theorem coreFetch_threads (s : State) (site : Nat) (m : Msg) (h : Word) : (s.coreFetch site m h).threads = s.threads :=
  threads_ite rfl (send_threads _ _)
theorem refetch_threads (s : State) (key : Nat) (h : Word) : (s.refetch key h).threads = s.threads := by
  refine threads_ite rfl ?_
  split
  · exact coreFetch_threads _ _ _ _
  · rfl
theorem closeAct_thread (s : State) (key how : Nat) (code : Option Nat) :
    (s.closeAct key how code).thread key = (s.thread key).actClosed s.time :=
  (thread_congr (refetch_threads _ _ _) key).trans (finishAct_thread s key how code)

end State

/-- The low two bits of a word (R36, R366). -/
theorem toNat_and_three (x : Word) : (x &&& 3).toNat = x.toNat % 4 := by
  rw [BitVec.toNat_and]; exact Nat.and_two_pow_sub_one_eq_mod x.toNat 2
theorem three_getElem : ∀ j : Fin 64, (3#64)[j] = decide (j.val < 2) := by decide
/-- A word without its low two bits. -/
theorem and_not_three (x : Word) : x &&& ~~~3#64 = x >>> 2 <<< 2 := by
  ext i hi
  have h3 : (3#64)[i] = decide (i < 2) := three_getElem ⟨i, hi⟩
  simp only [BitVec.getElem_and, BitVec.getElem_not, h3, BitVec.getElem_shiftLeft, BitVec.getElem_ushiftRight]
  by_cases h : i < 2
  · simp [h]
  · simp [h, BitVec.getLsbD, ← BitVec.getLsbD_eq_getElem, show 2 + (i - 2) = i by omega]
/-- Counting in the low two bits leaves the rest, while they hold less than 3 (R367). -/
theorem succ_and_not_three (x : Word) (h : x.toNat % 4 < 3) : (x + 1) &&& ~~~3#64 = x &&& ~~~3#64 := by
  rw [and_not_three, and_not_three]
  congr 1
  apply BitVec.eq_of_toNat_eq
  simp only [BitVec.toNat_ushiftRight, Nat.shiftRight_eq_div_pow, BitVec.toNat_add]
  have := x.isLt
  simp
  omega

/-! ### Traps (R31 to R33, R359, R367, R369) -/

/-- A thread whose bundle has raised a fault, before it enters the trap: the error is no longer pending, ISSUED counts the bundle (R31, R42). -/
def Thread.faulted (t : Thread) (tr : Trap) : Thread := { t.consume tr with sys := { t.sys with issued := t.sys.issued + 1 } }

/-- A thread with no outstanding work and no restart to make enters its trap at once, but for DUPLEX, which ends the activation first. -/
theorem State.raiseTrap_cur {s : State} {tr : Trap} (hq : (s.cur.consume tr).quiet = true) (hr : s.cur.restarts tr.cause = false)
    (hd : tr.cause ≠ .duplex) :
    (s.raiseTrap tr).cur = (s.cur.faulted tr).enterTrap
      { trap := tr, epc := s.ctx.pc, rep := s.cur.rep.map fun r => r.k, st := s.cur.statusNow (s.cur.rep.map fun r => r.k).isSome } := by
  have hgo : ((s.cur.faulted tr).quiet && !(s.cur.faulted tr).restarts tr.cause && tr.cause != .duplex) = true := by
    have h1 : (s.cur.faulted tr).quiet = true := hq
    have h2 : (s.cur.faulted tr).restarts tr.cause = false := hr
    simp [h1, h2, hd]
  rw [cur, raiseTrap_ctx]
  unfold raiseTrap
  extract_lets t rep p c y t1 t2 s1
  have ht1 : t1 = s.cur.faulted tr := by
    simp only [t1, t, c, y, hr, Bool.false_eq_true, if_false, Thread.faulted]
  rw [thread_setThread_same]
  simp only [t2, ht1, if_pos hgo, p, rep, t]

/-- The record of a trap's poison and the replay of its special functions change no byte of memory. -/
theorem State.raiseTrap_core_mem (s : State) (tr : Trap) (c : Nat) : ((s.raiseTrap tr).core c).mem = (s.core c).mem := by
  unfold raiseTrap
  extract_lets t rep p k y t1 t2 s1
  have h1 : s1.still = s.still := by
    simp only [s1]
    split
    · exact still_localPoison _ _ _
    · rfl
  rw [core_setThread, modMyCore, core_modCore]
  split
  next h => subst h; exact (congrArg Core.mem (core_of_still h1 _) :)
  next => exact congrArg Core.mem (core_of_still h1 c)

/-- The bits of ESTATUS (R27). -/
theorem Thread.statusNow_bits (t : Thread) (rep : Bool) :
    (t.statusNow rep).getLsbD 0 = t.sup ∧ (t.statusNow rep).getLsbD 1 = decide (t.sys.rgnpc ≠ 0) ∧
    (t.statusNow rep).getLsbD 2 = rep ∧ (t.statusNow rep).getLsbD 3 = t.act.isSome := by
  have hr : (t.sys.rgnpc != 0) = decide (t.sys.rgnpc ≠ 0) := Bool.eq_iff_iff.2 (by rw [bne_iff_ne, decide_eq_true_iff])
  unfold statusNow inAct
  rw [hr]
  cases t.act.isSome <;> cases rep <;> cases decide (t.sys.rgnpc ≠ 0) <;> cases t.sup <;> decide

theorem trapOfBundle : Part.TrapOfBundle := by
  intro s tr hq hr hd o t
  have ht : t = _ := State.raiseTrap_cur hq hr hd
  obtain ⟨b0, b1, b2, b3⟩ := o.statusNow_bits (o.rep.map fun r => r.k).isSome
  have b2' : (o.statusNow (o.rep.map fun r => r.k).isSome).getLsbD 2 = o.rep.isSome := b2.trans Option.isSome_map
  rw [ht]
  exact ⟨rfl, rfl, rfl, b0, b1, b2', b3, rfl, rfl, rfl, rfl, rfl, rfl, rfl, rfl, rfl, rfl, rfl,
    fun c x => congrArg (fun m => m.bytes.byte x) (s.raiseTrap_core_mem tr c), fun k hk => s.raiseTrap_thread tr k hk⟩

/-- TRAP_ENTRY, where it acts (R359, R369). -/
theorem execTrapEntry_enters {s : State} {site thr : Nat} {p : PendTrap} (hp : (s.thread (4 * site + thr % 4)).trap = some p)
    (hq : (s.thread (4 * site + thr % 4)).quiet = true) (hr : (s.thread (4 * site + thr % 4)).restarts p.trap.cause = false) :
    exec (.trapEntry site thr) s = .next ((if p.trap.cause = .duplex then s.closeAct (4 * site + thr % 4) 2 (some 1) else s).modThread
      (4 * site + thr % 4) fun t => t.enterTrap p) := by
  simp only [exec_trapEntry, execTrapEntry, keyAt, hp, hq, hr, Bool.not_false, Bool.and_true, if_true]

/-- REGION_RESTART, where it acts: POISON in a region whose count is below 3 (R367). -/
theorem execRegionRestart_restarts {s : State} {site thr : Nat} {p : PendTrap} (hp : (s.thread (4 * site + thr % 4)).trap = some p)
    (hq : (s.thread (4 * site + thr % 4)).quiet = true) (hr : (s.thread (4 * site + thr % 4)).restarts p.trap.cause = true) :
    exec (.regionRestart site thr) s = .next (s.modThread (4 * site + thr % 4) Thread.restart) := by
  simp only [exec_regionRestart, execRegionRestart, keyAt, hp, hq, hr, Bool.and_true, if_true]

/-- What a restart of an open region leaves and what it discards (R367). -/
theorem Thread.restart_keeps (t : Thread) :
    t.restart.sys = { t.sys with rgnpc := t.sys.rgnpc + 1 } ∧ t.restart.trap = none ∧ t.restart.sup = t.sup ∧ t.restart.regs = t.regs ∧
    t.restart.marks = [] ∧ t.restart.storelate = none ∧ ∀ e ∈ t.restart.outst, e.fin = false := by
  refine ⟨rfl, rfl, rfl, rfl, rfl, rfl, fun e he => ?_⟩
  have h := (List.mem_filter.1 (show e ∈ t.outst.filter fun o => !o.fin from he)).2
  simpa using h
theorem Thread.restart_pc (t : Thread) (h : t.sys.rgnpc.toNat % 4 < 3) : t.restart.pc = t.sys.rgnpc &&& ~~~3#64 := succ_and_not_three _ h

/-- An expired watchdog ends the activation, and with no outstanding work enters its trap (R32, R33). -/
theorem execWatchdog_enters {s : State} {site thr : Nat} (he : (s.thread (4 * site + thr % 4)).expired = true)
    (hq : (s.thread (4 * site + thr % 4)).quiet = true) :
    ∃ t, exec (.watchdog site thr) s = .next t ∧ t.thread (4 * site + thr % 4) = ((s.thread (4 * site + thr % 4)).actClosed s.time).enterTrap
      { trap := { cause := .watchdog, slot := false, val := (s.thread (4 * site + thr % 4)).sys.armed.getD 0 }
        epc := (s.thread (4 * site + thr % 4)).pc, rep := none, st := (s.thread (4 * site + thr % 4)).statusNow false } := by
  simp only [exec_watchdog, execWatchdog, keyAt, he, if_true]
  refine ⟨_, rfl, ?_⟩
  rw [State.thread_modThread_same, State.thread_modCore, State.closeAct_thread, Thread.actClosed_quiet, hq, if_pos rfl]

/-- Settles O41: the thread that has entered its trap is written out, and each field read off. -/
theorem trapEntry : Obligations.TrapEntry := by
  refine ⟨trapOfBundle, ?_⟩
  intro s site thr p key o
  refine ⟨fun hp hq hr => ⟨_, execTrapEntry_enters hp hq hr, ?_⟩, ?_, ?_⟩
  · rw [State.thread_modThread_same]
    split
    next hd =>
      rw [State.closeAct_thread]
      obtain ⟨hregs, -, -, htvec⟩ := o.actClosed_keeps s.time
      exact ⟨rfl, congrArg (· &&& ~~~3#64) htvec, rfl, rfl, rfl, rfl, rfl, hregs, fun _ => o.actClosed_act s.time, fun h => absurd hd h⟩
    next hd => exact ⟨rfl, rfl, rfl, rfl, rfl, rfl, rfl, rfl, fun h => absurd h hd, fun _ => rfl⟩
  · intro hp hq hc hg hn
    have hr : o.restarts p.trap.cause = true := by
      simp only [Thread.restarts, hc, bne_iff_ne.2 hg, toNat_and_three, hn, beq_self_eq_true, decide_true, Bool.and_true]
    refine ⟨_, execRegionRestart_restarts hp hq hr, ?_⟩
    rw [State.thread_modThread_same]
    obtain ⟨hsys, htrap, hsup, hregs, hmarks, hstore, hfin⟩ := o.restart_keeps
    exact ⟨rfl, o.restart_pc hn, htrap, hsup, rfl, rfl, rfl, rfl, hregs, hmarks, hstore, hfin⟩
  · intro b hrun hact hsup htrap hrep harmed hw hq
    have he : o.expired = true := by simp [Thread.expired, hrun, hact, hsup, htrap, hrep, harmed, hw]
    obtain ⟨t, ht, hn⟩ := execWatchdog_enters he hq
    refine ⟨t, ht, ?_⟩
    intro n
    obtain ⟨hregs, -, -, htvec⟩ := o.actClosed_keeps s.time
    rw [show n = _ from hn]
    have hcode : (BitVec.ofBool false).append (BitVec.ofNat 8 Cause.watchdog.code) = (0x11 : BitVec 9) := by decide
    exact ⟨o.actClosed_act s.time, rfl, congrArg (· &&& ~~~3#64) htvec, rfl, hcode, congrArg (fun x => Option.getD x 0) harmed, hregs⟩

end Sys2Proof.Machine
end

section
/-! ### Held slots and pairs (R29, R30, R40 to R42) -/

namespace Sys2Proof.Machine

/-- Every instruction that a word encodes first asks whether it must wait; one that must changes nothing (R29, R30, R242). -/
theorem heldSlot : Part.HeldSlot := by
  intro i s hi hw
  have hd : instDecidableEqBool (mustWait i s) true = isTrue hw := Subsingleton.elim _ _
  cases i
  -- the rows that have no word
  case trapEntry | regionRestart | watchdog | accessComplete | load | store | atomic | loadfe | storefe | loadResponse | ack | nack | retry
    | retryResend | retryListReoffer | translationWalk | sfuStart | sfuComplete | mmComplete | matrixDispatch | kstepEnd
    | matrixCommandComplete | matrixAgeing | copyLine | copydata | mcastMsg | copyComplete | invMsg | invxMsg | activationStart
    | rawArrivalStart | kickStart | arrivalAgeing | pass | passForward | passAtSlot | bounce | readydelta | rdyquery | rdyanswer | reply
    | break_ | fetch | value | hrelease | relayForward | rstvMsg | redirectQueueDrain | directoryAnswer | grpctl | grpstat | memberPark
    | saveImageComplete | groupEnded | kickMsg | kickoffFanout | kickend | bararrive | barrelease | barrierTimeout | barbreak | barconfig
    | refereePair | refereeTimeout | unassignedMessage | l2pdataWrite | l2pUpdate | rtdataWrite | vallotWrite | tgenWrite | ctxcmdCreate
    | ctxcmdDestroy | ctxrectWrite | contextBound | contextShrunk | contextDestroyed | scrubComplete | hfsendWrite | deviceFrame
    | frameWindowWrite | hostframeInject | hostframe | gap | drheadWrite | drbaseWrite | drsizeWrite | bar2Access | functionLevelReset
    | packageReset | bootctlGo | imageVerification | discover | discoverAnswer | silentRouter | floodEnd | measxWrite | attreqWrite
    | attestationReport | powerLimit | overtemperature | powerGate | gateDrainTimeout | droop | droopRearm | traceDrain | trtailWrite
    | dbgctlWrite | hbmRowRepair | nodeidWrite | portctlWrite | trainingBackoff | trainingSequence | laneRetrain | linkFlit
    | linkResendTimeout | portDown | marker | ckptWalk | acceptNotice =>
    exact nomatch hi
  -- unfolded to its head, every other row is the test whether it must wait
  all_goals
    conv_lhs => whnf
    rw [hd]

theorem firstTrap_two (t q : Trap) : firstTrap [t, q] = some (if q.cause.rank < t.cause.rank then q else t) := by
  simp only [firstTrap, apply_ite some]

/-- Two writes of one register by the slots of a pair, neither windowed (R41). -/
theorem State.pairConflict_operand {s : State} {c a : Instr} {wa : IWord} {r : RegRef} (hc : r ∈ writesOf c) (ha : r ∈ writesOf a)
    (hw : State.windowed c = []) : s.pairConflict c a wa = [{ cause := .operand, slot := true, val := wa.setWidth 64 }] := by
  have hany : ((writesOf c).any fun r => (writesOf a).contains r) = true := List.any_eq_true.2 ⟨r, hc, List.contains_iff_mem.2 ha⟩
  rw [pairConflict, hw, List.any_nil, if_neg Bool.false_ne_true, if_pos hany]

/-- The bundle of a pair whose two slots have run: it waits, or raises its first fault, or is complete (R40 to R42). -/
theorem State.issuePair_ran {s s1 s2 : State} {c a : Instr} {wc wa : IWord} (h1 : exec c (s.openBundle.withWord .cslot wc) = .next s1)
    (h2 : exec a ((if s1.ctx.last = .done then s1 else s.openBundle).withWord .aslot wa) = .next s2) :
    s.issuePair c a wc wa =
      if mustWait c s.openBundle || mustWait a ((if s1.ctx.last = .done then s1 else s.openBundle).withWord .aslot wa) then .next (s.ended .wait)
      else if s1.ctx.last = .wait ∧ waitActs c = false then exec c (s.withWord .cslot wc)
      else if s2.ctx.last = .wait then exec a (s.withWord .aslot wa)
      else (firstTrap (trapOfEnd s1.ctx.last ++ trapOfEnd s2.ctx.last ++ s.pairConflict c a wa)).elim
        (if s1.ctx.last = .wait then exec c (s.withWord .cslot wc) else .next ((s2.retire.leaveNow s.ctx.key).ended .done)) s.raised := by
  simp only [issuePair, h1, h2]
  cases firstTrap _ <;> rfl

theorem pairOfSlots : Part.PairOfSlots := by
  intro s s1 s2 c a wc wa t u v clash first calm h1 h2
  have ran := State.issuePair_ran h1 h2
  have free : calm → (mustWait c s.openBundle || mustWait a ((if s1.ctx.last = .done then s1 else s.openBundle).withWord .aslot wa)) = false :=
    Bool.or_eq_false_iff.2
  -- neither slot waits, or the C-slot does by asking another agent: the faults decide
  have faults : calm → (s1.ctx.last = .wait → waitActs c = true) → s2.ctx.last ≠ .wait →
      s.issuePair c a wc wa = (firstTrap (State.trapOfEnd s1.ctx.last ++ State.trapOfEnd s2.ctx.last ++ clash)).elim
        (if s1.ctx.last = .wait then exec c (s.withWord .cslot wc) else .next ((s2.retire.leaveNow s.ctx.key).ended .done)) s.raised := by
    intro h hc he
    rw [ran, free h, if_neg Bool.false_ne_true, if_neg (fun hw => by simp [hc hw.1] at hw), if_neg he]
  have busy : ¬calm → s.issuePair c a wc wa = .next (s.ended .wait) := by
    intro h
    rw [ran, if_pos (Bool.eq_true_of_not_eq_false fun hf => h (Bool.or_eq_false_iff.1 hf))]
  have waitC : calm → s1.ctx.last = .wait → waitActs c = false → s.issuePair c a wc wa = exec c (s.withWord .cslot wc) := by
    intro h e1 hc
    rw [ran, free h, if_neg Bool.false_ne_true, if_pos ⟨e1, hc⟩]
  have waitA : calm → s1.ctx.last ≠ .wait ∨ waitActs c = true → s2.ctx.last = .wait → s.issuePair c a wc wa = exec a (s.withWord .aslot wa) := by
    intro h hc e2
    rw [ran, free h, if_neg Bool.false_ne_true, if_neg (fun hw => by simp [hw.1, hw.2] at hc), if_pos e2]
  refine ⟨?_, ?_, ?_, ?_, ?_, ?_, ?_, waitC, ?_, ?_, waitA, busy, fun _ hc ha => State.pairConflict_operand hc ha, s.raiseTrap_regs t⟩
  -- the other clauses: the list of faults is written out
  all_goals
    intros
    rw [faults ‹_› (by simp [*]) (by simp [*])]
    simp [*, State.trapOfEnd, firstTrap_two, first]

/-- Settles O51: a held slot by the head of its row, a pair by the ends of its slots. -/
theorem pairsAndWaits : Obligations.PairsAndWaits := ⟨heldSlot, pairOfSlots⟩

end Sys2Proof.Machine
end

section
/-! ### A slot that waits, and one that an earlier error stops (R31, R35, R40) -/

namespace Sys2Proof.Machine

/-- A slot that is clear to issue and whose body waits is held; what it asks is done to the state as it stood. -/
theorem slot_wait {i : Instr} {body : State → SlotRes} {s : State} {ask : State → State} (h : Clear i s) (hb : body s.entered = .wait ask) :
    slot i body s = .next ((ask s).ended .wait) := by
  obtain ⟨hw, hf⟩ := h
  unfold slot State.entered at *
  simp only [hw, hf, Bool.false_eq_true, if_false]
  cases hform : s.ctx.form <;> simp only [hform] at hb ⊢ <;> simp [hb, SlotRes.withFaults]

/-- A slot whose body takes effect raises the first fault found before it. -/
theorem slot_early {i : Instr} {body : State → SlotRes} {s v : State} {t : Trap} (hw : mustWait i s = false)
    (hf : firstTrap (earlyFaults i s) = some t) (hb : body s.entered = .done v) : slot i body s = .next (s.trapped t) := by
  unfold slot State.entered State.trapped at *
  simp only [hw, Bool.false_eq_true, if_false]
  cases hform : s.ctx.form <;> simp only [hform] at hb ⊢ <;> simp [hb, hf, SlotRes.withFaults]

/-- Of faults that are all the same the first is any of them. -/
theorem firstTrap_same {l : List Trap} {t : Trap} (h : ∀ x ∈ l, x = t) (hne : l ≠ []) : firstTrap l = some t := by
  induction l with
  | nil => exact absurd rfl hne
  | cons x r ih =>
    obtain rfl := h x List.mem_cons_self
    by_cases hr : r = []
    · rw [hr, firstTrap_one]
    · rw [firstTrap, ih (fun y hy => h y (List.mem_cons_of_mem _ hy)) hr]
      exact ite_self _

end Sys2Proof.Machine
end

section
/-! ### Completion points, fences and the other system functions (R109, R115, R161, R294, R295, R366, R380) -/

namespace Sys2Proof.Machine

namespace State

section
variable {u : State}

/-! The errors that are pending (R31, R161). -/

/-- No error of an instruction is pending. -/
theorem outstErrors_nil (h : ∀ o ∈ u.src.outst, o.err = none) :
    (u.src.outst.filterMap fun o => o.err.map fun e => u.trapOf e.cause e.val) = [] :=
  List.filterMap_eq_nil_iff.2 fun o ho => by rw [h o ho]; rfl
theorem pendingErrors_nil (h : ∀ o ∈ u.src.outst, o.err = none) (hs : u.src.storelate = none) (late : Bool) : u.pendingErrors late = [] := by
  rw [pendingErrors, outstErrors_nil h, hs]
  cases late <;> rfl
theorem pendingErrors_storelate {a : Word} (h : ∀ o ∈ u.src.outst, o.err = none) (hs : u.src.storelate = some a) :
    u.pendingErrors true = [u.trapOf .storelate a] := by
  rw [pendingErrors, outstErrors_nil h, hs]; rfl
/-- The error of the one instruction that has left one. -/
theorem firstTrap_pendingErrors_one {o : Outst} {e : Trap} (ho : o ∈ u.src.outst) (he : o.err = some e)
    (hn : ∀ p ∈ u.src.outst, p ≠ o → p.err = none) (hs : u.src.storelate = none) (late : Bool) :
    firstTrap (u.pendingErrors late) = some (u.trapOf e.cause e.val) := by
  have hl : u.pendingErrors late = u.src.outst.filterMap fun o => o.err.map fun e => u.trapOf e.cause e.val := by
    rw [pendingErrors, hs]
    cases late <;> exact List.append_nil _
  rw [hl]
  refine firstTrap_same (fun x hx => ?_) (List.ne_nil_of_mem (List.mem_filterMap.2 ⟨o, ho, by rw [he]; rfl⟩))
  obtain ⟨p, hp, hx⟩ := List.mem_filterMap.1 hx
  by_cases hpo : p = o
  · subst hpo
    rw [he] at hx
    exact (Option.some.inj hx).symm
  · rw [hn p hp hpo] at hx
    cases hx

/-! The completion points (R109). -/

theorem completion_busy (h : u.src.quiet = false) (late : Bool) (k : SlotRes) : u.completion late k = .wait id := by
  rw [completion, if_pos h]; rfl
theorem completion_error {late : Bool} {t : Trap} (h : u.src.quiet = true) (ht : firstTrap (u.pendingErrors late) = some t) (k : SlotRes) :
    u.completion late k = .raise t := by
  simp only [completion, h, ht, Bool.true_eq_false, if_false]
theorem completion_clear {late : Bool} (h : u.src.quiet = true) (ht : u.pendingErrors late = []) (k : SlotRes) : u.completion late k = k := by
  simp only [completion, h, ht, firstTrap_nil, Bool.true_eq_false, if_false]

/-- A fence with no error pending goes on, once what its kind waits for is done (R294). -/
theorem fence_clear {kind : FenceKind} (h : u.src.quiet = true) (ht : u.pendingErrors true = [])
    (hd : kind = .acq ∨ u.drained u.ctx.key = true) (k : SlotRes) : u.fence kind k = k := by
  unfold fence
  rw [completion_clear h ht]
  cases kind with
  | acq => rfl
  | rel | full => exact if_pos (hd.resolve_left (by decide))

/-- What a FENCE does once its waits are done: a release of a thread that has written to host memory awaits the host bridge (R294). -/
def fenceEnd (u : State) (sc : Scope) (kind : FenceKind) : SlotRes :=
  if kind ≠ .acq ∧ hostFence sc = true ∧ u.src.hostW = true then u.await State.askBridge fun _ => .done u else .done u

end

end State

theorem exec_fence_slot (sc : Scope) (kind : FenceKind) (s : State) :
    exec (.fence sc kind) s = slot (.fence sc kind) (fun u => u.fence kind (u.fenceEnd sc kind)) s := rfl
theorem hostFence_iff (sc : Scope) : hostFence sc = true ↔ sc = .host ∨ sc = .io ∨ sc = .system := by cases sc <;> decide

/-! NOP to RGNEND. -/

theorem systemBundles : Part.SystemBundles := by
  intro code x calm
  refine ⟨does_of (body := .done) exec_nop fun _ => rfl, does_of (body := .done) exec_anop fun _ => rfl,
    traps_of (exec_trap code) fun u _ => rfl, traps_of (exec_brk code) fun u _ => rfl, does_of (exec_tmark x code) fun u => rfl,
    does_of exec_rgn fun u => rfl, doesIf_of exec_rgnend fun u h => ?_⟩
  obtain ⟨⟨hq, he, hs⟩, hd⟩ := h
  exact State.fence_clear hq (State.pendingErrors_nil he hs _) (.inr hd) _

/-- A FENCE at its end: it awaits the host bridge, or completes (R294). -/
theorem State.fenceEnd_done {u : State} {sc : Scope} {kind : FenceKind}
    (h : ¬(kind ≠ .acq ∧ (sc = .host ∨ sc = .io ∨ sc = .system) ∧ u.src.hostW = true) ∨ u.src.answer.isSome = true) :
    u.fenceEnd sc kind = .done u := by
  rw [← hostFence_iff] at h
  by_cases hr : kind ≠ .acq ∧ hostFence sc = true ∧ u.src.hostW = true
  · obtain ⟨v, hv⟩ := Option.isSome_iff_exists.1 (h.resolve_left fun hn => hn hr)
    rw [fenceEnd, if_pos hr, await, hv]
  · rw [fenceEnd, if_neg hr]
theorem State.fenceEnd_asks {u : State} {sc : Scope} {kind : FenceKind}
    (h : kind ≠ .acq ∧ (sc = .host ∨ sc = .io ∨ sc = .system) ∧ u.src.hostW = true) (ha : u.src.answer = none) :
    u.fenceEnd sc kind = .wait fun s => if s.cur.asked then s else s.askBridge.modCur fun t => { t with asked := true } := by
  rw [← hostFence_iff] at h
  rw [fenceEnd, if_pos h, await, ha]

/-- A non-temporal store of a scope is on its way: to the own memory, or elsewhere (R295). -/
def State.ntOwn (u : State) (sc : Scope) : Bool := u.scopeHome u.ctx.key sc (.core u.site) && u.cur.accs.any fun a => a.nt
def State.ntFar (u : State) (sc : Scope) : Bool :=
  u.cur.slots.toList.any fun r => match r with
    | some q => q.nt && u.scopeHome u.ctx.key sc (u.homeSlice u.site q)
    | none => false
theorem exec_drainnt_slot (sc : Scope) (s : State) :
    exec (.drainnt sc) s = slot (.drainnt sc) (fun u => if u.ntOwn sc || u.ntFar sc then u.hold else .done u) s := rfl
theorem State.ntOwn_eq_false {u : State} {sc : Scope} (h : ∀ a ∈ u.cur.accs, a.nt = true → u.scopeHome u.ctx.key sc (.core u.site) = false) :
    u.ntOwn sc = false := by
  rw [ntOwn, Bool.and_eq_false_imp]
  intro hh
  rw [List.any_eq_false]
  intro a ha hnt
  rw [h a ha hnt] at hh
  cases hh
theorem State.ntFar_eq_false {u : State} {sc : Scope}
    (h : ∀ r ∈ u.cur.slots.toList, ∀ q, r = some q → q.nt = true → u.scopeHome u.ctx.key sc (u.homeSlice u.site q) = false) :
    u.ntFar sc = false := by
  rw [ntFar, List.any_eq_false]
  intro r hr hx
  cases r with
  | none => cases hx
  | some q =>
    obtain ⟨hnt, hh⟩ := Bool.and_eq_true_iff.1 hx
    rw [h _ hr q rfl hnt] at hh
    cases hh

theorem fences : Part.Fences := by
  intro kind sc i ok late done reads far
  have body := exec_fence_slot sc kind
  have cleared : ∀ u, done u → u.fence kind (u.fenceEnd sc kind) = u.fenceEnd sc kind :=
    fun u ⟨⟨hq, he⟩, hs, hd⟩ => State.fence_clear hq (State.pendingErrors_nil he hs _) hd _
  have errs : ∀ (u : State) t, u.src.quiet = true → firstTrap (u.pendingErrors true) = some t → u.fence kind (u.fenceEnd sc kind) = .raise t :=
    fun u t hq ht => State.completion_error hq ht _
  refine ⟨doesIf_of body fun u hu => ?_, doesIf_of body fun u hu => ?_, fun s hc hd hr ha hk => ?_, traps_of body fun u hu => ?_,
    fun e => traps_of body fun u hu => ?_, fun s e hc hq he => ?_, fun s hc hq => ?_, doesIf_of (exec_drainnt_slot sc) fun u hu => ?_, fun s hc hx => ?_⟩
  · rw [cleared u hu.1, State.fenceEnd_done (.inl hu.2)]
  · rw [cleared u hu.1, State.fenceEnd_done (.inr hu.2.2)]
  · rw [body, slot_wait hc ((cleared _ hd).trans (State.fenceEnd_asks hr ha)), if_neg (by rw [hk]; exact Bool.false_ne_true)]
  · obtain ⟨⟨hq, he⟩, hs⟩ := hu
    obtain ⟨a, ha⟩ := Option.ne_none_iff_exists'.1 hs
    rw [errs u _ hq (by rw [State.pendingErrors_storelate he ha]; exact firstTrap_one _)]
    simp only [late, ha, Option.getD_some]
  · obtain ⟨hq, hs, o, ho, he, hn⟩ := hu
    exact errs u _ hq (State.firstTrap_pendingErrors_one ho he hn hs true)
  · rw [body, slot_raise hc (errs _ _ hq he)]
  · rw [body, slot_wait hc (State.completion_busy hq _ _)]; rfl
  · rw [State.ntOwn_eq_false hu.1, State.ntFar_eq_false hu.2]; rfl
  · obtain ⟨a, ha, hnt, hfar⟩ := hx
    have hown : s.entered.ntOwn sc = true :=
      Bool.and_eq_true_iff.2 ⟨Bool.eq_true_of_not_eq_false hfar, List.any_eq_true.2 ⟨a, ha, hnt⟩⟩
    rw [exec_drainnt_slot, slot_wait hc (by rw [hown, Bool.true_or]; rfl)]; rfl

end Sys2Proof.Machine
end

section
/-! ### Errors that an instruction has left, raised in place of a bundle (R31, R361) -/

namespace Sys2Proof.Machine

/-- An instruction that only computes and reads some registers: it is not privileged, tracks nothing and always takes effect; no register that it
names lies above the allotment or is held (R22, R50, R242). -/
structure Computes (i : Instr) (s : State) (rd : List RegRef) : Prop where
  reads : readsOf i = rd
  user : isPriv i = false
  untracked : laOf i = none
  allotted : firstOut s.src.ctl.vallot.toNat (readsOf i ++ writesOf i) = none
  free : heldReg s.src.ctl.sbhold (readsOf i ++ writesOf i) = false
  takes : ∃ body, (∀ s, exec i s = slot i body s) ∧ ∀ u, ∃ v, body u = .done v

/-- A list of registers with no vector register among them lies in every allotment and is never held. -/
theorem firstOut_noVec {rs : List RegRef} (h : ∀ r ∈ rs, r.vNum = none) (n : Nat) : firstOut n rs = none := by
  rw [firstOut, List.filterMap_eq_nil_iff.2 h]; rfl
theorem heldReg_noVec {rs : List RegRef} (h : ∀ r ∈ rs, r.vNum = none) (w : BitVec 32) : heldReg w rs = false := by
  rw [heldReg, List.any_eq_false]
  intro r hr
  rw [h r hr]; exact Bool.false_ne_true
theorem xRef_vNum (r : XReg) : ∀ x ∈ xRef r, x.vNum = none := by
  intro x hx
  unfold xRef at hx
  split at hx
  · cases hx
  · rw [List.mem_singleton.1 hx]; rfl
theorem mRef_vNum (r : MReg) : ∀ x ∈ mRef r, x.vNum = none := by
  intro x hx
  unfold mRef at hx
  split at hx
  · cases hx
  · rw [List.mem_singleton.1 hx]; rfl

theorem computes_add (s : State) (d a b : XReg) : Computes (.add d a b) s (xRef a ++ xRef b) :=
  have hv : ∀ r ∈ (xRef a ++ xRef b) ++ xRef d, r.vNum = none :=
    List.forall_mem_append.2 ⟨List.forall_mem_append.2 ⟨xRef_vNum a, xRef_vNum b⟩, xRef_vNum d⟩
  { reads := rfl, user := rfl, untracked := rfl, allotted := firstOut_noVec hv _, free := heldReg_noVec hv _
    takes := ⟨fun u => .done (u.wx d (u.rx a + u.rx b)), exec_add d a b, fun _ => ⟨_, rfl⟩⟩ }

theorem computes_mand (s : State) (d a b : MReg) : Computes (.mand d a b) s (mRef a ++ mRef b) :=
  have hv : ∀ r ∈ (mRef a ++ mRef b) ++ mRef d, r.vNum = none :=
    List.forall_mem_append.2 ⟨List.forall_mem_append.2 ⟨mRef_vNum a, mRef_vNum b⟩, mRef_vNum d⟩
  { reads := rfl, user := rfl, untracked := rfl, allotted := firstOut_noVec hv _, free := heldReg_noVec hv _
    takes := ⟨_, exec_mand d a b, fun _ => ⟨_, rfl⟩⟩ }

theorem computes_vmov (s : State) (d v : VReg) (ty : Ty) (hd : d.toNat < s.src.ctl.vallot.toNat) (hv : v.toNat < s.src.ctl.vallot.toNat)
    (hh : s.src.ctl.sbhold = 0) : Computes (.vmov d v ty 0) s [.v v.toNat] where
  reads := rfl
  user := rfl
  untracked := rfl
  allotted := by
    show firstOut _ ([RegRef.v v.toNat] ++ [.v d.toNat]) = none
    simp [firstOut, RegRef.vNum, hd, hv]
  free := by
    rw [hh, heldReg, List.any_eq_false]
    intro r _
    cases r.vNum <;> simp
  takes := ⟨fun u => .done (u.vWrite d ty.width 1 (lanes ty.width) ty.width 0 fun k => noFlag (elem ty.width (u.rv v) k)), exec_vmov d v ty 0,
    fun _ => ⟨_, rfl⟩⟩

theorem computes_amov (s : State) (d a : AReg) : Computes (.amov d a) s [.a a.toNat] where
  reads := rfl
  user := rfl
  untracked := rfl
  allotted := rfl
  free := rfl
  takes := ⟨_, exec_amov d a, fun _ => ⟨_, rfl⟩⟩

namespace Computes

section
variable {i : Instr} {s : State} {rd : List RegRef} (hi : Computes i s rd)
include hi

/-- Completed instructions make it wait for nothing (R29, R30, R242). -/
theorem goes (ho : ∀ o ∈ s.src.outst, o.fin = true) : mustWait i s = false := by
  have hn : s.src.outst.any (fun o => o.holds (readsOf i ++ writesOf i)) = false :=
    List.any_eq_false.2 fun o h => by rw [Outst.holds, ho o h]; exact Bool.false_ne_true
  simp only [mustWait, hn, hi.free, hi.untracked, Bool.false_or]
  rfl

/-- The fault found before it is raised. -/
theorem raises {t : Trap} (ho : ∀ o ∈ s.src.outst, o.fin = true) (hf : earlyFaults i s = [t]) : exec i s = .next (s.trapped t) := by
  obtain ⟨body, hb, hdone⟩ := hi.takes
  obtain ⟨v, hv⟩ := hdone s.entered
  rw [hb, slot_early (hi.goes ho) (by rw [hf, firstTrap_one]) hv]

/-- The mark of a register that it reads (R361). -/
theorem earlyFaults_mark {m : Mark} (ho : s.src.outst = []) (hm : s.src.marks = [m]) (hr : m.reg ∈ rd) :
    earlyFaults i s = [s.trapOf m.cause m.val] := by
  have ha := hi.reads ▸ hi.allotted
  simp [earlyFaults, hi.user, hi.reads, ha, ho, hm, hr]

/-- The error of an instruction whose window has run out, and of one for which the bundle has waited (R31). -/
theorem earlyFaults_window {o : Outst} {e : Trap} (ho : s.src.outst = [o]) (hm : s.src.marks = []) (he : o.err = some e) (hw : o.win = some 0)
    (ht : o.traps = 0) : earlyFaults i s = [s.trapOf e.cause e.val] := by
  simp [earlyFaults, hi.user, hi.allotted, ho, hm, he, hw, ht]
theorem earlyFaults_waited {o : Outst} {e : Trap} (ho : s.src.outst = [o]) (hm : s.src.marks = []) (he : o.err = some e) (hw : o.win = none)
    (hid : s.src.waitedOn.contains o.id = true) (hr : ∃ r ∈ rd, o.dst.contains r = true) : earlyFaults i s = [s.trapOf e.cause e.val] := by
  have hany : ((readsOf i ++ writesOf i).any fun r => o.dst.contains r) = true := by
    rw [List.any_append, hi.reads, List.any_eq_true.2 hr, Bool.true_or]
  simp only [earlyFaults, hi.user, hi.allotted, ho, hm, Bool.false_and, Bool.false_eq_true, if_false, List.filterMap_nil, List.nil_append,
    List.append_nil, List.filterMap_cons, hw, hid, hany, Bool.and_self, if_true, he, Option.map_some]

end

end Computes

/-- A fault keeps the marks of the registers (R31, R361). -/
theorem State.raiseTrap_marks (s : State) (tr : Trap) : (s.raiseTrap tr).cur.marks = s.cur.marks := by
  rw [cur, raiseTrap_ctx]
  unfold raiseTrap
  extract_lets t rep p c y t1 t2 s1
  rw [thread_setThread_same]
  simp only [t2]
  split <;> rfl
theorem State.trapped_lone_marks {s : State} (hf : s.ctx.form = .lone) (tr : Trap) : (s.trapped tr).cur.marks = s.cur.marks := by
  rw [trapped, hf]; exact s.raiseTrap_marks tr

theorem raisedErrors : Part.RaisedErrors := by
  intro s i rd o e m h
  have hi : Computes i s rd := by
    rcases h with ⟨d, a, b, rfl, rfl⟩ | ⟨d, v, ty, rfl, rfl, hd, hv, hh⟩ | ⟨d, a, rfl, rfl⟩ | ⟨d, a, b, rfl, ha, hb, rfl⟩
    · exact computes_add s d a b
    · exact computes_vmov s d v ty hd hv hh
    · exact computes_amov s d a
    · have hrd : [RegRef.m a.toNat, .m b.toNat] = mRef a ++ mRef b := by rw [mRef, mRef, if_neg ha, if_neg hb]; rfl
      rw [hrd]; exact computes_mand s d a b
  refine ⟨fun ho hm hr => ⟨hi.raises (by rw [ho]; exact fun _ h => nomatch h) (hi.earlyFaults_mark ho hm hr), fun hf hs => ?_⟩, fun ho hm hfin he => ?_⟩
  · rw [State.trapped_lone_marks hf, ← hm, State.src, hs]; rfl
  · have hall : ∀ x ∈ s.src.outst, x.fin = true := by rw [ho]; exact fun x hx => by rw [List.mem_singleton.1 hx, hfin]
    exact ⟨fun hw ht => hi.raises hall (hi.earlyFaults_window ho hm he hw ht),
      fun hw hid hr => hi.raises hall (hi.earlyFaults_waited ho hm he hw hid hr)⟩

/-- Settles O9: each body read off, the errors of earlier instructions for any instruction that only computes. -/
theorem systemInstructions : Obligations.SystemInstructions := ⟨systemBundles, fences, raisedErrors⟩

end Sys2Proof.Machine
end

section
/-! ### Control registers (R26 to R28, R107, R108) -/

namespace Sys2Proof.Machine

namespace State

section
variable {u : State} {n : Nat}

/-! The fault of an access (R26). -/

theorem crFault_may (ha : crAssigned n = true) (hs : u.src.sup = true ∨ crSup n = false) : u.crFault n = none := by
  have hdev : ¬(0x800 ≤ n ∧ u.src.sup = false) := by
    rintro ⟨hn, hu⟩
    rcases hs with hs | hs
    · rw [hu] at hs; cases hs
    · simp [crSup, hn] at hs
  have hsup : ¬(crSup n = true ∧ u.src.sup = false) := by
    rintro ⟨hn, hu⟩
    rcases hs with hs | hs
    · rw [hu] at hs; cases hs
    · rw [hn] at hs; cases hs
  rw [crFault, if_neg hdev, if_neg (by rw [ha]; decide), if_neg hsup]
theorem crFault_hidden (hu : u.src.sup = false) (h : 0x800 ≤ n ∨ crAssigned n = true ∧ crSup n = true) :
    u.crFault n = some (.privilege, BitVec.ofNat 64 n) := by
  by_cases hn : 0x800 ≤ n
  · rw [crFault, if_pos ⟨hn, hu⟩]
  · obtain ⟨ha, hs⟩ := h.resolve_left hn
    rw [crFault, if_neg (fun hx => hn hx.1), if_neg (by rw [ha]; decide), if_pos ⟨hs, hu⟩]
theorem crFault_unassigned (ha : crAssigned n = false) (hs : u.src.sup = true ∨ n < 0x800) : u.crFault n = some (.illegal, u.wordVal) := by
  have hdev : ¬(0x800 ≤ n ∧ u.src.sup = false) := by
    rintro ⟨hn, hu⟩
    rcases hs with hs | hs
    · rw [hu] at hs; cases hs
    · exact absurd hs (Nat.not_lt.2 hn)
  rw [crFault, if_neg hdev, if_pos ha]

/-! A writing form (R107). -/

theorem crWrite_fault {cr : BitVec 12} {k : Cause} {v : Word} (h : u.crFault cr.toNat = some (k, v)) (o : CrOp) (x : XReg) :
    u.crWrite o x cr = .raise (u.trapOf k v) := by
  simp only [crWrite, h, fault]
theorem crWrite_puts {cr : BitVec 12} (h : u.crFault cr.toNat = none) (hn : cr.toNat ≠ 0x848) (o : CrOp) (x : XReg) :
    u.crWrite o x cr = .done (if cr.toNat < 0x800 then u.crPutThread o cr.toNat (u.rx x) else u.crPutDevice o cr.toNat (u.rx x)) := by
  simp only [crWrite, h, if_neg hn, apply_ite SlotRes.done]

end

end State

/-- Where the access of a control-register form is refused, the form raises that fault (R26). -/
theorem crForm_traps {i : Instr} {x : XReg} {cr : BitVec 12} (hi : i = .crr x cr ∨ i = .crw x cr ∨ i = .crset x cr ∨ i = .crclr x cr)
    {p : State → Prop} {k : Cause} {v : State → Word} (h : ∀ u, p u → u.crFault cr.toNat = some (k, v u)) : Traps i p k v := by
  rcases hi with rfl | rfl | rfl | rfl
  · exact traps_of (exec_crr x cr) fun u hu => by simp only [h u hu]; rfl
  · exact traps_of (exec_crw x cr) fun u hu => State.crWrite_fault (h u hu) _ _
  · exact traps_of (exec_crset x cr) fun u hu => State.crWrite_fault (h u hu) _ _
  · exact traps_of (exec_crclr x cr) fun u hu => State.crWrite_fault (h u hu) _ _

theorem controlRegisters : Part.ControlRegisters := by
  intro x cr n may put hidden unassigned
  have writes : ∀ (o : CrOp) (u : State), may u ∧ n ≠ 0x848 → u.crWrite o x cr = .done (put o u) :=
    fun o u ⟨⟨ha, hs⟩, hn⟩ => State.crWrite_puts (State.crFault_may ha hs) hn o x
  refine ⟨doesIf_of (exec_crr x cr) fun u h => ?_, doesIf_of (exec_crw x cr) fun u h => writes _ u h, doesIf_of (exec_crset x cr) fun u h => writes _ u h,
    doesIf_of (exec_crclr x cr) fun u h => writes _ u h, fun i hi => ⟨crForm_traps hi fun u h => State.crFault_hidden h.1 h.2,
      crForm_traps hi fun u h => State.crFault_unassigned h.1 h.2⟩⟩
  simp only [show u.crFault cr.toNat = none from State.crFault_may h.1 h.2]
  rfl

/-! ### Access codes (R107) -/

namespace State

variable (u : State) (o : CrOp) (x : Word)

/-- An RW field and a W1C field, written. -/
theorem crPutThread_scla : (u.crPutThread o 0x082 x).cur.ctl.scla = o.rw u.src.ctl.scla x := by
  show (u.modCur _).cur.ctl.scla = _
  rw [cur_modCur]
theorem crPutThread_vflags : (u.crPutThread o 0x041 x).cur.ctl.vflags = u.src.ctl.vflags &&& ~~~((o.w1c x).setWidth 5) := by
  show (u.modCur _).cur.ctl.vflags = _
  rw [cur_modCur]
/-- The RO registers of a thread. -/
theorem crPutThread_ro {n : Nat} (h : n ≤ 5 ∨ n = 7 ∨ n = 0xC0 ∨ n = 0xC1 ∨ n = 0x101 ∨ n = 0x102 ∨ n = 0x104 ∨ (0x1C0 ≤ n ∧ n ≤ 0x1C2)) :
    u.crPutThread o n x = u := by
  have hn : n ∈ [0, 1, 2, 3, 4, 5, 7, 0xC0, 0xC1, 0x101, 0x102, 0x104, 0x1C0, 0x1C1, 0x1C2] := by simp; omega
  simp only [List.mem_cons, List.not_mem_nil, or_false] at hn
  rcases hn with rfl | rfl | rfl | rfl | rfl | rfl | rfl | rfl | rfl | rfl | rfl | rfl | rfl | rfl | rfl <;> rfl
/-- The registers that are RO outside supervisor mode. -/
theorem crPutThread_user {n : Nat} (hu : u.src.sup = false) (h : n = 0x006 ∨ n = 0x185 ∨ n = 0x187) : u.crPutThread o n x = u := by
  rcases h with rfl | rfl | rfl <;> exact if_neg (by rw [hu]; exact Bool.false_ne_true)

end State

theorem accessCodes : Part.AccessCodes := by
  intro u x t hsnap hcur new
  have hsrc : u.src = t := by rw [State.src, hsnap]; rfl
  have keep : t.ctl.vflags &&& ~~~((0 : Word).setWidth 5) = t.ctl.vflags := BitVec.and_allOnes
  simp only [new, State.crPutThread_scla, State.crPutThread_vflags, hsrc]
  exact ⟨rfl, rfl, rfl, rfl, keep, rfl, fun o n h => u.crPutThread_ro o x h, fun o hs => ⟨u.crPutThread_user o x (hsrc ▸ hs) (.inl rfl),
    u.crPutThread_user o x (hsrc ▸ hs) (.inr (.inl rfl)), u.crPutThread_user o x (hsrc ▸ hs) (.inr (.inr rfl))⟩⟩

/-! ### The allotment and the tag enables (R22, R108, R215) -/

namespace State

theorem allotOk_iff (v : Word) : allotOk v = true ↔ v.toNat % 64 = 8 ∨ v.toNat % 64 = 16 ∨ v.toNat % 64 = 24 ∨ v.toNat % 64 = 32 := by
  simp [allotOk, or_assoc]

/-- A fold whose steps all keep a value keeps it. -/
theorem foldl_keeps {α β γ : Type} (f : β → γ) {op : β → α → β} (h : ∀ b a, f (op b a) = f b) (l : List α) (b : β) : f (l.foldl op b) = f b := by
  induction l generalizing b with
  | nil => rfl
  | cons a l ih => exact (ih (op b a)).trans (h b a)

/-- The registers and the control registers of the issuing thread, which ages do not touch. -/
def files (s : State) : Regs × Ctl := (s.cur.regs, s.cur.ctl)
theorem files_modThread {s : State} {k : Nat} {f : Thread → Thread} (h : ∀ t, (f t).regs = t.regs ∧ (f t).ctl = t.ctl) :
    (s.modThread k f).files = s.files := by
  rw [files, cur, thread_modThread]
  split
  next hk => rw [(h _).1, (h _).2]; exact (congrArg (fun k => ((s.thread k).regs, (s.thread k).ctl)) hk).symm
  next => rfl
/-- Bringing the ages of arrivals and request bits up to date changes no register (R212). -/
theorem settle_files (s : State) (site : Nat) : (s.settle site).files = s.files := by
  unfold settle
  refine foldl_keeps files (fun u i => ?_) _ _
  split
  · rfl
  · exact files_modThread fun t => ⟨rfl, rfl⟩

end State

/-- The vector registers that an allotment keeps (R22). -/
theorem Thread.getV_dropAbove (t : Thread) (n : Nat) (r : VReg) : (t.dropAbove n).getV r = if r.toNat < n then t.getV r else 0 := by
  simp only [getV, dropAbove, unmarkV, Vector.getElem_ofFn]

theorem Thread.dropAbove_regs_x (t : Thread) (n : Nat) : (t.dropAbove n).regs.x = t.regs.x := by
  simp only [dropAbove, unmarkV]

theorem execVallotWrite_allots {v : Word} (h : State.allotOk v = true) (s : State) :
    execVallotWrite v s = .next (s.modCur fun t => { t.dropAbove (v.toNat % 64) with ctl := { t.ctl with vallot := v.setWidth 6 } }) := by
  rw [execVallotWrite, if_pos h]
theorem execVallotWrite_ignored {v : Word} (h : ¬State.allotOk v = true) (s : State) : execVallotWrite v s = .next s := by
  rw [execVallotWrite, if_neg h]

theorem allotmentAndTags : Part.AllotmentAndTags := by
  intro s v n
  refine ⟨fun h => ⟨_, (exec_vallotWrite v s).trans (execVallotWrite_allots ((State.allotOk_iff v).2 h) s), ?_⟩,
    fun h => (exec_vallotWrite v s).trans (execVallotWrite_ignored (fun hn => h ((State.allotOk_iff v).1 hn)) s), _, exec_tgenWrite v s, ?_⟩
  · rw [State.cur_modCur]
    exact ⟨rfl, s.cur.dropAbove_regs_x n, fun r => s.cur.getV_dropAbove n r⟩
  · have hf := (State.settle_files (s.modCur fun t => { t with ctl := { t.ctl with tgen := v } }) s.site).trans
      (congrArg (fun t : Thread => (t.regs, t.ctl)) (State.cur_modCur s _))
    exact ⟨congrArg (fun x => x.2.tgen) hf, congrArg Prod.fst hf⟩

/-- Settles O11: the fault of an access decides each form; the access codes and the two delayed writes from the register they change. -/
theorem controlRegisterAccess : Obligations.ControlRegisterAccess := ⟨controlRegisters, accessCodes, allotmentAndTags⟩

end Sys2Proof.Machine
end

section
/-! ### Accesses to memory at issue (R24, R35, R142 to R170) -/

namespace Sys2Proof.Machine

namespace State

section
variable {u : State} {c : Acc}

/-! One contiguous run (R159, R161, R164, R168). -/

theorem access_fault {k : Cause} {v : Word} (h : c.chk.fault (u.ra c.a) = some (k, v)) : u.access c = .raise (u.trapOf k v) := by
  simp only [access, h, fault]

/-- Nothing earlier holds the access back (R170). -/
theorem accFree_goes (h : u.accFree c) : (u.acqPending || (c.ord.getLsbD 1 && !u.drained u.ctx.key)) = false := by
  obtain ⟨ha, hd⟩ := h
  rw [ha, Bool.false_or]
  cases ho : c.ord.getLsbD 1 with
  | false => rfl
  | true => rw [hd ho]; rfl

variable (hf : c.chk.fault (u.ra c.a) = none) (hg : u.accFree c)
include hf hg

theorem access_own {off : Nat} (hl : u.locate u.ctx.key c.chk.e.toNat c.chk.size c.chk.need = .own off) :
    u.access c = .done (((u.trackAcc c).2.pushAll u.ctx.key (u.trackAcc c).1 c.op c.nt (BitVec.ofNat 64 (c.chk.e.toNat - off))
      ((pieces off c.chk.size).map fun x => [x])).accDone u c) := by
  simp only [access, hf, accFree_goes hg, hl, Bool.false_eq_true, if_false, accDone]
theorem access_parts {ps : List Part} {us : List TlbEnt} {ten : BitVec 12}
    (hl : u.locate u.ctx.key c.chk.e.toNat c.chk.size c.chk.need = .parts ps us ten) (hn : ps.length ≤ u.cur.freeSlots.length)
    (hw : u.cur.feWaits ps = false) :
    u.access c = .done (((((u.trackAcc c).2.useAll u.site c.chk.wr us).noteHost c.chk.e.toNat c.chk.wr).sendParts u.ctx.key (u.trackAcc c).1 c.op
      c.nt ten c.ord c.sc (u.whoFor u.site c.chk.e.toNat) (ps.zip u.cur.freeSlots)).accDone u c) := by
  have hroom : (decide (u.cur.freeSlots.length < ps.length) || u.cur.feWaits ps) = false := by
    rw [hw, Bool.or_false]; exact decide_eq_false (Nat.not_lt.2 hn)
  simp only [access, hf, accFree_goes hg, hl, hroom, Bool.false_eq_true, if_false, accDone]
theorem access_bad {k : Cause} {v : Word} (hl : u.locate u.ctx.key c.chk.e.toNat c.chk.size c.chk.need = .bad k v) :
    u.access c = .raise (u.trapOf k v) := by
  simp only [access, hf, accFree_goes hg, hl, Bool.false_eq_true, if_false, fault]

end

/-- The address and the new pointer of the four modes (R159). -/
theorem modeAddr_eq (u : State) (a : AReg) (x : XReg) (mode : BitVec 3) (n : Nat) :
    u.modeAddr a x mode n = (effAddr u a x mode n, newPtr u a x mode n) := by
  have hm : mode = 0 ∨ mode = 1 ∨ mode = 2 ∨ mode = 3 ∨ mode = 4 ∨ mode = 5 ∨ mode = 6 ∨ mode = 7 := by revert mode; decide
  rcases hm with rfl | rfl | rfl | rfl | rfl | rfl | rfl | rfl <;> rfl

end State

/-- An atomic is the access that accOf names (R168, R169). -/
theorem State.atomic_eq (u : State) (i : Instr) (d : XReg) (a : AReg) (x : XReg) (sc : Scope) (o : BitVec 2) (op : BitVec 4) :
    u.atomic i d a x sc o op = u.access (u.atomicAcc i d a x sc o op) := by
  have hn : atomicLen op = if 11 ≤ op.toNat then 4 else 8 := by revert op; decide
  simp only [atomic, atomicAcc, hn]
  rfl

/-- An instruction makes one access: its body is that of the access that accOf names. -/
def Accesses (i : Instr) : Prop := ∃ body, (∀ s, exec i s = slot i body s) ∧ ∀ u c, accOf u i = some c → body u = u.access c

section
variable (d x : XReg) (v : VReg) (a : AReg) (xi : BitVec 5) (la : BitVec 4) (sz mode : BitVec 3) (fe o : BitVec 2) (sc : Scope)

theorem accesses_lds : Accesses (.lds d a x la sz mode) := by
  refine ⟨_, exec_lds d a x la sz mode, fun u c h => ?_⟩
  rw [← Option.some.inj h, State.modeAddr_eq]; rfl
theorem accesses_sts : Accesses (.sts d a x sz mode) := by
  refine ⟨_, exec_sts d a x sz mode, fun u c h => ?_⟩
  rw [← Option.some.inj h, State.modeAddr_eq]; rfl
theorem accesses_ldv : Accesses (.ldv v a xi la sz mode) := by
  refine ⟨_, exec_ldv v a xi la sz mode, fun u c h => ?_⟩
  by_cases hz : sz.toNat ≤ 3
  · rw [if_pos hz, ← Option.some.inj ((if_pos hz).symm.trans h), State.modeAddr_eq]; rfl
  · exact nomatch (if_neg hz).symm.trans h
theorem accesses_stv : Accesses (.stv v a xi sz mode) := by
  refine ⟨_, exec_stv v a xi sz mode, fun u c h => ?_⟩
  by_cases hz : sz.toNat ≤ 3
  · rw [if_pos hz, ← Option.some.inj ((if_pos hz).symm.trans h), State.modeAddr_eq]; rfl
  · exact nomatch (if_neg hz).symm.trans h
theorem accesses_stnt : Accesses (.stnt v a xi sz mode) := by
  refine ⟨_, exec_stnt v a xi sz mode, fun u c h => ?_⟩
  rw [← Option.some.inj h, State.modeAddr_eq]; rfl
theorem accesses_ldfe : Accesses (.ldfe d a la fe) :=
  ⟨_, exec_ldfe d a la fe, fun _ _ h => by rw [← Option.some.inj h]; rfl⟩
theorem accesses_stfe : Accesses (.stfe d a fe) :=
  ⟨_, exec_stfe d a fe, fun _ _ h => by rw [← Option.some.inj h]; rfl⟩
/-- The fourteen atomics, by their operation. -/
theorem accesses_atomic {i : Instr} {op : BitVec 4} (hs : ∀ s, exec i s = slot i (fun u => u.atomic i d a x sc o op) s)
    (ha : ∀ u, accOf u i = some (u.atomicAcc i d a x sc o op)) : Accesses i :=
  ⟨_, hs, fun u c h => by rw [u.atomic_eq, Option.some.inj ((ha u).symm.trans h)]⟩

end

/-- The instructions of accOf are those that make one access. -/
theorem accesses_of_accOf {i : Instr} {u : State} {c : Acc} (h : accOf u i = some c) : Accesses i := by
  cases i
  case lds d a x la sz mode => exact accesses_lds d x a la sz mode
  case sts d a x sz mode => exact accesses_sts d x a sz mode
  case ldv v a xi la sz mode => exact accesses_ldv v a xi la sz mode
  case stv v a xi sz mode => exact accesses_stv v a xi sz mode
  case stnt v a xi sz mode => exact accesses_stnt v a xi sz mode
  case ldfe d a la fe => exact accesses_ldfe d a la fe
  case stfe d a fe => exact accesses_stfe d a fe
  case atomAdd d a x sc o => exact accesses_atomic d x a o sc (exec_atomAdd d a x sc o) fun _ => rfl
  case atomAnd d a x sc o => exact accesses_atomic d x a o sc (exec_atomAnd d a x sc o) fun _ => rfl
  case atomOr d a x sc o => exact accesses_atomic d x a o sc (exec_atomOr d a x sc o) fun _ => rfl
  case atomXor d a x sc o => exact accesses_atomic d x a o sc (exec_atomXor d a x sc o) fun _ => rfl
  case atomMin d a x sc o => exact accesses_atomic d x a o sc (exec_atomMin d a x sc o) fun _ => rfl
  case atomMax d a x sc o => exact accesses_atomic d x a o sc (exec_atomMax d a x sc o) fun _ => rfl
  case atomMinu d a x sc o => exact accesses_atomic d x a o sc (exec_atomMinu d a x sc o) fun _ => rfl
  case atomMaxu d a x sc o => exact accesses_atomic d x a o sc (exec_atomMaxu d a x sc o) fun _ => rfl
  case atomSwap d a x sc o => exact accesses_atomic d x a o sc (exec_atomSwap d a x sc o) fun _ => rfl
  case atomCas d a x sc o => exact accesses_atomic d x a o sc (exec_atomCas d a x sc o) fun _ => rfl
  case atomMaxrst d a x sc o => exact accesses_atomic d x a o sc (exec_atomMaxrst d a x sc o) fun _ => rfl
  case atomFadd d a x sc o => exact accesses_atomic d x a o sc (exec_atomFadd d a x sc o) fun _ => rfl
  case atomFmax d a x sc o => exact accesses_atomic d x a o sc (exec_atomFmax d a x sc o) fun _ => rfl
  case atomFmaxrst d a x sc o => exact accesses_atomic d x a o sc (exec_atomFmaxrst d a x sc o) fun _ => rfl
  all_goals exact nomatch h

theorem memoryAccess : Part.MemoryAccess := by
  intro i s c hc ha u key e
  obtain ⟨body, hs, hb⟩ := accesses_of_accOf ha
  have hb := hb _ c ha
  refine ⟨fun k v hf => ?_, fun hf hg => ⟨fun off hl => ?_, fun ps us ten hl hn hw => ?_, fun k v hl => ?_⟩⟩
  · rw [hs, slot_raise hc (hb.trans (State.access_fault hf)), entered_trapOf]
  · rw [hs, slot_done hc (hb.trans (State.access_own hf hg hl))]
  · rw [hs, slot_done hc (hb.trans (State.access_parts hf hg hl hn hw))]
  · rw [hs, slot_raise hc (hb.trans (State.access_bad hf hg hl)), entered_trapOf]

theorem memoryForms : Part.MemoryForms := by
  intro d x v a xi la sz mode fe o sc completes
  have all : ∀ i, completes i := by
    intro i s c hc ha u hf hg
    obtain ⟨-, h⟩ := memoryAccess i s c hc ha
    obtain ⟨hown, hparts, -⟩ := h hf hg
    exact ⟨fun off hl => ⟨_, hown off hl, rfl⟩, fun ps us ten hl hn hw => ⟨_, hparts ps us ten hl hn hw, rfl⟩⟩
  simp only [all, and_self]

end Sys2Proof.Machine
end

section
/-! ### Strided and gathered accesses at issue (R160) -/

namespace Sys2Proof.Machine

/-- The first fault of one element: ALIGN before BOUND before PERM before WINDOW (R35, R160). -/
def elemCheck (r : ARegV) (ok : Byte → Bool) (e : Int) : Option (Cause × Word) :=
  if e % 4 ≠ 0 then some (.align, BitVec.ofInt 64 e)
  else if boundOk r e 4 = false then some (.bound, BitVec.ofInt 64 e)
  else if ok r.perm = false then some (.perm, BitVec.ofInt 64 e)
  else if windowOf e.toNat ≠ 0 ∨ windowOk e.toNat 4 = false then some (.window, BitVec.ofInt 64 e)
  else none
/-- An element passes its checks. -/
def elemGood (r : ARegV) (ok : Byte → Bool) (e : Int) : Prop :=
  e % 4 = 0 ∧ boundOk r e 4 = true ∧ ok r.perm = true ∧ windowOf e.toNat = 0 ∧ windowOk e.toNat 4 = true

section
variable {r : ARegV} {ok : Byte → Bool} {e : Int}

theorem elemCheck_good (h : elemGood r ok e) : elemCheck r ok e = none := by
  obtain ⟨ha, hb, hp, hw, hk⟩ := h
  simp [elemCheck, ha, hb, hp, hw, hk]
theorem elemCheck_align (ha : e % 4 ≠ 0) : elemCheck r ok e = some (.align, BitVec.ofInt 64 e) := if_pos ha
theorem elemCheck_bound (ha : e % 4 = 0) (hb : boundOk r e 4 = false) : elemCheck r ok e = some (.bound, BitVec.ofInt 64 e) := by
  simp [elemCheck, ha, hb]
theorem elemCheck_perm (ha : e % 4 = 0) (hb : boundOk r e 4 = true) (hp : ok r.perm = false) :
    elemCheck r ok e = some (.perm, BitVec.ofInt 64 e) := by
  simp [elemCheck, ha, hb, hp]
theorem elemCheck_window (ha : e % 4 = 0) (hb : boundOk r e 4 = true) (hp : ok r.perm = true)
    (hw : windowOf e.toNat ≠ 0 ∨ windowOk e.toNat 4 = false) : elemCheck r ok e = some (.window, BitVec.ofInt 64 e) := by
  simp only [elemCheck, ha, hb, hp, hw, ne_eq, not_true_eq_false, Bool.true_eq_false, if_false, if_true]

/-- The first element that fails decides. -/
theorem elemFault_eq (l : List Int) : elemFault r ok l = l.findSome? (elemCheck r ok) := by
  induction l with
  | nil => rfl
  | cons e l ih =>
    rw [List.findSome?_cons, elemFault, elemCheck, ih]
    repeat' split
    all_goals simp_all

/-- Elements in ascending order, all good, and the first that is not. -/
theorem elemFault_good {el : Nat → Int} {n : Nat} (h : ∀ k, k < n → elemGood r ok (el k)) : elemFault r ok ((List.range n).map el) = none := by
  rw [elemFault_eq, List.findSome?_eq_none_iff]
  intro e he
  obtain ⟨k, hk, rfl⟩ := List.mem_map.1 he
  exact elemCheck_good (h k (List.mem_range.1 hk))
theorem elemFault_first {el : Nat → Int} {n k : Nat} {f : Cause × Word} (hk : k < n) (h : ∀ j, j < k → elemGood r ok (el j))
    (hf : elemCheck r ok (el k) = some f) : elemFault r ok ((List.range n).map el) = some f := by
  obtain ⟨m, rfl⟩ := Nat.exists_eq_add_of_lt hk
  rw [Nat.add_assoc, List.range_add, List.map_append, elemFault_eq, List.findSome?_append, ← elemFault_eq, elemFault_good h, List.range_succ_eq_map]
  simp [hf]

end

/-- The address of element k (R160). -/
def elemAt (u : State) (a : AReg) (xi : BitVec 5) (sz : BitVec 3) (k : Nat) : Int :=
  ((u.ra a).ptr.toNat : Int) + (if sz = 4 then (k : Int) * (u.rx xi).toInt else (((u.rv xi).toNat / 2 ^ (32 * k) % 2 ^ 32 : Nat) : Int))
theorem elemAddrs_eq (u : State) (a : AReg) (xi : BitVec 5) (sz : BitVec 3) : elemAddrs u a xi sz = (List.range 128).map (elemAt u a xi sz) := by
  refine List.map_congr_left fun k _ => ?_
  rw [elemAt, BitVec.extractLsb'_toNat, Nat.shiftRight_eq_div_pow]
  split <;> rfl
/-- The elements as runs of bytes, with their places in the register. -/
theorem zipIdx_map_range {α : Type} (f : Nat → α) (n : Nat) : ((List.range n).map f).zipIdx = (List.range n).map fun k => (f k, k) :=
  List.ext_getElem (by simp) (by simp)

theorem State.gather_fault {u : State} {a : AReg} {xi : BitVec 5} {sz : BitVec 3} {ok : Byte → Bool} {k : Cause} {v : Word}
    (h : elemFault (u.ra a) ok ((List.range 128).map (elemAt u a xi sz)) = some (k, v)) (i : Instr) (op : AccOp) (dst : List RegRef) (wr : Bool) :
    u.gather i a xi sz ok op dst wr = .raise (u.trapOf k v) := by
  simp only [gather, elemAddrs_eq, h, fault]
theorem State.gather_runs {u : State} {a : AReg} {xi : BitVec 5} {sz : BitVec 3} {ok : Byte → Bool}
    (h : elemFault (u.ra a) ok ((List.range 128).map (elemAt u a xi sz)) = none) (hq : u.acqPending = false) (i : Instr) (op : AccOp)
    (dst : List RegRef) (wr : Bool) :
    u.gather i a xi sz ok op dst wr = .done (((if wr then (0, u) else u.track i dst).2.pushAll u.ctx.key (if wr then (0, u) else u.track i dst).1 op
      false 0 (byLine ((List.range 128).map fun k => ⟨(elemAt u a xi sz k).toNat, 4 * k, 4⟩))).watchAll u.site wr
        ((List.range 128).map (elemAt u a xi sz))) := by
  simp only [gather, elemAddrs_eq, h, hq, Bool.false_eq_true, if_false, zipIdx_map_range, List.map_map]
  rfl

section
variable (d : VReg) (a : AReg) (xi : BitVec 5) (la : BitVec 4) (sz mode : BitVec 3)

theorem exec_ldv_gather (h : 4 ≤ sz.toNat) (s : State) : exec (.ldv d a xi la sz mode) s =
    slot (.ldv d a xi la sz mode) (fun u => u.gather (.ldv d a xi la sz mode) a xi sz permR (.loadV d 512) (vRef d) false) s := by
  simp only [exec_ldv, execLdv, if_neg (show ¬sz.toNat ≤ 3 by omega)]
theorem exec_stv_gather (h : 4 ≤ sz.toNat) (s : State) : exec (.stv d a xi sz mode) s =
    slot (.stv d a xi sz mode) (fun u => u.gather (.stv d a xi sz mode) a xi sz permW (.store (u.rv d)) [] true) s := by
  simp only [exec_stv, execStv, if_neg (show ¬sz.toNat ≤ 3 by omega)]

end

theorem gatherAccess : Part.GatherAccess := by
  intro d a xi la sz mode hz el good all runs
  refine ⟨doesIf_of (exec_ldv_gather d a xi la sz mode hz) fun u hu => State.gather_runs (elemFault_good hu.2) hu.1 _ _ _ _,
    doesIf_of (exec_stv_gather d a xi sz mode hz) fun u hu => State.gather_runs (elemFault_good hu.2) hu.1 _ _ _ _, ?_⟩
  intro i ok hi k hk val before aligned bounded
  -- the element that fails first raises its fault in both forms
  have traps : ∀ (p : State → Prop) c, (∀ u, p u → (∀ j, j < k → elemGood (u.ra a) ok (elemAt u a xi sz j)) ∧
      elemCheck (u.ra a) ok (elemAt u a xi sz k) = some (c, val u)) → Traps i p c val := by
    intro p c h
    rcases hi with ⟨rfl, rfl⟩ | ⟨rfl, rfl⟩
    · exact traps_of (exec_ldv_gather d a xi la sz mode hz) fun u hu => State.gather_fault (elemFault_first hk (h u hu).1 (h u hu).2) _ _ _ _
    · exact traps_of (exec_stv_gather d a xi sz mode hz) fun u hu => State.gather_fault (elemFault_first hk (h u hu).1 (h u hu).2) _ _ _ _
  exact ⟨traps _ _ fun u hu => ⟨hu.1, elemCheck_align hu.2⟩, traps _ _ fun u hu => ⟨hu.1.1, elemCheck_bound hu.1.2 hu.2⟩,
    traps _ _ fun u hu => ⟨hu.1.1.1, elemCheck_perm hu.1.1.2 hu.1.2 hu.2⟩,
    traps _ _ fun u hu => ⟨hu.1.1.1, elemCheck_window hu.1.1.2 hu.1.2 hu.2.1 hu.2.2⟩⟩

/-- Settles O15: every form of accOf is one access; a strided or gathered form goes by its first element that fails. -/
theorem memoryIssue : Obligations.MemoryIssue := ⟨memoryAccess, memoryForms, gatherAccess⟩

end Sys2Proof.Machine
end

section
/-! ### Bytes of a vector register (R155, R159) -/

namespace Sys2Proof.Machine

/-- The bits of a register in which bytes were placed. -/
theorem getLsbD_vPlace (v : VWord) {off len : Nat} (x : Nat) (h : off + len ≤ 512) (j : Nat) :
    (vPlace v off len x).getLsbD j = if 8 * off ≤ j ∧ j < 8 * (off + len) then x.testBit (j - 8 * off) else v.getLsbD j := by
  simp only [vPlace, BitVec.getLsbD_or, BitVec.getLsbD_and, BitVec.getLsbD_not, BitVec.getLsbD_shiftLeft, BitVec.getLsbD_ofNat,
    Nat.testBit_two_pow_sub_one, Nat.testBit_mod_two_pow]
  by_cases h0 : j < 8 * off
  · rw [if_neg (by omega)]
    by_cases hj : j < 4096
    · simp [h0, hj]
    · simp [h0, hj, BitVec.getLsbD_of_ge v j (by omega)]
  by_cases h1 : j < 8 * (off + len)
  · rw [if_pos ⟨by omega, h1⟩]
    simp [h0, show j < 4096 by omega, show j - 8 * off < 4096 by omega, show j - 8 * off < 8 * len by omega]
  · rw [if_neg (by omega)]
    by_cases hj : j < 4096
    · simp [h0, hj, show ¬j - 8 * off < 8 * len by omega]
    · simp [hj, BitVec.getLsbD_of_ge v j (by omega)]
/-- The bits of a register below a length. -/
theorem getLsbD_vLow (v : VWord) (len j : Nat) : (vLow v len).getLsbD j = (decide (j < 8 * len) && v.getLsbD j) := by
  simp only [vLow, BitVec.getLsbD_ofNat, Nat.testBit_mod_two_pow, BitVec.testBit_toNat]
  by_cases hj : j < 4096
  · simp [hj]
  · simp [hj, BitVec.getLsbD_of_ge v j (by omega)]

/-- A byte of a register by its bits. -/
theorem elem_eight (v : VWord) (b : Nat) : elem 8 v b = (v.extractLsb' (8 * b) 8).toNat := by
  rw [elem, BitVec.extractLsb'_toNat, Nat.shiftRight_eq_div_pow]
theorem elem_eight_congr {v w : VWord} {a b : Nat} (h : ∀ i, i < 8 → v.getLsbD (8 * a + i) = w.getLsbD (8 * b + i)) : elem 8 v a = elem 8 w b := by
  rw [elem_eight, elem_eight]
  refine congrArg BitVec.toNat (BitVec.eq_of_getLsbD_eq fun i hi => ?_)
  simp only [BitVec.getLsbD_extractLsb', hi, decide_true, Bool.true_and, h i hi]
theorem elem_eight_zero {v : VWord} {b : Nat} (h : ∀ i, i < 8 → v.getLsbD (8 * b + i) = false) : elem 8 v b = 0 := by
  rw [elem_eight]
  refine congrArg BitVec.toNat (BitVec.eq_of_getLsbD_eq (y := 0#8) fun i hi => ?_)
  simp only [BitVec.getLsbD_extractLsb', hi, decide_true, Bool.true_and, h i hi, BitVec.getLsbD_zero]

/-- The bytes of a vector register that takes a run of a vector load (R159). -/
theorem elem_vLow_vPlace (v x : VWord) {off n len : Nat} (h : off + n ≤ len) (hl : len ≤ 512) (b : Nat) :
    elem 8 (vLow (vPlace v off n x.toNat) len) b =
      if off ≤ b ∧ b < off + n then elem 8 x (b - off) else if b < len then elem 8 v b else 0 := by
  split
  · refine elem_eight_congr fun i hi => ?_
    rw [getLsbD_vLow, getLsbD_vPlace v _ (by omega), if_pos (by omega), BitVec.testBit_toNat, decide_eq_true (by omega), Bool.true_and]
    congr 1
    omega
  · split
    · refine elem_eight_congr fun i hi => ?_
      rw [getLsbD_vLow, getLsbD_vPlace v _ (by omega), if_neg (by omega), decide_eq_true (by omega), Bool.true_and]
    · refine elem_eight_zero fun i hi => ?_
      rw [getLsbD_vLow, decide_eq_false (by omega), Bool.false_and]

end Sys2Proof.Machine
end

section
/-! ### Answers at the requester (R31, R108, R153, R155, R159, R161, R164, R169) -/

namespace Sys2Proof.Machine

namespace Thread

/-! What the parts of an answer change. -/

theorem getX_congr {t u : Thread} (h : t.regs = u.regs) (r : XReg) : t.getX r = u.getX r := by rw [getX, getX, h]
theorem getV_congr {t u : Thread} (h : t.regs = u.regs) (r : VReg) : t.getV r = u.getV r := by rw [getV, getV, h]
theorem putX_regs (t : Thread) (d : XReg) (v : Word) : (t.putX d v).regs = (t.setX d v).regs := rfl
theorem putV_regs (t : Thread) (d : VReg) (v : VWord) : (t.putV d v).regs = (t.setV d v).regs := rfl
theorem fillV_regs_x (t : Thread) (d : VReg) (v : VWord) : (t.fillV d v).regs.x = t.regs.x := by
  unfold fillV; split <;> rfl
/-- A register at or above the allotment keeps nothing (R108). -/
theorem getV_fillV (t : Thread) (d r : VReg) (v : VWord) :
    (t.fillV d v).getV r = if r = d ∧ d.toNat < t.ctl.vallot.toNat then v else t.getV r := by
  unfold fillV
  by_cases h : d.toNat < t.ctl.vallot.toNat
  · rw [if_pos h, getV_congr (t.putV_regs d v), getV_setV]
    simp [h]
  · rw [if_neg h, if_neg fun hx => h hx.2]

/-- What the completion of an instruction leaves: its registers are those that its answers have written (R31, R161). -/
theorem completeIf_keeps (t : Thread) (id : Nat) :
    (t.completeIf id).regs = t.regs ∧ (t.completeIf id).slots = t.slots := by
  unfold completeIf complete
  split
  · exact ⟨rfl, rfl⟩
  · split <;> exact ⟨rfl, rfl⟩
/-- The completion of an instruction keeps the error of each. -/
theorem mem_completeIf_outst {t : Thread} {id : Nat} {o : Outst} (h : o ∈ (t.completeIf id).outst) :
    ∃ p ∈ t.outst, p.id = o.id ∧ p.err = o.err := by
  unfold completeIf complete at h
  split at h
  · exact ⟨o, h, rfl, rfl⟩
  · split at h
    · exact ⟨o, h, rfl, rfl⟩
    · obtain ⟨p, hp, rfl⟩ := List.mem_map.1 h
      refine ⟨p, hp, ?_⟩
      split <;> exact ⟨rfl, rfl⟩
/-- An error goes to the entry of its instruction, unless an earlier one is there (R31). -/
theorem mem_failOutst_outst {t : Thread} {id : Nat} {e : Trap} {o : Outst} (h : o ∈ (t.failOutst id e).outst) (hid : o.id = id) :
    o.err = some e ∨ ∃ p ∈ t.outst, p.id = id ∧ p.err = o.err ∧ p.err ≠ none := by
  obtain ⟨p, hp, rfl⟩ := List.mem_map.1 h
  by_cases hc : p.id = id ∧ p.err = none
  · exact .inl (by rw [if_pos hc])
  · rw [if_neg hc] at hid ⊢
    exact .inr ⟨p, hp, hid, rfl, fun hn => hc ⟨hid, hn⟩⟩
theorem freeSlot_slot (t : Thread) {n : Nat} (h : n < 8) : (t.freeSlot n).slots[n]? = some none := by
  simp [freeSlot, h]

/-! An answer that finds its request (R155). -/

section
variable {t : Thread} {n : Nat} {m : Msg} {q : Req} (hq : t.slots[n]?.getD none = some q)
include hq

theorem answered_data (h0 : m.status = 0) : t.answered n m = ((t.putData q m).freeSlot n).completeIf q.id := by
  simp only [answered, hq, if_pos h0]
theorem answered_failedStore (h0 : m.status ≠ 0) (hs : q.op.isStore = true) : t.answered n m = (t.storeFailed q.addr).freeSlot n := by
  simp only [answered, hq, if_neg h0, hs, if_true]
theorem answered_failed (h0 : m.status ≠ 0) (hs : q.op.isStore = false) :
    t.answered n m = ((t.failOutst q.id { cause := if m.status = 1 then .poison else .remote, slot := false, val := q.addr }).freeSlot n).completeIf
      q.id := by
  simp only [answered, hq, if_neg h0, hs, Bool.false_eq_true, if_false]

/-- Data free the slot, and the registers are those that the data leave. -/
theorem answered_data_regs (h0 : m.status = 0) : (t.answered n m).regs = (t.putData q m).regs := by
  rw [answered_data hq h0, (completeIf_keeps _ _).1]; rfl
theorem answered_data_slot (h0 : m.status = 0) (hn : n < 8) : (t.answered n m).slots[n]? = some none := by
  rw [answered_data hq h0, (completeIf_keeps _ _).2, freeSlot_slot _ hn]
/-- Data of an x register. -/
theorem answered_getX {d : XReg} {v : Word} (h0 : m.status = 0) (hp : t.putData q m = t.putX d v) :
    (d ≠ 0 → (t.answered n m).getX d = v) ∧ ∀ r, r ≠ d → (t.answered n m).getX r = t.getX r := by
  have hr : (t.answered n m).regs = (t.setX d v).regs := (answered_data_regs hq h0).trans ((congrArg Thread.regs hp).trans (t.putX_regs d v))
  exact ⟨fun hd => (getX_congr hr d).trans (getX_setX_same t d v hd), fun r hne => (getX_congr hr r).trans (getX_setX_ne t d r v hne)⟩
/-- An error in the entry of the request's instruction (R31, R153). -/
theorem answered_failed_outst (h0 : m.status ≠ 0) (hs : q.op.isStore = false) :
    (t.answered n m).regs = t.regs ∧ ∀ o ∈ (t.answered n m).outst, o.id = q.id →
      o.err = some { cause := if m.status = 1 then .poison else .remote, slot := false, val := q.addr } ∨
      ∃ p ∈ t.outst, p.id = q.id ∧ p.err = o.err ∧ p.err ≠ none := by
  rw [answered_failed hq h0 hs]
  refine ⟨(completeIf_keeps _ _).1, fun o ho hid => ?_⟩
  obtain ⟨p, hp, hpid, hpe⟩ := mem_completeIf_outst ho
  rw [← hpe]
  exact mem_failOutst_outst hp (hpid.trans hid)

end

end Thread

namespace State

/-- An answer that reaches a slot changes its thread alone (R155). -/
theorem slotAnswer_thread (s : State) (site : Nat) (m : Msg) :
    (s.slotAnswer site m).thread (m.threadAt site) = (s.thread (m.threadAt site)).answered m.slot m := by
  rw [slotAnswer, slotFreed]
  split
  · exact thread_modThread_same _ _ _
  · rw [thread_modCore, thread_modThread_same]

/-- A message to a core that takes part and holds its tenant is delivered (R153, R320). -/
theorem delivered_takes {s : State} {site : Nat} {m : Msg} (hp : s.present site = true) (ht : s.tenantOk site m = true) (go : State → State) :
    s.delivered site m go = go (s.wake site) := by
  simp only [delivered, hp, ht, Bool.not_true, Bool.false_eq_true, if_false]

section
variable {s : State} {k site : Nat} {m : Msg} {typ : BitVec 6} (hd : s.deliver k = some m) (hc : m.cls = .rsp) (hs : m.dest = .core site)
include hd hc hs

theorem answer_eq (ht : m.typ = typ) : s.answer k typ = some m := by
  simp only [answer, hd, ht, hc, hs, isOutAgent, and_self, if_true]

/-- An ACK or NACK at a core. -/
theorem takeAnswer_core (ht : m.typ = typ) : s.takeAnswer k typ = (s.dropMsg k).answerAtCore site m := by
  simp only [takeAnswer, answer_eq hd hc hs ht, hs, Bool.and_false, Bool.false_eq_true, if_false]

variable (hp : (s.dropMsg k).present site = true) (hk : (s.dropMsg k).tenantOk site m = true)
include hp hk

/-- Data that answer an access of a thread reach its slot. -/
theorem loadResponse_slot (ht : m.typ = MT.load) (h4 : ¬(m.w[4] = MT.load.setWidth 64 ∧ (m.w[2] = 1 ∨ m.w[2] = 2 ∨ m.w[2] = 3))) :
    exec (.loadResponse k) s = .next (((s.dropMsg k).wake site).slotAnswer site m) := by
  have h13 : ¬(m.w[4] = MT.load.setWidth 64 ∧ (m.w[2] = 1 ∨ m.w[2] = 3)) := fun h => h4 ⟨h.1, h.2.elim .inl fun h => .inr (.inr h)⟩
  have h2 : ¬(m.w[4] = MT.load.setWidth 64 ∧ m.w[2] = 2) := fun h => h4 ⟨h.1, .inr (.inl h.2)⟩
  simp only [exec_loadResponse, execLoadResponse, answer_eq hd hc hs ht, hs, delivered_takes hp hk, if_neg h13, if_neg h2]
/-- An ACK or NACK of a store reaches its slot. -/
theorem takeAnswer_store (ht : m.typ = typ) (h4 : m.w[4] = MT.store.setWidth 64) :
    s.takeAnswer k typ = ((s.dropMsg k).wake site).slotAnswer site m := by
  have h6 : m.w[4].setWidth 6 = MT.store := by rw [h4]; decide
  rw [takeAnswer_core hd hc hs ht, answerAtCore, delivered_takes hp hk, h6]
  rfl
/-- One of a load of a thread, not of a copy or a fence, reaches its slot. -/
theorem takeAnswer_load (ht : m.typ = typ) (h4 : m.w[4] = MT.load.setWidth 64) (h2 : m.w[2] ≠ 1 ∧ m.w[2] ≠ 2 ∧ m.w[2] ≠ 3) :
    s.takeAnswer k typ = ((s.dropMsg k).wake site).slotAnswer site m := by
  have h6 : m.w[4].setWidth 6 = MT.load := by rw [h4]; decide
  rw [takeAnswer_core hd hc hs ht, answerAtCore, delivered_takes hp hk, h6, if_neg (fun h => h.2.elim h2.1 h2.2.2), if_neg (fun h => h2.2.1 h.2)]
  rfl

end

end State

/-- The operations that cover 4 bytes (R168). -/
theorem atomicF32_ite {α : Type} (op : BitVec 4) (x y : α) : (if atomicF32 op = true then x else y) = if 11 ≤ op.toNat then x else y := by
  simp only [atomicF32, decide_eq_true_eq]

theorem answersAtRequester : Part.AnswersAtRequester := by
  intro s k site m q hd hc hs u key n hp hk hq
  have hn : n < 8 := Nat.mod_lt _ (by decide)
  -- the thread once its slot has the answer
  have slot : ((u.wake site).slotAnswer site m).thread key = (u.thread key).answered n m :=
    ((u.wake site).slotAnswer_thread site m).trans (congrArg (Thread.answered · n m) (State.thread_modCore ..))
  have load := State.loadResponse_slot hd hc hs hp hk
  refine ⟨fun d sz ht h4 h0 ho => ⟨_, load ht h4, ?_⟩, fun d len ht h4 h0 ho hoff hlen => ⟨_, load ht h4, ?_⟩, fun d ht hx h0 => ?_,
    fun x ht h4 h0 ho => ⟨_, (exec_ack k s).trans (congrArg Host.Outcome.next (State.takeAnswer_store hd hc hs hp hk ht h4)), ?_⟩,
    fun d sz ht h4 h2 h0 ho => ⟨_, (exec_nack k s).trans (congrArg Host.Outcome.next (State.takeAnswer_load hd hc hs hp hk ht h4 h2)), ?_⟩,
    fun x ht h4 h0 ho => ⟨_, (exec_nack k s).trans (congrArg Host.Outcome.next (State.takeAnswer_store hd hc hs hp hk ht h4)), ?_⟩⟩
  · rw [slot]
    exact ⟨Thread.answered_data_slot hq h0 hn, Thread.answered_getX hq h0 (by rw [Thread.putData, ho])⟩
  · rw [slot]
    have hr : ((u.thread key).answered n m).regs = _ := (Thread.answered_data_regs hq h0).trans (by rw [Thread.putData, ho])
    refine ⟨Thread.answered_data_slot hq h0 hn, fun b _ => ?_, fun r hne => ?_, ?_⟩
    · rw [Thread.getV_congr hr, Thread.getV_fillV]
      by_cases hv : (u.thread key).ctl.vallot.toNat ≤ d.toNat
      · rw [if_neg (fun h => Nat.not_lt.2 hv h.2), if_pos hv]
      · rw [if_pos ⟨rfl, Nat.lt_of_not_le hv⟩, if_neg hv, elem_vLow_vPlace _ _ hoff hlen]
    · rw [Thread.getV_congr hr, Thread.getV_fillV, if_neg fun h => hne h.1]
    · rw [hr, Thread.fillV_regs_x]
  · have h4 : m.w[4] ≠ MT.load.setWidth 64 := by
      rcases hx with ⟨h, -⟩ | ⟨h, -⟩ <;> rw [h] <;> decide
    refine ⟨_, load ht fun h => h4 h.1, ?_⟩
    rw [slot]
    refine ⟨Thread.answered_data_slot hq h0 hn, Thread.answered_getX hq h0 ?_⟩
    rcases hx with ⟨-, mode, ho⟩ | ⟨-, op, o, c, ho⟩
    · simp only [Thread.putData, ho]
    · simp only [Thread.putData, ho, atomicF32_ite]
  · rw [slot]
    exact ⟨Thread.answered_data_slot hq h0 hn, (Thread.answered_data_regs hq h0).trans (by rw [Thread.putData, ho])⟩
  · rw [slot]
    exact Thread.answered_failed_outst hq h0 (by rw [ho]; rfl)
  · rw [slot, Thread.answered_failedStore hq h0 (by rw [ho]; rfl)]
    rfl

end Sys2Proof.Machine
end

section
/-! ### Refusals and resends (R153, R157, R165) -/

namespace Sys2Proof.Machine

/-- The core that a RETRY may not be delivered to, where there is one (R153, R320). -/
def State.retryLost (s : State) (m : Msg) : Option Nat :=
  match m.dest with
  | .core site => if s.present site && s.tenantOk site m then none else some site
  | _ => none
theorem State.retryLost_none {s : State} {m : Msg} (h : ∀ p, m.dest = .core p → s.present p = true ∧ s.tenantOk p m = true) :
    s.retryLost m = none := by
  unfold retryLost
  split
  next p hp => simp only [(h p hp).1, (h p hp).2, Bool.and_self, if_true]
  next => rfl
theorem State.retryLost_some {s : State} {m : Msg} {p : Nat} (hd : m.dest = .core p) (h : s.present p = false ∨ s.tenantOk p m = false) :
    s.retryLost m = some p := by
  have hb : (s.present p && s.tenantOk p m) = false := by
    rcases h with h | h <;> simp [h]
  simp only [retryLost, hd, hb, Bool.false_eq_true, if_false]

section
variable {s : State} {k : Nat} {m : Msg} (ha : s.answer k MT.retry = some m)
include ha

/-- A RETRY whose message was refused here: it joins those to be resent (R157). -/
theorem execRetry_resends {o : Msg} (hl : s.retryLost m = none)
    (hf : (s.dropMsg k).refused.find? (fun x => x.id == m.w[5].toNat && !State.isOutAgent x.frm) = some o) :
    ∃ t, execRetry k s = .next t ∧ t.resend = (s.dropMsg k).resend ++ [({ o with tries := o.tries + 1 }, s.time + 64)] := by
  unfold execRetry
  simp -zeta only [ha]
  extract_lets s1 lost mine again
  rw [show lost = none from hl, show s1.refused.find? mine = some o from hf]
  exact ⟨_, rfl, rfl⟩
/-- One that may not be delivered is discarded with its record (R153, R320). -/
theorem execRetry_lost {p : Nat} (hl : s.retryLost m = some p) : execRetry k s = .next ((s.dropMsg k).discard p m) := by
  unfold execRetry
  simp -zeta only [ha]
  extract_lets s1 lost mine again
  rw [show lost = some p from hl]

end

/-- RETRY_RESEND, where it acts: its cycles have passed and no message before it takes the same way (R157). -/
theorem execRetryResend_sends {s : State} {k : Nat} {m : Msg} {due : Word} (hr : s.resend[k]? = some (m, due)) (hdue : due ≤ s.time)
    (hn : ∀ e ∈ s.resend.take k, e.1.frm ≠ m.frm ∨ e.1.dest ≠ m.dest ∨ e.1.cls ≠ m.cls) :
    execRetryResend k s = .next ({ s with resend := s.resend.eraseIdx k }.route
      { m with fl := { m.fl with resent := true, senior := decide (8 ≤ m.tries) } }) := by
  have hany : ((s.resend.take k).any fun e => e.1.frm == m.frm && e.1.dest == m.dest && e.1.cls == m.cls) = false := by
    rw [List.any_eq_false]
    intro e he
    have := hn e he
    simp only [Bool.and_eq_true, beq_iff_eq]
    tauto
  simp only [execRetryResend, hr, hdue, hany, and_self, if_true]
/-- RETRY_LIST_REOFFER, where it acts (R165). -/
theorem execRetryListReoffer_offers {s : State} {site k key : Nat} {a : Access} (hk : (s.heldOwn site)[k]? = some (key, a)) (ht : a.holdTo ≤ s.time) :
    execRetryListReoffer site k s = .next ((s.modThread key fun t => { t with
      accs := t.accs.map fun x => if x.ord = a.ord then { x with holdTo := 0 } else x }).offerOwn key { a with holdTo := 0 }) := by
  simp only [execRetryListReoffer, hk, ht, if_true]

theorem retryAndResend : Part.RetryAndResend := by
  intro s k m o
  refine ⟨fun hd ht hc hn hdel hf => ?_, fun p hd ht hc hp h => ?_, fun due hr hdue hn => (exec_retryResend k s).trans (execRetryResend_sends hr hdue hn),
    fun site key a hk ht => (exec_retryListReoffer site k s).trans (execRetryListReoffer_offers hk ht)⟩
  · have ha : s.answer k MT.retry = some m := by
      simp only [State.answer, hd, ht, hc, hn, and_self, if_true]
    obtain ⟨t, h, hr⟩ := execRetry_resends ha (State.retryLost_none hdel) hf
    exact ⟨t, (exec_retry k s).trans h, hr⟩
  · exact (exec_retry k s).trans (execRetry_lost (State.answer_eq hd hc hp ht) (State.retryLost_some hp h))

/-- Settles O23: an answer reaches the slot of its request; a RETRY and the two resends by the condition under which each acts. -/
theorem answersAndRetries : Obligations.AnswersAndRetries := ⟨answersAtRequester, retryAndResend⟩

end Sys2Proof.Machine
end

section
/-! ### What an instruction that only computes may touch (R21, R40, R42, R118) -/

namespace Sys2Proof.Machine

/-- From `t` to `n` a thread changes no register outside a list, and of the rest gains flags alone. -/
structure Thread.Keeps (l : List RegRef) (t n : Thread) : Prop where
  x : ∀ r : XReg, .x r.toNat ∉ l → n.getX r = t.getX r
  v : ∀ r : VReg, .v r.toNat ∉ l → n.getV r = t.getV r
  a : ∀ r : AReg, .a r.toNat ∉ l → n.getA r = t.getA r
  m : ∀ r : MReg, .m r.toNat ∉ l → n.getM r = t.getM r
  flags : n.ctl.vflags &&& t.ctl.vflags = t.ctl.vflags
  ctl : { n.ctl with vflags := t.ctl.vflags } = t.ctl
  sys : n.sys = t.sys
  sup : n.sup = t.sup

namespace Thread.Keeps

variable {l : List RegRef} {t n o : Thread}

/-- Where only registers were written, the registers decide. -/
theorem of_ctl (x : ∀ r : XReg, .x r.toNat ∉ l → n.getX r = t.getX r) (v : ∀ r : VReg, .v r.toNat ∉ l → n.getV r = t.getV r)
    (a : ∀ r : AReg, .a r.toNat ∉ l → n.getA r = t.getA r) (m : ∀ r : MReg, .m r.toNat ∉ l → n.getM r = t.getM r) (hctl : n.ctl = t.ctl)
    (sys : n.sys = t.sys) (sup : n.sup = t.sup) : Keeps l t n :=
  ⟨x, v, a, m, by rw [hctl, BitVec.and_self], by rw [hctl], sys, sup⟩
theorem refl (l : List RegRef) (t : Thread) : Keeps l t t :=
  of_ctl (fun _ _ => rfl) (fun _ _ => rfl) (fun _ _ => rfl) (fun _ _ => rfl) rfl rfl rfl
theorem trans (h : Keeps l t n) (g : Keeps l n o) : Keeps l t o where
  x r hr := (g.x r hr).trans (h.x r hr)
  v r hr := (g.v r hr).trans (h.v r hr)
  a r hr := (g.a r hr).trans (h.a r hr)
  m r hr := (g.m r hr).trans (h.m r hr)
  flags := by
    have hf := h.flags
    rw [← hf, ← BitVec.and_assoc, g.flags]
  ctl := (congrArg (fun c : Ctl => { c with vflags := t.ctl.vflags }) g.ctl : _).trans h.ctl
  sys := g.sys.trans h.sys
  sup := g.sup.trans h.sup

theorem setX {d : XReg} (h : .x d.toNat ∈ l) (t : Thread) (w : Word) : Keeps l t (t.setX d w) :=
  of_ctl (fun r hr => getX_setX_ne t d r w fun he => hr (he ▸ h)) (fun _ _ => by rw [getV, setX_regs_v]; rfl)
    (fun _ _ => by rw [getA, setX_regs_a]; rfl) (fun _ _ => by rw [getM, setX_regs_m]; rfl) (setX_ctl t d w) (setX_sys t d w) (setX_sup t d w)
theorem setV {d : VReg} (h : .v d.toNat ∈ l) (t : Thread) (w : VWord) : Keeps l t (t.setV d w) :=
  of_ctl (fun _ _ => rfl) (fun r hr => (getV_setV t d r w).trans (if_neg fun (he : r = d) => hr (he ▸ h))) (fun _ _ => rfl) (fun _ _ => rfl) rfl rfl rfl
theorem setA {d : AReg} (h : .a d.toNat ∈ l) (t : Thread) (w : ARegV) : Keeps l t (t.setA d w) :=
  of_ctl (fun _ _ => rfl) (fun _ _ => rfl) (fun r hr => (getA_setA t d r w).trans (if_neg fun (he : r = d) => hr (he ▸ h))) (fun _ _ => rfl) rfl rfl rfl
theorem setM {d : MReg} (h : .m d.toNat ∈ l) (t : Thread) (w : MWord) : Keeps l t (t.setM d w) :=
  of_ctl (fun _ _ => by rw [getX, setM_regs_x]; rfl) (fun _ _ => by rw [getV, setM_regs_v]; rfl) (fun _ _ => by rw [getA, setM_regs_a]; rfl)
    (fun r hr => by
      rw [getM_setM]
      split
      next h0 => rw [getM, if_pos h0]
      next => exact if_neg fun (he : r = d) => hr (he ▸ h))
    (setM_ctl t d w) (setM_sys t d w) (setM_sup t d w)
/-- Flags are only added (R79). -/
theorem flag (l : List RegRef) (t : Thread) (f : FFlags) : Keeps l t (t.flag f) where
  x _ _ := rfl
  v _ _ := rfl
  a _ _ := rfl
  m _ _ := rfl
  flags := by
    rw [flag_vflags, BitVec.and_comm, BitVec.and_or_distrib_left, BitVec.and_self]
    ext i hi
    simp only [BitVec.getElem_or, BitVec.getElem_and]
    cases t.ctl.vflags[i] <;> rfl
  ctl := rfl
  sys := rfl
  sup := rfl

end Thread.Keeps

/-- From `u` to `v` a bundle changes of its thread what `Keeps` allows, says at most where control goes, and changes no other thread, no core and no
memory. -/
structure State.Touches (l : List RegRef) (u v : State) : Prop where
  cur : u.cur.Keeps l v.cur
  key : v.ctx.key = u.ctx.key
  after : v.ctx.after = u.ctx.after ∨ ∃ a, v.ctx.after = .jump a
  cores : v.cores = u.cores
  hbm : v.hbm = u.hbm
  host : v.host = u.host
  others : ∀ k, k ≠ u.ctx.key → v.thread k = u.thread k

namespace State.Touches

variable {l : List RegRef} {u v : State}

theorem refl (l : List RegRef) (u : State) : Touches l u u := ⟨.refl l _, rfl, .inl rfl, rfl, rfl, rfl, fun _ _ => rfl⟩
/-- The issuing thread changes. -/
theorem modCur (h : Touches l u v) {f : Thread → Thread} (hf : v.cur.Keeps l (f v.cur)) : Touches l u (v.modCur f) where
  cur := by rw [cur_modCur]; exact h.cur.trans hf
  key := h.key
  after := h.after
  cores := h.cores
  hbm := h.hbm
  host := h.host
  others k hk := ((thread_modThread ..).trans (if_neg (h.key ▸ hk))).trans (h.others k hk)

theorem wx (h : Touches l u v) {d : XReg} (hd : .x d.toNat ∈ l) (w : Word) : Touches l u (v.wx d w) := h.modCur (.setX hd _ w)
theorem wv (h : Touches l u v) {d : VReg} (hd : .v d.toNat ∈ l) (w : VWord) : Touches l u (v.wv d w) := h.modCur (.setV hd _ w)
theorem wa (h : Touches l u v) {d : AReg} (hd : .a d.toNat ∈ l) (w : ARegV) : Touches l u (v.wa d w) := h.modCur (.setA hd _ w)
theorem wm (h : Touches l u v) {d : MReg} (hd : .m d.toNat ∈ l) (w : MWord) : Touches l u (v.wm d w) := h.modCur (.setM hd _ w)
theorem wflags (h : Touches l u v) (f : FFlags) : Touches l u (v.wflags f) := h.modCur (.flag l _ f)
theorem jumpTo (h : Touches l u v) (pc : Word) : Touches l u (v.jumpTo pc) :=
  ⟨h.cur, h.key, .inr ⟨pc, rfl⟩, h.cores, h.hbm, h.host, h.others⟩
theorem ite {c : Prop} [Decidable c] {a b : State} (ha : Touches l u a) (hb : Touches l u b) : Touches l u (if c then a else b) := by
  split <;> assumption
/-- A masked write touches the registers of its group and the flags (R118). -/
theorem vWrite (h : Touches l u v) {d : VReg} {dk : Nat} (hd : ∀ j, j < dk → .v (grpReg d j).toNat ∈ l) (dw n mw : Nat) (mk : MReg)
    (f : Nat → Nat × FFlags) : Touches l u (v.vWrite d dw dk n mw mk f) := by
  refine wflags ?_ _
  have hall : ∀ (js : List Nat) (w : State), (∀ j ∈ js, j < dk) → Touches l u w → ∀ g : Nat → VWord,
      Touches l u (js.foldl (fun a j => a.wv (grpReg d j) (g j)) w) := by
    intro js
    induction js with
    | nil => exact fun w _ hw _ => hw
    | cons j js ih => exact fun w hj hw g => ih _ (fun i hi => hj i (List.mem_cons_of_mem _ hi)) (hw.wv (hd j (hj j List.mem_cons_self)) _) g
  exact hall _ v (fun j hj => List.mem_range.1 hj) h _

end State.Touches

end Sys2Proof.Machine
end

section
/-! ### The instructions that only compute, and what each may touch (R94 to R105, R118 to R137) -/

namespace Sys2Proof.Machine

/-- If the slot completes, it has touched only what a list allows. -/
def SlotRes.Within (l : List RegRef) (u : State) (r : SlotRes) : Prop := ∀ v, r = .done v → u.Touches l v

namespace SlotRes.Within

variable {l : List RegRef} {u v : State}

theorem done (h : u.Touches l v) : Within l u (.done v) := fun _ hv => SlotRes.done.inj hv ▸ h
theorem raise (l : List RegRef) (u : State) (t : Trap) : Within l u (.raise t) := fun _ hv => nomatch hv
theorem ite {c : Prop} [Decidable c] {a b : SlotRes} (ha : Within l u a) (hb : Within l u b) : Within l u (if c then a else b) := by
  split <;> assumption

end SlotRes.Within

/-- The instruction only computes: its slot touches at most the registers of a list. -/
def OnlyComputes (i : Instr) (l : List RegRef) : Prop := ∃ body, (∀ s, exec i s = slot i body s) ∧ ∀ u, (body u).Within l u

/-! Slots of one shape (R40): a written register, a masked write, a jump. -/

section
variable {i : Instr}

theorem onlyComputes_done {f : State → State} {l : List RegRef} (h : ∀ s, exec i s = slot i (fun u => .done (f u)) s)
    (hf : ∀ u, State.Touches l u (f u)) : OnlyComputes i l := ⟨_, h, fun u => .done (hf u)⟩

theorem computes_wx {d : XReg} {f : State → Word} (h : ∀ s, exec i s = slot i (fun u => .done (u.wx d (f u))) s) : OnlyComputes i [.x d.toNat] :=
  onlyComputes_done h fun u => (State.Touches.refl _ u).wx List.mem_cons_self _
theorem computes_wxFlags {d : XReg} {f : State → Word} {g : State → FFlags}
    (h : ∀ s, exec i s = slot i (fun u => .done ((u.wx d (f u)).wflags (g u))) s) : OnlyComputes i [.x d.toNat] :=
  onlyComputes_done h fun u => ((State.Touches.refl _ u).wx List.mem_cons_self _).wflags _
theorem computes_xOp2 {d s t : XReg} {f : Word → Word → Word} (h : ∀ x, exec i x = xOp2 i d s t f x) : OnlyComputes i [.x d.toNat] := computes_wx h
theorem computes_xOp1 {d s : XReg} {f : Word → Word} (h : ∀ x, exec i x = xOp1 i d s f x) : OnlyComputes i [.x d.toNat] := computes_wx h
theorem computes_fOp2 {d s t : XReg} {fl : BitVec 2} {f : RCtl → Nat → Nat → Nat × FFlags} (h : ∀ x, exec i x = fOp2 i d s t fl f x) :
    OnlyComputes i [.x d.toNat] := computes_wxFlags h
theorem computes_fOp1 {d s : XReg} {fl : BitVec 2} {f : RCtl → Nat → Nat × FFlags} (h : ∀ x, exec i x = fOp1 i d s fl f x) :
    OnlyComputes i [.x d.toNat] := computes_wxFlags h

theorem computes_wm {d : MReg} {f : State → MWord} (h : ∀ s, exec i s = slot i (fun u => .done (u.wm d (f u))) s) : OnlyComputes i [.m d.toNat] :=
  onlyComputes_done h fun u => (State.Touches.refl _ u).wm List.mem_cons_self _
theorem computes_wmFlags {d : MReg} {f : State → MWord} {g : State → FFlags}
    (h : ∀ s, exec i s = slot i (fun u => .done ((u.wm d (f u)).wflags (g u))) s) : OnlyComputes i [.m d.toNat] :=
  onlyComputes_done h fun u => ((State.Touches.refl _ u).wm List.mem_cons_self _).wflags _
theorem computes_wa {d : AReg} {f : State → ARegV} (h : ∀ s, exec i s = slot i (fun u => .done (u.wa d (f u))) s) : OnlyComputes i [.a d.toNat] :=
  onlyComputes_done h fun u => (State.Touches.refl _ u).wa List.mem_cons_self _
theorem computes_wv {d : VReg} {f : State → VWord} (h : ∀ s, exec i s = slot i (fun u => .done (u.wv d (f u))) s) : OnlyComputes i [.v d.toNat] :=
  onlyComputes_done h fun u => (State.Touches.refl _ u).wv List.mem_cons_self _

/-- The registers of an aligned group (R124). -/
theorem grpReg_toNat {d : VReg} {k j : Nat} (hk : k ∣ 32) (hd : grpOk d k = true) (hj : j < k) : (grpReg d j).toNat = d.toNat + j := by
  have hd : d.toNat % k = 0 := beq_iff_eq.1 hd
  obtain ⟨a, ha⟩ := hk
  obtain ⟨b, hb⟩ := Nat.dvd_of_mod_eq_zero hd
  have hba : b < a := Nat.lt_of_mul_lt_mul_left (a := k) (by rw [← ha, ← hb]; exact d.isLt)
  have hlt : d.toNat + j < 32 := by
    have := Nat.mul_le_mul_left k hba
    rw [Nat.mul_succ, ← ha, ← hb] at this
    omega
  rw [grpReg, BitVec.toNat_add, BitVec.toNat_ofNat]
  omega
theorem touches_vWrite_one (u : State) (d : VReg) (dw n mw : Nat) (mk : MReg) (f : Nat → Nat × FFlags) :
    State.Touches [.v d.toNat] u (u.vWrite d dw 1 n mw mk f) :=
  (State.Touches.refl _ u).vWrite (fun j hj => by rw [Nat.lt_one_iff.1 hj, grpReg, BitVec.add_zero]; exact List.mem_cons_self) _ _ _ _ _
theorem computes_vWrite {d : VReg} {dw n mw : Nat} {mk : MReg} {f : State → Nat → Nat × FFlags}
    (h : ∀ s, exec i s = slot i (fun u => .done (u.vWrite d dw 1 n mw mk (f u))) s) : OnlyComputes i [.v d.toNat] :=
  onlyComputes_done h fun u => touches_vWrite_one u d dw n mw mk (f u)
theorem computes_vOp2 {d s t : VReg} {ty : Ty} {mk : MReg} {f : State → Nat → Nat → Nat × FFlags}
    (h : ∀ x, exec i x = vOp2 i d s t ty mk f x) : OnlyComputes i [.v d.toNat] := computes_vWrite h
theorem computes_vOp1 {d s : VReg} {ty : Ty} {mk : MReg} {f : State → Nat → Nat × FFlags}
    (h : ∀ x, exec i x = vOp1 i d s ty mk f x) : OnlyComputes i [.v d.toNat] := computes_vWrite h
theorem computes_vWiden {d s t : VReg} {ty : Ty} {mk : MReg} {f : State → Nat → Nat → Nat → Nat × FFlags}
    (h : ∀ x, exec i x = vWiden i d s t ty mk f x) : OnlyComputes i [.v d.toNat, .v (d.toNat + 1)] := by
  refine ⟨_, h, fun u w hw => ?_⟩
  by_cases hg : grpOk d 2 = true
  · rw [if_pos hg] at hw
    refine SlotRes.done.inj hw ▸ (State.Touches.refl _ u).vWrite (fun j hj => ?_) _ _ _ _ _
    rw [grpReg_toNat (by decide) hg hj]
    have : j = 0 ∨ j = 1 := by omega
    rcases this with rfl | rfl <;> simp
  · rw [if_neg hg] at hw
    exact nomatch hw

theorem computes_jumpIf {c : State → Prop} [DecidablePred c] {a : State → Word}
    (h : ∀ s, exec i s = slot i (fun u => .done (if c u then u.jumpTo (a u) else u)) s) :
    OnlyComputes i [] :=
  onlyComputes_done h fun u => ((State.Touches.refl _ u).jumpTo _).ite (.refl _ u)
theorem computes_branch {s t : XReg} {o : BitVec 14} {c : Word → Word → Bool} (h : ∀ x, exec i x = branch i s t o c x) : OnlyComputes i [] :=
  computes_jumpIf (c := fun u => c (u.rx s) (u.rx t) = true) h
theorem computes_aRepoint {d s : AReg} {n : State → ARegV → Int} (h : ∀ x, exec i x = aRepoint i d s n x) : OnlyComputes i [.a d.toNat] :=
  ⟨_, h, fun u => .ite (.done ((State.Touches.refl _ u).wa List.mem_cons_self _)) (.raise _ u _)⟩
theorem computes_aRead {s : AReg} {x : XReg} {f : ARegV → Word} (h : ∀ y, exec i y = aRead i s x f y) : OnlyComputes i [.x x.toNat] := computes_wx h

end

/-! The others, each by its slot. -/

theorem computes_jal (o : BitVec 24) : OnlyComputes (.jal o) [.x 1] :=
  onlyComputes_done (exec_jal o) fun u => ((State.Touches.refl _ u).wx (d := 1) List.mem_cons_self _).jumpTo _
theorem computes_jalr (d s : XReg) (i : BitVec 10) : OnlyComputes (.jalr d s i) [.x d.toNat] :=
  ⟨_, exec_jalr d s i, fun u => .ite (.raise _ u _) (.done (((State.Touches.refl _ u).wx List.mem_cons_self _).jumpTo _))⟩
theorem computes_anarrow (d s : AReg) (b r : XReg) : OnlyComputes (.anarrow d s b r) [.a d.toNat] :=
  ⟨_, exec_anarrow d s b r, fun u => .ite (.raise _ u _) (.ite (.raise _ u _) (.ite (.raise _ u _)
    (.done ((State.Touches.refl _ u).wa List.mem_cons_self _))))⟩
theorem computes_amake (d : AReg) (b r : XReg) : OnlyComputes (.amake d b r) [.a d.toNat] :=
  ⟨_, exec_amake d b r, fun u => .ite (.raise _ u _) (.done ((State.Touches.refl _ u).wa List.mem_cons_self _))⟩
theorem computes_vins (d : VReg) (s t : XReg) (ty : Ty) : OnlyComputes (.vins d s t ty) [.v d.toNat] :=
  ⟨_, exec_vins d s t ty, fun u => .ite (.raise _ u _) (.done ((State.Touches.refl _ u).wv List.mem_cons_self _))⟩
theorem computes_vext (d : XReg) (s : VReg) (t : XReg) (ty : Ty) (un : Bool) : OnlyComputes (.vext d s t ty un) [.x d.toNat] :=
  ⟨_, exec_vext d s t ty un, fun u => .ite (.raise _ u _) (.done ((State.Touches.refl _ u).wx List.mem_cons_self _))⟩
theorem computes_vnarrow (d s : VReg) (ty : Ty) (mk : MReg) (fl : BitVec 2) : OnlyComputes (.vnarrow d s ty mk fl) [.v d.toNat] :=
  ⟨_, exec_vnarrow d s ty mk fl, fun u => .ite (.done (touches_vWrite_one u d _ _ _ _ _)) (.raise _ u _)⟩
theorem computes_vquant (d s : VReg) (x : XReg) (ty : Ty) (mk : MReg) (un : Bool) : OnlyComputes (.vquant d s x ty mk un) [.v d.toNat] :=
  ⟨_, exec_vquant d s x ty mk un, fun u => .ite (.done (touches_vWrite_one u d _ _ _ _ _)) (.raise _ u _)⟩
theorem computes_vrsum (d : XReg) (s : VReg) (ty : Ty) (mk : MReg) (fl : BitVec 2) : OnlyComputes (.vrsum d s ty mk fl) [.x d.toNat] :=
  ⟨_, exec_vrsum d s ty mk fl, fun u => .ite (.done (((State.Touches.refl _ u).wx List.mem_cons_self _).wflags _))
    (.done ((State.Touches.refl _ u).wx List.mem_cons_self _))⟩
theorem computes_vrmax (d : XReg) (s : VReg) (ty : Ty) (mk : MReg) (fl : BitVec 2) : OnlyComputes (.vrmax d s ty mk fl) [.x d.toNat] :=
  ⟨_, exec_vrmax d s ty mk fl, fun u => .ite (.done (((State.Touches.refl _ u).wx List.mem_cons_self _).wflags _))
    (.done ((State.Touches.refl _ u).wx List.mem_cons_self _))⟩

/-- The group of VCVT's destination (R127): one, two, four or eight registers. -/
theorem dstCount_width (a b : Ty) : dstCount a.width b.width = max 1 (b.width / a.width) ∧ dstCount a.width b.width ∣ 32 := by
  cases a <;> cases b <;> decide
theorem computes_vcvt (d s : VReg) (a : Ty) (fl : BitVec 2) (b : Ty) (du ds : Bool) (mk : MReg) :
    OnlyComputes (.vcvt d s a fl b du ds mk) ((List.range (max 1 (b.width / a.width))).map fun k => .v (d.toNat + k)) := by
  refine ⟨_, exec_vcvt d s a fl b du ds mk, fun u w hw => ?_⟩
  obtain ⟨hmax, hdvd⟩ := dstCount_width a b
  by_cases hg : (grpOk s (srcCount a.width b.width) && grpOk d (dstCount a.width b.width)) = true
  · rw [if_pos hg] at hw
    refine SlotRes.done.inj hw ▸ (State.Touches.refl _ u).vWrite (fun j hj => ?_) _ _ _ _ _
    rw [grpReg_toNat hdvd (Bool.and_eq_true_iff.1 hg).2 hj]
    exact List.mem_map.2 ⟨j, List.mem_range.2 (hmax ▸ hj), rfl⟩
  · rw [if_neg hg] at hw
    exact nomatch hw

/-- The instructions that Part.dests lists only compute, and touch at most the registers that it gives. -/
theorem onlyComputes_of_dests {i : Instr} {l : List RegRef} (h : Part.dests i = some l) : OnlyComputes i l := by
  cases i
  case add d s t => exact Option.some.inj h ▸ computes_xOp2 (exec_add d s t)
  case sub d s t => exact Option.some.inj h ▸ computes_xOp2 (exec_sub d s t)
  case and d s t => exact Option.some.inj h ▸ computes_xOp2 (exec_and d s t)
  case or d s t => exact Option.some.inj h ▸ computes_xOp2 (exec_or d s t)
  case xor d s t => exact Option.some.inj h ▸ computes_xOp2 (exec_xor d s t)
  case sll d s t => exact Option.some.inj h ▸ computes_xOp2 (exec_sll d s t)
  case srl d s t => exact Option.some.inj h ▸ computes_xOp2 (exec_srl d s t)
  case sra d s t => exact Option.some.inj h ▸ computes_xOp2 (exec_sra d s t)
  case slt d s t => exact Option.some.inj h ▸ computes_xOp2 (exec_slt d s t)
  case sltu d s t => exact Option.some.inj h ▸ computes_xOp2 (exec_sltu d s t)
  case mul d s t => exact Option.some.inj h ▸ computes_xOp2 (exec_mul d s t)
  case mulh d s t => exact Option.some.inj h ▸ computes_xOp2 (exec_mulh d s t)
  case mulhu d s t => exact Option.some.inj h ▸ computes_xOp2 (exec_mulhu d s t)
  case div d s t => exact Option.some.inj h ▸ computes_xOp2 (exec_div d s t)
  case divu d s t => exact Option.some.inj h ▸ computes_xOp2 (exec_divu d s t)
  case rem d s t => exact Option.some.inj h ▸ computes_xOp2 (exec_rem d s t)
  case remu d s t => exact Option.some.inj h ▸ computes_xOp2 (exec_remu d s t)
  case min d s t => exact Option.some.inj h ▸ computes_xOp2 (exec_min d s t)
  case max d s t => exact Option.some.inj h ▸ computes_xOp2 (exec_max d s t)
  case minu d s t => exact Option.some.inj h ▸ computes_xOp2 (exec_minu d s t)
  case maxu d s t => exact Option.some.inj h ▸ computes_xOp2 (exec_maxu d s t)
  case clz d s => exact Option.some.inj h ▸ computes_xOp1 (exec_clz d s)
  case ctz d s => exact Option.some.inj h ▸ computes_xOp1 (exec_ctz d s)
  case popc d s => exact Option.some.inj h ▸ computes_xOp1 (exec_popc d s)
  case addi d s i => exact Option.some.inj h ▸ computes_xOp1 (exec_addi d s i)
  case andi d s i => exact Option.some.inj h ▸ computes_xOp1 (exec_andi d s i)
  case ori d s i => exact Option.some.inj h ▸ computes_xOp1 (exec_ori d s i)
  case xori d s i => exact Option.some.inj h ▸ computes_xOp1 (exec_xori d s i)
  case slti d s i => exact Option.some.inj h ▸ computes_xOp1 (exec_slti d s i)
  case slli d s i => exact Option.some.inj h ▸ computes_xOp1 (exec_slli d s i)
  case srli d s i => exact Option.some.inj h ▸ computes_xOp1 (exec_srli d s i)
  case srai d s i => exact Option.some.inj h ▸ computes_xOp1 (exec_srai d s i)
  case lui d i => exact Option.some.inj h ▸ computes_wx (exec_lui d i)
  case lcat d i => exact Option.some.inj h ▸ computes_xOp1 (exec_lcat d i)
  case fadd d s t f => exact Option.some.inj h ▸ computes_fOp2 (exec_fadd d s t f)
  case fsub d s t f => exact Option.some.inj h ▸ computes_fOp2 (exec_fsub d s t f)
  case fmul d s t f => exact Option.some.inj h ▸ computes_fOp2 (exec_fmul d s t f)
  case fdiv d s t f => exact Option.some.inj h ▸ computes_fOp2 (exec_fdiv d s t f)
  case fcmp d s t f => exact Option.some.inj h ▸ computes_fOp2 (exec_fcmp d s t f)
  case fmin d s t => exact Option.some.inj h ▸ computes_fOp2 (exec_fmin d s t)
  case fmax d s t => exact Option.some.inj h ▸ computes_fOp2 (exec_fmax d s t)
  case fsqrt d s f => exact Option.some.inj h ▸ computes_fOp1 (exec_fsqrt d s f)
  case fcvti d s f => exact Option.some.inj h ▸ computes_fOp1 (exec_fcvti d s f)
  case fcvtf d s f => exact Option.some.inj h ▸ computes_fOp1 (exec_fcvtf d s f)
  case fma d s t u => exact Option.some.inj h ▸ computes_wxFlags (exec_fma d s t u)
  case vadd d s t ty mk fl => exact Option.some.inj h ▸ computes_vOp2 (exec_vadd d s t ty mk fl)
  case vsub d s t ty mk fl => exact Option.some.inj h ▸ computes_vOp2 (exec_vsub d s t ty mk fl)
  case vmul d s t ty mk fl => exact Option.some.inj h ▸ computes_vOp2 (exec_vmul d s t ty mk fl)
  case vmin d s t ty mk fl => exact Option.some.inj h ▸ computes_vOp2 (exec_vmin d s t ty mk fl)
  case vmax d s t ty mk fl => exact Option.some.inj h ▸ computes_vOp2 (exec_vmax d s t ty mk fl)
  case vand d s t ty mk fl => exact Option.some.inj h ▸ computes_vOp2 (exec_vand d s t ty mk fl)
  case vor d s t ty mk fl => exact Option.some.inj h ▸ computes_vOp2 (exec_vor d s t ty mk fl)
  case vxor d s t ty mk fl => exact Option.some.inj h ▸ computes_vOp2 (exec_vxor d s t ty mk fl)
  case vsll d s t ty mk fl => exact Option.some.inj h ▸ computes_vOp2 (exec_vsll d s t ty mk fl)
  case vsrl d s t ty mk fl => exact Option.some.inj h ▸ computes_vOp2 (exec_vsrl d s t ty mk fl)
  case vsra d s t ty mk fl => exact Option.some.inj h ▸ computes_vOp2 (exec_vsra d s t ty mk fl)
  case vabs d s ty mk fl => exact Option.some.inj h ▸ computes_vOp1 (exec_vabs d s ty mk fl)
  case vneg d s ty mk fl => exact Option.some.inj h ▸ computes_vOp1 (exec_vneg d s ty mk fl)
  case vma d s t w ty => exact Option.some.inj h ▸ computes_vWrite (exec_vma d s t w ty)
  case vsel d s t ty mk => exact Option.some.inj h ▸ computes_wv (exec_vsel d s t ty mk)
  case vmov d s ty mk => exact Option.some.inj h ▸ computes_vOp1 (exec_vmov d s ty mk)
  case vbcast d s ty mk => exact Option.some.inj h ▸ computes_vWrite (exec_vbcast d s ty mk)
  case vperm d s t ty mk => exact Option.some.inj h ▸ computes_vWrite (exec_vperm d s t ty mk)
  case vslide d s t ty mk => exact Option.some.inj h ▸ computes_vWrite (exec_vslide d s t ty mk)
  case vdot4 d s t mk fl => exact Option.some.inj h ▸ computes_vWrite (exec_vdot4 d s t mk fl)
  case vunplane d s p c mk => exact Option.some.inj h ▸ computes_vWrite (exec_vunplane d s p c mk)
  case vplane d s => exact Option.some.inj h ▸ computes_wv (exec_vplane d s)
  case vrand d s t => exact Option.some.inj h ▸ computes_wv (exec_vrand d s t)
  case vwadd d s t ty mk fl => exact Option.some.inj h ▸ computes_vWiden (exec_vwadd d s t ty mk fl)
  case vwmul d s t ty mk fl => exact Option.some.inj h ▸ computes_vWiden (exec_vwmul d s t ty mk fl)
  case vwma d s t ty mk fl => exact Option.some.inj h ▸ computes_vWiden (exec_vwma d s t ty mk fl)
  case vcmp d s t c ty un => exact Option.some.inj h ▸ computes_wmFlags (exec_vcmp d s t c ty un)
  case mand d s t => exact Option.some.inj h ▸ computes_wm (exec_mand d s t)
  case mor d s t => exact Option.some.inj h ▸ computes_wm (exec_mor d s t)
  case mxor d s t => exact Option.some.inj h ▸ computes_wm (exec_mxor d s t)
  case mnot d s => exact Option.some.inj h ▸ computes_wm (exec_mnot d s)
  case mfromx d s ty => exact Option.some.inj h ▸ computes_wm (exec_mfromx d s ty)
  case mpop d s ty => exact Option.some.inj h ▸ computes_wx (exec_mpop d s ty)
  case mfirst d s ty => exact Option.some.inj h ▸ computes_wx (exec_mfirst d s ty)
  case amov d s => exact Option.some.inj h ▸ computes_wa (exec_amov d s)
  case aadd d s x => exact Option.some.inj h ▸ computes_aRepoint (exec_aadd d s x)
  case asetp d s x => exact Option.some.inj h ▸ computes_aRepoint (exec_asetp d s x)
  case aaddi d s i => exact Option.some.inj h ▸ computes_aRepoint (exec_aaddi d s i)
  case agetp s x => exact Option.some.inj h ▸ computes_aRead (exec_agetp s x)
  case agetb s x => exact Option.some.inj h ▸ computes_aRead (exec_agetb s x)
  case agetl s x => exact Option.some.inj h ▸ computes_aRead (exec_agetl s x)
  case aperm s x => exact Option.some.inj h ▸ computes_aRead (exec_aperm s x)
  case beq s t o => exact Option.some.inj h ▸ computes_branch (exec_beq s t o)
  case bne s t o => exact Option.some.inj h ▸ computes_branch (exec_bne s t o)
  case blt s t o => exact Option.some.inj h ▸ computes_branch (exec_blt s t o)
  case bge s t o => exact Option.some.inj h ▸ computes_branch (exec_bge s t o)
  case bltu s t o => exact Option.some.inj h ▸ computes_branch (exec_bltu s t o)
  case bgeu s t o => exact Option.some.inj h ▸ computes_branch (exec_bgeu s t o)
  case bany m o => exact Option.some.inj h ▸ computes_jumpIf (exec_bany m o)
  case bnone m o => exact Option.some.inj h ▸ computes_jumpIf (exec_bnone m o)
  case nop => exact Option.some.inj h ▸ onlyComputes_done (f := id) exec_nop fun u => .refl _ u
  case anop => exact Option.some.inj h ▸ onlyComputes_done (f := id) exec_anop fun u => .refl _ u
  case j o => exact Option.some.inj h ▸ onlyComputes_done (exec_j o) fun u => (State.Touches.refl _ u).jumpTo _
  case jal o => exact Option.some.inj h ▸ computes_jal o
  case jalr d s i => exact Option.some.inj h ▸ computes_jalr d s i
  case anarrow d s b r => exact Option.some.inj h ▸ computes_anarrow d s b r
  case amake d b r => exact Option.some.inj h ▸ computes_amake d b r
  case vins d s t ty => exact Option.some.inj h ▸ computes_vins d s t ty
  case vext d s t ty un => exact Option.some.inj h ▸ computes_vext d s t ty un
  case vnarrow d s ty mk fl => exact Option.some.inj h ▸ computes_vnarrow d s ty mk fl
  case vquant d s x ty mk un => exact Option.some.inj h ▸ computes_vquant d s x ty mk un
  case vrsum d s ty mk fl => exact Option.some.inj h ▸ computes_vrsum d s ty mk fl
  case vrmax d s ty mk fl => exact Option.some.inj h ▸ computes_vrmax d s ty mk fl
  case vcvt d s a fl b du ds mk => exact Option.some.inj h ▸ computes_vcvt d s a fl b du ds mk
  all_goals exact nomatch h

end Sys2Proof.Machine
end

section
/-! ### The frame of an instruction that only computes, written lone (R40, R42) -/

namespace Sys2Proof.Machine

/-- Faults found before a slot leave no body that took effect unless there are none. -/
theorem SlotRes.withFaults_done {r : SlotRes} {i : Instr} {fs : List Trap} {v : State} (h : r.withFaults i fs = .done v) : r = .done v := by
  unfold withFaults at h
  split at h
  · exact nomatch h
  · exact h

/-- A lone slot that has completed: its body took effect on the opened bundle. -/
theorem slot_lone_done {i : Instr} {body : State → SlotRes} {s t : State} (hf : s.ctx.form = .lone) (h : slot i body s = .next t)
    (hd : t.ctx.last = .done) : ∃ v, body s.openBundle = .done v ∧ t = v.retire.ended .done := by
  unfold slot at h
  simp only [hf] at h
  split at h
  · exact nomatch (congrArg (fun t : State => t.ctx.last) (Host.Outcome.next.inj h)).trans hd
  · split at h
    next v hv => exact ⟨v, SlotRes.withFaults_done hv, (Host.Outcome.next.inj h).symm⟩
    next => exact nomatch (congrArg (fun t : State => t.ctx.last) (Host.Outcome.next.inj h)).trans hd
    next => exact nomatch (congrArg (fun t : State => t.ctx.last) (Host.Outcome.next.inj h)).trans hd

/-- The end of a bundle that jumps or goes on moves the pc alone (R40). -/
theorem Thread.afterBundle_moves (t : Thread) (next : Word) {a : After} (h : a = .next ∨ ∃ pc, a = .jump pc) :
    (t.afterBundle next a).regs = t.regs ∧ (t.afterBundle next a).ctl = t.ctl ∧ (t.afterBundle next a).sys = t.sys ∧
    (t.afterBundle next a).sup = t.sup := by
  rcases h with rfl | ⟨pc, rfl⟩ <;> exact ⟨rfl, rfl, rfl, rfl⟩

namespace State

theorem openBundle_cur (s : State) : s.openBundle.cur = s.cur.opened := cur_modCur _ _
theorem openBundle_other (s : State) (k : Nat) (h : k ≠ s.ctx.key) : s.openBundle.thread k = s.thread k := (thread_modThread ..).trans (if_neg h)
theorem retire_cur (v : State) : v.retire.cur = v.cur.afterBundle v.ctx.next v.ctx.after := cur_modCur _ _
theorem retire_other (v : State) (k : Nat) (h : k ≠ v.ctx.key) : v.retire.thread k = v.thread k := (thread_modThread ..).trans (if_neg h)

end State

/-- Settles O47: the slot of each touches its destinations and flags alone; opening and retiring its bundle move ISSUED, the watchdog and the pc. -/
theorem computeFrame : Obligations.ComputeFrame := by
  intro i l s t hl hf h hd
  obtain ⟨body, hs, hb⟩ := onlyComputes_of_dests hl
  obtain ⟨v, hv, rfl⟩ := slot_lone_done hf ((hs s).symm.trans h) hd
  obtain ⟨⟨hx, hvr, ha, hm, hflags, hctl, hsys, hsup⟩, hkey, hafter, hcores, hhbm, hhost, hothers⟩ := hb _ v hv
  have hcur : (v.retire.ended .done).cur = v.cur.afterBundle v.ctx.next v.ctx.after := v.retire_cur
  obtain ⟨mregs, mctl, msys, msup⟩ := v.cur.afterBundle_moves v.ctx.next hafter
  rw [s.openBundle_cur] at hx hvr ha hm hflags hctl hsys hsup
  rw [hcur]
  refine ⟨fun r hr => (Thread.getX_congr mregs r).trans (hx r hr), fun r hr => (Thread.getV_congr mregs r).trans (hvr r hr), fun r hr => ?_, fun r hr => ?_,
    ?_, ?_, ?_, msup.trans hsup, fun c => ?_, hhbm, hhost, fun k hk => ?_⟩
  · rw [Thread.getA, mregs]; exact ha r hr
  · rw [Thread.getM, mregs]; exact hm r hr
  · rw [mctl]; exact hflags
  · rw [mctl]; exact hctl
  · rw [msys, hsys]; rfl
  · have hc : v.core c = s.core c := by rw [State.core, hcores]; rfl
    exact ⟨congrArg Core.acc hc, fun a => congrArg (fun x : Core => x.mem.bytes.byte a) hc⟩
  · exact (v.retire_other k (hkey ▸ hk)).trans ((hothers k hk).trans (s.openBundle_other k hk))

end Sys2Proof.Machine
end

section
/-! ### The bits of a word, field by field (R36, R43, R46) -/

namespace Sys2Proof

/-- The bits of a word from a place on are some value. -/
def Holds (w : IWord) (lo : Nat) {n : Nat} (x : BitVec n) : Prop := fld w lo n = x

section
variable {w : IWord} {lo : Nat}

theorem holds_append {m n : Nat} {x : BitVec m} {y : BitVec n} : Holds w lo (x ++ y) ↔ Holds w (lo + n) x ∧ Holds w lo y := by
  have hj : fld w (lo + n) m ++ fld w lo n = fld w lo (m + n) := BitVec.extractLsb'_append_extractLsb'_eq_extractLsb' rfl
  constructor
  · intro h
    have h' : fld w (lo + n) m ++ fld w lo n = x ++ y := hj.trans h
    have hx := congrArg (BitVec.extractLsb' n m) h'
    have hy := congrArg (BitVec.extractLsb' 0 n) h'
    rw [BitVec.extractLsb'_append_eq_left, BitVec.extractLsb'_append_eq_left] at hx
    rw [BitVec.extractLsb'_append_eq_right, BitVec.extractLsb'_append_eq_right] at hy
    exact ⟨hx, hy⟩
  · rintro ⟨rfl, rfl⟩
    exact hj.symm
theorem holds_bit {b : Bool} : Holds w lo (BitVec.ofBool b) ↔ flag w lo = b := by
  simp only [Holds, BitVec.eq_of_getElem_eq_iff, fld, flag, BitVec.getElem_extractLsb', BitVec.getElem_ofBool]
  constructor
  · intro h; exact h 0 (by omega)
  · rintro rfl i hi
    obtain rfl : i = 0 := by omega
    rfl
theorem holds_one : Holds w lo 1#1 ↔ flag w lo = true := holds_bit (b := true)
theorem holds_zero : Holds w lo 0#1 ↔ flag w lo = false := holds_bit (b := false)
/-- A word is some value when its 32 bits from the lowest on are. -/
theorem eq_iff_holds {x : IWord} : x = w ↔ Holds w 0 x := by rw [Holds, fld, BitVec.extractLsb'_eq_self, eq_comm]

end

section
variable {w : IWord} {l : Bool}

/-! Each format by its fields (R43, R46); then the words that have a layout of their own (R49, R51). -/

theorem wCR_eq_iff {maj : BitVec 6} {d s t : BitVec 5} {la : BitVec 4} {fn : BitVec 5} : wCR l maj d s t la fn = w ↔
    isA w = false ∧ isLone w = l ∧ major w = maj ∧ fld w 19 5 = d ∧ fld w 14 5 = s ∧ fld w 9 5 = t ∧ fld w 5 4 = la ∧ fld w 0 5 = fn := by
  rw [eq_iff_holds, wCR]; repeat rw [holds_append]
  simp only [holds_bit, holds_zero, and_assoc]; rfl
theorem wCG_eq_iff {fn s : BitVec 5} {sc : BitVec 4} {imm : BitVec 10} : wCG l fn s sc imm = w ↔
    isA w = false ∧ isLone w = l ∧ major w = 0 ∧ fld w 19 5 = fn ∧ fld w 14 5 = s ∧ fld w 10 4 = sc ∧ fld w 0 10 = imm := by
  rw [eq_iff_holds, wCG]; repeat rw [holds_append]
  simp only [holds_bit, holds_zero, and_assoc]; rfl
theorem wCC_eq_iff {maj : BitVec 6} {x : BitVec 5} {cr : BitVec 12} : wCC l maj x cr = w ↔
    isA w = false ∧ isLone w = l ∧ major w = maj ∧ fld w 19 5 = x ∧ fld w 7 12 = cr ∧ fld w 0 7 = 0 := by
  rw [eq_iff_holds, wCC]; repeat rw [holds_append]
  simp only [holds_bit, holds_zero, and_assoc]; rfl
theorem wCB_eq_iff {maj : BitVec 6} {s t : BitVec 5} {off : BitVec 14} : wCB l maj s t off = w ↔
    isA w = false ∧ isLone w = l ∧ major w = maj ∧ fld w 19 5 = s ∧ fld w 14 5 = t ∧ fld w 0 14 = off := by
  rw [eq_iff_holds, wCB]; repeat rw [holds_append]
  simp only [holds_bit, holds_zero, and_assoc]; rfl
theorem wCM_eq_iff {maj : BitVec 6} {d : BitVec 5} {a : BitVec 4} {xi : BitVec 5} {la : BitVec 4} {sz mode : BitVec 3} : wCM l maj d a xi la sz mode = w ↔
    isA w = false ∧ isLone w = l ∧ major w = maj ∧ fld w 19 5 = d ∧ fld w 15 4 = a ∧ fld w 10 5 = xi ∧ fld w 6 4 = la ∧ fld w 3 3 = sz ∧
    fld w 0 3 = mode := by
  rw [eq_iff_holds, wCM]; repeat rw [holds_append]
  simp only [holds_bit, holds_zero, and_assoc]; rfl
theorem wCA_eq_iff {d : BitVec 5} {a : BitVec 4} {x : BitVec 5} {sc : BitVec 4} {o : BitVec 2} {op : BitVec 4} : wCA l d a x sc o op = w ↔
    isA w = false ∧ isLone w = l ∧ major w = 0x1B ∧ fld w 19 5 = d ∧ fld w 15 4 = a ∧ fld w 10 5 = x ∧ fld w 6 4 = sc ∧ fld w 4 2 = o ∧
    fld w 0 4 = op := by
  rw [eq_iff_holds, wCA]; repeat rw [holds_append]
  simp only [holds_bit, holds_zero, and_assoc]; rfl
theorem wCQ_eq_iff {a b : BitVec 4} {x y : BitVec 5} {fn : BitVec 6} : wCQ l a b x y fn = w ↔
    isA w = false ∧ isLone w = l ∧ major w = 0x1C ∧ fld w 20 4 = a ∧ fld w 16 4 = b ∧ fld w 11 5 = x ∧ fld w 6 5 = y ∧ fld w 0 6 = fn := by
  rw [eq_iff_holds, wCQ]; repeat rw [holds_append]
  simp only [holds_bit, holds_zero, and_assoc]; rfl
theorem wCX_eq_iff {a b : BitVec 4} {x : BitVec 5} {tag : BitVec 6} {cpa : BitVec 2} {fn : BitVec 3} : wCX l a b x tag cpa fn = w ↔
    isA w = false ∧ isLone w = l ∧ major w = 0x20 ∧ fld w 20 4 = a ∧ fld w 16 4 = b ∧ fld w 11 5 = x ∧ fld w 5 6 = tag ∧ fld w 3 2 = cpa ∧
    fld w 0 3 = fn := by
  rw [eq_iff_holds, wCX]; repeat rw [holds_append]
  simp only [holds_bit, holds_zero, and_assoc]; rfl
theorem wCV_eq_iff {maj : BitVec 6} {d x v : BitVec 5} {tag : BitVec 6} {kind : BitVec 2} {u : Bool} : wCV l maj d x v tag kind u = w ↔
    isA w = false ∧ isLone w = l ∧ major w = maj ∧ fld w 19 5 = d ∧ fld w 14 5 = x ∧ fld w 9 5 = v ∧ fld w 3 6 = tag ∧ fld w 1 2 = kind ∧
    flag w 0 = u := by
  rw [eq_iff_holds, wCV]; repeat rw [holds_append]
  simp only [holds_bit, holds_zero, and_assoc]; rfl
theorem wAR_eq_iff {op : BitVec 7} {d s t : BitVec 5} {ty mk : BitVec 3} {fl : BitVec 2} : wAR l op d s t ty mk fl = w ↔
    isA w = true ∧ isLone w = l ∧ fld w 23 7 = op ∧ fld w 18 5 = d ∧ fld w 13 5 = s ∧ fld w 8 5 = t ∧ fld w 5 3 = ty ∧ fld w 2 3 = mk ∧
    fld w 0 2 = fl := by
  rw [eq_iff_holds, wAR]; repeat rw [holds_append]
  simp only [holds_bit, holds_one, and_assoc]; rfl
theorem wAI_eq_iff {op : BitVec 7} {d s : BitVec 5} {imm : BitVec 13} : wAI l op d s imm = w ↔
    isA w = true ∧ isLone w = l ∧ fld w 23 7 = op ∧ fld w 18 5 = d ∧ fld w 13 5 = s ∧ fld w 0 13 = imm := by
  rw [eq_iff_holds, wAI]; repeat rw [holds_append]
  simp only [holds_bit, holds_one, and_assoc]; rfl
theorem wA4_eq_iff {op : BitVec 7} {d s t v : BitVec 5} {ty : BitVec 3} : wA4 l op d s t v ty = w ↔
    isA w = true ∧ isLone w = l ∧ fld w 23 7 = op ∧ fld w 18 5 = d ∧ fld w 13 5 = s ∧ fld w 8 5 = t ∧ fld w 3 5 = v ∧ fld w 0 3 = ty := by
  rw [eq_iff_holds, wA4]; repeat rw [holds_append]
  simp only [holds_bit, holds_one, and_assoc]; rfl
theorem wAC_eq_iff {op : BitVec 7} {md cond : BitVec 3} {s t : BitVec 5} {ty z : BitVec 3} {u : Bool} : wAC l op md cond s t ty z u = w ↔
    isA w = true ∧ isLone w = l ∧ fld w 23 7 = op ∧ fld w 20 3 = md ∧ fld w 17 3 = cond ∧ fld w 12 5 = s ∧ fld w 7 5 = t ∧ fld w 4 3 = ty ∧
    fld w 1 3 = z ∧ flag w 0 = u := by
  rw [eq_iff_holds, wAC]; repeat rw [holds_append]
  simp only [holds_bit, holds_one, and_assoc]; rfl
theorem wAM_eq_iff {op : BitVec 7} {a s t : BitVec 4} {ty : BitVec 3} {fl : BitVec 2} : wAM l op a s t ty fl = w ↔
    isA w = true ∧ isLone w = l ∧ fld w 23 7 = op ∧ fld w 19 4 = a ∧ fld w 15 4 = s ∧ fld w 11 4 = t ∧ fld w 8 3 = ty ∧ fld w 6 2 = fl ∧
    fld w 0 6 = 0 := by
  rw [eq_iff_holds, wAM]; repeat rw [holds_append]
  simp only [holds_bit, holds_one, and_assoc]; rfl
theorem yield_eq_iff {dl : BitVec 8} {x : BitVec 5} : 0#1 ++ BitVec.ofBool l ++ 0x05#6 ++ dl ++ x ++ 0#11 = w ↔
    isA w = false ∧ isLone w = l ∧ major w = 5 ∧ fld w 16 8 = dl ∧ fld w 11 5 = x ∧ fld w 0 11 = 0 := by
  rw [eq_iff_holds]; repeat rw [holds_append]
  simp only [holds_bit, holds_zero, and_assoc]; rfl
theorem rep_eq_iff {x : BitVec 5} {imm : BitVec 6} {ds s1 s2 : BitVec 3} : 0#1 ++ 1#1 ++ 0x06#6 ++ x ++ imm ++ ds ++ s1 ++ s2 ++ 0#4 = w ↔
    isA w = false ∧ isLone w = true ∧ major w = 6 ∧ fld w 19 5 = x ∧ fld w 13 6 = imm ∧ fld w 10 3 = ds ∧ fld w 7 3 = s1 ∧ fld w 4 3 = s2 ∧
    fld w 0 4 = 0 := by
  rw [eq_iff_holds]; repeat rw [holds_append]
  simp only [holds_one, holds_zero, and_assoc]; rfl
theorem jump_eq_iff {maj : BitVec 6} {off : BitVec 24} : 0#1 ++ BitVec.ofBool l ++ maj ++ off = w ↔
    isA w = false ∧ isLone w = l ∧ major w = maj ∧ fld w 0 24 = off := by
  rw [eq_iff_holds]; repeat rw [holds_append]
  simp only [holds_bit, holds_zero, and_assoc]; rfl
theorem jalr_eq_iff {d s : BitVec 5} {imm : BitVec 10} : 0#1 ++ BitVec.ofBool l ++ 0x0A#6 ++ d ++ s ++ 0#4 ++ imm = w ↔
    isA w = false ∧ isLone w = l ∧ major w = 0x0A ∧ fld w 19 5 = d ∧ fld w 14 5 = s ∧ fld w 10 4 = 0 ∧ fld w 0 10 = imm := by
  rw [eq_iff_holds]; repeat rw [holds_append]
  simp only [holds_bit, holds_zero, and_assoc]; rfl
theorem aaddi_eq_iff {a b : BitVec 4} {imm : BitVec 16} : 0#1 ++ BitVec.ofBool l ++ 0x1D#6 ++ a ++ b ++ imm = w ↔
    isA w = false ∧ isLone w = l ∧ major w = 0x1D ∧ fld w 20 4 = a ∧ fld w 16 4 = b ∧ fld w 0 16 = imm := by
  rw [eq_iff_holds]; repeat rw [holds_append]
  simp only [holds_bit, holds_zero, and_assoc]; rfl
theorem mtile_eq_iff {x : BitVec 5} {p q : BitVec 6} {tb ta : Bool} {mode : BitVec 2} :
    0#1 ++ BitVec.ofBool l ++ 0x23#6 ++ x ++ p ++ q ++ 0#3 ++ BitVec.ofBool tb ++ BitVec.ofBool ta ++ mode = w ↔
    isA w = false ∧ isLone w = l ∧ major w = 0x23 ∧ fld w 19 5 = x ∧ fld w 13 6 = p ∧ fld w 7 6 = q ∧ fld w 4 3 = 0 ∧ flag w 3 = tb ∧ flag w 2 = ta ∧
    fld w 0 2 = mode := by
  rw [eq_iff_holds]; repeat rw [holds_append]
  simp only [holds_bit, holds_zero, and_assoc]; rfl
theorem rstv_eq_iff {v x : BitVec 5} {tag : BitVec 6} {n : BitVec 5} {r : Bool} :
    0#1 ++ BitVec.ofBool l ++ 0x2D#6 ++ v ++ x ++ tag ++ n ++ BitVec.ofBool r ++ 0#2 = w ↔
    isA w = false ∧ isLone w = l ∧ major w = 0x2D ∧ fld w 19 5 = v ∧ fld w 14 5 = x ∧ fld w 8 6 = tag ∧ fld w 3 5 = n ∧ flag w 2 = r ∧
    fld w 0 2 = 0 := by
  rw [eq_iff_holds]; repeat rw [holds_append]
  simp only [holds_bit, holds_zero, and_assoc]; rfl
theorem mcast_eq_iff {v : BitVec 5} {a : BitVec 4} {x : BitVec 5} {tag : BitVec 6} {size : BitVec 2} {o : Bool} :
    0#1 ++ BitVec.ofBool l ++ 0x31#6 ++ v ++ a ++ x ++ tag ++ 0#1 ++ size ++ BitVec.ofBool o = w ↔
    isA w = false ∧ isLone w = l ∧ major w = 0x31 ∧ fld w 19 5 = v ∧ fld w 15 4 = a ∧ fld w 10 5 = x ∧ fld w 4 6 = tag ∧ flag w 3 = false ∧
    fld w 1 2 = size ∧ flag w 0 = o := by
  rw [eq_iff_holds]; repeat rw [holds_append]
  simp only [holds_bit, holds_zero, and_assoc]; rfl

end

end Sys2Proof
end

section
/-! ### Fields of a restricted code (R47, R51, R218, R289) -/

namespace Sys2Proof

@[simp] theorem Ty.ofCode_code (t : Ty) : Ty.ofCode t.code = some t := by cases t <;> rfl
theorem Ty.ofCode_eq_some {c : BitVec 3} {t : Ty} : Ty.ofCode c = some t ↔ c = t.code := by revert c; cases t <;> decide
@[simp] theorem Scope.ofCode_code (s : Scope) : Scope.ofCode s.code = some s := by cases s <;> rfl
theorem Scope.ofCode_eq_some {c : BitVec 4} {s : Scope} : Scope.ofCode c = some s ↔ c = s.code := by revert c; cases s <;> decide
@[simp] theorem FenceKind.ofCode_code (k : FenceKind) : FenceKind.ofCode k.code = some k := by cases k <;> rfl
theorem FenceKind.ofCode_eq_some {c : BitVec 2} {k : FenceKind} : FenceKind.ofCode c = some k ↔ c = k.code := by revert c; cases k <;> decide
@[simp] theorem Cond.ofCode_code (c : Cond) : Cond.ofCode c.code = c := by cases c <;> rfl
@[simp] theorem Cond.code_ofCode : ∀ c : BitVec 3, (Cond.ofCode c).code = c := by decide
@[simp] theorem InvKind.ofCode_code (k : InvKind) : InvKind.ofCode k.code = k := by cases k <;> rfl
@[simp] theorem InvKind.code_ofCode : ∀ c : BitVec 2, (InvKind.ofCode c).code = c := by decide

/-! Fields made of two, and runs of zero fields (R44, R53). -/

theorem fld_append {w : IWord} {lo m n : Nat} {x : BitVec m} {y : BitVec n} :
    fld w lo (m + n) = x ++ y ↔ fld w (lo + n) m = x ∧ fld w lo n = y := holds_append
theorem fld_bit {w : IWord} {lo : Nat} {b : Bool} : fld w lo 1 = BitVec.ofBool b ↔ flag w lo = b := holds_bit
/-- TY, MK and FL are zero together. -/
theorem low8_eq_zero {w : IWord} : fld w 0 8 = 0 ↔ fld w 5 3 = 0 ∧ fld w 2 3 = 0 ∧ fld w 0 2 = 0 := by
  show Holds w 0 (0#3 ++ 0#3 ++ 0#2) ↔ _
  rw [holds_append, holds_append, and_assoc]; rfl
/-- Every field of an A-word but its opcode is zero. -/
theorem low23_eq_zero {w : IWord} : fld w 0 23 = 0 ↔
    fld w 18 5 = 0 ∧ fld w 13 5 = 0 ∧ fld w 8 5 = 0 ∧ fld w 5 3 = 0 ∧ fld w 2 3 = 0 ∧ fld w 0 2 = 0 := by
  show Holds w 0 (0#5 ++ 0#5 ++ 0#5 ++ 0#8) ↔ _
  rw [holds_append, holds_append, holds_append, ← low8_eq_zero, and_assoc, and_assoc]; rfl
theorem flag_eq_false {w : IWord} {lo : Nat} : flag w lo = false ↔ fld w lo 1 = 0 := holds_zero.symm
/-- A number of a field as its bits. -/
theorem eq_ofNat_of_toNat {n k : Nat} {x : BitVec n} (h : x.toNat = k) : x = BitVec.ofNat n k := by
  rw [← h, BitVec.ofNat_toNat, BitVec.setWidth_eq]

end Sys2Proof
end

section
/-! ### Encode undoes decode (R36, R37, R43 to R54) -/

namespace Sys2Proof

/-- What a decoder answers for a word encodes to the word. -/
def Undone (w : IWord) (r : Except DecodeError Instr) : Prop := ∀ i, r = .ok i → encode (isLone w) i = some w

section
variable {w : IWord}

theorem undone_ok {i : Instr} : Undone w (.ok i) ↔ encode (isLone w) i = some w :=
  ⟨fun h => h i rfl, fun h _ hi => Except.ok.inj hi ▸ h⟩
theorem undone_error {e : DecodeError} : Undone w (.error e) := fun _ h => by cases h
theorem undone_need {z : Bool} {i : Instr} : Undone w (need z i) ↔ (z = true → encode (isLone w) i = some w) := by
  cases z with
  | true => exact undone_ok.trans ⟨fun h _ => h, fun h => h rfl⟩
  | false => exact iff_of_true undone_error fun h => by cases h
theorem undone_withCode {α : Type} {o : Option α} {k : α → Except DecodeError Instr} :
    Undone w (withCode o k) ↔ ∀ v, o = some v → Undone w (k v) := by
  cases o with
  | none => exact iff_of_true undone_error fun _ h => by cases h
  | some v => exact ⟨fun h _ hv => Option.some.inj hv ▸ h, fun h => h v rfl⟩

theorem decodeCR_undone (ha : isA w = false) : Undone w (decodeCR w) := by
  unfold decodeCR
  dsimp only
  split
  case h_56 => exact undone_error
  all_goals
    rename_i hmaj hfn
    simp only [undone_ok, undone_need, Bool.and_eq_true, beq_iff_eq]
    intros
    refine congrArg some ?_
    simp only [wCR_eq_iff, eq_ofNat_of_toNat hmaj, eq_ofNat_of_toNat hfn, BitVec.ofNat_eq_ofNat, and_self, *]
theorem decodeSys_undone (ha : isA w = false) (hm : major w = 0) : Undone w (decodeSys w) := by
  unfold decodeSys
  dsimp only
  split
  case h_11 => exact undone_error
  all_goals
    rename_i hfn
    simp only [undone_need, undone_withCode, Scope.ofCode_eq_some, FenceKind.ofCode_eq_some, Bool.and_eq_true, beq_iff_eq]
    intros
    refine congrArg some ?_
    simp only [wCG_eq_iff, eq_ofNat_of_toNat hfn, fld_append (m := 8) (n := 2), Nat.reduceAdd, BitVec.ofNat_eq_ofNat, and_self, *]
theorem decodeAtom_undone (ha : isA w = false) (hm : major w = 0x1B) : Undone w (decodeAtom w) := by
  unfold decodeAtom
  dsimp only
  split
  · exact undone_error
  refine undone_withCode.2 fun sc hsc => ?_
  rw [Scope.ofCode_eq_some] at hsc
  split
  case h_15 => exact undone_error
  all_goals
    rename_i hop
    refine undone_ok.2 (congrArg some ?_)
    simp only [wCA_eq_iff, eq_ofNat_of_toNat hop, BitVec.ofNat_eq_ofNat, and_self, *]
theorem decodeAop_undone (ha : isA w = false) (hm : major w = 0x1C) : Undone w (decodeAop w) := by
  unfold decodeAop
  dsimp only
  split
  case h_10 => exact undone_error
  all_goals
    rename_i hfn
    simp only [undone_ok, undone_need, Bool.and_eq_true, beq_iff_eq]
    intros
    refine congrArg some ?_
    simp only [wCQ_eq_iff, eq_ofNat_of_toNat hfn, BitVec.ofNat_eq_ofNat, and_self, *]
theorem decodeCopy_undone (ha : isA w = false) (hm : major w = 0x20) : Undone w (decodeCopy w) := by
  unfold decodeCopy
  dsimp only
  split
  case h_5 => exact undone_error
  all_goals
    rename_i hfn
    refine undone_ok.2 (congrArg some ?_)
    simp only [wCX_eq_iff, eq_ofNat_of_toNat hfn, BitVec.ofNat_eq_ofNat, and_self, *]
/-- Every C-word, a paired REP word excepted (R37). -/
theorem decodeC_undone (ha : isA w = false) (hr : major w = 6 → isLone w = true) : Undone w (decodeC w) := by
  unfold decodeC
  dsimp only [decodeCM]
  split
  case h_47 => exact undone_error
  case h_1 hm => exact decodeSys_undone ha (eq_ofNat_of_toNat hm)
  case h_26 hm => exact decodeAtom_undone ha (eq_ofNat_of_toNat hm)
  case h_27 hm => exact decodeAop_undone ha (eq_ofNat_of_toNat hm)
  case h_29 hm => exact decodeCopy_undone ha (eq_ofNat_of_toNat hm)
  case h_35 | h_36 | h_37 | h_38 | h_39 | h_40 | h_41 | h_42 | h_43 | h_44 | h_45 | h_46 => exact decodeCR_undone ha
  all_goals
    rename_i hm
    have hmaj := eq_ofNat_of_toNat hm
    simp only [undone_ok, undone_need, Bool.and_eq_true, beq_iff_eq]
    intros
    refine congrArg some ?_
    simp only [wCC_eq_iff, wCB_eq_iff, wCM_eq_iff, wCV_eq_iff, yield_eq_iff, rep_eq_iff, jump_eq_iff, jalr_eq_iff, aaddi_eq_iff, mtile_eq_iff,
      rstv_eq_iff, mcast_eq_iff, flag_eq_false, InvKind.code_ofCode, fld_append (m := 2) (n := 3), fld_append (m := 1) (n := 2), Nat.reduceAdd,
      BitVec.ofNat_eq_ofNat, and_self, *]
theorem decodeA_undone (ha : isA w = true) : Undone w (decodeA w) := by
  unfold decodeA
  dsimp only
  split
  case h_99 => exact undone_error
  all_goals
    rename_i hop
    simp only [undone_ok, undone_need, undone_withCode, Ty.ofCode_eq_some, low8_eq_zero, low23_eq_zero, Bool.and_eq_true, beq_iff_eq]
    intros
    refine congrArg some ?_
    simp only [wAR_eq_iff, wA4_eq_iff, wAI_eq_iff, wAC_eq_iff, wAM_eq_iff, eq_ofNat_of_toNat hop, Cond.code_ofCode, fld_append (m := 7) (n := 6),
      fld_append (m := 2) (n := 3), fld_append (m := 1) (n := 4), fld_append (m := 1) (n := 1), fld_bit, Nat.reduceAdd, BitVec.ofNat_eq_ofNat,
      and_self, *]

end

/-- A word decodes to the well-formed instruction of its table. -/
theorem decodeWord_eq_ok {w : IWord} {i : Instr} :
    decodeWord w = .ok i ↔ i.wf = true ∧ (if isA w = true then decodeA w else decodeC w) = .ok i := by
  unfold decodeWord
  cases (if isA w = true then decodeA w else decodeC w) with
  | error e => exact iff_of_false (fun h => by cases h) fun h => by cases h.2
  | ok j =>
    by_cases hj : j.wf = true
    · simp only [if_pos hj]
      exact ⟨fun h => ⟨Except.ok.inj h ▸ hj, h⟩, And.right⟩
    · simp only [if_neg hj]
      exact iff_of_false (fun h => by cases h) fun h => hj (Except.ok.inj h.2 ▸ h.1)

/-- Settles O56: each row of the decoder reads every bit of its word: its operands, its opcode, and the fields that must be zero. -/
theorem encodeDecode : Obligations.EncodeDecode := by
  intro w i h
  obtain ⟨hwf, hd⟩ := decodeWord_eq_ok.1 h
  refine ⟨hwf, ?_⟩
  by_cases ha : isA w = true
  · rw [if_pos ha] at hd
    exact .inl (decodeA_undone ha i hd)
  rw [if_neg ha] at hd
  have ha := Bool.eq_false_of_not_eq_true ha
  by_cases hr : major w = 6 → isLone w = true
  · exact .inl (decodeC_undone ha hr i hd)
  · obtain ⟨hm, hl⟩ := Classical.not_imp.1 hr
    exact .inr ⟨ha, hm, Bool.eq_false_of_not_eq_true hl⟩

end Sys2Proof
end

section
/-! ### Decode undoes encode (R36, R37, R43 to R53) -/

namespace Sys2Proof

section
variable {w : IWord} {i : Instr}

/-- How an A-word and a C-word decode. -/
theorem decodeWord_A (ha : isA w = true) (h : decodeA w = .ok i) (hw : i.wf = true) : decodeWord w = .ok i :=
  decodeWord_eq_ok.2 ⟨hw, (if_pos ha).trans h⟩
theorem decodeWord_C (ha : isA w = false) (h : decodeC w = .ok i) (hw : i.wf = true) : decodeWord w = .ok i :=
  decodeWord_eq_ok.2 ⟨hw, (if_neg (by rw [ha]; decide)).trans h⟩

end

/-- The word that an instruction encodes to decodes to its row. -/
def Redecodes (i : Instr) : Prop := ∀ l w, i.wf = true → encode l i = some w → decodeWord w = .ok i.base

section
variable (d s t v x n : BitVec 5) (a b c la np : BitVec 4) (mk md ms mt ds s1 s2 sz mode : BitVec 3) (fl o fm cpa : BitVec 2) (y z : Ty)
  (cond : Cond) (sc : Scope) (fk : FenceKind) (kind : InvKind) (tag sh p q : BitVec 6) (dl : BitVec 8) (i10 : BitVec 10) (cr : BitVec 12)
  (i13 : BitVec 13) (off : BitVec 14) (i16 : BitVec 16) (off24 : BitVec 24) (u du dsu ta tb : Bool)

/-! The integer forms of the AR format. -/

theorem redecodes_integer :
    (∀ d s t, Redecodes (.add d s t) ∧ Redecodes (.sub d s t) ∧ Redecodes (.and d s t) ∧ Redecodes (.or d s t) ∧ Redecodes (.xor d s t) ∧
    Redecodes (.sll d s t) ∧ Redecodes (.srl d s t) ∧ Redecodes (.sra d s t) ∧ Redecodes (.slt d s t) ∧ Redecodes (.sltu d s t) ∧
    Redecodes (.mul d s t) ∧ Redecodes (.mulh d s t) ∧ Redecodes (.mulhu d s t) ∧ Redecodes (.div d s t) ∧ Redecodes (.divu d s t) ∧
    Redecodes (.rem d s t) ∧ Redecodes (.remu d s t) ∧ Redecodes (.min d s t) ∧ Redecodes (.max d s t) ∧ Redecodes (.minu d s t) ∧
    Redecodes (.maxu d s t) ∧ Redecodes (.vrand d s t)) ∧
    (∀ d s, Redecodes (.clz d s) ∧ Redecodes (.ctz d s) ∧ Redecodes (.popc d s) ∧ Redecodes (.vplane d s)) := by
  refine ⟨fun d s t => ?_, fun d s => ?_⟩ <;> and_intros
  all_goals
    intro l w hw h
    obtain ⟨ha, -, hop, hd, hs, ht, hty, hmk, hfl⟩ := wAR_eq_iff.1 (Option.some.inj h)
    exact decodeWord_A ha (by rw [decodeA, hop, hd, hs, ht, low8_eq_zero.2 ⟨hty, hmk, hfl⟩]; rfl) hw
theorem redecodes_scalarFloat :
    (∀ d s t fl, Redecodes (.fadd d s t fl) ∧ Redecodes (.fsub d s t fl) ∧ Redecodes (.fmul d s t fl) ∧ Redecodes (.fdiv d s t fl)) ∧
    (∀ d s fl, Redecodes (.fsqrt d s fl) ∧ Redecodes (.fcvti d s fl) ∧ Redecodes (.fcvtf d s fl)) ∧
    (∀ d s t, Redecodes (.fmin d s t) ∧ Redecodes (.fmax d s t)) ∧
    (∀ d s t mk fl, Redecodes (.vdot4 d s t mk fl)) := by
  refine ⟨fun d s t fl => ?_, fun d s fl => ?_, fun d s t => ?_, fun d s t mk fl => ?_⟩ <;> and_intros
  all_goals
    intro l w hw h
    obtain ⟨ha, -, hop, hd, hs, ht, hty, hmk, hfl⟩ := wAR_eq_iff.1 (Option.some.inj h)
    exact decodeWord_A ha (by rw [decodeA, hop, hd, hs, ht, hty, hmk, hfl]; rfl) hw
theorem redecodes_fcmp : Redecodes (.fcmp d s t cond) := by
  intro l w hw h
  obtain ⟨ha, -, hop, hd, hs, ht, hty, hmk, hfl⟩ := wAR_eq_iff.1 (Option.some.inj h)
  exact decodeWord_A ha (by rw [decodeA, hop, hd, hs, ht, hty, hmk, hfl, Cond.ofCode_code]; rfl) hw

/-! The forms with an element type. -/

theorem redecodes_typed :
    (∀ d s t y mk fl, Redecodes (.vadd d s t y mk fl) ∧ Redecodes (.vsub d s t y mk fl) ∧ Redecodes (.vmul d s t y mk fl) ∧
    Redecodes (.vmin d s t y mk fl) ∧ Redecodes (.vmax d s t y mk fl) ∧ Redecodes (.vand d s t y mk fl) ∧ Redecodes (.vor d s t y mk fl) ∧
    Redecodes (.vxor d s t y mk fl) ∧ Redecodes (.vsll d s t y mk fl) ∧ Redecodes (.vsrl d s t y mk fl) ∧ Redecodes (.vsra d s t y mk fl) ∧
    Redecodes (.vwadd d s t y mk fl) ∧ Redecodes (.vwmul d s t y mk fl) ∧ Redecodes (.vwma d s t y mk fl)) ∧
    (∀ d s y mk fl, Redecodes (.vabs d s y mk fl) ∧ Redecodes (.vneg d s y mk fl) ∧ Redecodes (.vnarrow d s y mk fl) ∧
    Redecodes (.vrsum d s y mk fl) ∧ Redecodes (.vrmax d s y mk fl)) ∧
    (∀ d s t y mk, Redecodes (.vsel d s t y mk) ∧ Redecodes (.vperm d s t y mk) ∧ Redecodes (.vslide d s t y mk)) ∧
    (∀ d s y mk, Redecodes (.vmov d s y mk) ∧ Redecodes (.vbcast d s y mk) ∧ Redecodes (.vexp2 d s y mk) ∧ Redecodes (.vlog2 d s y mk) ∧
    Redecodes (.vrcp d s y mk) ∧ Redecodes (.vrsq d s y mk) ∧ Redecodes (.vsig d s y mk)) ∧
    (∀ d s t y, Redecodes (.vins d s t y)) := by
  refine ⟨fun d s t y mk fl => ?_, fun d s y mk fl => ?_, fun d s t y mk => ?_, fun d s y mk => ?_, fun d s t y => ?_⟩ <;> and_intros
  all_goals
    intro l w hw h
    obtain ⟨ha, -, hop, hd, hs, ht, hty, hmk, hfl⟩ := wAR_eq_iff.1 (Option.some.inj h)
    exact decodeWord_A ha (by rw [decodeA, hop, hd, hs, ht, hty, hmk, hfl, Ty.ofCode_code]; rfl) hw

/-! The forms whose U stands in bit 1. -/

theorem redecodes_unsigned :
    (∀ d s t y u, Redecodes (.vext d s t y u)) ∧
    (∀ d s t y mk u, Redecodes (.vquant d s t y mk u)) := by
  refine ⟨fun d s t y u => ?_, fun d s t y mk u => ?_⟩
  all_goals
    intro l w hw h
    obtain ⟨ha, -, hop, hd, hs, ht, hty, hmk, hfl⟩ := wAR_eq_iff.1 (Option.some.inj h)
    obtain ⟨hu, hz⟩ := (fld_append (m := 1) (n := 1)).1 hfl
    exact decodeWord_A ha (by rw [decodeA, hop, hd, hs, ht, hty, hmk, fld_bit.1 hu, hz, Ty.ofCode_code]; rfl) hw
theorem redecodes_vcvt : Redecodes (.vcvt d s y fl z du dsu mk) := by
  intro l w hw h
  obtain ⟨ha, -, hop, hd, hs, ht, hty, hmk, hfl⟩ := wAR_eq_iff.1 (Option.some.inj h)
  obtain ⟨ht, hz⟩ := (fld_append (m := 2) (n := 3)).1 ht
  obtain ⟨hds, hdu⟩ := (fld_append (m := 1) (n := 1)).1 ht
  exact decodeWord_A ha (by rw [decodeA, hop, hd, hs, hty, hmk, hfl, hz, fld_bit.1 hds, fld_bit.1 hdu, Ty.ofCode_code, withCode, Ty.ofCode_code]; rfl) hw
theorem redecodes_vunplane : Redecodes (.vunplane d s np u mk) := by
  intro l w hw h
  obtain ⟨ha, -, hop, hd, hs, ht, hty, hmk, hfl⟩ := wAR_eq_iff.1 (Option.some.inj h)
  obtain ⟨hc, hp⟩ := (fld_append (m := 1) (n := 4)).1 ht
  exact decodeWord_A ha (by rw [decodeA, hop, hd, hs, hty, hmk, hfl, hp, fld_bit.1 hc]; rfl) hw

/-! Mask registers in fields of five bits. -/

theorem redecodes_maskLogic : Redecodes (.mand md ms mt) ∧ Redecodes (.mor md ms mt) ∧ Redecodes (.mxor md ms mt) := by
  and_intros
  all_goals
    intro l w hw h
    obtain ⟨ha, -, hop, hd, hs, ht, hty, hmk, hfl⟩ := wAR_eq_iff.1 (Option.some.inj h)
    obtain ⟨hdz, hd⟩ := (fld_append (m := 2) (n := 3)).1 hd
    obtain ⟨hsz, hs⟩ := (fld_append (m := 2) (n := 3)).1 hs
    obtain ⟨htz, ht⟩ := (fld_append (m := 2) (n := 3)).1 ht
    exact decodeWord_A ha (by rw [decodeA, hop, hdz, hd, hsz, hs, htz, ht, low8_eq_zero.2 ⟨hty, hmk, hfl⟩]; rfl) hw
theorem redecodes_mnot : Redecodes (.mnot md ms) := by
  intro l w hw h
  obtain ⟨ha, -, hop, hd, hs, ht, hty, hmk, hfl⟩ := wAR_eq_iff.1 (Option.some.inj h)
  obtain ⟨hdz, hd⟩ := (fld_append (m := 2) (n := 3)).1 hd
  obtain ⟨hsz, hs⟩ := (fld_append (m := 2) (n := 3)).1 hs
  exact decodeWord_A ha (by rw [decodeA, hop, hdz, hd, hsz, hs, ht, low8_eq_zero.2 ⟨hty, hmk, hfl⟩]; rfl) hw
theorem redecodes_maskCount : Redecodes (.mpop d ms y) ∧ Redecodes (.mfirst d ms y) := by
  and_intros
  all_goals
    intro l w hw h
    obtain ⟨ha, -, hop, hd, hs, ht, hty, hmk, hfl⟩ := wAR_eq_iff.1 (Option.some.inj h)
    obtain ⟨hsz, hs⟩ := (fld_append (m := 2) (n := 3)).1 hs
    exact decodeWord_A ha (by rw [decodeA, hop, hd, hsz, hs, ht, hty, hmk, hfl, Ty.ofCode_code]; rfl) hw
theorem redecodes_mfromx : Redecodes (.mfromx md s y) := by
  intro l w hw h
  obtain ⟨ha, -, hop, hd, hs, ht, hty, hmk, hfl⟩ := wAR_eq_iff.1 (Option.some.inj h)
  obtain ⟨hdz, hd⟩ := (fld_append (m := 2) (n := 3)).1 hd
  exact decodeWord_A ha (by rw [decodeA, hop, hdz, hd, hs, ht, hty, hmk, hfl, Ty.ofCode_code]; rfl) hw
theorem redecodes_anop : Redecodes .anop := by
  intro l w hw h
  obtain ⟨ha, -, hop, hd, hs, ht, hty, hmk, hfl⟩ := wAR_eq_iff.1 (Option.some.inj h)
  exact decodeWord_A ha (by rw [decodeA, hop, low23_eq_zero.2 ⟨hd, hs, ht, hty, hmk, hfl⟩]; rfl) hw

/-! The other A-formats. -/

theorem redecodes_immediate :
    (∀ d s i13, Redecodes (.addi d s i13) ∧ Redecodes (.andi d s i13) ∧ Redecodes (.ori d s i13) ∧ Redecodes (.xori d s i13) ∧
    Redecodes (.slti d s i13)) ∧
    (∀ d i13, Redecodes (.lui d i13) ∧ Redecodes (.lcat d i13)) := by
  refine ⟨fun d s i13 => ?_, fun d i13 => ?_⟩ <;> and_intros
  all_goals
    intro l w hw h
    obtain ⟨ha, -, hop, hd, hs, himm⟩ := wAI_eq_iff.1 (Option.some.inj h)
    exact decodeWord_A ha (by rw [decodeA, hop, hd, hs, himm]; rfl) hw
theorem redecodes_shift : Redecodes (.slli d s sh) ∧ Redecodes (.srli d s sh) ∧ Redecodes (.srai d s sh) := by
  and_intros
  all_goals
    intro l w hw h
    obtain ⟨ha, -, hop, hd, hs, himm⟩ := wAI_eq_iff.1 (Option.some.inj h)
    obtain ⟨hz, hsh⟩ := (fld_append (m := 7) (n := 6)).1 himm
    exact decodeWord_A ha (by rw [decodeA, hop, hd, hs, hz, hsh]; rfl) hw
theorem redecodes_fma : Redecodes (.fma d s t v) := by
  intro l w hw h
  obtain ⟨ha, -, hop, hd, hs, ht, hv, hty⟩ := wA4_eq_iff.1 (Option.some.inj h)
  exact decodeWord_A ha (by rw [decodeA, hop, hd, hs, ht, hv, hty]; rfl) hw
theorem redecodes_vma : Redecodes (.vma d s t v y) := by
  intro l w hw h
  obtain ⟨ha, -, hop, hd, hs, ht, hv, hty⟩ := wA4_eq_iff.1 (Option.some.inj h)
  exact decodeWord_A ha (by rw [decodeA, hop, hd, hs, ht, hv, hty, Ty.ofCode_code]; rfl) hw
theorem redecodes_vcmp : Redecodes (.vcmp md s t cond y u) := by
  intro l w hw h
  obtain ⟨ha, -, hop, hmd, hc, hs, ht, hty, hz, hu⟩ := wAC_eq_iff.1 (Option.some.inj h)
  exact decodeWord_A ha (by rw [decodeA, hop, hmd, hc, hs, ht, hty, hz, hu, Ty.ofCode_code, Cond.ofCode_code]; rfl) hw
theorem redecodes_memToMem :
    Redecodes (.mmadd a b c y fl) ∧ Redecodes (.mmsub a b c y fl) ∧ Redecodes (.mmmul a b c y fl) ∧ Redecodes (.mmma a b c y fl) ∧
    Redecodes (.mmmax a b c y fl) ∧ Redecodes (.mmcvt a b c y fl) := by
  and_intros
  all_goals
    intro l w hw h
    obtain ⟨ha, -, hop, hd, hs, ht, hty, hfl, hz⟩ := wAM_eq_iff.1 (Option.some.inj h)
    exact decodeWord_A ha (by rw [decodeA, hop, hd, hs, ht, hty, hfl, hz, Ty.ofCode_code]; rfl) hw

/-! SYS. -/

theorem redecodes_sys :
    (∀ i10, Redecodes (.trap i10) ∧ Redecodes (.brk i10)) ∧
    (∀ s i10, Redecodes (.tmark s i10)) ∧
    Redecodes .nop ∧ Redecodes .eret ∧ Redecodes .idle ∧ Redecodes .rgn ∧ Redecodes .rgnend := by
  refine ⟨fun i10 => ?_, fun s i10 => ?_, ?_⟩ <;> and_intros
  all_goals
    intro l w hw h
    obtain ⟨ha, -, hm, hfn, hs, hsc, himm⟩ := wCG_eq_iff.1 (Option.some.inj h)
    exact decodeWord_C ha (by rw [decodeC, hm]; show decodeSys w = _; rw [decodeSys, hfn, hs, hsc, himm]; rfl) hw
theorem redecodes_drainnt : Redecodes (.drainnt sc) := by
  intro l w hw h
  obtain ⟨ha, -, hm, hfn, hs, hsc, himm⟩ := wCG_eq_iff.1 (Option.some.inj h)
  exact decodeWord_C ha (by rw [decodeC, hm]; show decodeSys w = _; rw [decodeSys, hfn, hs, hsc, himm, Scope.ofCode_code]; rfl) hw
theorem redecodes_fence : Redecodes (.fence sc fk) := by
  intro l w hw h
  obtain ⟨ha, -, hm, hfn, hs, hsc, himm⟩ := wCG_eq_iff.1 (Option.some.inj h)
  obtain ⟨hz, hk⟩ := (fld_append (m := 8) (n := 2)).1 himm
  exact decodeWord_C ha (by
    rw [decodeC, hm]; show decodeSys w = _
    rw [decodeSys, hfn, hs, hsc, hz, hk, Scope.ofCode_code, FenceKind.ofCode_code]; rfl) hw

/-! Control registers, branches, loads and stores. -/

theorem redecodes_controlReg : Redecodes (.crr x cr) ∧ Redecodes (.crw x cr) ∧ Redecodes (.crset x cr) ∧ Redecodes (.crclr x cr) := by
  and_intros
  all_goals
    intro l w hw h
    obtain ⟨ha, -, hm, hx, hcr, hz⟩ := wCC_eq_iff.1 (Option.some.inj h)
    exact decodeWord_C ha (by rw [decodeC, hm, hx, hcr, hz]; rfl) hw
theorem redecodes_branch :
    Redecodes (.beq s t off) ∧ Redecodes (.bne s t off) ∧ Redecodes (.blt s t off) ∧ Redecodes (.bge s t off) ∧ Redecodes (.bltu s t off) ∧
    Redecodes (.bgeu s t off) := by
  and_intros
  all_goals
    intro l w hw h
    obtain ⟨ha, -, hm, hs, ht, hoff⟩ := wCB_eq_iff.1 (Option.some.inj h)
    exact decodeWord_C ha (by rw [decodeC, hm, hs, ht, hoff]; rfl) hw
theorem redecodes_maskBranch : Redecodes (.bany mk off) ∧ Redecodes (.bnone mk off) := by
  and_intros
  all_goals
    intro l w hw h
    obtain ⟨ha, -, hm, hs, ht, hoff⟩ := wCB_eq_iff.1 (Option.some.inj h)
    obtain ⟨hz, hr⟩ := (fld_append (m := 2) (n := 3)).1 hs
    exact decodeWord_C ha (by rw [decodeC, hm, hz, hr, ht, hoff]; rfl) hw
theorem redecodes_memory :
    (∀ d a x la sz mode, Redecodes (.lds d a x la sz mode) ∧ Redecodes (.ldv d a x la sz mode)) ∧
    (∀ d a x sz mode, Redecodes (.sts d a x sz mode) ∧ Redecodes (.stv d a x sz mode) ∧ Redecodes (.stnt d a x sz mode)) := by
  refine ⟨fun d a x la sz mode => ?_, fun d a x sz mode => ?_⟩ <;> and_intros
  all_goals
    intro l w hw h
    obtain ⟨ha, -, hm, hd, ha', hx, hla, hsz, hmode⟩ := wCM_eq_iff.1 (Option.some.inj h)
    exact decodeWord_C ha (by rw [decodeC, hm]; show decodeCM w _ = _; rw [decodeCM, hd, ha', hx, hla, hsz, hmode]; rfl) hw
theorem redecodes_fullEmpty :
    (∀ d a la fm, Redecodes (.ldfe d a la fm)) ∧
    (∀ d a fm, Redecodes (.stfe d a fm)) := by
  refine ⟨fun d a la fm => ?_, fun d a fm => ?_⟩
  all_goals
    intro l w hw h
    obtain ⟨ha, -, hm, hd, ha', hx, hla, hsz, hmode⟩ := wCM_eq_iff.1 (Option.some.inj h)
    obtain ⟨hz, hmode⟩ := (fld_append (m := 1) (n := 2)).1 hmode
    exact decodeWord_C ha (by rw [decodeC, hm, hz, hmode]; show decodeCM w _ = _; rw [decodeCM, hd, ha', hx, hla, hsz]; rfl) hw

/-! Atomics, address registers, copies. -/

theorem redecodes_atomic :
    Redecodes (.atomAdd d a x sc o) ∧ Redecodes (.atomAnd d a x sc o) ∧ Redecodes (.atomOr d a x sc o) ∧ Redecodes (.atomXor d a x sc o) ∧
    Redecodes (.atomMin d a x sc o) ∧ Redecodes (.atomMax d a x sc o) ∧ Redecodes (.atomMinu d a x sc o) ∧ Redecodes (.atomMaxu d a x sc o) ∧
    Redecodes (.atomSwap d a x sc o) ∧ Redecodes (.atomCas d a x sc o) ∧ Redecodes (.atomMaxrst d a x sc o) ∧ Redecodes (.atomFadd d a x sc o) ∧
    Redecodes (.atomFmax d a x sc o) ∧ Redecodes (.atomFmaxrst d a x sc o) := by
  and_intros
  all_goals
    intro l w hw h
    obtain ⟨ha, -, hm, hd, ha', hx, hsc, ho, hop⟩ := wCA_eq_iff.1 (Option.some.inj h)
    exact decodeWord_C ha (by
      rw [decodeC, hm]; show decodeAtom w = _
      rw [decodeAtom, hd, ha', hx, hsc, ho, hop, Scope.ofCode_code]; rfl) hw
theorem redecodes_addressReg :
    (∀ a b, Redecodes (.amov a b)) ∧
    (∀ a b x t, Redecodes (.anarrow a b x t)) ∧
    (∀ a b x, Redecodes (.aadd a b x) ∧ Redecodes (.asetp a b x)) ∧
    (∀ b x, Redecodes (.agetp b x) ∧ Redecodes (.agetb b x) ∧ Redecodes (.agetl b x) ∧ Redecodes (.aperm b x)) ∧
    (∀ a x t, Redecodes (.amake a x t)) := by
  refine ⟨fun a b => ?_, fun a b x t => ?_, fun a b x => ?_, fun b x => ?_, fun a x t => ?_⟩ <;> and_intros
  all_goals
    intro l w hw h
    obtain ⟨ha, -, hm, hd, hs, hx, hy, hfn⟩ := wCQ_eq_iff.1 (Option.some.inj h)
    exact decodeWord_C ha (by rw [decodeC, hm]; show decodeAop w = _; rw [decodeAop, hd, hs, hx, hy, hfn]; rfl) hw
theorem redecodes_copies :
    Redecodes (.copy a b x tag cpa) ∧ Redecodes (.copy2d a b x tag cpa) ∧ Redecodes (.copymc a b x tag cpa) ∧ Redecodes (.copygt a b x tag cpa) := by
  and_intros
  all_goals
    intro l w hw h
    obtain ⟨ha, -, hm, hd, hs, hx, htag, hcpa, hfn⟩ := wCX_eq_iff.1 (Option.some.inj h)
    exact decodeWord_C ha (by rw [decodeC, hm]; show decodeCopy w = _; rw [decodeCopy, hd, hs, hx, htag, hcpa, hfn]; rfl) hw

/-! The CR format. -/

theorem redecodes_engine :
    (∀ d s, Redecodes (.waitany d s) ∧ Redecodes (.tfirst d s) ∧ Redecodes (.tget d s) ∧ Redecodes (.mjob d s) ∧ Redecodes (.mstat d s) ∧
    Redecodes (.htest d s) ∧ Redecodes (.barq d s) ∧ Redecodes (.gnew d s) ∧ Redecodes (.gpark d s) ∧ Redecodes (.grun d s) ∧ Redecodes (.ckpt d s) ∧
    Redecodes (.errclr d s) ∧ Redecodes (.keyslotStat d s) ∧ Redecodes (.keyslotGen d s) ∧ Redecodes (.keyslotErase d s)) ∧
    (∀ s, Redecodes (.waitall s) ∧ Redecodes (.tclr s) ∧ Redecodes (.mcancel s) ∧ Redecodes (.aczero s) ∧ Redecodes (.hfree s) ∧ Redecodes (.tgon s) ∧
    Redecodes (.tgoff s) ∧ Redecodes (.tgset s) ∧ Redecodes (.tgclr s) ∧ Redecodes (.vhold s) ∧ Redecodes (.vhclr s) ∧ Redecodes (.barr s) ∧
    Redecodes (.barw s) ∧ Redecodes (.barrw s) ∧ Redecodes (.barwd s)) ∧
    (∀ d s la, Redecodes (.mwait d s la) ∧ Redecodes (.rdyq d s la)) ∧
    (∀ d s t la, Redecodes (.acst d s t la) ∧ Redecodes (.acstb d s t la) ∧ Redecodes (.acld d s t la) ∧ Redecodes (.acstsc d s t la) ∧
    Redecodes (.hwait d s t la) ∧ Redecodes (.hwaitv d s t la)) ∧
    (∀ s t, Redecodes (.hreply s t) ∧ Redecodes (.hreplyv s t) ∧ Redecodes (.hbreak s t) ∧ Redecodes (.ready s t) ∧ Redecodes (.unready s t) ∧
    Redecodes (.tlbinv s t) ∧ Redecodes (.icinv s t)) ∧
    (∀ d, Redecodes (.vhtest d)) ∧
    (∀ d s t, Redecodes (.kickTeam d s t) ∧ Redecodes (.kickGroup d s t) ∧ Redecodes (.gplace d s t) ∧ Redecodes (.gadd d s t) ∧
    Redecodes (.gdrop d s t) ∧ Redecodes (.gmove d s t) ∧ Redecodes (.gend d s t) ∧ Redecodes (.barcfg d s t) ∧ Redecodes (.coreret d s t) ∧
    Redecodes (.mapsetStat d s t) ∧ Redecodes (.mapsetLoad d s t) ∧ Redecodes (.mapsetSwitch d s t) ∧ Redecodes (.mapsetOpen d s t)) ∧
    Redecodes .done := by
  refine ⟨fun d s => ?_, fun s => ?_, fun d s la => ?_, fun d s t la => ?_, fun s t => ?_, fun d => ?_, fun d s t => ?_, ?_⟩ <;> and_intros
  all_goals
    intro l w hw h
    obtain ⟨ha, -, hm, hd, hs, ht, hla, hfn⟩ := wCR_eq_iff.1 (Option.some.inj h)
    exact decodeWord_C ha (by rw [decodeC, hm]; show decodeCR w = _; rw [decodeCR, hm, hfn, hd, hs, ht, hla]; rfl) hw

/-! The words that have a layout of their own. -/

theorem redecodes_yield : Redecodes (.yield dl x) := by
  intro l w hw h
  obtain ⟨ha, -, hm, hdl, hx, hz⟩ := yield_eq_iff.1 (Option.some.inj h)
  exact decodeWord_C ha (by rw [decodeC, hm, hdl, hx, hz]; rfl) hw
theorem redecodes_rep : Redecodes (.rep x sh ds s1 s2) := by
  intro l w hw h
  obtain ⟨ha, -, hm, hx, himm, hds, hs1, hs2, hz⟩ := rep_eq_iff.1 (Option.some.inj h)
  exact decodeWord_C ha (by rw [decodeC, hm, hx, himm, hds, hs1, hs2, hz]; rfl) hw
theorem redecodes_jump : Redecodes (.j off24) ∧ Redecodes (.jal off24) := by
  and_intros
  all_goals
    intro l w hw h
    obtain ⟨ha, -, hm, hoff⟩ := jump_eq_iff.1 (Option.some.inj h)
    exact decodeWord_C ha (by rw [decodeC, hm, hoff]; rfl) hw
theorem redecodes_jalr : Redecodes (.jalr d s i10) := by
  intro l w hw h
  obtain ⟨ha, -, hm, hd, hs, hz, himm⟩ := jalr_eq_iff.1 (Option.some.inj h)
  exact decodeWord_C ha (by rw [decodeC, hm, hd, hs, hz, himm]; rfl) hw
theorem redecodes_aaddi : Redecodes (.aaddi a b i16) := by
  intro l w hw h
  obtain ⟨ha, -, hm, hd, hs, himm⟩ := aaddi_eq_iff.1 (Option.some.inj h)
  exact decodeWord_C ha (by rw [decodeC, hm, hd, hs, himm]; rfl) hw
theorem redecodes_mtile : Redecodes (.mtile x p q tb ta fm) := by
  intro l w hw h
  obtain ⟨ha, -, hm, hx, hp, hq, hz, htb, hta, hmode⟩ := mtile_eq_iff.1 (Option.some.inj h)
  exact decodeWord_C ha (by rw [decodeC, hm, hx, hp, hq, hz, htb, hta, hmode]; rfl) hw
theorem redecodes_invoke : Redecodes (.inv d x v tag kind u) ∧ Redecodes (.invx d x v tag kind u) := by
  and_intros
  all_goals
    intro l w hw h
    obtain ⟨ha, -, hm, hd, hx, hv, htag, hk, hu⟩ := wCV_eq_iff.1 (Option.some.inj h)
    exact decodeWord_C ha (by rw [decodeC, hm, hd, hx, hv, htag, hk, hu, InvKind.ofCode_code]; rfl) hw
theorem redecodes_rstv : Redecodes (.rstv v x tag n u) := by
  intro l w hw h
  obtain ⟨ha, -, hm, hv, hx, htag, hn, hr, hz⟩ := rstv_eq_iff.1 (Option.some.inj h)
  exact decodeWord_C ha (by rw [decodeC, hm, hv, hx, htag, hn, hr, hz]; rfl) hw
theorem redecodes_mcast : Redecodes (.mcast v a x tag fm u) := by
  intro l w hw h
  obtain ⟨ha, -, hm, hv, ha', hx, htag, hz, hsize, ho⟩ := mcast_eq_iff.1 (Option.some.inj h)
  exact decodeWord_C ha (by rw [decodeC, hm, hv, ha', hx, htag, flag_eq_false.1 hz, hsize, ho]; rfl) hw

end

theorem redecodes (i : Instr) : Redecodes i := by
  cases i
  -- the rows that have no word
  case trapEntry | regionRestart | watchdog | accessComplete | load | store | atomic | loadfe | storefe | loadResponse | ack | nack | retry
    | retryResend | retryListReoffer | translationWalk | sfuStart | sfuComplete | mmComplete | matrixDispatch | kstepEnd
    | matrixCommandComplete | matrixAgeing | copyLine | copydata | mcastMsg | copyComplete | invMsg | invxMsg | activationStart
    | rawArrivalStart | kickStart | arrivalAgeing | pass | passForward | passAtSlot | bounce | readydelta | rdyquery | rdyanswer | reply
    | break_ | fetch | value | hrelease | relayForward | rstvMsg | redirectQueueDrain | directoryAnswer | grpctl | grpstat | memberPark
    | saveImageComplete | groupEnded | kickMsg | kickoffFanout | kickend | bararrive | barrelease | barrierTimeout | barbreak | barconfig
    | refereePair | refereeTimeout | unassignedMessage | l2pdataWrite | l2pUpdate | rtdataWrite | vallotWrite | tgenWrite | ctxcmdCreate
    | ctxcmdDestroy | ctxrectWrite | contextBound | contextShrunk | contextDestroyed | scrubComplete | hfsendWrite | deviceFrame
    | frameWindowWrite | hostframeInject | hostframe | gap | drheadWrite | drbaseWrite | drsizeWrite | bar2Access | functionLevelReset
    | packageReset | bootctlGo | imageVerification | discover | discoverAnswer | silentRouter | floodEnd | measxWrite | attreqWrite
    | attestationReport | powerLimit | overtemperature | powerGate | gateDrainTimeout | droop | droopRearm | traceDrain | trtailWrite
    | dbgctlWrite | hbmRowRepair | nodeidWrite | portctlWrite | trainingBackoff | trainingSequence | laneRetrain | linkFlit
    | linkResendTimeout | portDown | marker | ckptWalk | acceptNotice =>
    exact fun _ _ _ h => nomatch h
  all_goals
    simp only [redecodes_integer, redecodes_scalarFloat, redecodes_fcmp, redecodes_typed, redecodes_unsigned, redecodes_vcvt, redecodes_vunplane,
    redecodes_maskLogic, redecodes_mnot, redecodes_maskCount, redecodes_mfromx, redecodes_anop, redecodes_immediate, redecodes_shift, redecodes_fma,
    redecodes_vma, redecodes_vcmp, redecodes_memToMem, redecodes_sys, redecodes_drainnt, redecodes_fence, redecodes_controlReg, redecodes_branch,
    redecodes_maskBranch, redecodes_memory, redecodes_fullEmpty, redecodes_atomic, redecodes_addressReg, redecodes_copies, redecodes_engine,
    redecodes_yield, redecodes_rep, redecodes_jump, redecodes_jalr, redecodes_aaddi, redecodes_mtile, redecodes_invoke, redecodes_rstv,
    redecodes_mcast]

/-- Settles O55: the fields of an instruction's word, read back by its row of the decoder. -/
theorem decodeEncode : Obligations.DecodeEncode := fun l i w hw h => redecodes i l w hw h

end Sys2Proof
end

section
/-! ### Words of the encoding tables (R43, R49, R54) -/

namespace Sys2Proof

/-- Settles O54: the words of the instructions, by O55; of the others each lies outside a table of the decoder. -/
theorem decodeWords : Obligations.DecodeWords := by
  have row : ∀ i l w, i.wf = true → encode l i = some w → decodeWord w = .ok i.base := fun i l w => decodeEncode l i w
  exact ⟨row (.lds 5 1 0 2 3 0) false _ rfl rfl, row (.add 6 7 8) false _ rfl rfl, row .nop true _ rfl rfl, row .anop true _ rfl rfl,
    row (.errclr 6 20) true _ rfl rfl, row (.rstv 3 9 4 12 true) true _ rfl rfl, row (.hwait 5 16 6 15) true _ rfl rfl,
    row (.mtile 20 4 42 false false 1) true _ rfl rfl, row (.atomCas 7 3 8 .package 3) true _ rfl rfl, row (.fence .group .rel) true _ rfl rfl,
    row (.copy 5 6 14 0 0) true _ rfl rfl, row (.inv 7 12 3 5 .m false) true _ rfl rfl, rfl, rfl, rfl, rfl⟩

end Sys2Proof
end

section
/-! ### The framing of a bundle (R38, R54) -/

namespace Sys2Proof.Machine

namespace State

section
variable {s u : State} {w0 w1 : IWord}

/-- A lone C-slot word, an A-word that is not lone, a REP word that is not lone (R38). -/
theorem frame_aslot_first (ha : isA w0 = true) (hl : isLone w0 = false) : s.frame w0 = s.framing w0 := by
  simp only [frame, ha, hl, Bool.not_false, Bool.and_true, if_true]
theorem frame_rep_paired (ha : isA w0 = false) (hm : major w0 = 6) (hl : isLone w0 = false) : s.frame w0 = s.framing w0 := by
  simp only [frame, ha, hl, hm, Bool.not_false, Bool.false_and, Bool.true_and, beq_self_eq_true, Bool.false_eq_true, if_false, if_true]
/-- The word after a REP word is a lone A-word (R38, R111). -/
theorem frame_rep_bad (ha : isA w0 = false) (hl : isLone w0 = true) (hm : major w0 = 6)
    (h2 : ({ s with ctx := { s.ctx with next := s.ctx.pc + 8 } }).fetchWord (s.ctx.pc + 4) = .word w1 u)
    (h : isA w1 = false ∨ isLone w1 = false) : s.frame w0 = u.framing w1 := by
  have hbad : (!isA w1 || !isLone w1) = true := by rcases h with h | h <;> simp [h]
  simp only [frame, ha, hl, hm, second_word h2, hbad, Bool.not_false, Bool.not_true, Bool.false_and, Bool.true_and, beq_self_eq_true,
    Bool.false_eq_true, if_false, if_true]
/-- A pair begins at a multiple of eight, and its second word is an A-word that is not lone (R38). -/
theorem frame_pair_misplaced (ha : isA w0 = false) (hl : isLone w0 = false) (hm : major w0 ≠ 6) (hp : s.ctx.pc.getLsbD 2 = true) :
    s.frame w0 = s.framing w0 := by
  simp only [frame, ha, hl, hm, hp, Bool.not_false, Bool.false_and, Bool.true_and, Bool.false_eq_true, if_false, if_true, beq_iff_eq]
theorem frame_pair_bad (ha : isA w0 = false) (hl : isLone w0 = false) (hm : major w0 ≠ 6) (hp : s.ctx.pc.getLsbD 2 = false)
    (h2 : ({ s with ctx := { s.ctx with next := s.ctx.pc + 8 } }).fetchWord (s.ctx.pc + 4) = .word w1 u)
    (h : isA w1 = false ∨ isLone w1 = true) : s.frame w0 = u.framing w1 := by
  have hbad : (!isA w1 || isLone w1) = true := by rcases h with h | h <;> simp [h]
  simp only [frame, ha, hl, hm, hp, second_word h2, hbad, Bool.not_false, Bool.false_and, Bool.true_and, Bool.false_eq_true, if_false, if_true,
    beq_iff_eq]

/-- A word that no table defines raises ILLEGAL (R54). -/
theorem issueLone_error {e : DecodeError} (h : decodeWord w0 = .error e) : s.issueLone w0 = s.raised (illegal w0 false) := by
  simp only [issueLone, h]

end

@[simp] theorem cur_ended (s : State) (e : SlotEnd) : (s.ended e).cur = s.cur := rfl

/-- The trap of FRAMING, where nothing is outstanding (R38, R359). -/
theorem framing_enters {v : State} {w : IWord} (hq : (v.cur.consume { cause := .framing, slot := false, val := w.setWidth 64 }).quiet = true) :
    ∃ t, v.framing w = .next t ∧
      t.cur.sys.epc = v.ctx.pc ∧ t.cur.sys.eval = w.setWidth 64 ∧ t.cur.sys.ecause = 2 ∧ t.cur.regs = v.cur.regs := by
  refine ⟨_, rfl, ?_⟩
  rw [cur_ended, raiseTrap_cur hq rfl Cause.noConfusion]
  have hcode : (BitVec.ofBool false).append (BitVec.ofNat 8 Cause.framing.code) = (2 : BitVec 9) := by decide
  exact ⟨rfl, rfl, hcode, rfl⟩

end State

/-- Settles O50: the first word alone, then its second word, decides the framing. -/
theorem framing : Obligations.Framing := by
  intro s u w0 w1 faults rep second pair
  refine ⟨State.frame_aslot_first, fun h => State.frame_rep_paired h.1 h.2, fun h hl h2 => State.frame_rep_bad h.1 hl h.2 h2,
    fun h hl h2 => State.frame_rep h.1 hl h.2 h2, fun hl h => State.frame_lone hl ?_, fun ⟨ha, hl, hm⟩ => State.frame_pair_misplaced ha hl hm,
    fun ⟨ha, hl, hm⟩ => State.frame_pair_bad ha hl hm, fun ⟨ha, hl, hm⟩ => State.frame_pair ha hl hm, fun e => State.issueLone_error,
    fun v w => State.framing_enters⟩
  by_cases ha : isA w0 = true
  · exact .inl ha
  · exact .inr fun hm => h ⟨Bool.eq_false_of_not_eq_true ha, hm⟩

end Sys2Proof.Machine
end


section
/-! ### Slots behind a stale copy of the thread (O52, O10) -/

namespace Sys2Proof.Machine

/-- A fault of a slot is how that slot ended, whatever its form. -/
theorem State.trapped_last (s : State) (t : Trap) : (s.trapped t).ctx.last = .raise t := by
  unfold State.trapped
  split <;> rfl

/-- A thread whose completed instruction has left ILLEGAL, a cause that R35 puts before PRIVILEGE. -/
def threadWithIllegal : Thread :=
  { outst := [{ id := 0, pc := 0, dst := [], win := none, fin := true, err := some { cause := .illegal, slot := false, val := 0 } }] }

/-- That thread is about to run a lone word, while the copy kept by an earlier bundle, in which nothing was outstanding, is still there. The checks of
R50 read the copy; the word opens its own bundle and reads the thread as it stands. -/
def State.behindCalmCopy : State := { ctx := { snap := some {} }, threads := [(0, threadWithIllegal)] }

/-- TLBINV waits for the thread's instructions as a fence does, and so raises the error that one of them left. -/
theorem tlbinv_behindCalmCopy :
    ∃ t, exec (.tlbinv 0 0) .behindCalmCopy = .next t ∧ t.ctx.last = .raise { cause := .illegal, slot := false, val := 0 } :=
  ⟨_, rfl, rfl⟩

/-- A thread in the C-slot of a pair, in an exception that interrupted an activation no longer there: it returns to user mode. The copy that the
bundle keeps differs, for it returns to supervisor mode. -/
def State.behindSupCopy : State :=
  { ctx := { form := .cslot, snap := some { sup := true, sys := { estatus := 9 } } }, threads := [(0, { sup := true, sys := { estatus := 8 } })] }

/-- ERET takes the mode of the thread as it stands, not of the copy. -/
theorem eret_behindSupCopy : ∃ t, exec .eret .behindSupCopy = .next t ∧ t.cur.sup = false :=
  ⟨_, rfl, rfl⟩

end Sys2Proof.Machine

namespace Sys2Proof

open Machine

/-- Refutes O52: in user mode TLBINV raises the ILLEGAL that an earlier instruction of its thread left, where the copy of the thread that the
statement's conditions speak of holds no such error. -/
theorem not_privilege : ¬ Obligations.Privilege := by
  intro ⟨words, _⟩
  have user := words (.tlbinv 0 0) .behindCalmCopy (.inr (.inr (.inr (.inr (.inl ⟨0, 0, .inl rfl⟩))))) rfl rfl (fun _ ho => nomatch ho) (fun _ hm => nomatch hm)
  obtain ⟨t, ht, last⟩ := tlbinv_behindCalmCopy
  obtain rfl := Host.Outcome.next.inj (ht.symm.trans user)
  rw [State.trapped_last] at last
  exact absurd (congrArg Trap.cause (SlotEnd.raise.inj last)) (by decide)

/-- Refutes O10: an ERET with no activation to return to takes its mode from the thread, where the statement takes it from the bundle's copy. -/
theorem not_endsOfCode : ¬ Obligations.EndsOfCode := by
  intro ⟨⟨_, _, stops, _⟩, _⟩
  have copy := stops .behindSupCopy ⟨rfl, rfl⟩ ⟨rfl, rfl, rfl⟩
  obtain ⟨t, ht, mode⟩ := eret_behindSupCopy
  obtain rfl := Host.Outcome.next.inj (ht.symm.trans copy)
  exact absurd mode (by decide)

end Sys2Proof
end


section
/-! ### The machine never stops (O57) -/

namespace Sys2Proof.Machine

/-- The outcome is a next state, neither a fault nor a refusal. -/
def Answers (o : Host.Outcome State Fault Refusal) : Prop := ∃ t, o = .next t

theorem slot_answers (i : Instr) (body : State → SlotRes) (s : State) : Answers (slot i body s) := slot_next i body s

theorem execRep_answers (xc : XReg) (imm : BitVec 6) (ds s1s s2s : BitVec 3) (s : State) : Answers (execRep xc imm ds s1s s2s s) := by
  dsimp only [execRep]
  repeat' split
  all_goals exact ⟨_, rfl⟩

/-! #### Events -/

/-- The events of the traps and the clocks of a thread, and its engines. -/
theorem thread_events_answer :
    (∀ p k s, Answers (execTrapEntry p k s)) ∧ (∀ p k s, Answers (execRegionRestart p k s)) ∧ (∀ p k s, Answers (execWatchdog p k s)) ∧
    (∀ p s, Answers (execSfuComplete p s)) ∧ (∀ p k s, Answers (execMmComplete p k s)) ∧ (∀ p s, Answers (execMatrixDispatch p s)) ∧
    (∀ p s, Answers (execKstepEnd p s)) ∧ (∀ p s, Answers (execMatrixCommandComplete p s)) ∧ (∀ p k s, Answers (execMatrixAgeing p k s)) ∧
    (∀ p s, Answers (execVallotWrite p s)) := by
  and_intros
  all_goals
    intros
    dsimp only [execTrapEntry, execRegionRestart, execWatchdog, execSfuComplete, execMmComplete, execMatrixDispatch, execKstepEnd,
      execMatrixCommandComplete, execMatrixAgeing, execVallotWrite]
    repeat' split
    all_goals exact ⟨_, rfl⟩

/-- The events of accesses and copies. -/
theorem access_events_answer :
    (∀ p k n s, Answers (execAccessComplete p k n s)) ∧ (∀ p s, Answers (execLoadResponse p s)) ∧ (∀ p s, Answers (execRetry p s)) ∧
    (∀ p s, Answers (execRetryResend p s)) ∧ (∀ p k s, Answers (execRetryListReoffer p k s)) ∧
    (∀ p k s, Answers (execTranslationWalk p k s)) ∧ (∀ p k s, Answers (execCopyLine p k s)) ∧ (∀ p s, Answers (execCopydata p s)) ∧
    (∀ p s, Answers (execMcastMsg p s)) ∧ (∀ p k s, Answers (execCopyComplete p k s)) ∧ (∀ p s, Answers (execUnassignedMessage p s)) := by
  and_intros
  all_goals
    intros
    dsimp only [execAccessComplete, execLoadResponse, execRetry, execRetryResend, execRetryListReoffer, execTranslationWalk, execCopyLine,
      execCopydata, execMcastMsg, execCopyComplete, execUnassignedMessage]
    repeat' split
    all_goals exact ⟨_, rfl⟩

/-- The events of invocations, and the results they wait for. -/
theorem arrival_events_answer :
    (∀ p k s, Answers (execActivationStart p k s)) ∧ (∀ p k s, Answers (execRawArrivalStart p k s)) ∧
    (∀ p k s, Answers (execKickStart p k s)) ∧ (∀ p k s, Answers (execArrivalAgeing p k s)) ∧ (∀ p s, Answers (execPass p s)) ∧
    (∀ p s, Answers (execPassForward p s)) ∧ (∀ p s, Answers (execPassAtSlot p s)) ∧ (∀ p s, Answers (execBounce p s)) ∧
    (∀ p s, Answers (execReadydelta p s)) ∧ (∀ p s, Answers (execRdyquery p s)) ∧ (∀ p s, Answers (execFetch p s)) ∧
    (∀ p k s, Answers (execRelayForward p k s)) ∧ (∀ p s, Answers (execRstvMsg p s)) ∧ (∀ p k s, Answers (execRedirectQueueDrain p k s)) ∧
    (∀ p s, Answers (execDirectoryAnswer p s)) := by
  and_intros
  all_goals
    intros
    dsimp only [execActivationStart, execRawArrivalStart, execKickStart, execArrivalAgeing, execPass, execPassForward, execPassAtSlot, execBounce,
      execReadydelta, execRdyquery, execFetch, execRelayForward, execRstvMsg, execRedirectQueueDrain, execDirectoryAnswer]
    repeat' split
    all_goals exact ⟨_, rfl⟩

/-- The events of groups, barriers and pairs. -/
theorem group_events_answer :
    (∀ p s, Answers (execGrpctl p s)) ∧ (∀ p s, Answers (execGrpstat p s)) ∧ (∀ p k s, Answers (execMemberPark p k s)) ∧
    (∀ p k s, Answers (execSaveImageComplete p k s)) ∧ (∀ p s, Answers (execGroupEnded p s)) ∧ (∀ p s, Answers (execKickMsg p s)) ∧
    (∀ p s, Answers (execKickoffFanout p s)) ∧ (∀ p s, Answers (execKickend p s)) ∧ (∀ p s, Answers (execBararrive p s)) ∧
    (∀ p s, Answers (execBarrelease p s)) ∧ (∀ p k s, Answers (execBarrierTimeout p k s)) ∧ (∀ p s, Answers (execBarbreak p s)) ∧
    (∀ p s, Answers (execBarconfig p s)) ∧ (∀ p s, Answers (execRefereePair p s)) ∧ (∀ p s, Answers (execRefereeTimeout p s)) := by
  and_intros
  all_goals
    intros
    dsimp only [execGrpctl, execGrpstat, execMemberPark, execSaveImageComplete, execGroupEnded, execKickMsg, execKickoffFanout, execKickend,
      execBararrive, execBarrelease, execBarrierTimeout, execBarbreak, execBarconfig, execRefereePair, execRefereeTimeout]
    repeat' split
    all_goals exact ⟨_, rfl⟩

/-- The events of the host and the contexts. -/
theorem host_events_answer :
    (∀ p s, Answers (execContextBound p s)) ∧ (∀ p s, Answers (execContextShrunk p s)) ∧ (∀ p s, Answers (execContextDestroyed p s)) ∧
    (∀ p s, Answers (execScrubComplete p s)) ∧ (∀ p s, Answers (execHfsendWrite p s)) ∧ (∀ p s, Answers (execDeviceFrame p s)) ∧
    (∀ p k n s, Answers (execFrameWindowWrite p k n s)) ∧ (∀ p s, Answers (execHostframeInject p s)) ∧ (∀ p s, Answers (execHostframe p s)) ∧
    (∀ p s, Answers (execGap p s)) ∧ (∀ p k s, Answers (execDrheadWrite p k s)) ∧ (∀ p k s, Answers (execDrbaseWrite p k s)) ∧
    (∀ p k s, Answers (execDrsizeWrite p k s)) ∧ (∀ p k n b s, Answers (execBar2Access p k n b s)) := by
  and_intros
  all_goals
    intros
    dsimp only [execContextBound, execContextShrunk, execContextDestroyed, execScrubComplete, execHfsendWrite, execDeviceFrame, execFrameWindowWrite,
      execHostframeInject, execHostframe, execGap, execDrheadWrite, execDrbaseWrite, execDrsizeWrite, execBar2Access]
    repeat' split
    all_goals exact ⟨_, rfl⟩

/-- The events of the boot of the device. -/
theorem boot_events_answer :
    (∀ p k s, Answers (execL2pUpdate p k s)) ∧ (∀ p s, Answers (execFunctionLevelReset p s)) ∧ (∀ p s, Answers (execBootctlGo p s)) ∧
    (∀ s, Answers (execImageVerification s)) ∧ (∀ p s, Answers (execDiscover p s)) ∧ (∀ p s, Answers (execDiscoverAnswer p s)) ∧
    (∀ p k s, Answers (execSilentRouter p k s)) ∧ (∀ p s, Answers (execFloodEnd p s)) ∧ (∀ s, Answers (execAttestationReport s)) := by
  and_intros
  all_goals
    intros
    dsimp only [execL2pUpdate, execFunctionLevelReset, execBootctlGo, execImageVerification, execDiscover, execDiscoverAnswer, execSilentRouter,
      execFloodEnd, execAttestationReport]
    repeat' split
    all_goals exact ⟨_, rfl⟩

/-- The events of power, tracing and maintenance. -/
theorem power_events_answer :
    (∀ p s, Answers (execPowerGate p s)) ∧ (∀ p s, Answers (execGateDrainTimeout p s)) ∧ (∀ p k s, Answers (execDroop p k s)) ∧
    (∀ p k s, Answers (execDroopRearm p k s)) ∧ (∀ p s, Answers (execTraceDrain p s)) ∧ (∀ p k s, Answers (execHbmRowRepair p k s)) ∧
    (∀ p s, Answers (execCkptWalk p s)) := by
  and_intros
  all_goals
    intros
    dsimp only [execPowerGate, execGateDrainTimeout, execDroop, execDroopRearm, execTraceDrain, execHbmRowRepair, execCkptWalk]
    repeat' split
    all_goals exact ⟨_, rfl⟩

/-- The events of the links. -/
theorem link_events_answer :
    (∀ p k s, Answers (execPortctlWrite p k s)) ∧ (∀ p k s, Answers (execTrainingBackoff p k s)) ∧
    (∀ p k n s, Answers (execTrainingSequence p k n s)) ∧ (∀ p k n s, Answers (execLaneRetrain p k n s)) ∧
    (∀ p k s, Answers (execLinkFlit p k s)) ∧ (∀ p s, Answers (execLinkResendTimeout p s)) ∧ (∀ p s, Answers (execPortDown p s)) ∧
    (∀ p s, Answers (execMarker p s)) := by
  and_intros
  all_goals
    intros
    dsimp only [execPortctlWrite, execTrainingBackoff, execTrainingSequence, execLaneRetrain, execLinkFlit, execLinkResendTimeout, execPortDown,
      execMarker]
    repeat' split
    all_goals exact ⟨_, rfl⟩

/-- Every instruction and every event answers with a next state. -/
theorem exec_answers (i : Instr) (s : State) : Answers (exec i s) := by
  cases i with
  | rep => exact execRep_answers ..
  | beq | bne | blt | bge | bltu | bgeu =>
    dsimp only [exec]
    change Answers (branch _ _ _ _ _ _)
    exact slot_answers ..
  | aadd | asetp | aaddi =>
    dsimp only [exec]
    change Answers (aRepoint _ _ _ _ _)
    exact slot_answers ..
  | agetp | agetb | agetl | aperm =>
    dsimp only [exec]
    change Answers (aRead _ _ _ _ _)
    exact slot_answers ..
  | copy | copy2d | copymc | copygt =>
    dsimp only [exec]
    change Answers (copyIssue _ _ _ _ _ _ _ _)
    exact slot_answers ..
  | acst | acstb | acld | acstsc =>
    dsimp only [exec]
    change Answers (acop _ _ _ _ _ _ _)
    exact slot_answers ..
  | ready | unready =>
    dsimp only [exec]
    change Answers (ready _ _ _ _ _)
    exact slot_answers ..
  | vhold | vhclr =>
    dsimp only [exec]
    change Answers (holdBit _ _ _ _)
    exact slot_answers ..
  | kickTeam | kickGroup =>
    dsimp only [exec]
    change Answers (kick _ _ _ _ _ _)
    exact slot_answers ..
  | mapsetStat | mapsetLoad | mapsetSwitch | mapsetOpen =>
    dsimp only [exec]
    change Answers (mapset _ _ _ _ _)
    exact slot_answers ..
  | keyslotStat | keyslotGen | keyslotErase =>
    dsimp only [exec]
    change Answers (keyslot _ _ _ _)
    exact slot_answers ..
  | add | sub | and | or | xor | sll | srl | sra | slt | sltu | mul | mulh | mulhu | div | divu | rem | remu | min | max | minu | maxu =>
    dsimp only [exec]
    change Answers (xOp2 _ _ _ _ _ _)
    exact slot_answers ..
  | clz | ctz | popc | addi | andi | ori | xori | slli | srli | srai | slti | lcat =>
    dsimp only [exec]
    change Answers (xOp1 _ _ _ _ _)
    exact slot_answers ..
  | fadd | fsub | fmul | fdiv | fmin | fmax | fcmp =>
    dsimp only [exec]
    change Answers (fOp2 _ _ _ _ _ _ _)
    exact slot_answers ..
  | fsqrt | fcvti | fcvtf =>
    dsimp only [exec]
    change Answers (fOp1 _ _ _ _ _ _)
    exact slot_answers ..
  | vadd | vsub | vmul | vmin | vmax | vand | vor | vxor | vsll | vsrl | vsra =>
    dsimp only [exec]
    change Answers (vOp2 _ _ _ _ _ _ _ _)
    exact slot_answers ..
  | vabs | vneg | vmov =>
    dsimp only [exec]
    change Answers (vOp1 _ _ _ _ _ _ _)
    exact slot_answers ..
  | vwadd | vwmul | vwma =>
    dsimp only [exec]
    change Answers (vWiden _ _ _ _ _ _ _ _)
    exact slot_answers ..
  | vexp2 | vlog2 | vrcp | vrsq | vsig =>
    dsimp only [exec]
    change Answers (sfuIssue _ _ _ _ _)
    exact slot_answers ..
  | mmadd | mmsub | mmmul | mmma | mmmax | mmcvt =>
    dsimp only [exec]
    change Answers (mmIssue _ _ _ _ _ _ _)
    exact slot_answers ..
  | load | store | atomic | loadfe | storefe | ack | nack | sfuStart | invMsg | invxMsg | rdyanswer | reply | break_ | value | hrelease | l2pdataWrite
    | rtdataWrite | tgenWrite | ctxcmdCreate | ctxcmdDestroy | ctxrectWrite | packageReset | measxWrite | attreqWrite | powerLimit | overtemperature |
    trtailWrite | dbgctlWrite | nodeidWrite | acceptNotice =>
    exact ⟨_, rfl⟩
  | trapEntry | regionRestart | watchdog | sfuComplete | mmComplete | matrixDispatch | kstepEnd | matrixCommandComplete | matrixAgeing | vallotWrite
    =>
    dsimp only [exec]
    simp only [thread_events_answer]
  | accessComplete | loadResponse | retry | retryResend | retryListReoffer | translationWalk | copyLine | copydata | mcastMsg | copyComplete |
    unassignedMessage =>
    dsimp only [exec]
    simp only [access_events_answer]
  | activationStart | rawArrivalStart | kickStart | arrivalAgeing | pass | passForward | passAtSlot | bounce | readydelta | rdyquery | fetch |
    relayForward | rstvMsg | redirectQueueDrain | directoryAnswer =>
    dsimp only [exec]
    simp only [arrival_events_answer]
  | grpctl | grpstat | memberPark | saveImageComplete | groupEnded | kickMsg | kickoffFanout | kickend | bararrive | barrelease | barrierTimeout |
    barbreak | barconfig | refereePair | refereeTimeout =>
    dsimp only [exec]
    simp only [group_events_answer]
  | contextBound | contextShrunk | contextDestroyed | scrubComplete | hfsendWrite | deviceFrame | frameWindowWrite | hostframeInject | hostframe | gap
    | drheadWrite | drbaseWrite | drsizeWrite | bar2Access =>
    dsimp only [exec]
    simp only [host_events_answer]
  | l2pUpdate | functionLevelReset | bootctlGo | imageVerification | discover | discoverAnswer | silentRouter | floodEnd | attestationReport =>
    dsimp only [exec]
    simp only [boot_events_answer]
  | powerGate | gateDrainTimeout | droop | droopRearm | traceDrain | hbmRowRepair | ckptWalk =>
    dsimp only [exec]
    simp only [power_events_answer]
  | portctlWrite | trainingBackoff | trainingSequence | laneRetrain | linkFlit | linkResendTimeout | portDown | marker =>
    dsimp only [exec]
    simp only [link_events_answer]
  | _ =>
    dsimp only [exec]
    exact slot_answers ..

/-! #### Bundles and turns -/

namespace State

theorem raised_answers (s : State) (t : Trap) : Answers (s.raised t) := ⟨_, rfl⟩
theorem framing_answers (s : State) (w : IWord) : Answers (s.framing w) := s.raised_answers _

theorem issueLone_answers (s : State) (w : IWord) : Answers (s.issueLone w) := by
  unfold issueLone
  split
  · exact raised_answers ..
  · exact exec_answers ..

/-- Both slots of a pair answer, so that the pair never takes the branches of a fault or a refusal. -/
theorem issuePair_answers (s : State) (c a : Instr) (wc wa : IWord) : Answers (s.issuePair c a wc wa) := by
  obtain ⟨s1, hc⟩ := exec_answers c (s.openBundle.withWord .cslot wc)
  dsimp only [issuePair]
  rw [hc]
  dsimp only
  generalize (if s1.ctx.last = .done then s1 else s.openBundle).withWord .aslot wa = v
  obtain ⟨s2, ha⟩ := exec_answers a v
  rw [ha]
  dsimp only
  split
  · exact ⟨_, rfl⟩
  split
  · exact exec_answers ..
  split
  · exact exec_answers ..
  split
  · exact raised_answers ..
  split
  · exact exec_answers ..
  · exact ⟨_, rfl⟩

theorem decodePair_answers (s : State) (wc wa : IWord) : Answers (s.decodePair wc wa) := by
  unfold decodePair
  split
  · exact raised_answers ..
  · exact raised_answers ..
  · exact issuePair_answers ..

theorem issueRep_answers (s : State) (w0 w1 : IWord) : Answers (s.issueRep w0 w1) := by
  dsimp only [issueRep]
  split
  · exact raised_answers ..
  · exact exec_answers ..

theorem issueIter_answers (s : State) (r : RepUnit) : Answers (s.issueIter r) := by
  dsimp only [issueIter]
  split
  · split
    · exact exec_answers ..
    · exact raised_answers ..
  · exact raised_answers ..

theorem second_answers (s : State) {k : State → IWord → Host.Outcome State Fault Refusal} (hk : ∀ u w, Answers (k u w)) :
    Answers (s.second k) := by
  unfold second
  split
  · exact ⟨_, rfl⟩
  · exact raised_answers ..
  · exact hk _ _

theorem frame_answers (s : State) (w : IWord) : Answers (s.frame w) := by
  dsimp only [frame]
  split
  · exact framing_answers ..
  split
  · split
    · exact framing_answers ..
    · refine second_answers _ fun u w1 => ?_
      split
      · exact framing_answers ..
      · exact issueRep_answers ..
  split
  · exact issueLone_answers ..
  split
  · exact framing_answers ..
  · refine second_answers _ fun u w1 => ?_
    split
    · exact framing_answers ..
    · exact decodePair_answers ..

theorem nextBundle_answers (s : State) (key : Nat) : Answers (s.nextBundle key) := by
  dsimp only [nextBundle]
  split
  · exact ⟨_, rfl⟩
  · exact raised_answers ..
  · exact frame_answers ..

theorem bundleTurn_answers (s : State) (key : Nat) : Answers (s.bundleTurn key) := by
  dsimp only [bundleTurn]
  split
  · exact issueIter_answers ..
  · exact nextBundle_answers ..

theorem turnOf_answers (s : State) (key : Nat) : Answers (s.turnOf key) := by
  obtain ⟨u, hu⟩ := s.bundleTurn_answers key
  dsimp only [turnOf]
  rw [hu]
  dsimp only
  split
  · exact ⟨_, rfl⟩
  split
  · exact ⟨_, rfl⟩
  split
  · exact exec_answers (.watchdog ..) s
  split
  · split <;> exact ⟨_, rfl⟩
  · split <;> exact ⟨_, rfl⟩

theorem take_answers (s : State) (d : Nat) (t : Turn) : Answers (s.take d t) := by
  cases t with
  | event e =>
    dsimp only [take]
    rw [perform_eq_exec]
    exact exec_answers ..
  | issue site thr =>
    dsimp only [take]
    split
    · split
      · exact ⟨_, rfl⟩
      · exact turnOf_answers ..
    · exact turnOf_answers ..
  | _ => exact ⟨_, rfl⟩

theorem turn_answers (s : State) : Answers s.turn := by
  dsimp only [turn]
  split
  · exact ⟨_, rfl⟩
  · exact take_answers ..

end State

end Sys2Proof.Machine

namespace Sys2Proof

/-- Settles O57: every instruction and every event answers with a next state, and so does every turn made of them. -/
theorem neverStops : Obligations.NeverStops := fun s => s.turn_answers

end Sys2Proof
end


section
/-! ### The frame of a memory access at its issue, written lone (R42, R159, R161) -/

namespace Sys2Proof.Machine

theorem Map.find_map_snd {β : Type} (f : β → β) (m : Map β) (k : Nat) : Map.find (m.map fun e => (e.1, f e.2)) k = (Map.find m k).map f := by
  induction m with
  | nil => rfl
  | cons e r ih =>
    simp only [List.map_cons, find, ih]
    split <;> rfl
/-- A part of the values that a function leaves alone, in a map whose values the function changes. -/
theorem Map.get_map_snd {β γ : Type} {f : β → β} (g : β → γ) (h : ∀ b, g (f b) = g b) (d : Nat → β) (m : Map β) (k : Nat) :
    g (Map.get d (m.map fun e => (e.1, f e.2)) k) = g (Map.get d m k) := by
  rw [get, find_map_snd, get]
  cases Map.find m k with
  | none => rfl
  | some b => exact h b

/-- The pointer of one address register as a form leaves it (R24, R159); the rest of the register is given. -/
def Thread.pointed (t : Thread) (a : AReg) (r : ARegV) : Option Int → Thread
  | none => t
  | some p => t.setA a { r with ptr := BitVec.ofInt 64 p }

theorem Thread.pointed_frame (t : Thread) (a : AReg) (r : ARegV) (adv : Option Int) :
    (t.pointed a r adv).regs.x = t.regs.x ∧ (t.pointed a r adv).regs.v = t.regs.v ∧ (t.pointed a r adv).regs.m = t.regs.m ∧
    (t.pointed a r adv).ctl = t.ctl := by
  cases adv <;> exact ⟨rfl, rfl, rfl, rfl⟩
theorem Thread.pointed_regs {t n : Thread} (h : n.regs = t.regs) (a : AReg) (r : ARegV) (adv : Option Int) :
    (n.pointed a r adv).regs = (t.pointed a r adv).regs := by
  cases adv with
  | none => exact h
  | some p => exact congrArg (fun g : Regs => { g with a := g.a.set a.toNat { r with ptr := BitVec.ofInt 64 p } a.isLt }) h
theorem Thread.getA_pointed_ne (t : Thread) {a b : AReg} (r : ARegV) (adv : Option Int) (h : b ≠ a) : (t.pointed a r adv).getA b = t.getA b := by
  cases adv with
  | none => rfl
  | some p => exact (t.getA_setA a b _).trans (if_neg h)
theorem Thread.getA_pointed (t : Thread) (a : AReg) (r : ARegV) (p : Int) :
    (t.pointed a r (some p)).getA a = { r with ptr := BitVec.ofInt 64 p } := t.getA_setA_same a _

namespace State

/-! What an access leaves alone until its pointer moves. -/

/-- The registers of the issuing thread, the bundle, host memory, and the local memory of each core. -/
def frameOf (s : State) : (Regs × Ctl) × Ctx × Memory × (Nat → LocalMem) := (s.files, s.ctx, s.host, fun k => (s.core k).mem)

section
variable (u : State)

theorem frameOf_iff {v : State} : v.frameOf = u.frameOf ↔
    (v.cur.regs = u.cur.regs ∧ v.cur.ctl = u.cur.ctl) ∧ v.ctx = u.ctx ∧ v.host = u.host ∧ ∀ k, (v.core k).mem = (u.core k).mem := by
  simp only [frameOf, files, Prod.mk.injEq, funext_iff]

theorem frameOf_of_still {v : State} (h : v.still = u.still) : v.frameOf = u.frameOf := by
  have hctx : v.ctx = u.ctx := (congrArg State.ctx h :)
  have hhost : v.host = u.host := (congrArg State.host h :)
  simp only [frameOf, files, cur, hctx, hhost, thread_congr (threads_of_still h), core_of_still h]
theorem frameOf_modThread (k : Nat) {f : Thread → Thread} (h : ∀ t, (f t).regs = t.regs ∧ (f t).ctl = t.ctl) :
    (u.modThread k f).frameOf = u.frameOf := by
  rw [frameOf, files_modThread h]
  rfl
theorem frameOf_modCore (j : Nat) {f : Core → Core} (h : ∀ c, (f c).mem = c.mem) : (u.modCore j f).frameOf = u.frameOf := by
  have hmem : ∀ k, ((u.modCore j f).core k).mem = (u.core k).mem := fun k => by
    rw [core_modCore]
    split
    next hk => rw [h, hk]
    next => rfl
  simp only [frameOf, hmem]
  rfl

theorem frameOf_watch (site e n : Nat) (wr : Bool) : (u.watch site e n wr).frameOf = u.frameOf :=
  u.frameOf_modCore site fun c => (apply_ite Core.mem _ _ c).trans (ite_self _)

theorem frameOf_track (i : Instr) (dst : List RegRef) : (u.track i dst).2.frameOf = u.frameOf :=
  frameOf_modThread { u with nextId := u.nextId + 1 } _ fun _ => ⟨rfl, rfl⟩
theorem frameOf_trackAcc (c : Acc) : (u.trackAcc c).2.frameOf = u.frameOf := by
  unfold trackAcc
  split
  · dsimp only
    split
    · exact Eq.trans (b := (u.track c.i c.dst).2.frameOf) (frameOf_modThread _ _ fun _ => ⟨rfl, rfl⟩) (u.frameOf_track c.i c.dst)
    · exact u.frameOf_track c.i c.dst
  · rfl

theorem frameOf_pushAll (key id : Nat) (op : AccOp) (nt : Bool) (base : Word) (l : List (List El)) :
    (u.pushAll key id op nt base l).frameOf = u.frameOf := by
  induction l generalizing u with
  | nil => rfl
  | cons e r ih => exact (ih _).trans (frameOf_modThread _ key fun _ => ⟨rfl, rfl⟩)

/-- The cached copies of a leaf change in the caches alone. -/
theorem frameOf_dirtyCopies (leaf : Nat) : (u.dirtyCopies leaf).frameOf = u.frameOf := by
  have hmem : ∀ k, ((u.dirtyCopies leaf).core k).mem = (u.core k).mem := fun k =>
    Map.get_map_snd (f := fun c : Core => { c with tlb := c.tlb.map fun e => if e.leaf = leaf then e.orPerm dBit else e }) Core.mem
      (fun _ => rfl) _ _ _
  simp only [frameOf, hmem]
  rfl
theorem frameOf_useXl (site : Nat) (e : TlbEnt) (wr : Bool) : (u.useXl site e wr).frameOf = u.frameOf := by
  have hc : (u.modCore site fun c => { c with tlb := tlbUse c.tlb e }).frameOf = u.frameOf := u.frameOf_modCore site fun _ => rfl
  unfold useXl
  dsimp only
  split
  · exact (frameOf_dirtyCopies _ _).trans hc
  · exact hc
theorem frameOf_useAll (site : Nat) (wr : Bool) (l : List TlbEnt) : (u.useAll site wr l).frameOf = u.frameOf := by
  induction l generalizing u with
  | nil => rfl
  | cons e r ih => exact (ih _).trans (u.frameOf_useXl site e wr)

theorem frameOf_noteHost (e : Nat) (wr : Bool) : (u.noteHost e wr).frameOf = u.frameOf := by
  unfold noteHost
  split
  · exact frameOf_modThread _ _ fun _ => ⟨rfl, rfl⟩
  · rfl

theorem frameOf_sendParts (key id : Nat) (op : AccOp) (nt : Bool) (ten : BitVec 12) (ord : BitVec 2) (sc : BitVec 4) (dst : Agent → Who)
    (l : List (Part × Nat)) : (u.sendParts key id op nt ten ord sc dst l).frameOf = u.frameOf := by
  induction l generalizing u with
  | nil => rfl
  | cons p r ih =>
    exact (ih _).trans ((frameOf_of_still _ (still_send _ _)).trans (frameOf_modThread u key fun _ => ⟨rfl, rfl⟩))

/-- An access that issues leaves a state of the same frame, then moves its pointer and checks the watchpoint. -/
theorem access_done {c : Acc} {w : State} (h : u.access c = .done w) : ∃ v : State, v.frameOf = u.frameOf ∧ w = v.accDone u c := by
  unfold access at h
  split at h
  · exact nomatch h
  dsimp only at h
  split at h
  · exact nomatch h
  split at h
  · exact nomatch h
  · exact nomatch h
  · exact ⟨_, (frameOf_pushAll ..).trans (u.frameOf_trackAcc c), (SlotRes.done.inj h).symm⟩
  · split at h
    · exact nomatch h
    · exact ⟨_, (frameOf_sendParts ..).trans ((frameOf_noteHost ..).trans ((frameOf_useAll ..).trans (u.frameOf_trackAcc c))),
        (SlotRes.done.inj h).symm⟩

theorem advance_cur (a : AReg) (adv : Option Int) : (u.advance a adv).cur = u.cur.pointed a (u.ra a) adv := by
  cases adv with
  | none => rfl
  | some p => exact cur_modCur u _
/-- The pointer moves in the thread's registers alone. -/
theorem advance_rest (a : AReg) (adv : Option Int) :
    (u.advance a adv).ctx = u.ctx ∧ (u.advance a adv).host = u.host ∧ ∀ k, (u.advance a adv).core k = u.core k := by
  cases adv <;> exact ⟨rfl, rfl, fun _ => rfl⟩

variable {u}

/-- What an access whose parts have issued leaves: of the registers its pointer has moved. -/
theorem accDone_frame {v : State} (c : Acc) (hv : v.frameOf = u.frameOf) :
    ((v.accDone u c).cur.regs = (u.cur.pointed c.a (u.ra c.a) c.chk.adv).regs ∧ (v.accDone u c).cur.ctl = u.cur.ctl) ∧
    (v.accDone u c).ctx = u.ctx ∧ (v.accDone u c).host = u.host ∧ ∀ k, ((v.accDone u c).core k).mem = (u.core k).mem := by
  obtain ⟨⟨vregs, vctl⟩, vctx, vhost, vmem⟩ := (frameOf_iff _).1 hv
  obtain ⟨⟨wregs, wctl⟩, wctx, whost, wmem⟩ :=
    (frameOf_iff _).1 ((v.advance c.a c.chk.adv).frameOf_watch u.site c.chk.e.toNat c.chk.size c.chk.wr)
  obtain ⟨actx, ahost, acore⟩ := v.advance_rest c.a c.chk.adv
  obtain ⟨-, -, -, pctl⟩ := v.cur.pointed_frame c.a (v.ra c.a) c.chk.adv
  rw [v.advance_cur] at wregs wctl
  have hra : v.ra c.a = u.ra c.a := by
    unfold ra src
    rw [vctx]
    cases u.ctx.snap with
    | none => rw [Option.getD_none, Thread.getA, vregs]; rfl
    | some x => rfl
  refine ⟨⟨?_, wctl.trans (pctl.trans vctl)⟩, wctx.trans (actx.trans vctx), whost.trans (ahost.trans vhost),
    fun k => (wmem k).trans ((congrArg Core.mem (acore k)).trans (vmem k))⟩
  rw [hra] at wregs
  exact wregs.trans (Thread.pointed_regs vregs _ _ _)

end

end State

/-- Settles O48: what issues leaves registers, host and local memories alone, then moves the pointer; retiring the bundle moves the pc. -/
theorem accessFrame : Obligations.AccessFrame := by
  intro i c s t ha hf h hd
  have hu : s.entered = s.openBundle := by rw [State.entered, hf]
  rw [hu] at ha
  obtain ⟨body, hs, hb⟩ := accesses_of_accOf ha
  obtain ⟨w, hw, rfl⟩ := slot_lone_done hf ((hs s).symm.trans h) hd
  obtain ⟨v, hv, rfl⟩ := s.openBundle.access_done ((hb _ c ha).symm.trans hw)
  obtain ⟨⟨wregs, wctl⟩, wctx, whost, wmem⟩ := State.accDone_frame c hv
  generalize v.accDone s.openBundle c = w at *
  obtain ⟨rregs, rctl, -⟩ := w.cur.afterBundle_moves w.ctx.next (.inl (congrArg Ctx.after wctx))
  rw [← w.retire_cur] at rregs rctl
  rw [s.openBundle_cur] at wregs wctl
  have regs : w.retire.cur.regs = (s.cur.pointed c.a (s.cur.getA c.a) c.chk.adv).regs :=
    rregs.trans (wregs.trans (Thread.pointed_regs (t := s.cur) (n := s.cur.opened) rfl c.a _ c.chk.adv))
  have getA : ∀ r, w.retire.cur.getA r = (s.cur.pointed c.a (s.cur.getA c.a) c.chk.adv).getA r := fun r => by
    rw [Thread.getA, regs]; rfl
  obtain ⟨px, pv, pm, -⟩ := s.cur.pointed_frame c.a (s.cur.getA c.a) c.chk.adv
  refine ⟨(congrArg Regs.x regs).trans px, (congrArg Regs.v regs).trans pv, (congrArg Regs.m regs).trans pm,
    fun r hr => (getA r).trans (s.cur.getA_pointed_ne _ _ hr), fun hn => ?_, fun n hn => ?_, rctl.trans wctl, whost,
    fun k a => congrArg (fun m : LocalMem => m.bytes.byte a) (wmem k)⟩
  · exact (getA c.a).trans (by rw [hn]; rfl)
  · exact (getA c.a).trans (by rw [hn, Thread.getA_pointed])

end Sys2Proof.Machine
end

section
/-! ### Scalar F32 instructions, and NaNs compared (R76, R79, R97) -/

namespace Sys2Proof.Machine

section
variable {i : Instr} {d s t : XReg} {fl : BitVec 2}

theorem setsF32_fOp2 {f : RCtl → Nat → Nat → Nat × FFlags} (h : ∀ x, exec i x = fOp2 i d s t fl f x) :
    SetsF32 i d fun u => f (u.rctl fl) (u.f32 s) (u.f32 t) := does_of h fun _ => rfl
theorem setsF32_fOp1 {f : RCtl → Nat → Nat × FFlags} (h : ∀ x, exec i x = fOp1 i d s fl f x) :
    SetsF32 i d fun u => f (u.rctl fl) (u.f32 s) := does_of h fun _ => rfl

end

/-- The I32 that FCVTF reads (R82). -/
theorem readInt_f32 (u : State) (s : XReg) : readInt 32 false (u.f32 s) = ((u.rx s).setWidth 32 : BitVec 32).toInt := by
  rw [State.f32, readInt, Nat.mod_mod, BitVec.toInt_eq_msb_cond, BitVec.msb_eq_getLsbD_last, BitVec.toNat_setWidth, BitVec.getLsbD,
    BitVec.toNat_setWidth]
  cases ((u.rx s).toNat % 2 ^ 32).testBit (32 - 1) <;> rfl

/-- Each is one of the two shared forms, but FMA of three sources; FCVTI and FCVTF differ in how the integer is written and read. -/
theorem scalarFloat : Part.ScalarFloat := by
  intro d s t v fl cond
  refine ⟨setsF32_fOp2 (exec_fadd d s t fl), setsF32_fOp2 (exec_fsub d s t fl), setsF32_fOp2 (exec_fmul d s t fl),
    setsF32_fOp2 (exec_fdiv d s t fl), does_of (exec_fma d s t v) fun _ => rfl, setsF32_fOp1 (exec_fsqrt d s fl),
    (setsF32_fOp2 (exec_fmin d s t) :), (setsF32_fOp2 (exec_fmax d s t) :), (setsF32_fOp2 (exec_fcmp d s t cond) :),
    ?_, ?_⟩
  · simpa only [SetsF32, BitVec.ofNat_toNat, BitVec.setWidth_eq] using setsF32_fOp1 (exec_fcvti d s fl)
  · simpa only [readInt_f32] using setsF32_fOp1 (exec_fcvtf d s fl)

/-! A source read under FTZ keeps whether it is a NaN. -/

theorem isNan_source (f : Fmt) (ftz : Bool) (b : Nat) : (f.source ftz b).isNan = (f.value b).isNan := by
  unfold Fmt.source
  cases f.value b with
  | nan | inf => rfl
  | fin => dsimp only; split <;> rfl
theorem isSig_source (f : Fmt) (ftz : Bool) (b : Nat) : (f.source ftz b).isSig = (f.value b).isSig := by
  unfold Fmt.source
  cases f.value b with
  | nan | inf => rfl
  | fin => dsimp only; split <;> rfl

theorem when_nv {b : Bool} : FFlags.when b FFlags.nv = FFlags.nv ↔ b = true := by cases b <;> decide

/-- Once a source is a NaN, the order of the values plays no part: the condition alone decides. -/
theorem compareWithNan : Part.CompareWithNan := by
  intro ftz cond a b h
  have hn : ((Fmt.f32.source ftz a).isNan || (Fmt.f32.source ftz b).isNan) = true := by
    rwa [isNan_source, isNan_source, Bool.or_eq_true]
  cases cond <;> simp [fCmp, hn, when_nv, isSig_source]

/-- Settles O2: the shared forms of the scalar instructions, and a comparison of a NaN by its condition. -/
theorem scalarFloats : Obligations.ScalarFloats := ⟨scalarFloat, compareWithNan⟩

end Sys2Proof.Machine
end

section
/-! ### Numbers, poison and rows in memory (R2, R181, R204, R205) -/

namespace Sys2Proof.Machine

namespace Memory

theorem load_lt (m : Memory) (a n : Nat) : m.load a n < 256 ^ n := by
  induction n generalizing a with
  | zero => exact Nat.one_pos
  | succ n ih =>
    have := ih (a + 1)
    have := (m.byte a).isLt
    rw [load, Nat.pow_succ]
    omega

/-- The bytes of two ranges, one after the other. -/
theorem load_append (m : Memory) (a n k : Nat) : m.load a (n + k) = m.load a n + 256 ^ n * m.load (a + n) k := by
  induction n generalizing a with
  | zero => simp [load]
  | succ n ih =>
    rw [Nat.succ_add, load, ih, load, Nat.succ_add_eq_add_succ]
    ring

/-- An F32 of a row, by its own address. -/
theorem lineElem_load (m : Memory) (a : Nat) {j n : Nat} (h : j < n) : lineElem 32 (m.load a (4 * n)) j = m.load (a + 4 * j) 4 := by
  have hn : 4 * n = 4 * j + (4 + 4 * (n - j - 1)) := by omega
  have h256 : (2 : Nat) ^ (32 * j) = 256 ^ (4 * j) := by
    rw [show (256 : Nat) = 2 ^ 8 from rfl, ← Nat.pow_mul]
    congr 1
    omega
  rw [lineElem, hn, load_append, load_append m (a + 4 * j), h256, Nat.add_mul_div_left _ _ (Nat.pow_pos (by decide)),
    Nat.div_eq_of_lt (m.load_lt a _), Nat.zero_add]
  exact (Nat.add_mul_mod_self_left _ (256 ^ 4) _).trans (Nat.mod_eq_of_lt (m.load_lt _ 4))

end Memory

theorem packFn_lt (w n : Nat) (f : Nat → Nat) : packFn w n f < 2 ^ (w * n) := by
  induction n with
  | zero => exact Nat.one_pos
  | succ n ih =>
    rw [packFn, Nat.mul_succ, Nat.pow_add]
    have : (f n % 2 ^ w + 1) * 2 ^ (w * n) ≤ 2 ^ w * 2 ^ (w * n) := Nat.mul_le_mul_right _ (Nat.mod_lt _ (Nat.two_pow_pos w))
    rw [Nat.succ_mul] at this
    rw [Nat.mul_comm (2 ^ (w * n))]
    omega

/-! Poison of a range: that of one of its bytes. -/

theorem poisoned_iff (m : Map Bool) (a n : Nat) :
    poisoned m a n = true ↔ ∃ x, a ≤ x ∧ x < a + n ∧ Map.get (fun _ => false) m x = true := by
  induction n with
  | zero => exact ⟨nofun, fun ⟨x, h1, h2, _⟩ => absurd h2 (by omega)⟩
  | succ n ih =>
    rw [poisoned, Bool.or_eq_true, ih]
    constructor
    · rintro (h | ⟨x, h1, h2, h⟩)
      · exact ⟨a + n, by omega, by omega, h⟩
      · exact ⟨x, h1, by omega, h⟩
    · rintro ⟨x, h1, h2, h⟩
      by_cases hx : x = a + n
      · exact .inl (hx ▸ h)
      · exact .inr ⟨x, h1, by omega, h⟩
theorem get_setPois (m : Map Bool) (a : Nat) (b : Bool) (n x : Nat) :
    Map.get (fun _ => false) (setPois m a b n) x = if a ≤ x ∧ x < a + n then b else Map.get (fun _ => false) m x := by
  induction n generalizing m with
  | zero => rw [setPois, if_neg (by omega)]
  | succ n ih =>
    rw [setPois, ih, Map.get_set]
    by_cases hx : x = a + n
    · rw [if_neg (by omega), if_pos hx, if_pos (by omega)]
    · rw [if_neg hx]
      exact if_congr (by omega) rfl rfl
/-- A range whose bytes are all marked alike. -/
theorem poisoned_const {m : Map Bool} {a n : Nat} {b : Bool} (hn : 0 < n)
    (h : ∀ x, a ≤ x → x < a + n → Map.get (fun _ => false) m x = b) : poisoned m a n = b := by
  rw [Bool.eq_iff_iff, poisoned_iff]
  exact ⟨fun ⟨x, h1, h2, hx⟩ => (h x h1 h2).symm.trans hx, fun hb => ⟨a, Nat.le_refl a, by omega, (h a (Nat.le_refl a) (by omega)).trans hb⟩⟩
/-- A poisoned byte lies in one of the lines (R205). -/
theorem poisLines_eq_nil (m : LocalMem) (a n : Nat) : poisLines m a n = [] ↔ poisoned m.pois a n = false := by
  constructor
  · intro h
    rw [Bool.eq_false_iff]
    intro hp
    obtain ⟨x, h1, h2, hx⟩ := (poisoned_iff _ _ _).1 hp
    rw [poisLines, if_pos hp, List.filterMap_eq_nil_iff] at h
    have hl := h (x / 128 - a / 128) (List.mem_range.2 (by omega))
    dsimp only at hl
    rw [if_pos ((poisoned_iff _ _ _).2 ⟨x, by omega, by omega, hx⟩)] at hl
    exact nomatch hl
  · intro h
    rw [poisLines, h, if_neg Bool.false_ne_true]

/-! Rows written one after the other, at a pitch that keeps them apart. -/

/-- n rows of `len` bytes written from an address, `pitch` bytes apart: row r takes the number v r. -/
def LocalMem.writeRows (m : LocalMem) (addr pitch len : Nat) (v : Nat → Nat) (p : Bool) (n : Nat) : LocalMem :=
  (List.range n).foldl (fun m r => m.write (addr + r * pitch) len (v r) p) m

namespace LocalMem

variable {m : LocalMem} {addr pitch len n : Nat} {v : Nat → Nat} {p : Bool}

theorem writeRows_succ : m.writeRows addr pitch len v p (n + 1) = (m.writeRows addr pitch len v p n).write (addr + n * pitch) len (v n) p := by
  rw [writeRows, List.range_succ, List.foldl_append]; rfl
theorem writeRows_byte_out {x : Nat} (h : ∀ r, r < n → x < addr + r * pitch ∨ addr + r * pitch + len ≤ x) :
    (m.writeRows addr pitch len v p n).bytes.byte x = m.bytes.byte x := by
  induction n with
  | zero => rfl
  | succ n ih =>
    rw [writeRows_succ, write, Memory.byte_store_out _ _ _ _ _ (h n (Nat.lt_succ_self n)), ih fun r hr => h r (Nat.lt_succ_of_lt hr)]
/-- A byte of a row is that of its number, marked as the rows are. -/
theorem writeRows_in (hp : len ≤ pitch) {r x : Nat} (hr : r < n) (h1 : addr + r * pitch ≤ x) (h2 : x < addr + r * pitch + len) :
    (m.writeRows addr pitch len v p n).bytes.byte x = BitVec.ofNat 8 (v r / 256 ^ (x - (addr + r * pitch))) ∧
    Map.get (fun _ => false) (m.writeRows addr pitch len v p n).pois x = p := by
  induction n with
  | zero => omega
  | succ n ih =>
    rw [writeRows_succ, write, Memory.byte_store, get_setPois]
    by_cases hn : r = n
    · subst hn
      rw [if_pos ⟨h1, h2⟩, if_pos ⟨h1, h2⟩]
      exact ⟨rfl, rfl⟩
    · have hlt : r < n := by omega
      have hrow : (r + 1) * pitch ≤ n * pitch := Nat.mul_le_mul_right _ hlt
      rw [Nat.succ_mul] at hrow
      rw [if_neg (by omega), if_neg (by omega)]
      exact ih hlt
theorem writeRows_load (hp : len ≤ pitch) {r : Nat} (hr : r < n) :
    (m.writeRows addr pitch len v p n).bytes.load (addr + r * pitch) len = v r % 256 ^ len := by
  rw [← m.bytes.load_store (addr + r * pitch) len (v r)]
  refine Memory.load_congr _ _ fun x h1 h2 => ?_
  rw [(writeRows_in hp hr h1 h2).1, Memory.byte_store, if_pos ⟨h1, h2⟩]
theorem writeRows_poisoned (hl : 0 < len) (hp : len ≤ pitch) {r : Nat} (hr : r < n) :
    poisoned (m.writeRows addr pitch len v p n).pois (addr + r * pitch) len = p :=
  poisoned_const hl fun _ h1 h2 => (writeRows_in hp hr h1 h2).2

end LocalMem

end Sys2Proof.Machine
end

section
/-! ### The engine's queue, tiles and k-steps (R91, R194, R198, R201, R205) -/

namespace Sys2Proof.Machine

namespace State

/-- The records of poisoned lines leave cores and threads (R205). -/
@[simp] theorem still_engPoison (s : State) (site : Nat) (l : List Nat) : (s.engPoison site l).still = s.still := by
  induction l generalizing s with
  | nil => rfl
  | cons a l ih => exact (ih _).trans (still_record _ _ _)
@[simp] theorem core_engPoison (s : State) (site : Nat) (l : List Nat) (j : Nat) : (s.engPoison site l).core j = s.core j :=
  core_of_still (still_engPoison s site l) j

end State

namespace Core

variable (k : Core)

/-! What an update of a tile, its poison bit and the queue leave, and what they write. -/

@[simp] theorem applyUpd_acc (t : Nat) (e : List (BitVec 32)) (set p : Bool) : (k.applyUpd t e set p).acc = tileWrite k.acc t 0 e := rfl
@[simp] theorem applyUpd_mem (t : Nat) (e : List (BitVec 32)) (set p : Bool) : (k.applyUpd t e set p).mem = k.mem := rfl
@[simp] theorem applyUpd_eng (t : Nat) (e : List (BitVec 32)) (set p : Bool) : (k.applyUpd t e set p).eng = k.eng := rfl
@[simp] theorem markTile_acc (t : Nat) (b : Bool) : (k.markTile t b).acc = k.acc := by cases b <;> rfl
@[simp] theorem markTile_mem (t : Nat) (b : Bool) : (k.markTile t b).mem = k.mem := by cases b <;> rfl
@[simp] theorem putCmd_acc (c : MCmd) : (k.putCmd c).acc = k.acc := rfl
@[simp] theorem putCmd_mem (c : MCmd) : (k.putCmd c).mem = k.mem := rfl

theorem getLsbD_tileBit (t : Nat) : (((1 <<< t : Nat) : BitVec 16)).getLsbD t = decide (t < 16) := by
  rw [BitVec.natCast_eq_ofNat, BitVec.getLsbD_ofNat, Nat.testBit_shiftLeft, Nat.sub_self]
  simp
/-- Clean data that replace a tile clear its poison bit (R205). -/
theorem applyUpd_clears (t : Nat) (e : List (BitVec 32)) : (k.applyUpd t e true false).tilePois.getLsbD t = false := by
  simp only [applyUpd, Bool.false_eq_true, if_false, if_true, BitVec.getLsbD_and, BitVec.getLsbD_not, getLsbD_tileBit]
  cases decide (t < 16) <;> simp
/-- Poisoned data set it (R205). -/
theorem applyUpd_sets {t : Nat} (h : t < 16) (e : List (BitVec 32)) (set : Bool) : (k.applyUpd t e set true).tilePois.getLsbD t = true := by
  simp only [applyUpd, if_true, BitVec.getLsbD_or, getLsbD_tileBit, h, decide_true, Bool.or_true]

variable {k}

/-- The command of the queue that bears the number of one put there is that one. -/
theorem eq_of_mem_putCmd {c x : MCmd} (hx : x ∈ (k.putCmd c).eng) (h : x.ord = c.ord) : x = c := by
  obtain ⟨y, -, rfl⟩ := List.mem_map.1 hx
  by_cases hy : y.ord = c.ord
  · exact if_pos hy
  · rw [if_neg hy] at h
    exact absurd h hy

end Core

/-! Scales and k-steps. -/

theorem getD_mod_mem {l : List Nat} (h : l ≠ []) (n : Nat) : l[n % l.length]?.getD 0 ∈ l := by
  rw [List.getElem?_eq_getElem (Nat.mod_lt _ (List.length_pos_iff.2 h))]
  exact List.getElem_mem _
/-- A scale still to be read has an address (R89, R91). -/
theorem MCmd.scaleAt_of_unread {c : MCmd} {i : Nat} (h : i ∈ c.unread) : ∃ a, c.now.scaleAt i = some a := by
  unfold MCmd.unread at h
  dsimp only at h
  split at h
  · exact Option.isSome_iff_exists.1 (Bool.and_eq_true_iff.1 (List.mem_filter.1 h).2).1
  · exact nomatch h

theorem kstep_ord (k : Core) (c : MCmd) : (kstep k c).cmd.ord = c.ord := by
  unfold kstep; dsimp only; split <;> rfl

namespace State

variable {s : State} {site : Nat} {c : MCmd}

/-- Reading a scale puts the command back with one of its unread scales (R91). -/
theorem readScale_core (h : c.unread ≠ []) : ∃ i a b c1, i ∈ c.unread ∧ c.now.scaleAt i = some a ∧
    (s.readScale site c).core site = ((s.core site).markTile c.now.tile b).putCmd c1 ∧ c1.ord = c.ord ∧
    c1.scales = Map.put c.scales i (BitVec.ofNat 32 ((s.core site).mem.read a 4).1) := by
  have hi := getD_mod_mem h (Config.freeWord s.fresh).toNat
  obtain ⟨a, ha⟩ := MCmd.scaleAt_of_unread hi
  unfold readScale
  dsimp only [drawWord, LocalMem.read]
  rw [core_modCore_same, core_engPoison]
  exact ⟨_, a, _, _, hi, ha, rfl, rfl, by rw [ha]; rfl⟩
/-- The one k-step of an MTILE ends it, its update held back (R194). -/
theorem afterStep_mtile (h : c.kind = .mtile) (r : KRes) : ∃ b c1,
    (s.afterStep site c r).core site = ((s.core site).markTile c.now.tile b).putCmd c1 ∧ c1.ord = r.cmd.ord ∧ c1.st = .ending ∧
    c1.update.map (·.2.1) = r.upd := by
  unfold afterStep
  simp only [h, if_true, core_modCore_same, core_modThread, core_engPoison]
  refine ⟨_, _, rfl, ?_, rfl, ?_⟩
  · dsimp only; split <;> rfl
  · cases r.upd <;> rfl

/-- KSTEP_END of a command that waits for no access and no update (R194, R195). -/
theorem execKstepEnd_goes (hr : (s.core site).running = some c) (hk : c.kind = .mtile ∨ c.kind = .job)
    (hp : s.ownPending c.key c.ord c.reads = false) (he : ∀ x ∈ (s.core site).eng, x.st ≠ .ending) :
    exec (.kstepEnd site) s = .next (if c.unread ≠ [] then s.readScale site c else s.afterStep site c (kstep (s.core site) c)) := by
  have hgo : ¬((c.kind ≠ .mtile ∧ c.kind ≠ .job) ∨ s.ownPending c.key c.ord c.reads = true ∨ (s.core site).eng.any (fun x => x.st == .ending)) := by
    rintro (⟨h1, h2⟩ | h | h)
    · exact hk.elim h1 h2
    · exact Bool.false_ne_true (hp.symm.trans h)
    · obtain ⟨x, hx, hst⟩ := List.any_eq_true.1 h
      exact he x hx (beq_iff_eq.1 hst)
  rw [exec_kstepEnd, execKstepEnd, hr]
  dsimp only
  rw [if_neg hgo]
  split <;> rfl

end State

/-- A level that waiting has earned counts already before it is entered (R201). -/
theorem MCmd.eff_aged {c : MCmd} {now : Word} (hst : c.st = .queued ∨ c.st = .suspended) (h : 4096 ≤ (now - c.since).toNat) :
    { c with aged := c.aged + 1, since := c.since + 4096 }.eff now = c.eff now := by
  have hsub : (now - (c.since + 4096)).toNat = (now - c.since).toNat - 4096 := by bv_omega
  simp only [MCmd.eff, if_pos hst, hsub]
  omega

/-- The engine takes, ages, reads a scale of, or steps the command that each event names. -/
theorem matrixEngine : Part.MatrixEngine := by
  intro s site k c
  refine ⟨fun hr hn => ?_, fun hk hst h => ⟨?_, MCmd.eff_aged hst h⟩, fun hr hk hp he hu => ?_, fun hr hk hp he hu => ?_⟩
  · rw [exec_matrixDispatch, execMatrixDispatch, hr, hn]
  · rw [exec_matrixAgeing, execMatrixAgeing, hk]
    exact if_pos ⟨hst, BitVec.le_def.2 h⟩
  · obtain ⟨i, a, b, c1, hi, ha, hcore, hord, hscales⟩ := s.readScale_core (site := site) hu
    refine ⟨_, i, a, (State.execKstepEnd_goes hr hk hp he).trans (congrArg _ (if_pos hu)), hi, ha, ?_, fun x hx hxo => ?_⟩
    · rw [hcore, Core.putCmd_acc, Core.markTile_acc]
    · rw [hcore] at hx
      rw [Core.eq_of_mem_putCmd hx (hxo.trans hord.symm), hscales]
  · obtain ⟨b, c1, hcore, hord, hst, hupd⟩ := s.afterStep_mtile (site := site) hk (kstep (s.core site) c)
    refine ⟨_, (State.execKstepEnd_goes hr (.inl hk) hp he).trans (congrArg _ (if_neg (not_not.2 hu))), ?_, ?_, fun x hx hxo => ?_⟩
    · rw [hcore, Core.putCmd_acc, Core.markTile_acc]
    · rw [hcore, Core.putCmd_mem, Core.markTile_mem]
    · rw [hcore] at hx
      rw [Core.eq_of_mem_putCmd hx (hxo.trans (hord.trans (kstep_ord _ _)).symm)]
      exact ⟨hst, hupd⟩

end Sys2Proof.Machine
end

section
/-! ### A command of the engine completes (R194, R199, R200, R204, R205) -/

namespace Sys2Proof.Machine

/-! The answer to the MWAITs of a job. -/

/-- The completion of an instruction writes no register and no history. -/
theorem Thread.complete_keeps (t : Thread) (id : Nat) : (t.complete id).regs = t.regs ∧ (t.complete id).jobHist = t.jobHist := by
  unfold complete; split <;> exact ⟨rfl, rfl⟩
theorem Thread.putX_jobHist (t : Thread) (d : XReg) (v : Word) : (t.putX d v).jobHist = t.jobHist := by
  unfold putX; split <;> rfl

/-- An MWAIT waits for the job of a command (R200). -/
def MCmd.awaitedBy (c : MCmd) (m : MWaiter) : Bool := m.key == c.key && m.job == c.jobId && !c.orphan
/-- A job's status enters the history of its thread (R199). -/
def State.enterHist (s : State) (c : MCmd) (w : Word) : State :=
  s.modThread c.key fun t => { t with jobHist := t.jobHist.set (t.jobCtr - 1 - c.jobId).toNat w }
/-- A waiting MWAIT takes a status. -/
def State.answerMwait (w : Word) (u : State) (m : MWaiter) : State := u.modThread m.key fun t => (t.putX m.dst w).complete m.id

namespace State

section
variable (w : Word) (u : State)

theorem core_answerMwaits (l : List MWaiter) (j : Nat) : (l.foldl (answerMwait w) u).core j = u.core j :=
  foldl_keeps (op := answerMwait w) (fun u => u.core j) (fun _ _ => rfl) l u
theorem jobHist_answerMwaits (l : List MWaiter) (key : Nat) : ((l.foldl (answerMwait w) u).thread key).jobHist = (u.thread key).jobHist := by
  refine foldl_keeps (fun u => (u.thread key).jobHist) (fun u m => ?_) l u
  rw [answerMwait, thread_modThread]
  split
  next h => rw [(Thread.complete_keeps _ _).2, Thread.putX_jobHist, h]
  next => rfl
theorem getX_answerMwait (m : MWaiter) (key : Nat) {d : XReg} (hd : d ≠ 0) :
    ((answerMwait w u m).thread key).getX d = if key = m.key ∧ d = m.dst then w else (u.thread key).getX d := by
  rw [answerMwait, thread_modThread]
  by_cases hk : key = m.key
  · subst hk
    rw [if_pos rfl, Thread.getX_congr (((u.thread m.key).putX m.dst w).complete_keeps m.id).1, Thread.getX_congr ((u.thread m.key).putX_regs m.dst w),
      Thread.getX_setX, if_neg hd]
    exact if_congr (by simp) rfl rfl
  · rw [if_neg hk, if_neg fun h => hk h.1]
/-- A register that holds the status keeps it while others are answered. -/
theorem getX_answerMwaits_keeps (l : List MWaiter) {key : Nat} {d : XReg} (hd : d ≠ 0) (h : (u.thread key).getX d = w) :
    ((l.foldl (answerMwait w) u).thread key).getX d = w := by
  induction l generalizing u with
  | nil => exact h
  | cons m l ih =>
    refine ih _ ((getX_answerMwait w u m key hd).trans ?_)
    split
    · rfl
    · exact h
/-- Each MWAIT among those answered has the status in its register. -/
theorem getX_answerMwaits {l : List MWaiter} {m : MWaiter} {key : Nat} (hm : m ∈ l) (hk : m.key = key) (hd : m.dst ≠ 0) :
    ((l.foldl (answerMwait w) u).thread key).getX m.dst = w := by
  induction l generalizing u with
  | nil => exact nomatch hm
  | cons a l ih =>
    rcases List.mem_cons.1 hm with rfl | hl
    · exact getX_answerMwaits_keeps w _ l hd ((getX_answerMwait w u m key hd).trans (if_pos ⟨hk.symm, rfl⟩))
    · exact ih _ hl

end

theorem jobEnds_eq (s : State) {c : MCmd} (n : Nat) (ho : c.orphan = false) :
    let w := statusWord c.steps c.psn n
    s.jobEnds c n = (((s.core (c.key / 4)).mwaits.filter c.awaitedBy).foldl (answerMwait w) (s.enterHist c w)).modCore (c.key / 4) fun k =>
      { k with mwaits := k.mwaits.filter fun m => !c.awaitedBy m, eng := k.eng.filter fun x => x.ord != c.ord } := by
  rw [jobEnds, if_neg (ho ▸ Bool.false_ne_true)]; rfl
/-- What the end of a thread's job leaves: the status in its history and at the MWAITs for it, and one command fewer in the queue (R199, R200). -/
theorem jobEnds_spec (s : State) {c : MCmd} {site : Nat} (n : Nat) (hs : c.key / 4 = site) (ho : c.orphan = false) :
    let w := statusWord c.steps c.psn n
    ((s.jobEnds c n).core site).acc = (s.core site).acc ∧ ((s.jobEnds c n).core site).mem = (s.core site).mem ∧
    ((s.jobEnds c n).core site).eng = (s.core site).eng.filter (fun x => x.ord != c.ord) ∧
    ((s.jobEnds c n).thread c.key).jobHist = (s.thread c.key).jobHist.set ((s.thread c.key).jobCtr - 1 - c.jobId).toNat w ∧
    ∀ x ∈ (s.core site).mwaits, x.key = c.key → x.job = c.jobId → x.dst ≠ 0 → ((s.jobEnds c n).thread c.key).getX x.dst = w := by
  intro w
  subst hs
  rw [s.jobEnds_eq n ho, core_modCore_same, core_answerMwaits, thread_modCore]
  refine ⟨rfl, rfl, rfl, ?_, fun x hx hk hj hd => ?_⟩
  · rw [jobHist_answerMwaits, enterHist, thread_modThread_same]
  · have hmem : x ∈ (s.core (c.key / 4)).mwaits.filter c.awaitedBy :=
      List.mem_filter.2 ⟨hx, by rw [MCmd.awaitedBy, hk, hj, ho, beq_self_eq_true, beq_self_eq_true]; rfl⟩
    exact getX_answerMwaits w _ hmem hk hd

/-! What is written as a command completes. -/

variable {s : State} {site : Nat} {c : MCmd}

/-- A held-back update is written into its tile. -/
theorem complete_mtile (h : s.completing site = some c) (hs : c.st = .ending) (hk : c.kind = .mtile) {t : Nat} {e : List (BitVec 32)} {p : Bool}
    (hu : c.update = some (t, e, p)) : exec (.matrixCommandComplete site) s =
      .next ((s.modCore site fun k => k.applyUpd t e c.opPois p).modCore site fun k => { k with eng := k.eng.filter fun x => x.ord != c.ord }) := by
  simp only [exec_matrixCommandComplete, execMatrixCommandComplete, h, hs, hk, hu, if_true, reduceCtorEq, if_false]
theorem complete_job (h : s.completing site = some c) (hs : c.st = .ending) (hk : c.kind = .job) {t : Nat} {e : List (BitVec 32)} {p : Bool}
    (hu : c.update = some (t, e, p)) : exec (.matrixCommandComplete site) s =
      .next ((s.modCore site fun k => k.applyUpd t e c.opPois p).jobEnds c 3) := by
  simp only [exec_matrixCommandComplete, execMatrixCommandComplete, h, hs, hk, hu, if_true]
/-- A transfer leaves the core that it makes, without the command. -/
theorem complete_transfer (h : s.completing site = some c) (hs : c.st = .running) {k : Core} (hk : (s.transfer site c).core site = k) :
    ∃ v, exec (.matrixCommandComplete site) s = .next v ∧ (v.core site).acc = k.acc ∧ (v.core site).mem = k.mem ∧
    (v.core site).tilePois = k.tilePois ∧ (v.core site).eng = k.eng.filter (fun x => x.ord != c.ord) := by
  rw [exec_matrixCommandComplete, execMatrixCommandComplete, h]
  dsimp only
  rw [if_neg (by rw [hs]; exact nofun)]
  refine ⟨_, rfl, ?_⟩
  rw [core_modThread, core_modCore_same, hk]
  exact ⟨rfl, rfl, rfl, rfl⟩

end State

/-! The rows of a tile stored. -/

section
variable {k : Core} {c : MCmd} {len w : Nat} {f : BitVec 32 → Nat}

theorem storeRows_eq : storeRows k c len f w =
    k.mem.writeRows c.addr c.pitch len (fun r => packFn w 32 fun j => f (tileElem k.acc c.tile r j)) (k.tilePois.getLsbD c.tile) 32 := rfl
/-- Each row holds the tile's, poisoned as the tile is (R205). -/
theorem storeRows_row (hw : w * 32 = 8 * len) (hl : 0 < len) (hp : len ≤ c.pitch) {r : Nat} (hr : r < 32) :
    (storeRows k c len f w).bytes.load (c.addr + r * c.pitch) len = packFn w 32 (fun j => f (tileElem k.acc c.tile r j)) ∧
    poisoned (storeRows k c len f w).pois (c.addr + r * c.pitch) len = k.tilePois.getLsbD c.tile := by
  have hfit : packFn w 32 (fun j => f (tileElem k.acc c.tile r j)) < 256 ^ len :=
    (packFn_lt w 32 _).trans_eq (by rw [hw, Nat.pow_mul])
  rw [storeRows_eq]
  exact ⟨(LocalMem.writeRows_load hp hr).trans (Nat.mod_eq_of_lt hfit), LocalMem.writeRows_poisoned hl hp hr⟩

end

/-- The core that a store of a tile makes, its rows as wide as their elements (R204). -/
theorem transfer_store {s : State} {site : Nat} {c : MCmd} {len w : Nat} {f : BitVec 32 → Nat}
    (hk : (c.kind = .acst ∧ len = 128 ∧ w = 32 ∧ f = fun x : BitVec 32 => x.toNat) ∨
      (c.kind = .acstb ∧ len = 64 ∧ w = 16 ∧ f = fun x : BitVec 32 => (fCvt .f32 .bf16 .engine x.toNat).1) ∨
      (c.kind = .acstsc ∧ len = 128 ∧ w = 32 ∧ f = fun x : BitVec 32 => (fMulTo .f32 .f32 .engine x.toNat c.mul.toNat).1)) :
    w * 32 = 8 * len ∧ 0 < len ∧ (s.transfer site c).core site = { s.core site with mem := storeRows (s.core site) c len f w } := by
  rcases hk with ⟨hk, rfl, rfl, rfl⟩ | ⟨hk, rfl, rfl, rfl⟩ | ⟨hk, rfl, rfl, rfl⟩ <;>
    exact ⟨by decide, by decide, by simp only [State.transfer, hk, State.core_modCore_same]⟩

/-- The poisoned lines of the rows that ACLD reads. -/
def poisRows (m : LocalMem) (c : MCmd) : List Nat := ((List.range 32).flatMap fun r => poisLines m (c.addr + r * c.pitch) 128).eraseDups
theorem poisRows_isEmpty (m : LocalMem) (c : MCmd) :
    (poisRows m c).isEmpty = true ↔ ∀ r, r < 32 → poisoned m.pois (c.addr + r * c.pitch) 128 = false := by
  rw [List.isEmpty_iff, List.eq_nil_iff_forall_not_mem]
  simp only [poisRows, List.mem_eraseDups]
  rw [← List.eq_nil_iff_forall_not_mem, List.flatMap_eq_nil_iff]
  simp only [List.mem_range, poisLines_eq_nil]
/-- The core that ACLD makes: its tile takes the F32s of the rows (R204, R205). -/
theorem transfer_acld {s : State} {site : Nat} {c : MCmd} (hk : c.kind = .acld) : (s.transfer site c).core site =
    (s.core site).applyUpd c.tile ((List.range 32).flatMap fun r => (List.range 32).map fun j =>
      BitVec.ofNat 32 ((s.core site).mem.bytes.load (c.addr + r * c.pitch + 4 * j) 4)) true (!(poisRows (s.core site).mem c).isEmpty) := by
  have he : ((List.range 32).map fun r => (s.core site).mem.read (c.addr + r * c.pitch) 128).flatMap
      (fun x => (List.range 32).map fun j => BitVec.ofNat 32 (lineElem 32 x.1 j)) = (List.range 32).flatMap fun r => (List.range 32).map fun j =>
      BitVec.ofNat 32 ((s.core site).mem.bytes.load (c.addr + r * c.pitch + 4 * j) 4) := by
    rw [List.flatMap_map]
    refine List.flatMap_congr fun r _ => List.map_congr_left fun j hj => ?_
    exact congrArg _ (Memory.lineElem_load _ _ (n := 32) (List.mem_range.1 hj))
  simp only [State.transfer, hk, State.core_modCore_same, State.core_engPoison, he]
  rfl

/-- Each command completes with what it held back or moves: an update, rows of a tile, zeros, a tile from memory, the end of a job. -/
theorem matrixCompletion : Part.MatrixCompletion := by
  intro s site c h k
  refine ⟨fun hs hk t e p hu => ?_, fun len w f hk hs hp => ?_, fun hs hk => ?_, fun hs hk => ?_, fun hs hk hsite ho t e p hu => ?_⟩
  · refine ⟨_, State.complete_mtile h hs hk hu, ?_⟩
    rw [State.core_modCore_same, State.core_modCore_same]
    exact ⟨rfl, rfl, rfl⟩
  · obtain ⟨hw, hl, ht⟩ := transfer_store (s := s) (site := site) hk
    obtain ⟨v, hv, hacc, hmem, -, heng⟩ := State.complete_transfer h hs ht
    refine ⟨v, hv, ?_, ?_, hacc, heng⟩
    · rw [hmem]
      exact fun r hr => storeRows_row hw hl hp hr
    · rw [hmem]
      exact fun x hx => LocalMem.writeRows_byte_out hx
  · have ht : (s.transfer site c).core site = k.applyUpd c.tile (List.replicate 1024 0) true false := by
      simp only [State.transfer, hk, State.core_modCore_same, k]
    obtain ⟨v, hv, hacc, hmem, hpois, -⟩ := State.complete_transfer h hs ht
    refine ⟨v, hv, hacc.trans (k.applyUpd_acc _ _ _ _), hmem.trans (k.applyUpd_mem _ _ _ _), ?_⟩
    rw [hpois]
    exact k.applyUpd_clears _ _
  · obtain ⟨v, hv, hacc, hmem, hpois, heng⟩ := State.complete_transfer h hs (transfer_acld hk)
    refine ⟨v, hv, hacc.trans (k.applyUpd_acc _ _ _ _), hmem.trans (k.applyUpd_mem _ _ _ _),
      heng.trans (congrArg _ (k.applyUpd_eng _ _ _ _)), fun hclean => ?_, fun ⟨r, hr, hbad⟩ ht => ?_⟩
    · rw [hpois, (poisRows_isEmpty _ _).2 hclean]
      exact k.applyUpd_clears _ _
    · have hne : (poisRows k.mem c).isEmpty = false :=
        Bool.eq_false_iff.2 fun he => Bool.false_ne_true (((poisRows_isEmpty _ _).1 he r hr).symm.trans hbad)
      rw [hpois, hne]
      exact k.applyUpd_sets ht _ _
  · refine ⟨_, State.complete_job h hs hk hu, ?_⟩
    have hend := (s.modCore site fun k => k.applyUpd t e c.opPois p).jobEnds_spec 3 hsite ho
    rw [State.core_modCore_same] at hend
    exact hend

/-- Settles O21: each event of the engine by the command it acts on, and what that command leaves in tiles, memory, queue and history. -/
theorem matrixEvents : Obligations.MatrixEvents := ⟨matrixEngine, matrixCompletion⟩

end Sys2Proof.Machine
end

section
/-! ### Scalar integer instructions: the tables of R94 to R96 in terms of numbers -/

namespace Sys2Proof.Machine

section
variable {i : Instr} {d s t : XReg}

theorem sets2_xOp2 {f g : Word → Word → Word} (h : ∀ x, exec i x = xOp2 i d s t f x) (hg : ∀ a b, f a b = g a b) : Sets2 i d s t g :=
  does_of h fun _ => congrArg (fun v => SlotRes.done (State.wx _ d v)) (hg _ _)
theorem sets1_xOp1 {f g : Word → Word} (h : ∀ x, exec i x = xOp1 i d s f x) (hg : ∀ a, f a = g a) : Sets1 i d s g :=
  does_of h fun _ => congrArg (fun v => SlotRes.done (State.wx _ d v)) (hg _)

end

/-! Comparisons by the numbers that the words stand for. -/

theorem boolWord_slt (a b : Word) : boolWord (a.slt b) = if a.toInt < b.toInt then 1 else 0 := by
  simp only [boolWord, BitVec.slt, decide_eq_true_eq]
theorem boolWord_ult (a b : Word) : boolWord (a.ult b) = if a.toNat < b.toNat then 1 else 0 := by
  simp only [boolWord, BitVec.ult, decide_eq_true_eq]
theorem ite_slt_swap (a b : Word) : (if b.slt a then b else a) = if a.toInt ≤ b.toInt then a else b := by
  simp only [BitVec.slt, decide_eq_true_eq, ← Int.not_le, ite_not]
theorem ite_ult_swap (a b : Word) : (if b.ult a then b else a) = if a.toNat ≤ b.toNat then a else b := by
  simp only [BitVec.ult, decide_eq_true_eq, ← Nat.not_le, ite_not]
/-- Of two equal words either is the maximum. -/
theorem ite_slt_le (a b : Word) : (if a.slt b then b else a) = if a.toInt ≤ b.toInt then b else a := by
  simp only [BitVec.slt, decide_eq_true_eq]
  rcases Int.lt_trichotomy a.toInt b.toInt with h | h | h
  · rw [if_pos h, if_pos (Int.le_of_lt h)]
  · rw [BitVec.eq_of_toInt_eq h, ite_self, ite_self]
  · rw [if_neg (by omega), if_neg (by omega)]
theorem ite_ult_le (a b : Word) : (if a.ult b then b else a) = if a.toNat ≤ b.toNat then b else a := by
  simp only [BitVec.ult, decide_eq_true_eq]
  rcases Nat.lt_trichotomy a.toNat b.toNat with h | h | h
  · rw [if_pos h, if_pos (Nat.le_of_lt h)]
  · rw [BitVec.eq_of_toNat_eq h, ite_self, ite_self]
  · rw [if_neg (by omega), if_neg (by omega)]

/-! The overflowing quotient (R95): −2^63 by −1 gives −2^63, remainder 0. -/

theorem divS_eq (a b : Word) : divS a b =
    if b = 0 then BitVec.allOnes 64 else if a = BitVec.intMin 64 ∧ b = -1 then BitVec.intMin 64 else BitVec.ofInt 64 (a.toInt.tdiv b.toInt) := by
  by_cases h : a = BitVec.intMin 64 ∧ b = -1
  · obtain ⟨rfl, rfl⟩ := h
    decide
  · rw [divS, if_neg h]
theorem remS_eq (a b : Word) : remS a b =
    if b = 0 then a else if a = BitVec.intMin 64 ∧ b = -1 then 0 else BitVec.ofInt 64 (a.toInt.tmod b.toInt) := by
  by_cases h : a = BitVec.intMin 64 ∧ b = -1
  · obtain ⟨rfl, rfl⟩ := h
    decide
  · rw [remS, if_neg h]

/-! Counts of bits, from either end. -/

theorem clzFrom_eq (a : Word) (n : Nat) : clzFrom a n = ((List.range n).takeWhile fun i => !a.getLsbD (n - 1 - i)).length := by
  induction n with
  | zero => rfl
  | succ n ih =>
    have hn : ((fun i => !a.getLsbD (n + 1 - 1 - i)) ∘ Nat.succ) = fun i => !a.getLsbD (n - 1 - i) :=
      funext fun i => by rw [Function.comp, show n + 1 - 1 - i.succ = n - 1 - i by omega]
    rw [clzFrom, List.range_succ_eq_map, List.takeWhile_cons, List.takeWhile_map, hn, ih]
    cases h : a.getLsbD n <;> simp [h, Nat.add_comm]
theorem ctzFrom_eq (a : Word) {n : Nat} (h : n ≤ 64) : ctzFrom a n = ((List.range n).takeWhile fun i => !a.getLsbD (64 - n + i)).length := by
  induction n with
  | zero => rfl
  | succ n ih =>
    have hn : ((fun i => !a.getLsbD (64 - (n + 1) + i)) ∘ Nat.succ) = fun i => !a.getLsbD (64 - n + i) :=
      funext fun i => by rw [Function.comp, show 64 - (n + 1) + i.succ = 64 - n + i by omega]
    rw [ctzFrom, List.range_succ_eq_map, List.takeWhile_cons, List.takeWhile_map, hn, ih (by omega), Nat.add_zero, show 64 - (n + 1) = 63 - n by omega]
    cases a.getLsbD (63 - n) <;> simp [Nat.add_comm]
theorem popFrom_eq (a : Word) (n : Nat) : popFrom a n = ((List.range n).filter fun i => a.getLsbD i).length := by
  induction n with
  | zero => rfl
  | succ n ih =>
    rw [popFrom, List.range_succ, List.filter_append, List.length_append, ih]
    cases h : a.getLsbD n <;> simp [h, Nat.add_comm]

/-- Each is one of the two shared forms, its function read by numbers. -/
theorem integerForms : Part.IntegerForms := by
  intro d s t
  refine ⟨sets2_xOp2 (exec_add d s t) fun _ _ => rfl, sets2_xOp2 (exec_sub d s t) fun _ _ => rfl, sets2_xOp2 (exec_and d s t) fun _ _ => rfl,
    sets2_xOp2 (exec_or d s t) fun _ _ => rfl, sets2_xOp2 (exec_xor d s t) fun _ _ => rfl, sets2_xOp2 (exec_sll d s t) fun _ _ => rfl,
    sets2_xOp2 (exec_srl d s t) fun _ _ => rfl, sets2_xOp2 (exec_sra d s t) fun _ _ => rfl, sets2_xOp2 (exec_slt d s t) boolWord_slt,
    sets2_xOp2 (exec_sltu d s t) boolWord_ult, sets2_xOp2 (exec_mul d s t) fun _ _ => rfl,
    sets2_xOp2 (exec_mulh d s t) fun _ _ => rfl, sets2_xOp2 (exec_mulhu d s t) fun _ _ => rfl, sets2_xOp2 (exec_div d s t) divS_eq,
    sets2_xOp2 (exec_divu d s t) fun _ _ => rfl, sets2_xOp2 (exec_rem d s t) remS_eq, sets2_xOp2 (exec_remu d s t) fun _ _ => rfl,
    sets2_xOp2 (exec_min d s t) ite_slt_swap, sets2_xOp2 (exec_max d s t) ite_slt_le, sets2_xOp2 (exec_minu d s t) ite_ult_swap,
    sets2_xOp2 (exec_maxu d s t) ite_ult_le, sets1_xOp1 (exec_clz d s) fun a => congrArg _ (clzFrom_eq a 64),
    sets1_xOp1 (exec_ctz d s) fun a => congrArg _ ?_, sets1_xOp1 (exec_popc d s) fun a => congrArg _ (popFrom_eq a 64)⟩
  simpa only [Nat.sub_self, Nat.zero_add] using ctzFrom_eq a (Nat.le_refl 64)

/-! Immediates (R96): sign-extended, or appended below. -/

theorem boolWord_slt_imm13 (a : Word) (imm : BitVec 13) : boolWord (a.slt (imm13 imm)) = if a.toInt < imm.toInt then 1 else 0 := by
  rw [boolWord_slt, imm13, BitVec.toInt_signExtend_of_le (by decide)]
theorem imm13_shiftLeft (imm : BitVec 13) : imm13 imm <<< 13 = BitVec.ofInt 64 (imm.toInt * 2 ^ 13) := by
  rw [BitVec.shiftLeft_eq_mul_twoPow, imm13, BitVec.signExtend, BitVec.ofInt_mul]
  rfl
theorem shiftLeft_add_zext (a : Word) (imm : BitVec 13) : (a <<< 13) + imm.setWidth 64 = BitVec.ofNat 64 (a.toNat * 2 ^ 13 + imm.toNat) := by
  apply BitVec.eq_of_toNat_eq
  simp [Nat.shiftLeft_eq]

theorem immediateForms : Part.ImmediateForms := by
  intro d s imm sh
  exact ⟨sets1_xOp1 (exec_addi d s imm) fun _ => rfl, sets1_xOp1 (exec_andi d s imm) fun _ => rfl, sets1_xOp1 (exec_ori d s imm) fun _ => rfl,
    sets1_xOp1 (exec_xori d s imm) fun _ => rfl, sets1_xOp1 (exec_slli d s sh) fun _ => rfl, sets1_xOp1 (exec_srli d s sh) fun _ => rfl,
    sets1_xOp1 (exec_srai d s sh) fun _ => rfl, sets1_xOp1 (exec_slti d s imm) fun a => boolWord_slt_imm13 a imm,
    does_of (exec_lui d imm) fun u => congrArg (fun v => SlotRes.done (u.wx d v)) (imm13_shiftLeft imm),
    sets1_xOp1 (exec_lcat d imm) fun a => shiftLeft_add_zext a imm⟩

/-- Settles O1: the shared forms of one and two sources, and each function of the model as the table has it. -/
theorem integerInstructions : Obligations.IntegerInstructions := ⟨integerForms, immediateForms⟩

end Sys2Proof.Machine
end

section
/-! ### Address registers: re-pointing, narrowing and making (R24, R100 to R102) -/

namespace Sys2Proof.Machine

theorem ARegV.allows_iff (r : ARegV) (n : Int) : r.allows n = true ↔ (r.base.toNat : Int) ≤ n ∧ n ≤ r.limit.toNat := by
  rw [allows, Bool.and_eq_true, decide_eq_true_eq, decide_eq_true_eq]

section
variable {i : Instr} {d s : AReg} {n : State → ARegV → Int} {w : State → Word} (h : ∀ x, exec i x = aRepoint i d s n x)
  (hw : ∀ u, BitVec.ofInt 64 (n u (u.ra s)) = w u)
include h hw

/-- A pointer that stays in its range is written, and one that leaves it raises BOUND (R100). -/
theorem doesIf_aRepoint : DoesIf i (fun u => ((u.ra s).base.toNat : Int) ≤ n u (u.ra s) ∧ n u (u.ra s) ≤ (u.ra s).limit.toNat)
    fun u => u.wa d { u.ra s with ptr := w u } :=
  doesIf_of h fun u hu => by rw [← hw u]; exact if_pos ((ARegV.allows_iff _ _).2 hu)
theorem traps_aRepoint : Traps i (fun u => ¬(((u.ra s).base.toNat : Int) ≤ n u (u.ra s) ∧ n u (u.ra s) ≤ (u.ra s).limit.toNat)) .bound w :=
  traps_of h fun u hu => by rw [← hw u]; exact if_neg fun ha => hu ((ARegV.allows_iff _ _).1 ha)

end

/-- A part of an address register goes to an x register (R100). -/
theorem does_aRead {i : Instr} {s : AReg} {x : XReg} {f : ARegV → Word} (h : ∀ y, exec i y = aRead i s x f y) :
    Does i fun u => u.wx x (f (u.ra s)) := does_of h fun _ => rfl

/-- A pointer moved by a signed number of bytes. -/
theorem ofInt_toNat_add (p : Word) (n : Int) : BitVec.ofInt 64 (p.toNat + n) = p + BitVec.ofInt 64 n := by
  rw [BitVec.ofInt_add, BitVec.ofInt_natCast, BitVec.ofNat_toNat, BitVec.setWidth_eq]

theorem addressRegisters : Part.AddressRegisters := by
  intro d s x imm inside
  have byWord : ∀ u : State, BitVec.ofInt 64 ((u.ra s).ptr.toNat + (u.rx x).toInt) = (u.ra s).ptr + u.rx x := fun u => by
    rw [ofInt_toNat_add, BitVec.ofInt_toInt]
  have toWord : ∀ u : State, BitVec.ofInt 64 (u.rx x).toNat = u.rx x := fun u => by
    rw [BitVec.ofInt_natCast, BitVec.ofNat_toNat, BitVec.setWidth_eq]
  have byImm : ∀ u : State, BitVec.ofInt 64 ((u.ra s).ptr.toNat + imm.toInt) = (u.ra s).ptr + imm.signExtend 64 := fun u => ofInt_toNat_add _ _
  exact ⟨does_of (exec_amov d s) fun _ => rfl, doesIf_aRepoint (exec_aadd d s x) byWord, traps_aRepoint (exec_aadd d s x) byWord,
    doesIf_aRepoint (exec_asetp d s x) toWord, traps_aRepoint (exec_asetp d s x) toWord, doesIf_aRepoint (exec_aaddi d s imm) byImm,
    traps_aRepoint (exec_aaddi d s imm) byImm, does_aRead (exec_agetp s x), does_aRead (exec_agetb s x),
    does_aRead (f := fun r => r.limit.setWidth 64) (exec_agetl s x), does_aRead (f := fun r => r.perm.setWidth 64) (exec_aperm s x)⟩

theorem narrowAndMake : Part.NarrowAndMake := by
  intro d s b r nb len nl mask spans inside mayD made
  have top : ∀ u, 0 < len u → (2 ^ 64 ≤ nl u - 1 ↔ 2 ^ 64 < nl u) := fun u h => by
    have : 0 < nl u := Nat.lt_add_left _ h
    omega
  -- where the range lies inside its source's, the next test is for permission D, then for one window
  have notOut : ∀ u, inside u → ¬(nb u < (u.ra s).base.toNat ∨ (u.ra s).limit.toNat < nl u) := fun u ⟨h1, h2⟩ => by omega
  have notD : ∀ u, mayD u → ¬permD (u.ra s).perm = false := fun u h => by rw [permD, show (u.ra s).perm.getLsbD 5 = true from h]; decide
  refine ⟨doesIf_of (exec_anarrow d s b r) fun u ⟨hin, hd, hw⟩ => ?_, traps_of (exec_anarrow d s b r) fun u hin => if_pos ?_,
    traps_of (exec_anarrow d s b r) fun u ⟨hin, hd⟩ => ?_, traps_of (exec_anarrow d s b r) fun u ⟨hin, hd, hw⟩ => ?_,
    doesIf_of (exec_amake d b r) fun u ⟨hw, hl⟩ => if_neg ?_, traps_of (exec_amake d b r) fun u h => if_pos ?_⟩
  · exact (if_neg (notOut u hin)).trans ((if_neg (notD u hd)).trans (if_neg hw))
  · by_contra hn
    obtain ⟨h1, h2⟩ := not_or.1 hn
    exact hin ⟨Nat.not_lt.1 h1, Nat.not_lt.1 h2⟩
  · exact (if_neg (notOut u hin)).trans (if_pos (Bool.eq_false_iff.2 hd))
  · exact (if_neg (notOut u hin)).trans ((if_neg (notD u hd)).trans (if_pos hw))
  · rintro ⟨h0, h | h⟩
    · exact Nat.not_le.2 ((top u h0).1 h) hl
    · exact hw ⟨h0, h⟩
  · rcases h with ⟨h0, h⟩ | ⟨h0, h⟩
    · exact ⟨h0, .inr h⟩
    · exact ⟨h0, .inl ((top u h0).2 h)⟩

/-- Settles O7: the pointers of R100 by the range of their source, ANARROW and AMAKE by their tests in order. -/
theorem addressInstructions : Obligations.AddressInstructions := ⟨addressRegisters, narrowAndMake⟩

end Sys2Proof.Machine
end

section
/-! ### Control transfers: targets and conditions (R45, R104, R105) -/

namespace Sys2Proof.Machine

/-- A target counts words from the bundle (R45). -/
theorem State.target_eq (u : State) {n : Nat} (off : BitVec n) : u.target off.toInt = u.ctx.pc + (off.signExtend 64 <<< 2) := by
  rw [target, BitVec.shiftLeft_eq_mul_twoPow, BitVec.signExtend, BitVec.ofInt_mul, BitVec.mul_comm]
  rfl

/-- The instruction jumps where a condition holds, and goes on elsewhere (R104). -/
def Takes (i : Instr) (off : BitVec 14) (c : State → Prop) : Prop :=
  DoesIf i c (fun u => u.jumpTo (u.ctx.pc + (off.signExtend 64 <<< 2))) ∧ DoesIf i (fun u => ¬c u) (fun u => u)

section
variable {i : Instr} {off : BitVec 14} {c : State → Prop}

theorem takes_of {q : State → Prop} [DecidablePred q]
    (h : ∀ s, exec i s = slot i (fun u => .done (if q u then u.jumpTo (u.target off.toInt) else u)) s) (hq : ∀ u, q u ↔ c u) : Takes i off c :=
  ⟨doesIf_of h fun u hu => by rw [if_pos ((hq u).2 hu), u.target_eq off], doesIf_of h fun u hu => by rw [if_neg fun hc => hu ((hq u).1 hc)]⟩
theorem takes_branch {s t : XReg} {f : Word → Word → Bool} (h : ∀ x, exec i x = branch i s t off f x)
    (hf : ∀ u, f (u.rx s) (u.rx t) = true ↔ c u) : Takes i off c := takes_of h hf

end

/-- A mask with no bit set is zero. -/
theorem mword_eq_zero_iff (w : MWord) : w = 0 ↔ ∀ b, w.getLsbD b = false := by
  constructor
  · rintro rfl b
    exact BitVec.getLsbD_zero
  · intro h
    exact BitVec.eq_of_getLsbD_eq fun b _ => (h b).trans BitVec.getLsbD_zero.symm

/-- Settles O8: each jump by its target, each branch by its condition, JALR by the low bits of its target. -/
theorem branches : Obligations.Branches := by
  intro d s t m imm off24 off to24 takes
  have aligned : ∀ w : Word, w &&& 3 ≠ 0 ↔ w.toNat % 4 ≠ 0 := fun w => by
    rw [← toNat_and_three, ne_eq, ← BitVec.toNat_inj]
    rfl
  refine ⟨does_of (exec_j off24) fun u => by rw [u.target_eq off24], does_of (exec_jal off24) fun u => by rw [u.target_eq off24],
    doesIf_of (exec_jalr d s imm) fun u hu => if_neg fun h => (aligned _).1 h hu, traps_of (exec_jalr d s imm) fun u hu => if_pos ((aligned _).2 hu),
    takes_branch (exec_beq s t off) fun u => beq_iff_eq, takes_branch (exec_bne s t off) fun u => bne_iff_ne,
    takes_branch (exec_blt s t off) fun u => decide_eq_true_iff, takes_branch (exec_bge s t off) fun u => ?_,
    takes_branch (exec_bltu s t off) fun u => decide_eq_true_iff, takes_branch (exec_bgeu s t off) fun u => ?_,
    takes_of (exec_bany m off) fun u => ?_, takes_of (exec_bnone m off) fun u => mword_eq_zero_iff _⟩
  · rw [BitVec.slt, Bool.not_eq_true', decide_eq_false_iff_not, Int.not_lt]
  · rw [BitVec.ult, Bool.not_eq_true', decide_eq_false_iff_not, Nat.not_lt]
  · rw [ne_eq, mword_eq_zero_iff, not_forall]
    simp only [Bool.not_eq_false]

end Sys2Proof.Machine
end

section
/-! ### REP before its iterations (R111 to R113) -/

namespace Sys2Proof.Machine

namespace State

section
variable {u : State} {xc : XReg} {imm : BitVec 6} {ds s1s s2s : BitVec 3} {a : Instr} (ha : decodeWord u.ctx.word2 = .ok a)
include ha

/-! The tests of a REP, in their order. -/

theorem repCheck_lacks (hl : strideBad a ds s1s s2s = true) :
    u.repCheck xc imm ds s1s s2s = .error ({ cause := .illegal, slot := false, val := u.wordVal }, false) := by
  simp only [repCheck, ha, hl, if_true]

variable (hl : ¬strideBad a ds s1s s2s = true)
include hl

theorem repCheck_long (hn : 65535 < u.repCount xc imm) :
    u.repCheck xc imm ds s1s s2s = .error ({ cause := .operand, slot := false, val := u.wordVal }, false) := by
  simp only [repCheck, ha, if_neg hl, if_pos hn]

variable (hn : u.repCount xc imm ≤ 65535)
include hn

theorem repCheck_out {m : Nat} (hm : repOut a u.src.ctl.vallot.toNat ds.toNat s1s.toNat s2s.toNat u.src.repStart
    (u.repCount xc imm - u.src.repStart) = some m) :
    u.repCheck xc imm ds s1s s2s = .error ({ cause := .regrange, slot := true, val := BitVec.ofNat 64 m }, true) := by
  simp only [repCheck, ha, if_neg hl, if_neg (Nat.not_lt.2 hn), hm]
theorem repCheck_fits (hf : repOut a u.src.ctl.vallot.toNat ds.toNat s1s.toNat s2s.toNat u.src.repStart
    (u.repCount xc imm - u.src.repStart) = none) :
    u.repCheck xc imm ds s1s s2s = .ok ⟨u.ctx.pc, u.src.repStart, u.repCount xc imm, u.ctx.word, u.ctx.word2⟩ := by
  simp only [repCheck, ha, if_neg hl, if_neg (Nat.not_lt.2 hn), hf]

end

/-- The thread with a unit that stands at an iteration which has not begun: its fault is that iteration's (R112). -/
def atIter (s : State) (k : Nat) : State :=
  s.modCur fun x => { x with rep := some { pc := s.ctx.pc, k := k, count := 0, word := s.ctx.word, word2 := s.ctx.word2 } }

end State

section
variable {s : State} {xc : XReg} {imm : BitVec 6} {ds s1s s2s : BitVec 3} (hc : Clear (.rep xc imm ds s1s s2s) s)
include hc

/-- A fault of the REP word, and one of its first iteration. -/
theorem execRep_fault {t : Trap} (h : s.openBundle.repCheck xc imm ds s1s s2s = .error (t, false)) :
    execRep xc imm ds s1s s2s s = .next ((s.raiseTrap t).ended (.raise t)) := by
  simp only [execRep, hc.1, hc.2, h, List.nil_append, firstTrap_one, Bool.false_and, Bool.false_eq_true, if_false]
theorem execRep_fault_iter {t : Trap} (h : s.openBundle.repCheck xc imm ds s1s s2s = .error (t, true)) :
    execRep xc imm ds s1s s2s s = .next (((s.atIter s.cur.repStart).raiseTrap t).ended (.raise t)) := by
  simp only [execRep, hc.1, hc.2, h, List.nil_append, firstTrap_one, Bool.true_and, beq_self_eq_true, Bool.false_eq_true, if_false, if_true]
  rfl

/-- A REP without a fault becomes the unit, or moves on. -/
theorem execRep_goes {p : RepUnit} (h : s.openBundle.repCheck xc imm ds s1s s2s = .ok p) (hk : p.k < p.count) :
    execRep xc imm ds s1s s2s s = .next ((s.openBundle.closed.modCur fun t => { t with rep := some p }).ended .done) := by
  simp only [execRep, hc.1, hc.2, h, List.nil_append, firstTrap_nil, Bool.false_eq_true, if_false, if_pos hk]
theorem execRep_ends {p : RepUnit} (h : s.openBundle.repCheck xc imm ds s1s s2s = .ok p) (hk : p.count ≤ p.k) :
    execRep xc imm ds s1s s2s s =
      .next ((s.openBundle.closed.modCur fun t => { t with pc := s.ctx.next, sys := { t.sys with repcnt := 0 } }).ended .done) := by
  simp only [execRep, hc.1, hc.2, h, List.nil_append, firstTrap_nil, Bool.false_eq_true, if_false, if_neg (Nat.not_lt.2 hk)]

end

/-- Settles O12: the first test that a REP fails, and where it fails none its unit. -/
theorem repUnit : Obligations.RepUnit := by
  intro xc imm ds s1s s2s s a i u n k fits lacks hc ha
  have ha : decodeWord u.ctx.word2 = .ok a := ha
  have cur : ∀ f e, ((u.closed.modCur f).ended e).cur = f s.cur.opened := fun f _ =>
    (State.cur_modCur u.closed f).trans (congrArg f s.openBundle_cur)
  refine ⟨fun hl => execRep_fault hc (State.repCheck_lacks ha hl), fun hl hn => execRep_fault hc (State.repCheck_long ha hl hn),
    fun hl hn m hm => ?_, fun hl hn hf hk => ?_, fun hl hn hf hk => ?_⟩
  · refine ⟨_, _, execRep_fault_iter hc (State.repCheck_out ha hl hn hm), rfl, ?_⟩
    rw [State.atIter, State.cur_modCur]
    exact ⟨rfl, rfl⟩
  · refine ⟨_, execRep_goes hc (State.repCheck_fits ha hl hn hf) hk, ?_⟩
    rw [cur]
    exact ⟨rfl, rfl, rfl⟩
  · refine ⟨_, execRep_ends hc (State.repCheck_fits ha hl hn hf) hk, ?_⟩
    rw [cur]
    exact ⟨rfl, rfl, rfl⟩

end Sys2Proof.Machine
end

section
/-! ### Special functions: issue, start and completion (R108, R118, R134, R135) -/

namespace Sys2Proof.Machine

/-- An instruction of the special-function unit issues where the FIFO has room (R135). -/
theorem doesIf_sfuIssue {i : Instr} {d s : VReg} {mk : MReg} (h : ∀ x, exec i x = sfuIssue i d s mk x) :
    DoesIf i (fun u => u.myCore.sfu.length < 8) fun u => (u.track i (vRef d)).2.modMyCore fun c =>
      { c with sfu := c.sfu ++ [{ key := u.ctx.key, id := u.nextId, instr := i, src := u.rv s, mask := u.rm mk, ftz := (u.rctl 0).ftz }] } :=
  doesIf_of h fun _ hu => if_neg (Nat.not_le.2 hu)

/-- Each is tracked by a scoreboard entry (R30, R135). -/
theorem specialIssue : Part.SpecialIssue := by
  intro d s ty mk room enters
  exact ⟨doesIf_sfuIssue (exec_vexp2 d s ty mk), doesIf_sfuIssue (exec_vlog2 d s ty mk), doesIf_sfuIssue (exec_vrcp d s ty mk),
    doesIf_sfuIssue (exec_vrsq d s ty mk), doesIf_sfuIssue (exec_vsig d s ty mk)⟩

/-- The oldest request that has not started is the first one behind those that have. -/
theorem sfuStartFirst_append {p q : List SfuReq} {r : SfuReq} (hp : ∀ x ∈ p, x.started = true) (hr : r.started = false) :
    sfuStartFirst (p ++ r :: q) = p ++ { r with started := true } :: q := by
  induction p with
  | nil => exact if_neg (Bool.eq_false_iff.1 hr)
  | cons x p ih =>
    rw [List.cons_append, sfuStartFirst, if_pos (hp x List.mem_cons_self), ih fun y hy => hp y (List.mem_cons_of_mem _ hy)]
    rfl

/-- The elements and flags that a request writes (R118, R134). -/
theorem sfuResult_eq {r : SfuReq} {d v : VReg} {ty : Ty} {mk : MReg} {f : Fmt → Bool → Nat → Nat × FFlags}
    (h : sfuFn r.instr = some (d, v, ty, mk, f)) (old : VWord) : sfuResult r old =
    some (d, vOf ty.width (lanes ty.width) (fun k => if mBit r.mask ty.width k then (f (fmtOf ty) r.ftz (elem ty.width r.src k)).1
        else elem ty.width old k),
      orFlags (lanes ty.width) (mBit r.mask ty.width) fun k => (f (fmtOf ty) r.ftz (elem ty.width r.src k)).2) := by
  rw [sfuResult, h]

/-- SFU_COMPLETE of a started request (R135). -/
theorem execSfuComplete_writes {s : State} {site : Nat} {r : SfuReq} {q : List SfuReq} {d : VReg} {v : VReg} {ty : Ty} {mk : MReg}
    {f : Fmt → Bool → Nat → Nat × FFlags} {x : VWord} {fl : FFlags} (hq : (s.core site).sfu = r :: q) (hr : r.started = true)
    (hf : sfuFn r.instr = some (d, v, ty, mk, f)) (hx : sfuResult r ((s.thread r.key).getV d) = some (d, x, fl)) :
    ∃ t, exec (.sfuComplete site) s = .next t ∧ (t.core site).sfu = q ∧
      t.thread r.key = (((s.thread r.key).fillV d x).flag fl).complete r.id := by
  rw [exec_sfuComplete, execSfuComplete, hq]
  dsimp only
  rw [if_pos hr]
  refine ⟨_, rfl, ?_, ?_⟩
  · rw [State.core_modThread, State.core_modCore_same]
  · rw [State.thread_modThread_same, State.thread_modCore, hf]
    dsimp only
    rw [hx]

namespace Thread

theorem complete_ctl (t : Thread) (id : Nat) : (t.complete id).ctl = t.ctl := by
  unfold complete; split <;> rfl
theorem fillV_ctl (t : Thread) (d : VReg) (v : VWord) : (t.fillV d v).ctl = t.ctl := by
  unfold fillV; split <;> rfl
/-- The entry of an instruction that has completed is free (R31). -/
theorem fin_of_mem_complete {t : Thread} {id : Nat} {o : Outst} (h : o ∈ (t.complete id).outst) (hid : o.id = id) : o.fin = true := by
  unfold complete at h
  split at h
  next hn =>
    exact absurd (beq_iff_eq.2 hid) (List.find?_eq_none.1 hn o h)
  next =>
    obtain ⟨p, -, rfl⟩ := List.mem_map.1 h
    by_cases hp : p.id = id
    · rw [if_pos hp]
    · rw [if_neg hp] at hid
      exact absurd hid hp

end Thread

theorem specialEvents : Part.SpecialEvents := by
  intro s site r q
  refine ⟨fun p hs hp hr => ⟨_, exec_sfuStart site s, ?_, fun k => rfl⟩, fun d v ty mk f hs hr hf => ?_⟩
  · rw [State.core_modCore_same, hs, sfuStartFirst_append hp hr]
  · obtain ⟨t, ht, hq, hthread⟩ := execSfuComplete_writes hs hr hf (sfuResult_eq hf _)
    refine ⟨t, ht, hq, ?_⟩
    rw [hthread]
    generalize s.thread r.key = o
    obtain ⟨regs, -⟩ := ((o.fillV d _).flag _).complete_keeps r.id
    refine ⟨?_, fun e he => ?_, ?_, ?_, fun x hx hid => Thread.fin_of_mem_complete hx hid⟩
    · rw [Thread.getV_congr (regs.trans (Thread.flag_regs _ _)), Thread.getV_fillV]
      exact if_congr (and_iff_right rfl) rfl rfl
    · rw [Thread.getV_congr (regs.trans (Thread.flag_regs _ _)), Thread.getV_fillV, if_neg fun h => he h.1]
    · rw [regs, Thread.flag_regs, Thread.fillV_regs_x]
    · rw [Thread.complete_ctl, Thread.flag_vflags, Thread.fillV_ctl]

/-- Settles O13: the shared issue of the five instructions; the FIFO as it starts, and the thread as it completes, a request. -/
theorem specialFunctions : Obligations.SpecialFunctions := ⟨specialIssue, specialEvents⟩

end Sys2Proof.Machine
end

section
/-! ### A thread's access to its own memory, as it is offered and performed (R31, R161, R163, R165) -/

namespace Sys2Proof.Machine

namespace State

/-- The site of a key (R11). -/
theorem key_div (site thr : Nat) : (4 * site + thr % 4) / 4 = site := by omega

/-! Poison that an access finds is recorded, and fails its instruction; memories and registers stay (R31, R153). -/

section
variable (s : State) (key id : Nat) (base : Word) (addr : Nat)

theorem core_ownPoison (c : Nat) : (s.ownPoison key id base addr).core c = s.core c := core_of_still (still_localPoison s _ _) c
theorem files_ownPoison (j : Nat) : ((s.ownPoison key id base addr).thread j).regs = (s.thread j).regs ∧
    ((s.ownPoison key id base addr).thread j).ctl = (s.thread j).ctl := by
  rw [← thread_congr (threads_of_still (still_localPoison s (key / 4) addr)) j, ownPoison, thread_modThread]
  split
  next h => subst h; exact ⟨rfl, rfl⟩
  next => exact ⟨rfl, rfl⟩
/-- The same where poison is only looked for. -/
theorem core_ownPoison_if (p : Bool) (c : Nat) : (if p = true then s.ownPoison key id base addr else s).core c = s.core c := by
  cases p
  · rfl
  · exact s.core_ownPoison key id base addr c
theorem files_ownPoison_if (p : Bool) (j : Nat) : ((if p = true then s.ownPoison key id base addr else s).thread j).regs = (s.thread j).regs ∧
    ((if p = true then s.ownPoison key id base addr else s).thread j).ctl = (s.thread j).ctl := by
  cases p
  · exact ⟨rfl, rfl⟩
  · exact s.files_ownPoison key id base addr j

end

section
variable (s : State) (key : Nat) (a : Access)

/-- An access that leaves its thread's list changes no register and no memory beside what it does itself (R161). -/
theorem core_performOwn (c : Nat) : (s.performOwn key a).core c = (s.applyOwn key a).core c := rfl
theorem regs_performOwn (j : Nat) : ((s.performOwn key a).thread j).regs = ((s.applyOwn key a).thread j).regs := by
  rw [performOwn, thread_modThread]
  split
  next h => subst h; exact (Thread.completeIf_keeps _ _).1
  next => rfl

end

section
variable {s : State} {site a : Nat} {old : Bool}

/-- Nothing is served where the bit is as it was, and nobody where nobody waits (R165). -/
theorem rescanLocal_same (h : (s.core site).mem.full a = old) : s.rescanLocal site a old = s := if_pos h
theorem rescanLocal_nobody (h : (s.core site).mem.retry = []) (c : Nat) : (s.rescanLocal site a old).core c = s.core c := by
  unfold rescanLocal
  split
  · rfl
  · rw [h]
    show (s.modMem site _).core c = _
    rw [modMem, core_modCore]
    split
    next hc => subst hc; rw [← h]
    next => rfl
theorem rescanLocal_threads (h : (s.core site).mem.retry = []) : (s.rescanLocal site a old).threads = s.threads := by
  unfold rescanLocal
  split
  · rfl
  · rw [h]; rfl

end

section
variable {s : State} {key : Nat} {a : Access} {e : El} {l : List El}

/-- An access whose condition holds is performed, and the waiting ones that its bit allows are served. -/
theorem offerOwn_ready (hr : a.ready (s.core (key / 4)).mem = true) (he : a.els = e :: l) :
    s.offerOwn key a = (s.performOwn key a).rescanLocal (key / 4) e.addr ((s.core (key / 4)).mem.full e.addr) := by
  simp only [offerOwn, hr, he, if_true]
/-- One whose condition does not hold waits, where the retry list is empty (R165). -/
theorem offerOwn_waits (hr : a.ready (s.core (key / 4)).mem = false) (hq : (s.core (key / 4)).mem.retry = []) :
    ((s.offerOwn key a).core (key / 4)).mem = { (s.core (key / 4)).mem with retry := [.own key a.ord] } := by
  have hroom : (s.core (key / 4)).mem.room false = true := by rw [LocalMem.room, hq]; rfl
  simp only [offerOwn, hr, hroom, Bool.false_eq_true, if_false, if_true, modMem, core_modCore_same, core_modThread, hq, List.nil_append]

end

/-! ACCESS_COMPLETE of an access that is neither in the retry list nor held (R161, R165). -/

section
variable {s : State} {site thr k : Nat} {a : Access} (hn : s.nextOwn (4 * site + thr % 4) k = some a) (hw : a.waiting = false) (hh : a.holdTo = 0)
include hn hw hh

theorem accessComplete_offers : exec (.accessComplete site thr k) s = .next (s.offerOwn (4 * site + thr % 4) a) := by
  simp only [exec_accessComplete, execAccessComplete, keyAt, hn, hw, hh, bne_self_eq_false, Bool.or_self, Bool.false_eq_true, if_false]

/-- Where its condition holds, and it leaves the bit of its word or nobody waits for it, the memories and registers are those that it leaves. -/
theorem accessComplete_performs {e : El} {l : List El} (hr : a.ready (s.core site).mem = true) (he : a.els = e :: l)
    (hf : ((s.applyOwn (4 * site + thr % 4) a).core site).mem.full e.addr = (s.core site).mem.full e.addr ∨
      ((s.applyOwn (4 * site + thr % 4) a).core site).mem.retry = []) :
    ∃ t, exec (.accessComplete site thr k) s = .next t ∧ (∀ c, t.core c = (s.applyOwn (4 * site + thr % 4) a).core c) ∧
      ∀ j, (t.thread j).regs = ((s.applyOwn (4 * site + thr % 4) a).thread j).regs := by
  refine ⟨_, accessComplete_offers hn hw hh, ?_⟩
  rw [offerOwn_ready ((key_div site thr).symm ▸ hr) he, key_div]
  rcases hf with hf | hf
  · rw [rescanLocal_same (s := s.performOwn _ a) hf]
    exact ⟨fun c => rfl, s.regs_performOwn _ a⟩
  · refine ⟨rescanLocal_nobody hf, fun j => ?_⟩
    rw [thread_congr (rescanLocal_threads (s := s.performOwn _ a) hf), regs_performOwn]
/-- Where its condition does not hold, and the retry list is empty, it waits there. -/
theorem accessComplete_waits (hr : a.ready (s.core site).mem = false) (hq : (s.core site).mem.retry = []) :
    ∃ t, exec (.accessComplete site thr k) s = .next t ∧
      (t.core site).mem = { (s.core site).mem with retry := [.own (4 * site + thr % 4) a.ord] } := by
  have h := offerOwn_waits (s := s) (key := 4 * site + thr % 4) (a := a) ((key_div site thr).symm ▸ hr) ((key_div site thr).symm ▸ hq)
  rw [key_div] at h
  exact ⟨_, accessComplete_offers hn hw hh, h⟩

end

end State

/-- Only full-empty accesses have a condition (R164). -/
theorem Access.ready_of_op {a : Access} {op : AccOp} (ho : a.op = op) (hl : ∀ d mode, op ≠ .ldfe d mode) (hs : ∀ x mode, op ≠ .stfe x mode)
    (m : LocalMem) : a.ready m = true := by
  subst ho
  unfold ready
  split
  next d mode e l ho _ => exact absurd ho (hl d mode)
  next x mode e l ho _ => exact absurd ho (hs x mode)
  next => rfl

theorem Thread.getX_putX (t : Thread) (d r : XReg) (v : Word) : (t.putX d v).getX r = if r = 0 then 0 else if r = d then v else t.getX r :=
  (getX_congr (t.putX_regs d v) r).trans (t.getX_setX d r v)
/-- A destination that was put, in a state of the same registers. -/
theorem State.getX_of_putX {t u : State} {key : Nat} {d : XReg} {v : Word}
    (h : (t.thread key).regs = ((u.modThread key fun t => t.putX d v).thread key).regs) (hd : d ≠ 0) : (t.thread key).getX d = v := by
  rw [Thread.getX_congr h, thread_modThread_same, Thread.getX_putX, if_neg hd, if_pos rfl]

end Sys2Proof.Machine
end

section
/-! ### Loads and stores of own memory, performed (R108, R159 to R161) -/

namespace Sys2Proof.Machine

namespace State

section
variable {s : State} {site key : Nat} {a : Access} {e : El} (hk : key / 4 = site)
include hk

theorem applyOwn_loadX {d : XReg} {sz : BitVec 3} (ho : a.op = .loadX d sz) (he : a.els = [e]) : s.applyOwn key a =
    if poisoned (s.core site).mem.pois e.addr e.len = true then
      (s.modThread key fun t => t.putX d (extendSz sz ((s.core site).mem.bytes.load e.addr e.len))).ownPoison key a.id a.base e.addr
    else s.modThread key fun t => t.putX d (extendSz sz ((s.core site).mem.bytes.load e.addr e.len)) := by
  simp only [applyOwn, ho, he, LocalMem.read, hk]
theorem applyOwn_store {data : VWord} (ho : a.op = .store data) (he : a.els = [e]) :
    s.applyOwn key a = s.locStore site e.addr e.len (vBytes data e.off e.len) false := by
  simp only [applyOwn, ho, he, storeRuns, hk]

end

theorem core_locStore (s : State) (site x n v : Nat) (p : Bool) (c : Nat) :
    (s.locStore site x n v p).core c = if c = site then { s.core site with mem := (s.core site).mem.write x n v p } else s.core c :=
  core_modCore ..

end State

theorem ownLoad : Part.OwnLoad := by
  intro s site thr k a d sz e hn ho he hw hh
  have happly := State.applyOwn_loadX (s := s) (State.key_div site thr) ho he
  have core : ∀ c, (s.applyOwn (4 * site + thr % 4) a).core c = s.core c := fun c => by rw [happly, State.core_ownPoison_if]; rfl
  obtain ⟨t, ht, hcore, hregs⟩ := State.accessComplete_performs hn hw hh (Access.ready_of_op ho nofun nofun _) he (.inl (by rw [core]))
  have getX : ∀ r, (t.thread (4 * site + thr % 4)).getX r = _ := fun r => (Thread.getX_congr (hregs _) r).trans <| by
    rw [happly, Thread.getX_congr (State.files_ownPoison_if ..).1, State.thread_modThread_same, Thread.getX_putX]
  refine ⟨t, ht, fun _ => ?_, fun r hr => ?_, fun c x => by rw [hcore, core]⟩
  · rw [getX, if_pos rfl]
  · rw [getX, if_neg hr]
    split
    next h => rw [h, Thread.getX_zero]
    next => rfl

theorem ownStore : Part.OwnStore := by
  intro s site thr k a data e hn ho he hw hh
  have happly := State.applyOwn_store (s := s) (State.key_div site thr) ho he
  obtain ⟨t, ht, hcore, hregs⟩ := State.accessComplete_performs hn hw hh (Access.ready_of_op ho nofun nofun _) he
    (.inl (by rw [happly, State.core_locStore, if_pos rfl]; rfl))
  refine ⟨t, ht, fun j => (hregs j).trans (by rw [happly]; rfl), fun c x => ?_⟩
  rw [hcore, happly, State.core_locStore]
  by_cases hc : c = site
  · subst hc
    rw [if_pos rfl]
    exact (Memory.byte_store ..).trans (if_congr (by simp) rfl rfl)
  · rw [if_neg hc, if_neg fun h => hc h.1]

/-! Runs of a vector load, one after the other. -/

/-- A vector register once the runs of a load were placed in it, the bytes at or above its length cleared by each (R159, R160). -/
def runsInto (m : Memory) (len : Nat) : List El → VWord → VWord
  | [], v => v
  | e :: l, v => runsInto m len l (vLow (vPlace v e.off e.len (m.load e.addr e.len)) len)

/-- The bytes of a range fit a word of their width. -/
theorem Memory.toNat_ofNat_load (m : Memory) (x : Nat) {n k : Nat} (h : 8 * n ≤ k) : (BitVec.ofNat k (m.load x n)).toNat = m.load x n := by
  rw [BitVec.toNat_ofNat, Nat.mod_eq_of_lt]
  refine (m.load_lt x n).trans_le ?_
  rw [show (256 : Nat) = 2 ^ 8 from rfl, ← Nat.pow_mul]
  exact Nat.pow_le_pow_right (by decide) h
/-- A byte of the number that a range of memory holds. -/
theorem Memory.load_byte (m : Memory) (x : Nat) {j n : Nat} (h : j < n) : m.load x n / 256 ^ j % 256 = (m.byte (x + j)).toNat := by
  obtain ⟨r, rfl⟩ := Nat.exists_eq_add_of_lt h
  rw [Nat.add_assoc, load_append, Nat.add_mul_div_left _ _ (Nat.pow_pos (by decide)), Nat.div_eq_of_lt (m.load_lt x j), Nat.zero_add, load,
    Nat.add_mul_mod_self_left]
  exact Nat.mod_eq_of_lt (m.byte (x + j)).isLt

section
variable {m : Memory} {len : Nat} (hl : len ≤ 512)
include hl

/-- The bytes of the register after one run. -/
theorem elem_run (v : VWord) {e : El} (he : e.off + e.len ≤ len) (b : Nat) :
    elem 8 (vLow (vPlace v e.off e.len (m.load e.addr e.len)) len) b =
      if e.off ≤ b ∧ b < e.off + e.len then (m.byte (e.addr + (b - e.off))).toNat else if b < len then elem 8 v b else 0 := by
  have hx : (BitVec.ofNat 4096 (m.load e.addr e.len)).toNat = m.load e.addr e.len := m.toNat_ofNat_load e.addr (by omega)
  have h := elem_vLow_vPlace v (BitVec.ofNat 4096 (m.load e.addr e.len)) he hl b
  rw [hx] at h
  rw [h]
  by_cases hb : e.off ≤ b ∧ b < e.off + e.len
  · rw [if_pos hb, if_pos hb, elem, hx, Nat.pow_mul]
    exact m.load_byte e.addr (by omega)
  · rw [if_neg hb, if_neg hb]

variable {l : List El} (hfit : ∀ e ∈ l, e.off + e.len ≤ len)
include hfit

/-- A byte below the length that no run covers keeps its value. -/
theorem elem_runsInto_out {b : Nat} (hb : b < len) (h : ∀ e ∈ l, b < e.off ∨ e.off + e.len ≤ b) (v : VWord) :
    elem 8 (runsInto m len l v) b = elem 8 v b := by
  induction l generalizing v with
  | nil => rfl
  | cons e l ih =>
    rw [runsInto, ih (fun x hx => hfit x (List.mem_cons_of_mem _ hx)) (fun x hx => h x (List.mem_cons_of_mem _ hx)),
      elem_run hl v (hfit e List.mem_cons_self), if_neg, if_pos hb]
    have := h e List.mem_cons_self
    omega
/-- Each byte at or above the length is cleared by the first run, and stays so. -/
theorem elem_runsInto_above {b : Nat} (hb : len ≤ b) {v : VWord} (h : l ≠ [] ∨ elem 8 v b = 0) : elem 8 (runsInto m len l v) b = 0 := by
  induction l generalizing v with
  | nil => exact h.resolve_left fun hn => hn rfl
  | cons e l ih =>
    refine ih (fun x hx => hfit x (List.mem_cons_of_mem _ hx)) (.inr ?_)
    have he := hfit e List.mem_cons_self
    rw [elem_run hl v he, if_neg (by omega), if_neg (Nat.not_lt.2 hb)]
/-- A byte that a run covers is that of memory, as the runs do not overlap. -/
theorem elem_runsInto_in (hp : l.Pairwise fun e f => e.off + e.len ≤ f.off ∨ f.off + f.len ≤ e.off) {e : El} (he : e ∈ l) {b : Nat}
    (h1 : e.off ≤ b) (h2 : b < e.off + e.len) (v : VWord) : elem 8 (runsInto m len l v) b = (m.byte (e.addr + (b - e.off))).toNat := by
  induction l generalizing v with
  | nil => exact nomatch he
  | cons f l ih =>
    obtain ⟨hf, hp⟩ := List.pairwise_cons.1 hp
    have hfit' := fun x hx => hfit x (List.mem_cons_of_mem f hx)
    rcases List.mem_cons.1 he with rfl | he
    · have hen := hfit e List.mem_cons_self
      rw [runsInto, elem_runsInto_out hl hfit' (by omega) (fun x hx => by have := hf x hx; omega), elem_run hl v hen, if_pos ⟨h1, h2⟩]
    · exact ih hfit' hp he _

end

namespace State

/-- One run of a vector load (R31, R108, R159). -/
def loadRun (s : State) (key id : Nat) (base : Word) (d : VReg) (len : Nat) (e : El) : State :=
  let s1 := s.modThread key fun t => t.fillV d (vLow (vPlace (t.getV d) e.off e.len ((s.core (key / 4)).mem.bytes.load e.addr e.len)) len)
  if poisoned (s.core (key / 4)).mem.pois e.addr e.len = true then s1.ownPoison key id base e.addr else s1

section
variable (s : State) (key id : Nat) (base : Word) (d : VReg) (len : Nat)

theorem loadRuns_cons (e : El) (l : List El) :
    s.loadRuns key id base d len (e :: l) = (s.loadRun key id base d len e).loadRuns key id base d len l := rfl
theorem core_loadRun (e : El) (c : Nat) : (s.loadRun key id base d len e).core c = s.core c := core_ownPoison_if _ _ _ _ _ _ c
/-- What a run leaves in its thread. -/
theorem files_loadRun (e : El) : ((s.loadRun key id base d len e).thread key).ctl = (s.thread key).ctl ∧
    ((s.loadRun key id base d len e).thread key).regs =
      ((s.thread key).fillV d (vLow (vPlace ((s.thread key).getV d) e.off e.len ((s.core (key / 4)).mem.bytes.load e.addr e.len)) len)).regs := by
  obtain ⟨hregs, hctl⟩ := files_ownPoison_if
    (s.modThread key fun t => t.fillV d (vLow (vPlace (t.getV d) e.off e.len ((s.core (key / 4)).mem.bytes.load e.addr e.len)) len)) key id base e.addr
    (poisoned (s.core (key / 4)).mem.pois e.addr e.len) key
  rw [thread_modThread_same] at hregs hctl
  exact ⟨hctl.trans (Thread.fillV_ctl ..), hregs⟩

/-- What the runs of a vector load leave: of the memories and registers, the destination below the allotment (R108). -/
theorem loadRuns_spec (l : List El) :
    (∀ c, (s.loadRuns key id base d len l).core c = s.core c) ∧
    (∀ r, ((s.loadRuns key id base d len l).thread key).getV r = if r = d ∧ d.toNat < (s.thread key).ctl.vallot.toNat then
      runsInto (s.core (key / 4)).mem.bytes len l ((s.thread key).getV d) else (s.thread key).getV r) ∧
    ((s.loadRuns key id base d len l).thread key).regs.x = (s.thread key).regs.x := by
  induction l generalizing s with
  | nil =>
    refine ⟨fun _ => rfl, fun r => ?_, rfl⟩
    split
    next h => rw [h.1]; rfl
    next => rfl
  | cons e l ih =>
    obtain ⟨hctl, hregs⟩ := s.files_loadRun key id base d len e
    obtain ⟨icore, iget, ix⟩ := ih (s.loadRun key id base d len e)
    rw [loadRuns_cons]
    refine ⟨fun c => (icore c).trans (s.core_loadRun ..), fun r => (iget r).trans ?_, ix.trans (by rw [hregs, Thread.fillV_regs_x])⟩
    rw [core_loadRun, hctl, Thread.getV_congr hregs, Thread.getV_congr hregs, Thread.getV_fillV, Thread.getV_fillV, runsInto]
    by_cases hd : d.toNat < (s.thread key).ctl.vallot.toNat
    · by_cases hr : r = d
      · rw [if_pos ⟨hr, hd⟩, if_pos ⟨rfl, hd⟩, if_pos ⟨hr, hd⟩]
      · rw [if_neg fun h => hr h.1, if_neg fun h => hr h.1, if_neg fun h => hr h.1]
    · rw [if_neg fun h => hd h.2, if_neg fun h => hd h.2, if_neg fun h => hd h.2]

end

end State

theorem ownVectorLoad : Part.OwnVectorLoad := by
  intro s site thr k a d len hn ho hw hh hl hne hfit hp key m
  have hs : key / 4 = site := State.key_div site thr
  obtain ⟨core, getV, x⟩ := s.loadRuns_spec key a.id a.base d len a.els
  have happly : s.applyOwn key a = s.loadRuns key a.id a.base d len a.els := by simp only [State.applyOwn, ho]
  rw [← happly] at core getV x
  obtain ⟨e, l, he⟩ := List.exists_cons_of_ne_nil hne
  obtain ⟨t, ht, hcore, hregs⟩ := State.accessComplete_performs hn hw hh (Access.ready_of_op ho nofun nofun _) he
    (.inl (congrArg (fun c : Core => c.mem.full e.addr) (core site)))
  have get : ∀ r, (t.thread key).getV r = _ := fun r => (Thread.getV_congr (hregs key) r).trans (getV r)
  rw [hs] at get
  refine ⟨t, ht, fun hd b _ => ⟨fun f hf h1 h2 => ?_, fun hout => ?_⟩, fun hd => ?_, fun r hr => ?_, (congrArg Regs.x (hregs key)).trans x,
    fun c x => by rw [hcore, core]⟩
  · rw [get, if_pos ⟨rfl, hd⟩]
    exact elem_runsInto_in hl hfit hp hf h1 h2 _
  · rw [get, if_pos ⟨rfl, hd⟩]
    split
    next hb => exact elem_runsInto_out hl hfit hb hout _
    next hb => exact elem_runsInto_above hl hfit (Nat.not_lt.1 hb) (.inl hne)
  · rw [get, if_neg fun h => hd h.2]
  · rw [get, if_neg fun h => hr h.1]

end Sys2Proof.Machine
end

section
/-! ### Atomics and full-empty accesses of own memory, performed or waiting (R163 to R165, R168, R169) -/

namespace Sys2Proof.Machine

/-- A full-empty bit that was set reads so (R163). -/
theorem LocalMem.full_setFull (m : LocalMem) (x : Nat) (b : Bool) : (m.setFull x b).full x = b := Map.get_set_same ..

namespace State

section
variable {s : State} {site key : Nat} {a : Access} {e : El} (hk : key / 4 = site)
include hk

theorem applyOwn_atomic {d : XReg} {op : BitVec 4} {o cmp : Word} (ho : a.op = .atomic d op o cmp) (he : a.els = [e])
    (hp : poisoned (s.core site).mem.pois e.addr (atomicLen op) = false) : s.applyOwn key a =
    (s.locStore site e.addr (atomicLen op) (atomicNew op ((s.core site).mem.bytes.load e.addr (atomicLen op)) o cmp) false).modThread key fun t =>
      t.putX d (BitVec.ofNat 64 ((s.core site).mem.bytes.load e.addr (atomicLen op))) := by
  simp only [applyOwn, ho, he, LocalMem.read, hk, hp, Bool.false_eq_true, if_false]
theorem applyOwn_ldfe {d : XReg} {mode : BitVec 2} (ho : a.op = .ldfe d mode) (he : a.els = [e]) (hm : mode ≠ 3)
    (hp : poisoned (s.core site).mem.pois e.addr 8 = false) : s.applyOwn key a =
    (s.modMem site fun m => m.setFull e.addr (ldfeBit mode ((s.core site).mem.full e.addr))).modThread key fun t =>
      t.putX d (BitVec.ofNat 64 ((s.core site).mem.bytes.load e.addr 8)) := by
  simp only [applyOwn, ho, he, LocalMem.read, hk, hp, if_neg hm, Bool.false_eq_true, if_false]
theorem applyOwn_ldfe_bit {d : XReg} (ho : a.op = .ldfe d 3) (he : a.els = [e]) : s.applyOwn key a =
    s.modThread key fun t => t.putX d (if (s.core site).mem.full e.addr = true then 1 else 0) := by
  simp only [applyOwn, ho, he, hk, if_true]
theorem applyOwn_stfe {data : Word} {mode : BitVec 2} (ho : a.op = .stfe data mode) (he : a.els = [e]) : s.applyOwn key a =
    (if mode = 2 then s else s.locStore site e.addr 8 data.toNat false).modMem site fun m => m.setFull e.addr (stfeBit mode) := by
  simp only [applyOwn, ho, he, hk]

end

end State

theorem ownAtomic : Part.OwnAtomic := by
  intro s site thr k a d op o cmp e hn ho he hw hh m n hp
  have hlen : atomicLen op = n := atomicF32_ite op 4 8
  have happly := State.applyOwn_atomic (s := s) (State.key_div site thr) ho he (hlen.symm ▸ hp)
  rw [hlen] at happly
  have core : (s.applyOwn (4 * site + thr % 4) a).core site = _ :=
    (congrArg (State.core · site) happly).trans ((State.core_locStore ..).trans (if_pos rfl))
  obtain ⟨t, ht, hcore, hregs⟩ := State.accessComplete_performs hn hw hh (Access.ready_of_op ho nofun nofun _) he (.inl (by rw [core]; rfl))
  rw [happly] at hregs
  exact ⟨t, ht, State.getX_of_putX (hregs _), by rw [hcore, core]; rfl⟩

/-! The condition of a full-empty access, by its mode and the bit (R164). -/

theorem Access.ready_ldfe {a : Access} {d : XReg} {mode : BitVec 2} {e : El} {l : List El} (ho : a.op = .ldfe d mode) (he : a.els = e :: l)
    (m : LocalMem) : a.ready m = ldfeReady mode (m.full e.addr) := by rw [ready, ho, he]
theorem Access.ready_stfe {a : Access} {data : Word} {mode : BitVec 2} {e : El} {l : List El} (ho : a.op = .stfe data mode) (he : a.els = e :: l)
    (m : LocalMem) : a.ready m = stfeReady mode (m.full e.addr) := by rw [ready, ho, he]
theorem ldfeReady_eq : ∀ (mode : BitVec 2) (b : Bool), ldfeReady mode b = !decide ((mode = 1 ∨ mode = 2) ∧ b = false) := by decide
theorem stfeReady_eq : ∀ (mode : BitVec 2) (b : Bool), stfeReady mode b = !decide ((mode = 1 ∧ b = true) ∨ (mode = 3 ∧ b = false)) := by decide
theorem stfeBit_eq : ∀ mode : BitVec 2, stfeBit mode = if mode = 2 then false else true := by decide

section
variable {s : State} {site thr k : Nat} {a : Access} {e : El} (hn : s.nextOwn (4 * site + thr % 4) k = some a) (hw : a.waiting = false)
  (hh : a.holdTo = 0) (he : a.els = [e])
include hn hw hh he

/-- LDFE of a word in modes 0 to 2 (R164). -/
theorem ldfe_performs {d : XReg} {mode : BitVec 2} (ho : a.op = .ldfe d mode) (hm : mode ≠ 3) (hq : (s.core site).mem.retry = [])
    (hr : ldfeReady mode ((s.core site).mem.full e.addr) = true) (hp : poisoned (s.core site).mem.pois e.addr 8 = false) :
    ∃ t, exec (.accessComplete site thr k) s = .next t ∧
      (t.core site).mem = (s.core site).mem.setFull e.addr (ldfeBit mode ((s.core site).mem.full e.addr)) ∧
      (d ≠ 0 → (t.thread (4 * site + thr % 4)).getX d = BitVec.ofNat 64 ((s.core site).mem.bytes.load e.addr 8)) := by
  have happly := State.applyOwn_ldfe (s := s) (State.key_div site thr) ho he hm hp
  have core : ((s.applyOwn (4 * site + thr % 4) a).core site).mem =
      (s.core site).mem.setFull e.addr (ldfeBit mode ((s.core site).mem.full e.addr)) := by
    rw [happly, State.core_modThread, State.modMem, State.core_modCore_same]
  obtain ⟨t, ht, hcore, hregs⟩ := State.accessComplete_performs hn hw hh ((Access.ready_ldfe ho he _).trans hr) he (.inr (by rw [core]; exact hq))
  rw [happly] at hregs
  exact ⟨t, ht, by rw [hcore, core], State.getX_of_putX (hregs _)⟩
/-- LDFE of the bit, mode 3 (R164). -/
theorem ldfe_reads_bit {d : XReg} (ho : a.op = .ldfe d 3) : ∃ t, exec (.accessComplete site thr k) s = .next t ∧ t.core site = s.core site ∧
    (d ≠ 0 → (t.thread (4 * site + thr % 4)).getX d = if (s.core site).mem.full e.addr = true then 1 else 0) := by
  have happly := State.applyOwn_ldfe_bit (s := s) (State.key_div site thr) ho he
  have core : (s.applyOwn (4 * site + thr % 4) a).core site = s.core site := by rw [happly]; rfl
  obtain ⟨t, ht, hcore, hregs⟩ := State.accessComplete_performs hn hw hh (Access.ready_ldfe ho he _) he (.inl (by rw [core]))
  rw [happly] at hregs
  exact ⟨t, ht, by rw [hcore, core], State.getX_of_putX (hregs _)⟩
/-- STFE writes the word, but in mode 2, and its bit (R164). -/
theorem stfe_performs {data : Word} {mode : BitVec 2} (ho : a.op = .stfe data mode) (hq : (s.core site).mem.retry = [])
    (hr : stfeReady mode ((s.core site).mem.full e.addr) = true) :
    ∃ t, exec (.accessComplete site thr k) s = .next t ∧
      (t.core site).mem = (if mode = 2 then (s.core site).mem else (s.core site).mem.write e.addr 8 data.toNat false).setFull e.addr (stfeBit mode) := by
  have happly := State.applyOwn_stfe (s := s) (State.key_div site thr) ho he
  have core : ((s.applyOwn (4 * site + thr % 4) a).core site).mem =
      (if mode = 2 then (s.core site).mem else (s.core site).mem.write e.addr 8 data.toNat false).setFull e.addr (stfeBit mode) := by
    rw [happly, State.modMem, State.core_modCore_same]
    split
    · rfl
    · rw [State.core_locStore, if_pos rfl]
  obtain ⟨t, ht, hcore, -⟩ := State.accessComplete_performs hn hw hh ((Access.ready_stfe ho he _).trans hr) he
    (.inr (by rw [core]; split <;> exact hq))
  exact ⟨t, ht, by rw [hcore, core]⟩

end

theorem ownFullEmpty : Part.OwnFullEmpty := by
  intro s site thr k a e hn he hw hh hq m full
  refine ⟨fun d mode ho hm hc hp => ?_, fun d ho => ?_, fun data mode ho h1 h3 => ?_, fun d mode ho hm hf => ?_, fun data mode ho hm => ?_⟩
  · have hr : ldfeReady mode full = true := by
      rw [ldfeReady_eq, Bool.not_eq_true', decide_eq_false_iff_not]
      rintro ⟨hm, hb⟩
      rcases hc with rfl | hc
      · exact absurd hm (by decide)
      · exact Bool.false_ne_true (hb.symm.trans hc)
    obtain ⟨t, ht, hmem, hget⟩ := ldfe_performs hn hw hh he ho hm hq hr hp
    exact ⟨t, ht, by rw [hmem, LocalMem.full_setFull]; rfl, hget, by rw [hmem]; rfl⟩
  · obtain ⟨t, ht, hcore, hget⟩ := ldfe_reads_bit hn hw hh he ho
    exact ⟨t, ht, by rw [hcore], hget, by rw [hcore]⟩
  · have hr : stfeReady mode full = true := by
      rw [stfeReady_eq, Bool.not_eq_true', decide_eq_false_iff_not]
      rintro (⟨hm, hb⟩ | ⟨hm, hb⟩)
      · exact Bool.false_ne_true ((h1 hm).symm.trans hb)
      · exact Bool.false_ne_true (hb.symm.trans (h3 hm))
    obtain ⟨t, ht, hmem⟩ := stfe_performs hn hw hh he ho hq hr
    refine ⟨t, ht, by rw [hmem, LocalMem.full_setFull, stfeBit_eq], ?_⟩
    rw [hmem]
    split <;> rfl
  · have hr : a.ready m = false := by
      rw [Access.ready_ldfe ho he, ldfeReady_eq, Bool.not_eq_false', decide_eq_true_iff]
      exact ⟨hm, hf⟩
    obtain ⟨t, ht, hmem⟩ := State.accessComplete_waits hn hw hh hr hq
    exact ⟨t, ht, by rw [hmem], by rw [hmem]⟩
  · have hr : a.ready m = false := by
      rw [Access.ready_stfe ho he, stfeReady_eq, Bool.not_eq_false', decide_eq_true_iff]
      exact hm
    obtain ⟨t, ht, hmem⟩ := State.accessComplete_waits hn hw hh hr hq
    exact ⟨t, ht, by rw [hmem], by rw [hmem], by rw [hmem]; rfl⟩

/-- Settles O16: what an access does to memory and registers when it is performed is what ACCESS_COMPLETE leaves, or it waits by its condition. -/
theorem ownAccesses : Obligations.OwnAccesses := ⟨ownLoad, ownVectorLoad, ownStore, ownAtomic, ownFullEmpty⟩

end Sys2Proof.Machine
end

section
/-! ### The masked write, and elements read back (R22, R118) -/

namespace Sys2Proof.Machine

/-- An element of a packed register, read back. -/
theorem packFn_elem (w : Nat) (f : Nat → Nat) {n k : Nat} (hk : k < n) : packFn w n f / 2 ^ (w * k) % 2 ^ w = f k % 2 ^ w := by
  induction n with
  | zero => omega
  | succ n ih =>
    rw [packFn]
    by_cases hn : k = n
    · subst hn
      rw [Nat.add_mul_div_right _ _ (Nat.two_pow_pos _), Nat.div_eq_of_lt (packFn_lt w k f), Nat.zero_add, Nat.mod_mod]
    · have hw : 2 ^ (w * n) = 2 ^ (w * (n - k - 1)) * 2 ^ w * 2 ^ (w * k) := by
        rw [← Nat.pow_add, ← Nat.pow_add, ← Nat.mul_succ, ← Nat.mul_add, show (n - k - 1).succ + k = n by omega]
      rw [hw, ← Nat.mul_assoc, Nat.add_mul_div_right _ _ (Nat.two_pow_pos _), ← Nat.mul_assoc, Nat.add_mul_mod_self_right, ih (by omega)]
/-- The elements of a width fill at most a register (R118). -/
theorem mul_lanes_le (w : Nat) : w * lanes w ≤ 4096 := Nat.mul_div_le 4096 w
/-- Packed elements fit a word that holds them all. -/
theorem toNat_ofNat_packFn {w n m : Nat} (f : Nat → Nat) (h : w * n ≤ m) : (BitVec.ofNat m (packFn w n f)).toNat = packFn w n f := by
  rw [BitVec.toNat_ofNat, Nat.mod_eq_of_lt (Nat.lt_of_lt_of_le (packFn_lt w n f) (Nat.pow_le_pow_right Nat.two_pos h))]
theorem elem_vOf {w n k : Nat} (f : Nat → Nat) (hn : w * n ≤ 4096) (hk : k < n) : elem w (vOf w n f) k = f k % 2 ^ w := by
  rw [elem, vOf, toNat_ofNat_packFn f hn, packFn_elem w f hk]
theorem elem_mod (w : Nat) (v : VWord) (k : Nat) : elem w v k % 2 ^ w = elem w v k := Nat.mod_mod _ _

/-- A masked write of one register: the register as a whole, and the flags (R118). -/
theorem State.vWrite_one (u : State) (d : VReg) (w n mw : Nat) (mk : MReg) (f : Nat → Nat × FFlags) : u.vWrite d w 1 n mw mk f =
    (u.wv d (vOf w n fun k => if mBit (u.rm mk) mw k then (f k).1 else elem w (u.rv d) k)).wflags (orFlags n (mBit (u.rm mk) mw) fun k => (f k).2) := by
  simp only [vWrite, List.range_one, List.foldl_cons, List.foldl_nil, grpReg, BitVec.add_zero, Nat.div_one, Nat.mul_one, Nat.add_zero]
theorem State.vWrite_one_cur (u : State) (d : VReg) (w n mw : Nat) (mk : MReg) (f : Nat → Nat × FFlags) : (u.vWrite d w 1 n mw mk f).cur =
    (u.cur.setV d (vOf w n fun k => if mBit (u.rm mk) mw k then (f k).1 else elem w (u.rv d) k)).flag (orFlags n (mBit (u.rm mk) mw) fun k => (f k).2) := by
  rw [vWrite_one, wflags, cur_modCur, wv, cur_modCur]

/-- Settles O3: the destination's elements as they were packed, any other register by what a register write leaves. -/
theorem maskedWrite : Obligations.MaskedWrite := by
  intro u d r ty mk f k hk v
  have hv : v.cur = _ := u.vWrite_one_cur d ty.width (lanes ty.width) ty.width mk f
  rw [hv]
  refine ⟨?_, fun hr => ?_, rfl, rfl, rfl⟩
  · rw [Thread.getV_congr (Thread.flag_regs _ _), Thread.getV_setV_same, elem_vOf _ (mul_lanes_le ty.width) hk]
    split
    · rfl
    · exact elem_mod ..
  · rw [Thread.getV_congr (Thread.flag_regs _ _), Thread.getV_setV, if_neg hr]

end Sys2Proof.Machine
end

section
/-! ### Elementwise vector instructions, moves and single elements (R118, R120 to R123, R130, R132) -/

namespace Sys2Proof.Machine

section
variable {i : Instr} {d s t : VReg} {ty : Ty} {mk : MReg}

/-! The two shared forms: element k of each source to element k of the destination. -/

theorem elementwise_vOp2 {f : State → Nat → Nat → Nat × FFlags} {g : State → Nat → Nat × FFlags} (h : ∀ x, exec i x = vOp2 i d s t ty mk f x)
    (hg : ∀ u k, f u (u.el ty s k) (u.el ty t k) = g u k) : Elementwise i d ty mk g :=
  does_of h fun u => congrArg (fun e => SlotRes.done (u.vWrite d ty.width 1 (lanes ty.width) ty.width mk e)) (funext (hg u))
theorem elementwise_vOp1 {f : State → Nat → Nat × FFlags} {g : State → Nat → Nat × FFlags} (h : ∀ x, exec i x = vOp1 i d s ty mk f x)
    (hg : ∀ u k, f u (u.el ty s k) = g u k) : Elementwise i d ty mk g :=
  does_of h fun u => congrArg (fun e => SlotRes.done (u.vWrite d ty.width 1 (lanes ty.width) ty.width mk e)) (funext (hg u))

end

/-! Minimum and maximum of two elements (R76): the first source's where the two are equal. -/

theorem minMax_min (ty : Ty) (fl : BitVec 2) (ftz : Bool) (a b : Nat) : minMax ty fl ftz false a b =
    if ty.isFloat then fMinMax (fmtOf ty) ftz false a b
    else (if readInt ty.width (flU fl) b < readInt ty.width (flU fl) a then b else a, 0) := by
  simp only [minMax, noFlag, Bool.false_eq_true, if_false, decide_eq_true_eq]
theorem minMax_max (ty : Ty) (fl : BitVec 2) (ftz : Bool) (a b : Nat) : minMax ty fl ftz true a b =
    if ty.isFloat then fMinMax (fmtOf ty) ftz true a b
    else (if readInt ty.width (flU fl) a < readInt ty.width (flU fl) b then b else a, 0) := by
  simp only [minMax, noFlag, if_true, decide_eq_true_eq]

/-- Each is one of the two shared forms, its function as R120 has it. -/
theorem vectorArithmetic : Part.VectorArithmetic := by
  intro d s t ty mk fl un sat w int2 fmt
  exact ⟨elementwise_vOp2 (exec_vadd d s t ty mk fl) fun _ _ => rfl, elementwise_vOp2 (exec_vsub d s t ty mk fl) fun _ _ => rfl,
    elementwise_vOp2 (exec_vmul d s t ty mk fl) fun _ _ => rfl, elementwise_vOp2 (exec_vmin d s t ty mk fl) fun _ _ => minMax_min ..,
    elementwise_vOp2 (exec_vmax d s t ty mk fl) fun _ _ => minMax_max .., elementwise_vOp2 (exec_vand d s t ty mk fl) fun _ _ => rfl,
    elementwise_vOp2 (exec_vor d s t ty mk fl) fun _ _ => rfl, elementwise_vOp2 (exec_vxor d s t ty mk fl) fun _ _ => rfl,
    elementwise_vOp2 (exec_vsll d s t ty mk fl) fun _ _ => rfl, elementwise_vOp2 (exec_vsrl d s t ty mk fl) fun _ _ => rfl,
    elementwise_vOp2 (exec_vsra d s t ty mk fl) fun _ _ => rfl, elementwise_vOp1 (exec_vabs d s ty mk fl) fun _ _ => rfl,
    elementwise_vOp1 (exec_vneg d s ty mk fl) fun _ _ => rfl⟩

/-- Each has the slot that its rule gives it; VMOV is the shared form of one source. -/
theorem vectorMoves : Part.VectorMoves := by
  intro d s t v x ty mk fl p cent w
  exact ⟨does_of (exec_vma d s t v ty) fun _ => rfl, elementwise_vOp1 (exec_vmov d s ty mk) fun _ _ => rfl,
    does_of (exec_vbcast d x ty mk) fun _ => rfl, does_of (exec_vperm d s t ty mk) fun _ => rfl, does_of (exec_vslide d s x ty mk) fun _ => rfl,
    does_of (exec_vunplane d s p cent mk) fun _ => rfl, does_of (exec_vdot4 d s t mk fl) fun _ => rfl,
    does_of (exec_vsel d s t ty mk) fun _ => rfl, does_of (exec_vplane d s) fun _ => rfl, fun y => does_of (exec_vrand d x y) fun _ => rfl⟩

/-- VINS and VEXT go by one test: the index lies within the elements. -/
theorem vectorIndex : Part.VectorIndex := by
  intro v x y ty un w
  exact ⟨doesIf_of (exec_vins v x y ty) fun _ h => if_neg (Nat.not_le.2 h), traps_of (exec_vins v x y ty) fun _ h => if_pos h,
    doesIf_of (exec_vext x v y ty un) fun _ h => if_neg (Nat.not_le.2 h), traps_of (exec_vext x v y ty un) fun _ h => if_pos h⟩

/-- Settles O4: the shared forms of one and two sources, the moves by their slots, the indexed element by its test. -/
theorem vectorElements : Obligations.VectorElements := ⟨vectorArithmetic, vectorMoves, vectorIndex⟩

end Sys2Proof.Machine
end

section
/-! ### Vector instructions that change the width (R124 to R128) -/

namespace Sys2Proof.Machine

/-- The test of an aligned group (R124). -/
theorem grpOk_iff (r : VReg) (n : Nat) : grpOk r n = true ↔ r.toNat % n = 0 := beq_iff_eq

section
variable {i : Instr} {d s t : VReg} {ty : Ty} {mk : MReg} {f : State → Nat → Nat → Nat → Nat × FFlags}
  (h : ∀ x, exec i x = vWiden i d s t ty mk f x)
include h

/-! A widening instruction writes the pair at d, and raises OPERAND where the pair is not aligned (R125). -/

theorem doesIf_vWiden {g : State → Nat → Nat × FFlags} (hg : ∀ u k, f u (u.gElem (2 * ty.width) 2 d k) (u.el ty s k) (u.el ty t k) = g u k) :
    DoesIf i (fun _ => d.toNat % 2 = 0) fun u => u.vWrite d (2 * ty.width) 2 (lanes ty.width) ty.width mk (g u) :=
  doesIf_of h fun u hd => (if_pos ((grpOk_iff d 2).2 hd)).trans
    (congrArg (fun e => SlotRes.done (u.vWrite d (2 * ty.width) 2 (lanes ty.width) ty.width mk e)) (funext (hg u)))
theorem traps_vWiden : Traps i (fun _ => d.toNat % 2 ≠ 0) .operand fun u => u.ctx.word.setWidth 64 :=
  traps_of h fun _ hd => if_neg fun hg => hd ((grpOk_iff d 2).1 hg)

end

/-- Both groups of VCVT are aligned (R127). -/
theorem grpOk_both (s d : VReg) (a b : Nat) : (grpOk s a && grpOk d b) = true ↔ s.toNat % a = 0 ∧ d.toNat % b = 0 := by
  rw [Bool.and_eq_true, grpOk_iff, grpOk_iff]

/-- Settles O5: the shared form of the widening instructions, and the others, by the alignment of their groups. -/
theorem vectorWidths : Obligations.VectorWidths := by
  intro d s t x ty sty dty mk fl un du ds w c word
  refine ⟨doesIf_vWiden (exec_vwadd d s t ty mk fl) fun _ _ => rfl, doesIf_vWiden (exec_vwmul d s t ty mk fl) fun _ _ => rfl,
    doesIf_vWiden (exec_vwma d s t ty mk fl) fun _ _ => rfl, doesIf_of (exec_vnarrow d s ty mk fl) fun _ h => if_pos ((grpOk_iff s 2).2 h),
    doesIf_of (exec_vcvt d s sty fl dty du ds mk) fun _ h => if_pos ((grpOk_both ..).2 h),
    doesIf_of (exec_vquant d s x ty mk un) fun _ h => if_pos ((grpOk_iff ..).2 h), traps_vWiden (exec_vwadd d s t ty mk fl),
    traps_vWiden (exec_vwmul d s t ty mk fl), traps_vWiden (exec_vwma d s t ty mk fl),
    traps_of (exec_vnarrow d s ty mk fl) fun _ h => if_neg fun hg => h ((grpOk_iff s 2).1 hg),
    traps_of (exec_vcvt d s sty fl dty du ds mk) fun _ h => if_neg fun hg => ?_,
    traps_of (exec_vquant d s x ty mk un) fun _ h => if_neg fun hg => h ((grpOk_iff ..).1 hg)⟩
  obtain ⟨hs, hd⟩ := (grpOk_both ..).1 hg
  exact h.elim (· hs) (· hd)

end Sys2Proof.Machine
end

section
/-! ### Comparisons into masks, reductions and mask instructions (R122, R131, R137) -/

namespace Sys2Proof.Machine

/-- A reduction takes the float elements or the integers of its source (R131). -/
theorem does_reduce {i : Instr} {c : Bool} {f g : State → State} (h : ∀ x, exec i x = slot i (fun u => if c then .done (f u) else .done (g u)) x) :
    Does i fun u => if c then f u else g u :=
  does_of h fun _ => (apply_ite SlotRes.done _ _ _).symm

/-- Settles O6: each by its slot; a count as the length, and a first element as the head, of the elements whose bit is 1. -/
theorem masksAndReductions : Obligations.MasksAndReductions := by
  intro md ms mt s t d x cond ty fl un w on
  refine ⟨does_of (exec_vcmp md s t cond ty un) fun _ => rfl, does_reduce (exec_vrsum d s ty ms fl), does_reduce (exec_vrmax d s ty ms fl),
    does_of (exec_mand md ms mt) fun _ => rfl, does_of (exec_mor md ms mt) fun _ => rfl, does_of (exec_mxor md ms mt) fun _ => rfl,
    does_of (exec_mnot md ms) fun _ => rfl, does_of (exec_mpop d ms ty) fun u => ?_, does_of (exec_mfirst d ms ty) fun u => ?_,
    does_of (exec_mfromx md x ty) fun _ => rfl⟩
  · rw [List.countP_eq_length_filter]
  · rw [← List.head?_filter]; rfl

end Sys2Proof.Machine
end

section
/-! ### Memory-to-memory instructions at their issue (R35, R138) -/

namespace Sys2Proof.Machine

/-- A block of 512 bytes passes the checks of R138, with the permissions that `ok` asks for. -/
structure MmBlockOk (r : ARegV) (ok : Byte → Bool) : Prop where
  aligned : r.ptr.toNat % 128 = 0
  bounded : boundOk r r.ptr.toNat 512 = true
  isLocal : windowOf r.ptr.toNat = 0
  inWindow : windowOk r.ptr.toNat 512 = true
  permits : ok r.perm = true

/-- Where the three blocks pass, no cause is found (R35). -/
theorem mmFault_none {d a b : ARegV} {ok : Byte → Bool} (hd : MmBlockOk d ok) (ha : MmBlockOk a permR) (hb : MmBlockOk b permR) :
    mmFault [(d, ok), (a, permR), (b, permR)] = none := by
  simp [mmFault, hd.aligned, ha.aligned, hb.aligned, hd.bounded, ha.bounded, hb.bounded, hd.isLocal, ha.isLocal, hb.isLocal, hd.inWindow, ha.inWindow,
    hb.inWindow, hd.permits, ha.permits, hb.permits]

/-- Three registers written, distinct or not, each with a value of its own. -/
theorem Thread.getA_setA_three (t : Thread) (g : AReg → ARegV) (d a b r : AReg) :
    (((t.setA d (g d)).setA a (g a)).setA b (g b)).getA r = if r = d ∨ r = a ∨ r = b then g r else t.getA r := by
  rw [getA_setA, getA_setA, getA_setA]
  by_cases hb : r = b
  · rw [if_pos hb, if_pos (.inr (.inr hb)), hb]
  · by_cases ha : r = a
    · rw [if_neg hb, if_pos ha, if_pos (.inr (.inl ha)), ha]
    · by_cases hd : r = d
      · rw [if_neg hb, if_neg ha, if_pos hd, if_pos (.inl hd), hd]
      · rw [if_neg hb, if_neg ha, if_neg hd, if_neg (by rintro (h | h | h) <;> contradiction)]

namespace State

/-- What memory-to-memory work at its issue is told by: the queue of its core, local memory, the issuing thread. -/
def mmView (s : State) : List MmOp × LocalMem × Thread := (s.myCore.mm, s.myCore.mem, s.cur)

theorem mmView_wa (s : State) (r : AReg) (v : ARegV) : (s.wa r v).mmView = (s.mmView.1, s.mmView.2.1, s.mmView.2.2.setA r v) := by
  rw [mmView, wa, cur_modCur]; rfl
/-- An operation joins the queue. -/
theorem mmView_queue (s : State) (o : MmOp) : (s.modMyCore fun c => { c with mm := c.mm ++ [o] }).mmView =
    (s.mmView.1 ++ [o], s.mmView.2.1, s.mmView.2.2) := by
  rw [mmView, modMyCore]
  show (((s.modCore s.site _).core s.site).mm, ((s.modCore s.site _).core s.site).mem, s.cur) = _
  rw [core_modCore_same]; rfl
/-- The watchpoint shows in the trace unit alone (R381). -/
theorem mmView_watch (s : State) (site e n : Nat) (wr : Bool) : (s.watch site e n wr).mmView = s.mmView := by
  have h : ∀ c, ((s.watch site e n wr).core c).mm = (s.core c).mm ∧ ((s.watch site e n wr).core c).mem = (s.core c).mem := fun c => by
    rw [watch, core_modCore]
    split
    next hs => subst hs; exact ⟨(apply_ite Core.mm _ _ _).trans (ite_self _), (apply_ite Core.mem _ _ _).trans (ite_self _)⟩
    next => exact ⟨rfl, rfl⟩
  show (((s.watch site e n wr).core s.site).mm, ((s.watch site e n wr).core s.site).mem, s.cur) = _
  rw [(h _).1, (h _).2]; rfl

end State

/-- The operation that an instruction enters: its blocks and its mode as they stand at issue (R138). -/
def State.mmOpOf (u : State) (i : Instr) (d a b : AReg) (fl : BitVec 2) : MmOp :=
  { key := u.ctx.key, id := u.nextId, instr := i, d := (u.ra d).ptr.toNat, s1 := (u.ra a).ptr.toNat, s2 := (u.ra b).ptr.toNat
    mode := (u.rctl fl).mode, ftz := (u.rctl fl).ftz }
/-- An address register moved on by one block. -/
def State.nextBlock (u : State) (r : AReg) : ARegV := { u.ra r with ptr := (u.ra r).ptr + 512 }

/-- A memory-to-memory instruction whose blocks pass their checks enters the queue of its core and moves its pointers on (R138). -/
theorem mmIssue_enters {i : Instr} {d a b : AReg} {dOk : Byte → Bool} {fl : BitVec 2} {s : State} (h : ∀ x, exec i x = mmIssue i d a b dOk fl x)
    (hc : Clear i s) (hd : MmBlockOk (s.entered.ra d) dOk) (ha : MmBlockOk (s.entered.ra a) permR) (hb : MmBlockOk (s.entered.ra b) permR)
    (hq : s.entered.acqPending = false) : ∃ v, exec i s = .next (s.finished v) ∧
      let u := s.entered
      v.mmView = (u.myCore.mm ++ [u.mmOpOf i d a b fl], u.myCore.mem,
        (((u.track i []).2.cur.setA d (u.nextBlock d)).setA a (u.nextBlock a)).setA b (u.nextBlock b)) := by
  rw [h]
  refine ⟨_, slot_done hc (by simp only [mmFault_none hd ha hb, hq, Bool.false_eq_true, if_false]; rfl), ?_⟩
  simp only [apply_ite State.mmView, State.mmView_watch, ite_self, State.mmView_wa, State.mmView_queue]
  rfl

/-- The six share their issue, and differ in the permissions of their destination and in their rounding. -/
theorem memoryToMemoryIssue : Part.MemoryToMemoryIssue := by
  intro d a b ty fl block ok enters f w
  have enter : ∀ {i : Instr} {wr : Byte → Prop} {dOk : Byte → Bool} {g : BitVec 2}, (∀ p, wr p → dOk p = true) →
      (∀ x, exec i x = mmIssue i d a b dOk g x) → enters i wr g := by
    rintro i wr dOk g hwr hi s hc ⟨⟨d1, d2, d3, d4⟩, ⟨a1, a2, a3, a4⟩, ⟨b1, b2, b3, b4⟩, hd, ha, hb, hq⟩
    obtain ⟨v, hv, hview⟩ := mmIssue_enters hi hc ⟨d1, d2, d3, d4, hwr _ hd⟩ ⟨a1, a2, a3, a4, ha⟩ ⟨b1, b2, b3, b4, hb⟩ hq
    obtain ⟨hmm, hmem, hcur⟩ : _ ∧ _ ∧ _ := by simpa only [State.mmView, Prod.mk.injEq] using hview
    obtain ⟨⟨hregs, -⟩, -⟩ := (State.frameOf_iff _).1 (s.entered.frameOf_track i [])
    refine ⟨v, hv, hmm, fun r => ?_, ?_, ?_, ?_, hmem⟩ <;> rw [hcur]
    · rw [Thread.getA_setA_three _ s.entered.nextBlock, Thread.getA, hregs]
      rfl
    · simp only [Thread.setA_regs_x, hregs]
    · simp only [Thread.setA_regs_v, hregs]
    · simp only [Thread.setA_regs_m, hregs]
  have hw : ∀ p, w p → permW p = true := fun _ h => h
  exact ⟨enter hw (exec_mmadd d a b ty fl), enter hw (exec_mmsub d a b ty fl), enter hw (exec_mmmul d a b ty fl),
    enter (fun p h => Bool.and_eq_true_iff.2 h) (exec_mmma d a b ty fl), enter hw (exec_mmmax d a b ty fl), enter hw (exec_mmcvt d a b ty fl)⟩

end Sys2Proof.Machine
end

section
/-! ### Memory-to-memory instructions at their completion (R139 to R141) -/

namespace Sys2Proof.Machine

/-- How many numbers n bytes hold. -/
theorem pow_bytes {n k : Nat} (h : 8 * n = k) : 256 ^ n = 2 ^ k := by
  rw [show (256 : Nat) = 2 ^ 8 from rfl, ← Nat.pow_mul, h]

/-- What one beat stores: the function of its instruction, of the lines as a memory holds them (R139). -/
def MmOp.line (o : MmOp) (m : Memory) (b : Nat) : Nat :=
  (mmLine o.instr ⟨o.mode, o.ftz⟩ (m.load (o.d + 128 * b) 128) (m.load (o.s1 + 128 * b) 128) (m.load (o.s2 + 128 * b) 128)).1

/-- A block at `p` is the destination's, or lies clear of it. -/
def MmOp.Apart (o : MmOp) (p : Nat) : Prop := p = o.d ∨ p + 512 ≤ o.d ∨ o.d + 512 ≤ p

section
variable {o : MmOp} {m n : Memory} {b c : Nat}

/-- A line of such a block is as it was, once another line of the destination was stored. -/
theorem MmOp.Apart.load_eq {p : Nat} (hp : o.Apart p) (hb : b < 4) (hc : c < 4) (hbc : b ≠ c)
    (h : ∀ x, x < o.d + 128 * b ∨ o.d + 128 * b + 128 ≤ x → n.byte x = m.byte x) : n.load (p + 128 * c) 128 = m.load (p + 128 * c) 128 :=
  Memory.load_congr _ _ fun x h1 h2 => h x (by unfold Apart at hp; omega)

theorem MmOp.line_eq (h1 : o.Apart o.s1) (h2 : o.Apart o.s2) (hb : b < 4) (hc : c < 4) (hbc : b ≠ c)
    (h : ∀ x, x < o.d + 128 * b ∨ o.d + 128 * b + 128 ≤ x → n.byte x = m.byte x) : o.line n c = o.line m c := by
  have hd : o.Apart o.d := .inl rfl
  rw [line, line, hd.load_eq hb hc hbc h, h1.load_eq hb hc hbc h, h2.load_eq hb hc hbc h]

end

namespace State

/-- One beat: poison that it finds is recorded, and its line is stored. -/
theorem mmBeats_succ (s : State) (site : Nat) (o : MmOp) (n b : Nat) (fl : FFlags) (pz : Option Nat) :
    ∃ (t : State) (p : Bool) (g : FFlags) (q : Option Nat), (∀ c, t.core c = s.core c) ∧ s.mmBeats site o (n + 1) b fl pz =
      (t.locStore site (o.d + 128 * b) 128 (o.line (s.core site).mem.bytes b) p).mmBeats site o n (b + 1) g q := by
  refine ⟨_, _, _, _, fun c => ?_, rfl⟩
  split
  · exact core_of_still (still_localPoison ..) c
  · rfl

/-- The beats from b on store a line each, change no other byte, and leave the queue of their core (R139, R141). -/
theorem mmBeats_spec {site : Nat} {o : MmOp} (h1 : o.Apart o.s1) (h2 : o.Apart o.s2) (n : Nat) :
    ∀ (s : State) (b : Nat) (fl : FFlags) (pz : Option Nat), b + n ≤ 4 →
      let m := (s.core site).mem.bytes
      let t := (s.mmBeats site o n b fl pz).1
      (t.core site).mm = (s.core site).mm ∧
      (∀ c, b ≤ c → c < b + n → (t.core site).mem.bytes.load (o.d + 128 * c) 128 = o.line m c % 256 ^ 128) ∧
      ∀ x, x < o.d + 128 * b ∨ o.d + 128 * (b + n) ≤ x → (t.core site).mem.bytes.byte x = m.byte x := by
  induction n with
  | zero => exact fun s b fl pz _ => ⟨rfl, fun c _ _ => by omega, fun _ _ => rfl⟩
  | succ n ih =>
    intro s b fl pz hb m
    obtain ⟨t, p, g, q, ht, hs⟩ := s.mmBeats_succ site o n b fl pz
    rw [hs]
    obtain ⟨hmm, hline, hout⟩ := ih (t.locStore site (o.d + 128 * b) 128 (o.line m b) p) (b + 1) g q (by omega)
    rw [core_locStore, if_pos rfl, ht] at hmm hline hout
    have hstore : ∀ x, x < o.d + 128 * b ∨ o.d + 128 * b + 128 ≤ x → (m.store (o.d + 128 * b) 128 (o.line m b)).byte x = m.byte x :=
      fun x hx => Memory.byte_store_out _ _ _ _ _ hx
    refine ⟨hmm, fun c hbc hcn => ?_, fun x hx => (hout x (by omega)).trans (hstore x (by omega))⟩
    by_cases hc : c = b
    · subst hc
      exact (Memory.load_congr _ _ fun x hx1 hx2 => hout x (by omega)).trans (Memory.load_store ..)
    · rw [hline c (by omega) (by omega)]
      exact congrArg (· % 256 ^ 128) (MmOp.line_eq h1 h2 (by omega) (by omega) (Ne.symm hc) hstore)

end State

theorem memoryToMemoryComplete : Part.MemoryToMemoryComplete := by
  intro s site k o ho hp
  have h1 : o.Apart o.s1 := hp o.s1 List.mem_cons_self
  have h2 : o.Apart o.s2 := hp o.s2 (List.mem_cons_of_mem _ List.mem_cons_self)
  obtain ⟨hmm, hline, hout⟩ := State.mmBeats_spec (site := site) h1 h2 4 s 0 0 none (Nat.le_refl 4)
  refine ⟨_, by rw [exec_mmComplete, execMmComplete, ho], ?_⟩
  rw [State.core_modThread, State.core_modCore_same]
  refine ⟨congrArg (List.eraseIdx · k) hmm, fun b hb => ?_, fun x hx => hout x (by omega)⟩
  rw [hline b (Nat.zero_le b) (by omega), pow_bytes (k := 1024) rfl]
  rfl

/-- Settles O14: at issue by the checks of the three blocks, at completion by the lines that the beats store. -/
theorem memoryToMemory : Obligations.MemoryToMemory := ⟨memoryToMemoryIssue, memoryToMemoryComplete⟩

end Sys2Proof.Machine
end

section
/-! ### The memories, and the operations that leave them alone -/

namespace Sys2Proof.Machine.State

/-- The memories of the package: device memory, host memory, and the local memory of each core. -/
def mems (s : State) : Memory × Memory × (Nat → Memory) := (s.hbm.bytes, s.host, fun c => (s.core c).mem.bytes)

@[simp] theorem mems_mk (time : Word) (agenda : List (Nat × Turn)) (fresh nextId : Nat) (ctx : Ctx) (threads : Map Thread) (cores : Map Core)
    (net refused : List Msg) (resend : List (Msg × Word)) (seqs awaited : List ((Agent × Agent × MClass) × BitVec 16)) (groups : Map Group)
    (tables : List (Word × List Team)) (dir : Map DirEnt) (hbm : Hbm) (host : Memory) (ctxs : Map CtxSlot) (keyCtr : Nat)
    (shared : Vector (List TlbEnt) 4) (l2p : L2p) (nodeId : BitVec 11) (fused failedTest retired : List Nat) (banks : Map ErrBank)
    (chans : Map Chan) (boot : Boot) (dies : Vector Die 4) (pwrlim : BitVec 12) (throttled : Bool) (ports : Map Port)
    (parts : List (Nat × List (BitVec 128 × BitVec 512))) (through : List (Nat × BitVec 128 × Nat)) (heads : List (BitVec 128 × BitVec 512))
    (outbox : List Msg) (routes : Map (BitVec 14)) (maps : Map TMap) (pairs : List Pair) (ckpts : List Ckpt) (rows : List (Nat × Nat)) :
    (State.mk time agenda fresh nextId ctx threads cores net refused resend seqs awaited groups tables dir hbm host ctxs keyCtr shared l2p nodeId
      fused failedTest retired banks chans boot dies pwrlim throttled ports parts through heads outbox routes maps pairs ckpts rows).mems =
      (hbm.bytes, host, fun c => (Map.get initCore cores c).mem.bytes) := by
  rw [mems]
  rfl
@[simp] theorem mems_fields (s : State) : (s.hbm.bytes, s.host, fun c => (Map.get initCore s.cores c).mem.bytes) = s.mems := by
  rw [mems]
  rfl

theorem mems_same {s t : State} (hb : t.hbm = s.hbm) (hh : t.host = s.host) (hc : t.cores = s.cores) : t.mems = s.mems := by
  unfold mems core
  rw [hb, hh, hc]
theorem mems_of_still {s t : State} (h : t.still = s.still) : t.mems = s.mems := (congrArg mems h :)
@[simp] theorem mems_setCore (s : State) (k : Nat) {c : Core} (h : c.mem.bytes = (s.core k).mem.bytes) : (s.setCore k c).mems = s.mems := by
  have hc : ∀ j, ((s.setCore k c).core j).mem.bytes = (s.core j).mem.bytes := fun j => by
    rw [core_setCore]
    split
    next hj => rw [h, hj]
    next => rfl
  simp only [mems, hc]
  rfl
@[simp] theorem mems_modCore (s : State) (k : Nat) {f : Core → Core} (h : ∀ c, (f c).mem.bytes = c.mem.bytes) : (s.modCore k f).mems = s.mems :=
  s.mems_setCore k (h _)
@[simp] theorem mems_foldl {α : Type} {f : State → α → State} (h : ∀ u x, (f u x).mems = u.mems) (l : List α) (s : State) :
    (l.foldl f s).mems = s.mems := by
  induction l generalizing s with
  | nil => rfl
  | cons x r ih => exact (ih _).trans (h s x)
@[simp] theorem mems_ite {c : Prop} [Decidable c] (a b : State) : (if c then a else b).mems = if c then a.mems else b.mems := apply_ite mems c a b
@[simp] theorem mems_send (s : State) (m : Msg) : (s.send m).mems = s.mems := mems_of_still (still_send s m)
@[simp] theorem mems_modThread (s : State) (k : Nat) (f : Thread → Thread) : (s.modThread k f).mems = s.mems := mems_same rfl rfl rfl
@[simp] theorem mems_setThread (s : State) (k : Nat) (f : Thread) : (s.setThread k f).mems = s.mems := mems_same rfl rfl rfl
/-- A change of every core that leaves local memory alone. -/
@[simp] theorem mems_mapCores {f : Nat × Core → Nat × Core} (h : ∀ e, (f e).1 = e.1 ∧ (f e).2.mem.bytes = e.2.mem.bytes) (s : State) :
    (s.hbm.bytes, s.host, fun c => (Map.get initCore (s.cores.map f) c).mem.bytes) = s.mems := by
  have hc : ∀ (m : Map Core) (c : Nat), (Map.get initCore (m.map f) c).mem.bytes = (Map.get initCore m c).mem.bytes := fun m c => by
    unfold Map.get
    induction m with
    | nil => rfl
    | cons e r ih =>
      obtain ⟨h1, h2⟩ := h e
      simp only [List.map_cons, Map.find]
      rw [show f e = ((f e).1, (f e).2) from rfl, h1]
      dsimp only
      split
      · exact h2
      · exact ih
  simp only [hc]
  rfl
@[simp] theorem mems_modCur (s : State) (f : Thread → Thread) : (s.modCur f).mems = s.mems := mems_same rfl rfl rfl
@[simp] theorem mems_modMyCore (s : State) {f : Core → Core} (h : ∀ c, (f c).mem.bytes = c.mem.bytes) : (s.modMyCore f).mems = s.mems :=
  s.mems_modCore _ h
@[simp] theorem mems_record (s : State) (k : Nat) (e : Err) : (s.record k e).mems = s.mems := mems_of_still (still_record s k e)
theorem mems_sendToHop {s t : State} {n : BitVec 11} {l : List (BitVec 128 × BitVec 512)} (h : s.sendToHop n l = some t) : t.mems = s.mems :=
  mems_of_still (still_sendToHop h)
theorem mems_sendFlits {s t : State} {n : BitVec 11} {l : List (BitVec 128 × BitVec 512)} (h : s.sendFlits n l = some t) : t.mems = s.mems :=
  mems_of_still (still_sendFlits h)
@[simp] theorem mems_unreachable (s : State) (m : Msg) : (s.unreachable m).mems = s.mems := mems_of_still (still_unreachable s m)
@[simp] theorem mems_bulkHop (s : State) (m : Msg) (d : BitVec 11) : (s.bulkHop m d).2.mems = s.mems := mems_of_still (still_bulkHop s m d)
@[simp] theorem mems_linkOut (s : State) (m : Msg) (d : BitVec 11) : (s.linkOut m d).mems = s.mems := mems_of_still (still_linkOut s m d)

end Sys2Proof.Machine.State

namespace Sys2Proof.Machine.Core

@[simp] theorem uncount_mem (c : Core) (a : Arrival) : (c.uncount a).mem = c.mem := by unfold uncount; split <;> rfl
@[simp] theorem recount_mem (c : Core) (h : Word) : (State.recount c h).mem = c.mem := by unfold State.recount; split <;> rfl
@[simp] theorem install_mem (c : Core) (h : Word) (data : BitVec 512) (held : Bool) : (c.install h data held).mem = c.mem := rfl
@[simp] theorem foldl_uncount_mem (l : List Arrival) (c : Core) : (l.foldl (fun (x : Core) a => x.uncount a) c).mem = c.mem := by
  induction l generalizing c with
  | nil => rfl
  | cons a r ih => exact (ih _).trans (c.uncount_mem a)

end Sys2Proof.Machine.Core

namespace Sys2Proof.Machine.State
open Sys2Proof.Machine.Core

/-! #### An operation that writes no memory leaves the memories alone -/

@[simp] theorem mems_elapse (s : State) (d : Nat) : (s.elapse d).mems = s.mems := by
  unfold elapse
  dsimp only
  split
  · rfl
  · refine s.mems_mapCores fun e => ?_
    split <;> exact ⟨rfl, rfl⟩
@[simp] theorem mems_nextSeq (s : State) (k : Agent × Agent × MClass) : (s.nextSeq k).2.mems = s.mems := by
  unfold State.nextSeq
  split <;> simp
@[simp] theorem mems_drawBool (s : State) : s.drawBool.2.mems = s.mems := mems_same rfl rfl rfl
@[simp] theorem mems_drawWord (s : State) : s.drawWord.2.mems = s.mems := mems_same rfl rfl rfl
@[simp] theorem mems_modPort (s : State) (p : Nat) (f : Port → Port) : (s.modPort p f).mems = s.mems := mems_same rfl rfl rfl
@[simp] theorem mems_modChan (s : State) (f : Nat) (g : Chan → Chan) : (s.modChan f g).mems = s.mems := mems_same rfl rfl rfl
@[simp] theorem mems_queueFrame (s : State) (f typ : Nat) (body : BitVec 512) : (s.queueFrame f typ body).1.mems = s.mems := by
  unfold State.queueFrame
  dsimp only
  split <;> simp
@[simp] theorem mems_route (s : State) (m : Msg) : (s.route m).mems = s.mems := by
  unfold State.route
  split <;> simp
@[simp] theorem mems_emit (s : State) (m : Msg) : (s.emit m).mems = s.mems := by simp [State.emit]
@[simp] theorem mems_toReferee (s : State) (key : Nat) (a : Msg) : (s.toReferee key a).mems = s.mems := by simp [State.toReferee]
@[simp] theorem mems_coreFetch (s : State) (site : Nat) (m : Msg) (h : Word) : (s.coreFetch site m h).mems = s.mems := by simp [State.coreFetch]
@[simp] theorem mems_refetch (s : State) (key : Nat) (h : Word) : (s.refetch key h).mems = s.mems := by
  unfold State.refetch
  dsimp only
  repeat' split
  all_goals simp
@[simp] theorem mems_sendOf (s : State) (key : Nat) (m : Msg) : (s.sendOf key m).mems = s.mems := by simp [State.sendOf]
@[simp] theorem mems_breakAct (s : State) (key : Nat) (a : Activation) (code : Nat) :
    (s.breakAct key a code).mems = s.mems := by simp [State.breakAct]
@[simp] theorem mems_kickReport (s : State) (site : Nat) (like : Msg) (kick node : Nat) (name : Word) (started faulted after : Nat) :
    (s.kickReport site like kick node name started faulted after).mems = s.mems := by simp [State.kickReport]
@[simp] theorem mems_trace (s : State) (site typ who : Nat) (entry : BitVec 32) (a b extra : Word) :
    (s.trace site typ who entry a b extra).mems = s.mems :=
  s.mems_modCore site fun c => by split <;> rfl
@[simp] theorem mems_finishAct (s : State) (key how : Nat) (code : Option Nat) : (s.finishAct key how code).mems = s.mems := by
  unfold State.finishAct
  dsimp only
  repeat' split
  all_goals simp
@[simp] theorem mems_closeAct (s : State) (key how : Nat) (code : Option Nat) : (s.closeAct key how code).mems = s.mems := by simp [State.closeAct]
@[simp] theorem mems_reply (s : State) (m : Msg) (status : Nat) : (s.reply m status).mems = s.mems := by simp [State.reply]
@[simp] theorem mems_localPoison (s : State) (site a : Nat) : (s.localPoison site a).mems = s.mems := by simp [State.localPoison]
@[simp] theorem mems_ownPoison (s : State) (key id : Nat) (base : Word) (addr : Nat) :
    (s.ownPoison key id base addr).mems = s.mems := by simp [State.ownPoison]
@[simp] theorem mems_loadRuns (s : State) (key id : Nat) (base : Word) (d : VReg) (len : Nat) (l : List El) :
    (s.loadRuns key id base d len l).mems = s.mems := by
  induction l generalizing s with
  | nil => rfl
  | cons e r ih => simp [loadRuns, ih]
@[simp] theorem mems_acceptMsg (s : State) (m : Msg) : (s.acceptMsg m).mems = s.mems := by
  unfold State.acceptMsg
  repeat' split
  all_goals simp
@[simp] theorem mems_wake (s : State) (site : Nat) : (s.wake site).mems = s.mems := by simp [State.wake]
@[simp] theorem mems_twinAnswer (s : State) (m : Msg) : (s.twinAnswer m).mems = s.mems := by
  unfold State.twinAnswer
  dsimp only
  repeat' split
  all_goals simp
@[simp] theorem mems_dropMsg (s : State) (k : Nat) : (s.dropMsg k).mems = s.mems := by
  unfold State.dropMsg
  split <;> simp
@[simp] theorem mems_discard (s : State) (site : Nat) (m : Msg) : (s.discard site m).mems = s.mems := by simp [State.discard]
@[simp] theorem mems_turnAway (s : State) (site : Nat) (m : Msg) (status : Nat) : (s.turnAway site m status).mems = s.mems := by
  unfold State.turnAway
  split <;> simp
theorem mems_delivered (s : State) (site : Nat) (m : Msg) {go : State → State} (h : ∀ u, (go u).mems = u.mems) :
    (s.delivered site m go).mems = s.mems := by
  unfold delivered
  repeat' split
  all_goals simp [h]
@[simp] theorem mems_retryMsg (s : State) (m : Msg) : (s.retryMsg m).mems = s.mems := by simp [State.retryMsg]
@[simp] theorem mems_secRecord (s : State) (ten : BitVec 12) (a rank detail : Nat) :
    (s.secRecord ten a rank detail).mems = s.mems := by simp [State.secRecord]
@[simp] theorem mems_mendSeen (s : State) (ten : BitVec 12) (key a n : Nat) (partly : Bool) : (s.mendSeen ten key a n partly).mems = s.mems := by
  have h : ∀ (u : State) (b : Nat), (({ u with hbm := u.hbm.countRow b } : State).secRecord ten b 1 1).mems = u.mems := fun u b =>
    (mems_secRecord ..).trans rfl
  exact mems_foldl h _ s
@[simp] theorem mems_flawSeen (s : State) (ten : BitVec 12) (l : List (Nat × Nat)) : (s.flawSeen ten l).mems = s.mems := by simp [State.flawSeen]
@[simp] theorem mems_slicePoison (s : State) (key : Nat) (m : Msg) : (s.slicePoison key m).mems = s.mems := by simp [State.slicePoison]
@[simp] theorem mems_setHbmFull (s : State) (a : Nat) (b : Bool) : (s.setHbmFull a b).mems = s.mems := rfl
@[simp] theorem mems_dirtyCopies (s : State) (leaf : Nat) : (s.dirtyCopies leaf).mems = s.mems := by simp [State.dirtyCopies]
@[simp] theorem mems_secSeen (s : State) (ten : BitVec 12) (key a n : Nat) : (s.secSeen ten key a n).mems = s.mems := by simp [State.secSeen]
@[simp] theorem mems_walkSeen (s : State) (root va : Nat) : (s.walkSeen root va).mems = s.mems := by simp [State.walkSeen]
@[simp] theorem mems_addShared (s : State) (site : Nat) (e : TlbEnt) : (s.addShared site e).mems = s.mems := mems_same rfl rfl rfl
@[simp] theorem mems_modCopy (s : State) (site id : Nat) (f : Copy → Copy) : (s.modCopy site id f).mems = s.mems := by simp [State.modCopy]
@[simp] theorem mems_copyFails (s : State) (site : Nat) (c : Copy) (addr : Nat) (stop : Bool) :
    (s.copyFails site c addr stop).mems = s.mems := by simp [State.copyFails]
@[simp] theorem mems_partRead (s : State) (site : Nat) (c : Copy) (n : Nat) (x : Nat × Bool) :
    (s.partRead site c n x).mems = s.mems := by simp [State.partRead]
@[simp] theorem mems_copyAnswer (s : State) (site : Nat) (m : Msg) : (s.copyAnswer site m).mems = s.mems := by
  unfold State.copyAnswer
  repeat' split
  all_goals simp
@[simp] theorem mems_fenceRead (s : State) (site : Nat) (m : Msg) : (s.fenceRead site m).mems = s.mems := mems_same rfl rfl rfl
@[simp] theorem mems_slotFreed (s : State) (key n : Nat) : (s.slotFreed key n).mems = s.mems := by simp [State.slotFreed]
@[simp] theorem mems_slotAnswer (s : State) (site : Nat) (m : Msg) : (s.slotAnswer site m).mems = s.mems := by simp [State.slotAnswer]
@[simp] theorem mems_sentAnswer (s : State) (site : Nat) (m : Msg) : (s.sentAnswer site m).mems = s.mems := by
  refine s.mems_modCore site fun c => ?_
  dsimp only
  repeat' split
  all_goals rfl
@[simp] theorem mems_relayRecord (s : State) (site : Nat) (ten : BitVec 12) (names : Word) :
    (s.relayRecord site ten names).mems = s.mems := by simp [State.relayRecord]
@[simp] theorem mems_breakInv (s : State) (frm : Agent) (site : Nat) (m : Msg) (code : Nat) (origin : Word) :
    (s.breakInv frm site m code origin).mems = s.mems := by simp [State.breakInv]
@[simp] theorem mems_breakOrRecord (s : State) (frm : Agent) (site : Nat) (m : Msg) (code : Nat) (origin : Word) :
    (s.breakOrRecord frm site m code origin).mems = s.mems := by simp [State.breakOrRecord]
@[simp] theorem mems_invRefused (s : State) (a : Agent) (site : Nat) (m : Msg) : (s.invRefused a site m).mems = s.mems := by simp [State.invRefused]
@[simp] theorem mems_settle (s : State) (site : Nat) : (s.settle site).mems = s.mems := by simp [State.settle]
@[simp] theorem mems_coreValue (s : State) (site : Nat) (h : Word) (broken : Bool) (res : BitVec 512) :
    (s.coreValue site h broken res).mems = s.mems := by
  unfold coreValue
  dsimp only
  repeat' split
  all_goals simp [Core.install]
@[simp] theorem mems_fetchRefused (s : State) (site : Nat) (m : Msg) : (s.fetchRefused site m).mems = s.mems := by simp [State.fetchRefused]
@[simp] theorem mems_answerAtCore (s : State) (site : Nat) (m : Msg) : (s.answerAtCore site m).mems = s.mems :=
  mems_delivered _ _ _ fun u => by
    repeat' split
    all_goals simp
@[simp] theorem mems_modGroup (s : State) (i : Nat) (f : Group → Group) : (s.modGroup i f).mems = s.mems := by
  unfold State.modGroup
  split <;> simp
@[simp] theorem mems_barConfirmed (s : State) (gi : Nat) : (s.barConfirmed gi).mems = s.mems := by
  unfold State.barConfirmed
  repeat' split
  all_goals simp
@[simp] theorem mems_kickRefused (s : State) (site : Nat) (m : Msg) : (s.kickRefused site m).mems = s.mems := by simp [State.kickRefused]
@[simp] theorem mems_sentDownRefused (s : State) (a : Agent) (site : Nat) (m : Msg) :
    (s.sentDownRefused a site m).mems = s.mems := by simp [State.sentDownRefused]
@[simp] theorem mems_answerAtRoot (s : State) (gi : Nat) (m : Msg) : (s.answerAtRoot gi m).mems = s.mems := by
  unfold State.answerAtRoot
  repeat' split
  all_goals simp
@[simp] theorem mems_refuseFrame (s : State) (f : Nat) (frame : BitVec 512) (code : Nat) :
    (s.refuseFrame f frame code).mems = s.mems := by simp [State.refuseFrame]
@[simp] theorem mems_gapCheck (s : State) (f : Nat) : (s.gapCheck f).mems = s.mems := mems_same rfl rfl rfl
@[simp] theorem mems_frameTaken (s : State) (f : Nat) : (s.frameTaken f).mems = s.mems := mems_same rfl rfl rfl
@[simp] theorem mems_hostAnswered (s : State) (f : Nat) (ok : Bool) : (s.hostAnswered f ok).mems = s.mems := by
  unfold State.hostAnswered
  dsimp only
  split <;> simp
@[simp] theorem mems_takeAnswer (s : State) (k : Nat) (typ : BitVec 6) : (s.takeAnswer k typ).mems = s.mems := by
  unfold State.takeAnswer
  repeat' split
  all_goals simp
@[simp] theorem mems_walkEnds (s : State) (d : Nat) (p : BitVec 6 × Nat) (res : Option TlbEnt) : (s.walkEnds d p res).mems = s.mems := by
  have hgive : ∀ f : Nat × Core → Nat × Core, (∀ e, (f e).1 = e.1 ∧ (f e).2.mem.bytes = e.2.mem.bytes) →
      ({ s with cores := s.cores.map f } : State).mems = s.mems := fun f h => s.mems_mapCores h
  unfold walkEnds
  dsimp only
  split
  · refine hgive _ fun e => ?_
    split <;> exact ⟨rfl, rfl⟩
  · refine (mems_foldl (fun u r => ?_) _ _).trans (hgive _ fun e => ?_)
    · split <;> simp
    · split <;> exact ⟨rfl, rfl⟩
@[simp] theorem mems_engPoison (s : State) (site : Nat) (l : List Nat) : (s.engPoison site l).mems = s.mems := by
  induction l generalizing s with
  | nil => rfl
  | cons a r ih => simp [engPoison, ih]
@[simp] theorem mems_readScale (s : State) (site : Nat) (c : MCmd) : (s.readScale site c).mems = s.mems := by simp [State.readScale]
@[simp] theorem mems_jobEnds (s : State) (c : MCmd) (state : Nat) : (s.jobEnds c state).mems = s.mems := by
  unfold jobEnds
  extract_lets w site s1 mine s2
  have h1 : s1.mems = s.mems := by
    dsimp only [s1]
    split <;> simp
  have h2 : s2.mems = s1.mems := mems_foldl (fun _ _ => mems_modThread ..) _ _
  simp [h2, h1]
@[simp] theorem mems_afterStep (s : State) (site : Nat) (c : MCmd) (r : KRes) : (s.afterStep site c r).mems = s.mems := by
  have hupd : ∀ (k : Core) (p : Bool) (t : Nat) (x : MCmd), ((match r.upd with
      | some e => k.applyUpd t e p (c.opPois || !r.pois.isEmpty)
      | none => k).putCmd x).mem.bytes = k.mem.bytes := fun k p t x => by
    split <;> rfl
  unfold afterStep
  dsimp only
  repeat' split
  all_goals simp [hupd, Core.putCmd]
@[simp] theorem mems_joinWalk (s : State) (site : Nat) (r : WalkReq) : (s.joinWalk site r).mems = s.mems := by simp [State.joinWalk]
@[simp] theorem mems_copyWalk (s : State) (site : Nat) (c : Copy) (slot : BitVec 6) (va : Nat) :
    (s.copyWalk site c slot va).mems = s.mems := by simp [State.copyWalk]
@[simp] theorem mems_engineRead (s : State) (site : Nat) (c : Copy) (h : Agent) (a n part what : Nat) (ten : BitVec 12) :
    (s.engineRead site c h a n part what ten).mems = s.mems := by simp [State.engineRead]
@[simp] theorem mems_offer (s : State) (site : Nat) (m : Msg) : (s.offer site m).mems = s.mems := by simp [State.offer]
@[simp] theorem mems_accepted (s : State) (site : Nat) : (s.accepted site).mems = s.mems := by simp [State.accepted]
@[simp] theorem mems_twinCopy (s : State) (key : Nat) (m : Msg) (kick : Bool) : (s.twinCopy key m kick).mems = s.mems := by
  unfold State.twinCopy
  repeat' split
  all_goals simp
@[simp] theorem mems_acceptRaw (s : State) (site : Nat) (m : Msg) : (s.acceptRaw site m).mems = s.mems := by simp [State.acceptRaw]
@[simp] theorem mems_forwardH (s : State) (site : Nat) (p : PSlot) (m : Msg) : (s.forwardH site p m).mems = s.mems := by
  unfold State.forwardH
  split <;> simp
@[simp] theorem mems_withEgress (s : State) (a : Agent) (m : Msg) {go : State → State} (h : ∀ u, (go u).mems = u.mems) :
    (s.withEgress a m go).mems = s.mems := by
  unfold withEgress
  split
  · split
    next u hd => exact (mems_retryMsg _ _).trans ((congrArg (fun d => d.2.mems) hd).symm.trans (mems_drawBool s))
    next u hd => exact (h _).trans ((congrArg (fun d => d.2.mems) hd).symm.trans (mems_drawBool s))
  · exact h s
@[simp] theorem mems_modPslot (s : State) (site n : Nat) (f : PSlot → PSlot) : (s.modPslot site n f).mems = s.mems := by simp [State.modPslot]
@[simp] theorem mems_onHandle (u : State) (site : Nat) (m : Msg) : (u.onHandle site m).mems = u.mems := by
  unfold onHandle
  dsimp only
  repeat' split
  all_goals simp
@[simp] theorem mems_toRoot (s : State) (site : Nat) (m : Msg) : (s.toRoot site m).mems = s.mems := by
  unfold toRoot
  split <;> simp
@[simp] theorem mems_tookLast (s : State) (key : Nat) (m : Msg) : (s.tookLast key m).mems = s.mems := by simp [State.tookLast]
@[simp] theorem mems_rootTakes (s : State) (g : Group) (m : Msg) : (s.rootTakes g m).2.2.mems = s.mems := by
  unfold State.rootTakes
  repeat' split
  all_goals simp
@[simp] theorem mems_rootTook (s : State) (m : Msg) : (s.rootTook m).mems = s.mems := by
  unfold State.rootTook
  split <;> simp
@[simp] theorem mems_modMember (s : State) (gi i : Nat) (f : MemberRec → MemberRec) : (s.modMember gi i f).mems = s.mems := by simp [State.modMember]
@[simp] theorem mems_formerRoot (s : State) (k site : Nat) (m : Msg) : (s.formerRoot k site m).mems = s.mems := by
  unfold formerRoot
  dsimp only
  split <;> simp
@[simp] theorem mems_takeArrival (s : State) (site : Nat) (a : Arrival) : (s.takeArrival site a).mems = s.mems :=
  s.mems_modCore site fun c => by rw [uncount_mem]
@[simp] theorem mems_traceStart (s : State) (key : Nat) (a : Activation) : (s.traceStart key a).mems = s.mems := by simp [State.traceStart]
@[simp] theorem mems_startRequest (s : State) (key : Nat) (r : Resident) (b : ReqBit) :
    (s.startRequest key r b).mems = s.mems := by simp [State.startRequest]
@[simp] theorem mems_startKick (s : State) (key : Nat) (a : Arrival) : (s.startKick key a).mems = s.mems := by simp [State.startKick]
@[simp] theorem mems_readyMsg (s : State) (frm dest : Agent) (name : Word) (pool child cls total : Nat) (ten : BitVec 12) :
    (s.readyMsg frm dest name pool child cls total ten).mems = s.mems := by simp [State.readyMsg]
@[simp] theorem mems_setCount (s : State) (gi n cls child count : Nat) : (s.setCount gi n cls child count).mems = s.mems := by
  unfold State.setCount
  split <;> simp
theorem mems_descend {s t : State} {gi n : Nat} {m : Msg} (h : s.descend gi n m = some t) : t.mems = s.mems := by
  unfold descend at h
  split at h
  · cases h
  · dsimp only at h
    split at h
    · cases h
    · cases h
      simp
@[simp] theorem mems_bounceUp (s : State) (frm : Agent) (g : Group) (p : Nat × Nat) (m : Msg) :
    (s.bounceUp frm g p m).mems = s.mems := by simp [State.bounceUp]
@[simp] theorem mems_bounceSlot (s : State) (g : Group) (key : Nat) (m : Msg) : (s.bounceSlot g key m).mems = s.mems := by simp [State.bounceSlot]
@[simp] theorem mems_sendReady (s : State) (key cls total : Nat) : (s.sendReady key cls total).mems = s.mems := by
  unfold State.sendReady
  repeat' split
  all_goals simp
@[simp] theorem mems_setReady (s : State) (key cls n : Nat) : (s.setReady key cls n).mems = s.mems := by simp [State.setReady]
theorem mems_coreTakes (s : State) (k : Nat) (typ : BitVec 6) {f : State → Nat → Msg → State} (h : ∀ u site m, (f u site m).mems = u.mems) :
    (s.coreTakes k typ f).mems = s.mems := by
  unfold coreTakes
  repeat' split
  all_goals simp [h]
@[simp] theorem mems_answerFetch (s : State) (f : Msg) (broken : Bool) (res : BitVec 512) :
    (s.answerFetch f broken res).mems = s.mems := by simp [State.answerFetch]
@[simp] theorem mems_freePslot (s : State) (site n : Nat) (like : Msg) : (s.freePslot site n like).mems = s.mems := by
  unfold State.freePslot
  dsimp only
  split <;> simp
@[simp] theorem mems_maybeFree (s : State) (site n : Nat) (like : Msg) : (s.maybeFree site n like).mems = s.mems := by simp [State.maybeFree]
@[simp] theorem mems_settleSlot (s : State) (site n : Nat) (like : Msg) (broken : Bool) (res : BitVec 512) (holder : Option Who) :
    (s.settleSlot site n like broken res holder).mems = s.mems := by
  unfold settleSlot
  extract_lets p s1 s2 s3 s4
  have h3 : s3.mems = s.mems := (mems_foldl (fun _ _ => mems_modThread ..) _ _).trans
    ((mems_foldl (fun _ _ => mems_answerFetch ..) _ _).trans (mems_modPslot ..))
  have h4 : s4.mems = s3.mems := by
    dsimp only [s4]
    split <;> simp
  rw [mems_maybeFree, h4, h3]
@[simp] theorem mems_putRstv (s : State) (key : Nat) (m : Msg) : (s.putRstv key m).mems = s.mems := mems_same rfl rfl rfl
@[simp] theorem mems_rstvResident (s : State) (key : Nat) (m : Msg) : (s.rstvResident key m).mems = s.mems := by
  unfold State.rstvResident
  repeat' split
  all_goals simp
@[simp] theorem mems_rstvAtCore (s : State) (site : Nat) (m : Msg) : (s.rstvAtCore site m).mems = s.mems := by
  unfold State.rstvAtCore
  repeat' split
  all_goals simp
@[simp] theorem mems_returnPass (s : State) (frm : Agent) (gi : Nat) (m : Msg) : (s.returnPass frm gi m).mems = s.mems := by simp [State.returnPass]
@[simp] theorem mems_queueBreak (g : Group) (code : Nat) (s : State) (m : Msg) :
    (State.queueBreak g code s m).mems = s.mems := by simp [State.queueBreak]
@[simp] theorem mems_grpStat (s : State) (m : Msg) (status : Nat) : (s.grpStat m status).mems = s.mems := by simp [State.grpStat]
@[simp] theorem mems_barConfigure (s : State) (gi : Nat) (mask : BitVec 16) (teams : BitVec 64) (ctl : Msg) :
    (s.barConfigure gi mask teams ctl).mems = s.mems := by
  unfold State.barConfigure
  split <;> simp
@[simp] theorem mems_rootBarcfg (s : State) (g : Group) (m : Msg) : (s.rootBarcfg g m).mems = s.mems := by simp [State.rootBarcfg]
@[simp] theorem mems_coreCtl (s : State) (g : Group) (fn mem key : Nat) (twin : Bool) :
    (s.coreCtl g fn mem key twin).mems = s.mems := by simp [State.coreCtl]
@[simp] theorem mems_toCores (s : State) (g : Group) (fn : Nat) (ms : List (Nat × Nat × Bool)) (t : Trans) :
    (s.toCores g fn ms t).mems = s.mems := by simp [State.toCores]
@[simp] theorem mems_endTrans (s : State) (gi status : Nat) : (s.endTrans gi status).mems = s.mems := by
  unfold State.endTrans
  repeat' split
  all_goals simp
@[simp] theorem mems_breakQueue (s : State) (gi mem code : Nat) : (s.breakQueue gi mem code).mems = s.mems := by
  unfold State.breakQueue
  repeat' split
  all_goals simp
@[simp] theorem mems_barMsg (s : State) (g : Group) (frm dest : Agent) (src : Who) (typ : BitVec 6) (id lvl i what ep : Nat) :
    (s.barMsg g frm dest src typ id lvl i what ep).mems = s.mems := by simp [State.barMsg]
@[simp] theorem mems_rootDrop (s : State) (g : Group) (m : Msg) : (s.rootDrop g m).mems = s.mems := by
  unfold State.rootDrop
  dsimp only
  split <;> simp
@[simp] theorem mems_kickTo (s : State) (frm dest : Agent) (m : Msg) (node spec : Nat) :
    (s.kickTo frm dest m node spec).mems = s.mems := by simp [State.kickTo]
@[simp] theorem mems_fanOut (s : State) (gi : Nat) (m : Msg) : (s.fanOut gi m).mems = s.mems := by
  unfold fanOut
  split
  · rfl
  · refine (mems_foldl (fun u i => ?_) _ _).trans (mems_modGroup ..)
    split <;> simp
@[simp] theorem mems_releaseKicks (s : State) (gi : Nat) : (s.releaseKicks gi).mems = s.mems := by
  unfold State.releaseKicks
  split <;> simp
@[simp] theorem mems_barDown (s : State) (g : Group) (id lvl i : Nat) (typ : BitVec 6) (phase : Bool) (ep : Nat) :
    (s.barDown g id lvl i typ phase ep).mems = s.mems := by
  unfold State.barDown
  split <;> simp
@[simp] theorem mems_barUp (s : State) (g : Group) (id lvl i what : Nat) : (s.barUp g id lvl i what).mems = s.mems := by simp [State.barUp]
@[simp] theorem mems_barCheck (s : State) (gi id lvl i : Nat) : (s.barCheck gi id lvl i).mems = s.mems := by
  unfold State.barCheck
  split <;> simp
@[simp] theorem mems_recountBars (s : State) (gi : Nat) : (s.recountBars gi).mems = s.mems := by
  refine (mems_foldl (fun u i => (mems_barCheck ..).trans ?_) _ _).trans (mems_modGroup ..)
  repeat' split
  all_goals simp
@[simp] theorem mems_cfgEnds (s : State) (g : Group) : (s.cfgEnds g).mems = s.mems := by
  unfold State.cfgEnds
  split <;> simp
@[simp] theorem mems_breakQueues (s : State) (gi code : Nat) : (s.breakQueues gi code).mems = s.mems := by
  unfold State.breakQueues
  split <;> simp
@[simp] theorem mems_breakHeld (s : State) (gi : Nat) (nodes : Bool) : (s.breakHeld gi nodes).mems = s.mems := by
  unfold State.breakHeld
  split <;> simp
@[simp] theorem mems_endPairs (s : State) (key : Nat) : (s.endPairs key).mems = s.mems := by simp [State.endPairs]
@[simp] theorem mems_vacate (s0 : State) (key : Nat) : (s0.vacate key).mems = s0.mems := by simp [State.vacate]
@[simp] theorem mems_leaveLists (s : State) (key : Nat) : (s.leaveLists key).mems = s.mems := by simp [State.leaveLists]
@[simp] theorem mems_withdrawReady (s : State) (key : Nat) : (s.withdrawReady key).mems = s.mems := by simp [State.withdrawReady]
@[simp] theorem mems_answerOut (s : State) (e : Nat × Msg) : (s.answerOut e).mems = s.mems := by simp [State.answerOut]
@[simp] theorem mems_endGroup (s : State) (gi : Nat) : (s.endGroup gi).mems = s.mems := by
  unfold State.endGroup
  split <;> simp
@[simp] theorem mems_forceEnd (s : State) (gi : Nat) (t : Trans) : (s.forceEnd gi t).mems = s.mems := by
  unfold State.forceEnd
  repeat' split
  all_goals simp
@[simp] theorem mems_rootEnd (s : State) (g : Group) (m : Msg) : (s.rootEnd g m).mems = s.mems := by simp [State.rootEnd]
@[simp] theorem mems_offerReady (s : State) (key : Nat) : (s.offerReady key).mems = s.mems := by simp [State.offerReady]
@[simp] theorem mems_restoreCore (s : State) (key acc : Nat) (g : Group) (x : Nat) (kept : List (Bool × Nat × Nat)) :
    (s.restoreCore key acc g x kept).mems = s.mems := by simp [State.restoreCore]
@[simp] theorem mems_coreReport (s : State) (site what : Nat) (r : Resident) : (s.coreReport site what r).mems = s.mems := by simp [State.coreReport]
@[simp] theorem mems_memberGone (s : State) (key : Nat) : (s.memberGone key).mems = s.mems := by
  unfold State.memberGone
  split <;> simp
@[simp] theorem mems_sendAlone (s : State) (m : Msg) : (s.sendAlone m).mems = s.mems := by simp [State.sendAlone]
@[simp] theorem mems_barLeaveAll (s : State) (key : Nat) : (s.barLeaveAll key).mems = s.mems := by
  unfold barLeaveAll
  split
  · rfl
  · extract_lets b half say s1
    have hsay : ∀ u i, (say u i).mems = u.mems := fun u i => by
      dsimp only [say]
      repeat' split
      all_goals simp
    have h1 : s1.mems = s.mems := mems_foldl hsay _ s
    repeat' split
    all_goals simp [h1]
@[simp] theorem mems_dropMember (s : State) (key : Nat) : (s.dropMember key).mems = s.mems := by
  unfold State.dropMember
  split <;> simp
@[simp] theorem mems_reportBare (s : State) (site : Nat) (m : Msg) (what : Nat) :
    (s.reportBare site m what).mems = s.mems := by simp [State.reportBare]
@[simp] theorem mems_orphan (s : State) (key : Nat) : (s.orphan key).mems = s.mems := by simp [State.orphan]
@[simp] theorem mems_stopMember (s : State) (key : Nat) : (s.stopMember key).mems = s.mems := by
  unfold State.stopMember
  split <;> simp
@[simp] theorem mems_kickAtRoot (s : State) (g : Group) (m : Msg) : (s.kickAtRoot g m).mems = s.mems := by simp [State.kickAtRoot]
@[simp] theorem mems_kickTurned (s : State) (m : Msg) (status : Nat) : (s.kickTurned m status).mems = s.mems := by simp [State.kickTurned]
@[simp] theorem mems_kickDone (s : State) (gi team site : Nat) (m : Msg) : (s.kickDone gi team site m).mems = s.mems := by
  unfold State.kickDone
  dsimp only
  repeat' split
  all_goals simp
@[simp] theorem mems_barCount (s : State) (gi id lvl i what : Nat) : (s.barCount gi id lvl i what).mems = s.mems := by
  unfold State.barCount
  split <;> simp
@[simp] theorem mems_modMemberBits (s : State) (g : Group) (mem : Nat) (f : BarBits → BarBits) : (s.modMemberBits g mem f).mems = s.mems := by
  refine (mems_foldl (fun u k => mems_modThread ..) _ _).trans ?_
  split <;> simp
@[simp] theorem mems_barAtCore (s : State) (g : Group) (site : Nat) (m : Msg) : (s.barAtCore g site m).mems = s.mems := by simp [State.barAtCore]
@[simp] theorem mems_pairFails (s : State) (q : Pair) (v : Word) : (s.pairFails q v).mems = s.mems := by simp [State.pairFails]
@[simp] theorem mems_pairForward (s : State) (q : Pair) (a b : Msg) : (s.pairForward q a b).mems = s.mems := by simp [State.pairForward]
@[simp] theorem mems_l2pPut (s : State) (site idx : Nat) (v : BitVec 13) : (s.l2pPut site idx v).mems = s.mems := mems_same rfl rfl rfl
@[simp] theorem mems_l2pWrite (s : State) (site : Nat) (v : Word) : (s.l2pWrite site v).mems = s.mems := by simp [State.l2pWrite]
@[simp] theorem mems_writeRtdata (s : State) (site : Nat) (v : Word) : (s.writeRtdata site v).mems = s.mems := by simp [State.writeRtdata]
@[simp] theorem mems_setTgen (u : State) (f : Word → Word) : (u.setTgen f).mems = u.mems := by simp [State.setTgen]
@[simp] theorem mems_modSlot (s : State) (n : Nat) (f : CtxSlot → CtxSlot) : (s.modSlot n f).mems = s.mems := mems_same rfl rfl rfl
@[simp] theorem mems_ctxCreate (s : State) (slot : Nat) : (s.ctxCreate slot).mems = s.mems := by simp [State.ctxCreate]
@[simp] theorem mems_endGroups (s : State) (slot : Nat) : (s.endGroups slot).mems = s.mems := by
  refine mems_foldl (fun u gi => ?_) _ s
  repeat' split
  all_goals simp
@[simp] theorem mems_ctxDestroy (s : State) (slot : Nat) : (s.ctxDestroy slot).mems = s.mems := by simp [State.ctxDestroy]
@[simp] theorem mems_ctxRect (s : State) (slot : Nat) (v : BitVec 24) : (s.ctxRect slot v).mems = s.mems := by
  unfold State.ctxRect
  dsimp only
  repeat' split
  all_goals simp
@[simp] theorem mems_startScrub (s : State) (p : Nat) : (s.startScrub p).mems = s.mems := by simp [State.startScrub]
@[simp] theorem mems_unbind (s : State) (f : Nat) : (s.unbind f).mems = s.mems := by simp [State.unbind]
@[simp] theorem mems_hfBad (s : State) : s.hfBad.mems = s.mems := by simp [State.hfBad]
@[simp] theorem mems_hfQueue (v : Word) (s : State) : (State.hfQueue v s).mems = s.mems := mems_same rfl rfl rfl
@[simp] theorem mems_writeSeen (s : State) (ten : BitVec 12) (key a n : Nat) : (s.writeSeen ten key a n).mems = s.mems := by simp [State.writeSeen]
@[simp] theorem mems_stageWrite (s : State) (off : Nat) (data : List Byte) : (s.stageWrite off data).mems = s.mems := by
  unfold State.stageWrite
  split <;> simp

@[simp] theorem mems_modDie (s : State) (d : Nat) (f : Die → Die) : (s.modDie d f).mems = s.mems := mems_same rfl rfl rfl
@[simp] theorem mems_flood (s : State) (d : Nat) : (s.flood d).mems = s.mems := by simp [State.flood]
@[simp] theorem mems_absorb (s : State) (d i : Nat) (good : Bool) : (s.absorb d i good).mems = s.mems := mems_same rfl rfl rfl
@[simp] theorem mems_measx (s : State) (site i : Nat) (v : Word) : (s.measx site i v).mems = s.mems := by
  have h : (s.modCore site fun c => { c with sel := { c.sel with meas := (s.core site).sel.meas.setIfInBounds i v } }).mems = s.mems :=
    s.mems_modCore site fun _ => rfl
  unfold measx
  dsimp only
  split <;> exact h
@[simp] theorem mems_droopRecord (s : State) (site det : Nat) (stamp : Word) : (s.droopRecord site det stamp).mems = s.mems := by
  unfold State.droopRecord
  dsimp only
  split <;> simp
@[simp] theorem mems_takeDroops (s : State) (site : Nat) : (s.takeDroops site).mems = s.mems := by simp [State.takeDroops]
@[simp] theorem mems_droopAt (s : State) (site det : Nat) : (s.droopAt site det).mems = s.mems := by simp [State.droopAt]
@[simp] theorem mems_writeTrtail (s : State) (site : Nat) (v : Word) : (s.writeTrtail site v).mems = s.mems := by
  -- the ring's size stays unevaluated: the core is one of two before its memory is read
  have h : ∀ (c d : Core) (t : Trace), d = (if t.ringSize < t.inRing then c else { c with trace := t }) → d.mem.bytes = c.mem.bytes := by
    rintro c d t rfl
    split <;> rfl
  exact s.mems_modCore site fun c => h c _ _ rfl
@[simp] theorem mems_writeDbgctl (s : State) (site : Nat) (stop wphit : Bool) :
    (s.writeDbgctl site stop wphit).mems = s.mems := by simp [State.writeDbgctl]
@[simp] theorem mems_portRecord (s : State) (p : Nat) (ten : BitVec 12) : (s.portRecord p ten).mems = s.mems := by simp [State.portRecord]
@[simp] theorem mems_noWay (s : State) (tag : BitVec 128) (f : BitVec 512) : (s.noWay tag f).mems = s.mems := by
  unfold noWay
  dsimp only
  repeat' split
  all_goals try simp
  all_goals
    cases h : s.sendFlits _ _ with
    | none => simp
    | some t => exact mems_sendFlits h
@[simp] theorem mems_noPath (s : State) (tag : BitVec 128) (f : BitVec 512) : (s.noPath tag f).mems = s.mems := by
  unfold State.noPath
  repeat' split
  all_goals simp
@[simp] theorem mems_detour (s : State) (p : Nat) : (s.detour p).mems = s.mems := by
  refine (mems_foldl (fun u e => ?_) _ _).trans (mems_modPort ..)
  split
  next h => exact mems_sendFlits h
  next => simp
@[simp] theorem mems_drawLanes (s : State) (n : Nat) : (s.drawLanes n).2.mems = s.mems := by
  induction n with
  | zero => rfl
  | succ n ih => exact (mems_drawWord _).trans ih
@[simp] theorem mems_beginTraining (s : State) (p : Nat) : (s.beginTraining p).mems = s.mems := by simp [State.beginTraining]
@[simp] theorem mems_writeNodeId (s : State) (v : Word) : (s.writeNodeId v).mems = s.mems := by simp [State.writeNodeId]
@[simp] theorem mems_writePortctl (s : State) (p : Nat) (v : Word) : (s.writePortctl p v).mems = s.mems := by simp [State.writePortctl]
@[simp] theorem mems_passed (s : State) (l : List (BitVec 128 × BitVec 512)) : (s.passed l).mems = s.mems := mems_same rfl rfl rfl
@[simp] theorem mems_retrainPort (s : State) (p : Nat) : (s.retrainPort p).mems = s.mems := by simp [State.retrainPort]
@[simp] theorem mems_replay (s : State) (p : Nat) : (s.replay p).mems = s.mems := by simp [State.replay]
@[simp] theorem mems_outboxDone (s : State) (m : Msg) : (s.outboxDone m).mems = s.mems := mems_same rfl rfl rfl
@[simp] theorem mems_enter (s : State) (p : Nat) (m : Msg) : (s.enter p m).mems = s.mems := by
  unfold State.enter
  repeat' split
  all_goals simp
@[simp] theorem mems_deny (s : State) (p : Nat) (m : Msg) : (s.deny p m).mems = s.mems := by
  unfold State.deny
  split <;> simp
@[simp] theorem mems_forwardOld (s : State) (m : Msg) (b : BitVec 11) : (s.forwardOld m b).mems = s.mems := by
  unfold forwardOld
  dsimp only
  split
  next h => exact (mems_sendFlits h :)
  next => simp
@[simp] theorem mems_modMaps (s : State) (ten : BitVec 12) (f : TMap → TMap) : (s.modMaps ten f).mems = s.mems := mems_same rfl rfl rfl
@[simp] theorem mems_settleMaps (s : State) (ten : BitVec 12) : (s.settleMaps ten).mems = s.mems := by simp [State.settleMaps]
@[simp] theorem mems_forGained (s : State) (p : Nat) (fs : List (BitVec 128 × BitVec 512)) (t : TMap) (m : Msg) (old : Bool) :
    (s.forGained p fs t m old).mems = s.mems := by
  unfold State.forGained
  split <;> simp
@[simp] theorem mems_arrived (s : State) (p : Nat) (tag : BitVec 128) (fs : List (BitVec 128 × BitVec 512)) (m : Msg) :
    (s.arrived p tag fs m).mems = s.mems := by
  unfold arrived
  extract_lets o back t ver old l r
  repeat' split
  all_goals simp
@[simp] theorem mems_partIn (s : State) (p : Nat) (e : BitVec 128 × BitVec 512) : (s.partIn p e).mems = s.mems := by
  unfold State.partIn
  dsimp only
  repeat' split
  all_goals simp
@[simp] theorem mems_passOn (s : State) (p : Nat) (e : BitVec 128 × BitVec 512) : (s.passOn p e).mems = s.mems := by
  unfold State.passOn
  repeat' split
  all_goals simp
@[simp] theorem mems_slotIn (s : State) (p : Nat) (e : BitVec 128 × BitVec 512) : (s.slotIn p e).mems = s.mems := by simp [State.slotIn]
@[simp] theorem mems_releaseHeld (s : State) (ten : BitVec 12) (p : Nat) : (s.releaseHeld ten p).mems = s.mems := by simp [State.releaseHeld]
@[simp] theorem mems_dropCkpt (s : State) (slot : Nat) : (s.dropCkpt slot).mems = s.mems := mems_same rfl rfl rfl
@[simp] theorem mems_ckptResolve (s : State) (c : Ckpt) (st : Nat) : (s.ckptResolve c st).mems = s.mems := by simp [State.ckptResolve]
@[simp] theorem mems_ckptCtl (s : State) (slot fn : Nat) (name : Word) : (s.ckptCtl slot fn name).mems = s.mems := by simp [State.ckptCtl]
@[simp] theorem mems_modCkpt (s : State) (slot : Nat) (f : Ckpt → Ckpt) : (s.modCkpt slot f).mems = s.mems := mems_same rfl rfl rfl
@[simp] theorem mems_ckptEnd (s : State) (c : Ckpt) (st : Nat) : (s.ckptEnd c st).mems = s.mems := by simp [State.ckptEnd]
@[simp] theorem mems_tlbDrop (s : State) (f : TlbEnt → Bool) : (s.tlbDrop f).mems = s.mems := by simp [State.tlbDrop]
theorem mems_bindSticky (s : State) (key : Nat) (member : Word) (cls : BitVec 2) {send : State → Msg → State}
    (h : ∀ u m, (send u m).mems = u.mems) : (s.bindSticky key member cls send).mems = s.mems := by
  unfold bindSticky
  dsimp only
  split <;> simp [h]
@[simp] theorem mems_sendKept (s : State) (key : Nat) (target : Word) (counts : Bool) (m : Msg) :
    (s.sendKept key target counts m).mems = s.mems := by simp [State.sendKept]
@[simp] theorem mems_usedLoc (s : State) (site : Nat) (t : Word) (who : Who) : (s.usedLoc site t who).mems = s.mems := by
  unfold usedLoc
  split
  · rfl
  · exact s.mems_modCore site fun _ => rfl
@[simp] theorem mems_sendMember (s : State) (key : Nat) (t : Word) (m : Msg) : (s.sendMember key t m).mems = s.mems := by simp [State.sendMember]
@[simp] theorem mems_writeMsixv (s : State) (func : Nat) (v : BitVec 11) : (s.writeMsixv func v).mems = s.mems := by simp [State.writeMsixv]
@[simp] theorem mems_attreqBytes (s : State) (off : Nat) (data : List Byte) : (s.attreqBytes off data).mems = s.mems := by
  have h : ∀ b : Boot, ({ s with boot := b } : State).mems = s.mems := fun _ => rfl
  unfold attreqBytes
  exact h _
@[simp] theorem mems_sizeBar2 (s : State) (n : Nat) : (s.sizeBar2 n).mems = s.mems := by simp [State.sizeBar2]
@[simp] theorem mems_readSupply (s : State) (die det mv : Nat) : (s.readSupply die det mv).mems = s.mems := mems_same rfl rfl rfl
@[simp] theorem mems_upset (s : State) (x : Upset) : (s.upset x).mems = s.mems := by
  cases x with
  | hbm => rfl
  | bit => exact mems_record ..
  | mem site => exact s.mems_modCore site fun _ => rfl
  | reg => exact mems_record ..
  | tile site => exact (mems_record ..).trans (mems_modCore _ site fun _ => rfl)
@[simp] theorem mems_noteIdle (s : State) (key : Nat) : (s.noteIdle key).mems = s.mems := by
  unfold State.noteIdle
  split <;> simp
@[simp] theorem mems_goIdle (s : State) (key : Nat) : (s.goIdle key).mems = s.mems := by simp [State.goIdle]
@[simp] theorem mems_endAct (s : State) (key how : Nat) (code : Option Nat) : (s.endAct key how code).mems = s.mems := by simp [State.endAct]
@[simp] theorem mems_finishNow (u : State) (key how : Nat) : (u.finishNow key how).mems = u.mems := by simp [State.finishNow]
@[simp] theorem mems_leaveNow (s : State) (key : Nat) : (s.leaveNow key).mems = s.mems := by
  unfold State.leaveNow
  repeat' split
  all_goals simp
@[simp] theorem mems_withWord (s : State) (f : Form) (w : IWord) : (s.withWord f w).mems = s.mems := mems_same rfl rfl rfl
@[simp] theorem mems_begun (s : State) (key : Nat) (pc len : Word) : (s.begun key pc len).mems = s.mems := mems_same rfl rfl rfl
@[simp] theorem mems_ended (s : State) (e : SlotEnd) : (s.ended e).mems = s.mems := mems_same rfl rfl rfl
@[simp] theorem mems_openBundle (s : State) : s.openBundle.mems = s.mems := mems_same rfl rfl rfl
@[simp] theorem mems_closed (s : State) : s.closed.mems = s.mems := mems_same rfl rfl rfl
@[simp] theorem mems_retire (s : State) : s.retire.mems = s.mems := mems_same rfl rfl rfl
@[simp] theorem mems_raiseTrap (s : State) (tr : Trap) : (s.raiseTrap tr).mems = s.mems := by
  unfold State.raiseTrap
  split <;> simp
@[simp] theorem mems_jumpTo (s : State) (pc : Word) : (s.jumpTo pc).mems = s.mems := mems_same rfl rfl rfl
@[simp] theorem mems_askBridge (u : State) : u.askBridge.mems = u.mems := by simp [State.askBridge]
@[simp] theorem mems_wx (s : State) (r : XReg) (v : Word) : (s.wx r v).mems = s.mems := mems_same rfl rfl rfl
@[simp] theorem mems_crPutThread (u : State) (o : CrOp) (n : Nat) (x : Word) : (u.crPutThread o n x).mems = u.mems := by
  unfold State.crPutThread
  split <;> simp
@[simp] theorem mems_writePortstat (u : State) (p : Nat) (o : CrOp) (x : Word) : (u.writePortstat p o x).mems = u.mems := mems_same rfl rfl rfl
@[simp] theorem mems_modSel (u : State) (f : Sel → Sel) : (u.modSel f).mems = u.mems := by simp [State.modSel]
@[simp] theorem mems_writeCtxcfg (u : State) (slot : Nat) (o : CrOp) (x : Word) :
    (u.writeCtxcfg slot o x).mems = u.mems := by simp [State.writeCtxcfg]
@[simp] theorem mems_modTrace (u : State) (f : Trace → Trace) : (u.modTrace f).mems = u.mems := by simp [State.modTrace]
@[simp] theorem mems_crPutDevice (u : State) (o : CrOp) (n : Nat) (x : Word) : (u.crPutDevice o n x).mems = u.mems := by
  unfold State.crPutDevice
  repeat' split
  all_goals simp
@[simp] theorem mems_watch (s : State) (site e n : Nat) (wr : Bool) : (s.watch site e n wr).mems = s.mems :=
  s.mems_modCore site fun c => (apply_ite (fun c : Core => c.mem.bytes) _ _ c).trans (ite_self _)
@[simp] theorem mems_wa (s : State) (r : AReg) (v : ARegV) : (s.wa r v).mems = s.mems := mems_same rfl rfl rfl
@[simp] theorem mems_advance (u : State) (a : AReg) (adv : Option ℤ) : (u.advance a adv).mems = u.mems := by
  unfold State.advance
  split <;> simp
@[simp] theorem mems_askWalk (slot : BitVec 6) (va : Nat) (s : State) : (State.askWalk slot va s).mems = s.mems := by simp [State.askWalk]
@[simp] theorem mems_track (s : State) (i : Instr) (dst : List RegRef) : (s.track i dst).2.mems = s.mems := mems_same rfl rfl rfl
@[simp] theorem mems_trackAcc (u : State) (c : Acc) : (u.trackAcc c).2.mems = u.mems := by
  unfold State.trackAcc
  split <;> simp
@[simp] theorem mems_pushOwn (s : State) (key id : Nat) (op : AccOp) (nt : Bool) (base : Word) (els : List El) :
    (s.pushOwn key id op nt base els).mems = s.mems := mems_same rfl rfl rfl
@[simp] theorem mems_pushAll (s : State) (key id : Nat) (op : AccOp) (nt : Bool) (base : Word) (l : List (List El)) :
    (s.pushAll key id op nt base l).mems = s.mems := by
  induction l generalizing s with
  | nil => rfl
  | cons e r ih => exact ih _
@[simp] theorem mems_sendParts (s : State) (key id : Nat) (op : AccOp) (nt : Bool) (ten : BitVec 12) (ord : BitVec 2) (sc : BitVec 4)
    (dst : Agent → Who) (l : List (Part × Nat)) : (s.sendParts key id op nt ten ord sc dst l).mems = s.mems := by
  induction l generalizing s with
  | nil => rfl
  | cons e r ih => simp [sendParts, ih]
@[simp] theorem mems_noteHost (u : State) (e : Nat) (wr : Bool) : (u.noteHost e wr).mems = u.mems := by simp [State.noteHost]
@[simp] theorem mems_watchAll (s : State) (site : Nat) (wr : Bool) (l : List Int) : (s.watchAll site wr l).mems = s.mems := by
  induction l generalizing s with
  | nil => rfl
  | cons e r ih => exact (ih _).trans (mems_watch ..)
@[simp] theorem mems_addCopy (u : State) (c : Copy) : (u.addCopy c).mems = u.mems := by simp [State.addCopy]
@[simp] theorem mems_enqueue (u : State) (c : MCmd) : (u.enqueue c).mems = u.mems := by simp [State.enqueue]
@[simp] theorem mems_newHandle (s : State) (key : Nat) (control : Bool) : (s.newHandle key control).2.mems = s.mems := by simp [State.newHandle]
@[simp] theorem mems_sendToRoot (s : State) (key : Nat) (g : BitVec 48) (m : Msg) : (s.sendToRoot key g m).mems = s.mems := by simp [State.sendToRoot]
@[simp] theorem mems_markAcq (u : State) (id : Nat) : (u.markAcq id).mems = u.mems := mems_same rfl rfl rfl
@[simp] theorem mems_askRelay (u : State) (h what : Word) (slot : Nat) : (u.askRelay h what slot).mems = u.mems := by simp [State.askRelay]
@[simp] theorem mems_barSend (s : State) (key : Nat) (r : Resident) (id what : Nat) : (s.barSend key r id what).mems = s.mems := by
  unfold State.barSend
  split <;> simp
@[simp] theorem mems_barArrive (s : State) (r : Resident) (id : Nat) : (s.barArrive r id).mems = s.mems := by simp [State.barArrive]
@[simp] theorem mems_barHeld (id : Nat) (s : State) : (State.barHeld id s).mems = s.mems := mems_same rfl rfl rfl
@[simp] theorem mems_barLeave (s : State) (key : Nat) (r : Resident) (id : Nat) : (s.barLeave key r id).mems = s.mems := by simp [State.barLeave]
@[simp] theorem mems_replaceCore (s : State) (writer old sp id : Nat) : (s.replaceCore writer old sp id).mems = s.mems := by simp [State.replaceCore]
@[simp] theorem mems_sendMarkers (s : State) (ten : BitVec 12) (t : TMap) (me : BitVec 11) (id : Nat) (node : BitVec 11) :
    (s.sendMarkers ten t me id node).mems = s.mems := by
  refine mems_foldl (fun u c => ?_) _ s
  dsimp only
  split
  next h =>
    have hv := (mems_sendFlits h).trans (mems_nextSeq u _)
    split <;> exact hv
  next => exact mems_nextSeq ..
@[simp] theorem mems_switchMaps (s : State) (ten : BitVec 12) : (s.switchMaps ten).mems = s.mems := by
  refine (mems_settleMaps ..).trans ((mems_foldl (fun u g => ?_) _ _).trans ((mems_foldl (fun u e => ?_) _ _).trans (mems_modMaps ..)))
  · split <;> simp
  · split <;> simp
@[simp] theorem mems_retryBulk (s : State) (p : Nat) : (s.retryBulk p).mems = s.mems := by simp [State.retryBulk]
@[simp] theorem mems_openId (s : State) (ten : BitVec 12) (l : Nat) : (s.openId ten l).mems = s.mems := by simp [State.openId]
@[simp] theorem mems_wflags (s : State) (f : FFlags) : (s.wflags f).mems = s.mems := mems_same rfl rfl rfl
@[simp] theorem mems_wv (s : State) (r : VReg) (v : VWord) : (s.wv r v).mems = s.mems := mems_same rfl rfl rfl
@[simp] theorem mems_vWrite (s : State) (d : VReg) (dw dk n mw : Nat) (mk : MReg) (f : Nat → Nat × FFlags) :
    (s.vWrite d dw dk n mw mk f).mems = s.mems :=
  (mems_wflags ..).trans (mems_foldl (fun _ _ => mems_wv ..) _ s)
@[simp] theorem mems_wm (s : State) (r : MReg) (v : MWord) : (s.wm r v).mems = s.mems := mems_same rfl rfl rfl
@[simp] theorem mems_oneOf (i : Nat) (now : ICLine) (s : State) (l : List ICLine) : (oneOf i now s l).2.mems = s.mems := by
  induction l generalizing s with
  | nil => rfl
  | cons e r ih =>
    unfold oneOf
    repeat' split
    next => exact ih s
    next h => exact (congrArg (fun d => d.2.mems) h).symm.trans (mems_drawBool s)
    next h => exact (ih _).trans ((congrArg (fun d => d.2.mems) h).symm.trans (mems_drawBool s))
@[simp] theorem mems_noted (s : State) (key : Nat) (pc : Word) : (s.noted key pc).mems = s.mems := by simp [State.noted]
@[simp] theorem mems_raiseDuplex (s : State) (key : Nat) (v : Word) : (s.raiseDuplex key v).mems = s.mems := by simp [State.raiseDuplex]

end Sys2Proof.Machine.State
end


section
/-! ### The operations that write a memory keep its canonical form -/

namespace Sys2Proof.Machine.State
open Sys2Proof.Machine.Core

/-! #### The canonical form of the memories -/

/-- Each of the memories is in its canonical form. -/
def MemsWf (m : Memory × Memory × (Nat → Memory)) : Prop := m.1.wf ∧ m.2.1.wf ∧ ∀ c, (m.2.2 c).wf

theorem memWf_iff (s : State) : s.memWf ↔ MemsWf s.mems := Iff.rfl

theorem memsWf_modCore {s : State} (k : Nat) {f : Core → Core} (hf : ∀ c, c.mem.bytes.wf → (f c).mem.bytes.wf) (h : MemsWf s.mems) :
    MemsWf (s.modCore k f).mems := by
  obtain ⟨hbm, hhost, hloc⟩ := h
  refine ⟨hbm, hhost, fun j => ?_⟩
  show ((s.modCore k f).core j).mem.bytes.wf
  rw [core_modCore]
  split
  · exact hf _ (hloc k)
  · exact hloc j
theorem memsWf_modMem {s : State} (k : Nat) {f : LocalMem → LocalMem} (hf : ∀ m, m.bytes.wf → (f m).bytes.wf) (h : MemsWf s.mems) :
    MemsWf (s.modMem k f).mems := memsWf_modCore k (fun c hc => hf c.mem hc) h
theorem memsWf_host (s : State) {x : Memory} (hx : x.wf) (h : MemsWf s.mems) : MemsWf ({ s with host := x } : State).mems := ⟨h.1, hx, h.2.2⟩
theorem memsWf_hbm (s : State) {g : Hbm} (hg : g.bytes.wf) (h : MemsWf s.mems) : MemsWf ({ s with hbm := g } : State).mems := ⟨hg, h.2⟩
theorem memsWf_ite {p : Prop} [Decidable p] {a b : State} (ha : MemsWf a.mems) (hb : MemsWf b.mems) : MemsWf (if p then a else b).mems := by
  split <;> assumption
theorem memsWf_some {a t : State} (ha : MemsWf a.mems) (h : some a = some t) : MemsWf t.mems := Option.some.inj h ▸ ha
/-- Claiming sectors for a key changes no byte. -/
theorem claim_bytes (b : Hbm) (key pa n : Nat) : (b.claim key pa n).bytes = b.bytes := by
  unfold Hbm.claim
  generalize List.range _ = l
  induction l generalizing b with
  | nil => rfl
  | cons i r ih =>
    rw [List.foldl_cons, ih]
    dsimp only
    repeat' split
    all_goals rfl
theorem write_wf {b g : Hbm} {key a n v : Nat} {p : Bool} (hw : b.write key a n v p = some g) (h : b.bytes.wf) : g.bytes.wf := by
  unfold Hbm.write at hw
  by_cases hc : b.covers key a n = true
  · rw [if_pos hc] at hw
    cases hw
    exact Memory.store_wf a n v (by rw [claim_bytes]; exact h)
  · rw [if_neg hc] at hw
    cases hw
/-- Device memory after a write (R334). -/
theorem memsWf_hbmWrite {s : State} {g : Hbm} {key a n v : Nat} {p : Bool} (hw : s.hbm.write key a n v p = some g) (h : MemsWf s.mems) :
    MemsWf ({ s with hbm := g } : State).mems := memsWf_hbm s (write_wf hw h.1) h
theorem memsWf_foldl {α : Type} {f : State → α → State} (hf : ∀ u x, MemsWf u.mems → MemsWf (f u x).mems) (l : List α) {s : State}
    (h : MemsWf s.mems) : MemsWf (l.foldl f s).mems := by
  induction l generalizing s with
  | nil => exact h
  | cons x r ih => exact ih (hf s x h)

/-! #### The writing operations -/

/-- A change of one core's local memory that leaves its bytes alone. -/
@[simp] theorem mems_modMem (s : State) (site : Nat) {f : LocalMem → LocalMem} (hf : ∀ m, (f m).bytes = m.bytes) : (s.modMem site f).mems = s.mems :=
  s.mems_modCore site fun c => hf c.mem
@[simp] theorem locStore_wf {s : State} (site a n v : Nat) (pois : Bool) (h : MemsWf s.mems) : MemsWf (s.locStore site a n v pois).mems :=
  memsWf_modCore site (fun _ hc => Memory.store_wf a n v hc) h
@[simp] theorem applyRemote_wf {s : State} (site : Nat) (m : Msg) (h : MemsWf s.mems) : MemsWf (s.applyRemote site m).mems := by
  have hfull : ∀ (u : State) a b, (u.modMem site fun l => l.setFull a b).mems = u.mems := fun u a b => u.mems_modMem site fun _ => rfl
  unfold applyRemote
  dsimp only
  repeat' split
  all_goals simp [hfull, h]
@[simp] theorem storeRuns_wf {s : State} (site : Nat) (data : VWord) (l : List El) (h : MemsWf s.mems) : MemsWf (s.storeRuns site data l).mems := by
  induction l generalizing s with
  | nil => exact h
  | cons e r ih => exact ih (locStore_wf _ _ _ _ _ h)
@[simp] theorem applyOwn_wf {s : State} (key : Nat) (a : Access) (h : MemsWf s.mems) : MemsWf (s.applyOwn key a).mems := by
  have hfull : ∀ (u : State) site a b, (u.modMem site fun l => l.setFull a b).mems = u.mems := fun u site a b => u.mems_modMem site fun _ => rfl
  unfold applyOwn
  dsimp only
  repeat' split
  all_goals simp [hfull, h]
@[simp] theorem performOwn_wf {s : State} (key : Nat) (a : Access) (h : MemsWf s.mems) : MemsWf (s.performOwn key a).mems := by
  unfold State.performOwn
  simp (maxDischargeDepth := 12) [h]
@[simp] theorem scanLocal_wf {s : State} (site word : Nat) (l : List RetryEnt) (h : MemsWf s.mems) : MemsWf (s.scanLocal site word l).1.mems := by
  induction l generalizing s with
  | nil => exact h
  | cons e r ih =>
    unfold scanLocal
    dsimp only
    repeat' split
    · exact ih (applyRemote_wf _ _ h)
    · exact ih h
    · exact ih (performOwn_wf _ _ h)
    · exact ih h
    · exact ih h
@[simp] theorem rescanLocal_wf {s : State} (site a : Nat) (old : Bool) (h : MemsWf s.mems) : MemsWf (s.rescanLocal site a old).mems := by
  unfold rescanLocal
  split
  · exact h
  · dsimp only
    exact memsWf_modMem _ (fun _ hm => hm) (scanLocal_wf _ _ _ h)
@[simp] theorem offerOwn_wf {s : State} (key : Nat) (a : Access) (h : MemsWf s.mems) : MemsWf (s.offerOwn key a).mems := by
  unfold offerOwn
  dsimp only
  repeat' split
  · exact rescanLocal_wf _ _ _ (performOwn_wf _ _ h)
  · exact rescanLocal_wf _ _ _ (performOwn_wf _ _ h)
  · exact memsWf_modMem _ (fun _ hm => hm) h
  · exact h
@[simp] theorem lineAtCore_wf {s : State} (k site : Nat) (m : Msg) (h : MemsWf s.mems) : MemsWf (s.lineAtCore k site m).mems := by
  unfold State.lineAtCore
  dsimp only
  split <;> simp (maxDischargeDepth := 12) [h]
theorem delivered_wf {s : State} (site : Nat) (m : Msg) {go : State → State} (hgo : ∀ u, MemsWf u.mems → MemsWf (go u).mems) (h : MemsWf s.mems) :
    MemsWf (s.delivered site m go).mems := by
  unfold delivered
  repeat' split
  all_goals simp [h, hgo]
@[simp] theorem atCore_wf {s : State} (site : Nat) (m : Msg) (h : MemsWf s.mems) : MemsWf (s.atCore site m).mems := by
  refine delivered_wf _ _ (fun u hu => ?_) h
  dsimp only
  repeat' split
  · simpa using hu
  · exact memsWf_modMem _ (fun _ hm => hm) (by simpa using hu)
  · simpa using hu
  · exact rescanLocal_wf _ _ _ (applyRemote_wf _ _ (by simpa using hu))
theorem sliceWrite_wf {s : State} (key : Nat) (m : Msg) (n v : Nat) {ans : State → State} (hans : ∀ u, (ans u).mems = u.mems)
    (h : MemsWf s.mems) : MemsWf (s.sliceWrite key m n v ans).mems := by
  unfold sliceWrite
  split
  next hw =>
    rw [hans]
    exact memsWf_hbmWrite hw h
  next => simpa using h
@[simp] theorem applySlice_wf {s : State} (key : Nat) (m : Msg) (h : MemsWf s.mems) : MemsWf (s.applySlice key m).mems := by
  unfold applySlice
  extract_lets a s1 n b
  have h1 : MemsWf s1.mems := by
    dsimp only [s1]
    repeat' split
    all_goals simpa using h
  dsimp only
  repeat' split
  all_goals first
    | exact sliceWrite_wf _ _ _ _ (fun u => by simp) h1
    | simpa using h1
@[simp] theorem scanSlice_wf {s : State} (sl word : Nat) (l : List (Nat × Msg)) (h : MemsWf s.mems) : MemsWf (s.scanSlice sl word l).1.mems := by
  induction l generalizing s with
  | nil => exact h
  | cons e r ih =>
    unfold scanSlice
    dsimp only
    repeat' split
    · exact ih (applySlice_wf _ _ h)
    · exact ih (by simpa using h)
    · exact ih h
@[simp] theorem rescanSlice_wf {s : State} (sl a : Nat) (old : Bool) (h : MemsWf s.mems) : MemsWf (s.rescanSlice sl a old).mems := by
  unfold State.rescanSlice
  split <;> simp (maxDischargeDepth := 12) [h]
@[simp] theorem atSlice_wf {s : State} (sl : Nat) (m : Msg) (h : MemsWf s.mems) : MemsWf (s.atSlice sl m).mems := by
  unfold State.atSlice
  repeat' split
  all_goals simp (maxDischargeDepth := 12) [h]
@[simp] theorem atBridge_wf {s : State} (m : Msg) (h : MemsWf s.mems) : MemsWf (s.atBridge m).mems := by
  have hput : ∀ a n v, MemsWf ({ s.acceptMsg m with host := s.host.store a n v } : State).mems := fun a n v => by
    have ha : MemsWf (s.acceptMsg m).mems := by simpa using h
    exact ⟨ha.1, Memory.store_wf a n v h.2.1, ha.2.2⟩
  unfold atBridge
  dsimp only
  repeat' split
  · simpa using h
  · simpa using h
  · rw [mems_reply]
    exact hput ..
  · rw [mems_send]
    exact hput ..
@[simp] theorem orLeaf_wf {s : State} (leaf : Nat) (b : Byte) (h : MemsWf s.mems) : MemsWf (s.orLeaf leaf b).mems :=
  ⟨Memory.setByte_wf _ _ h.1, h.2⟩
/-- A leaf marked as written, and its copies. -/
theorem dirty_wf {s : State} (leaf : Nat) (h : MemsWf s.mems) : MemsWf ((s.orLeaf leaf dBit).dirtyCopies leaf).mems := by
  rw [mems_dirtyCopies]
  exact orLeaf_wf _ _ h
@[simp] theorem xlDone_wf {s : State} (site root : Nat) (ten : BitVec 12) (va : Nat) (write : Bool) (h : MemsWf s.mems) :
    MemsWf (s.xlDone site root ten va write).mems := by
  have hw : MemsWf (s.walkSeen root va).mems := by rwa [mems_walkSeen]
  unfold xlDone
  dsimp only
  split
  · exact memsWf_ite (dirty_wf _ h) h
  · split
    · exact hw
    · have hl : ∀ a e, MemsWf (((s.walkSeen root va).orLeaf a aBit).addShared site e).mems := fun a e => by
        rw [mems_addShared]
        exact orLeaf_wf _ _ hw
      exact memsWf_ite (dirty_wf _ (hl ..)) (hl ..)
@[simp] theorem atGate_wf {s : State} (m : Msg) (h : MemsWf s.mems) : MemsWf (s.atGate m).mems := by
  unfold State.atGate
  repeat' split
  all_goals simp (maxDischargeDepth := 12) [h]
@[simp] theorem atHome_wf {s : State} (m : Msg) (h : MemsWf s.mems) : MemsWf (s.atHome m).mems := by
  unfold State.atHome
  split <;> simp (maxDischargeDepth := 12) [h]
@[simp] theorem home_wf {s : State} (k : Nat) (typ : BitVec 6) (h : MemsWf s.mems) : MemsWf (s.home k typ).mems := by
  unfold State.home
  repeat' split
  all_goals simp (maxDischargeDepth := 12) [h]
@[simp] theorem mmBeats_wf {s : State} (site : Nat) (o : MmOp) (n b : Nat) (fl : FFlags) (pz : Option Nat) (h : MemsWf s.mems) :
    MemsWf (s.mmBeats site o n b fl pz).1.mems := by
  induction n generalizing s b fl pz with
  | zero => exact h
  | succ n ih =>
    refine ih _ _ _ (locStore_wf _ _ _ _ _ ?_)
    split <;> simpa using h
/-- Storing the rows of a tile keeps the canonical form. -/
theorem storeRows_wf (k : Core) (c : MCmd) (len : Nat) (f : BitVec 32 → Nat) (w : Nat) (h : k.mem.bytes.wf) : (storeRows k c len f w).bytes.wf := by
  have hl : ∀ (l : List Nat) (g : Nat → Nat) (p : Bool) (m : LocalMem), m.bytes.wf →
      (l.foldl (fun (m : LocalMem) r => m.write (c.addr + r * c.pitch) len (g r) p) m).bytes.wf := fun l g p => by
    induction l with
    | nil => exact fun _ hm => hm
    | cons r l ih => exact fun m hm => ih _ (Memory.store_wf _ _ _ hm)
  exact hl _ _ _ _ h
@[simp] theorem transfer_wf {s : State} (site : Nat) (c : MCmd) (h : MemsWf s.mems) : MemsWf (s.transfer site c).mems := by
  have hrows : ∀ len f w, MemsWf (s.modCore site fun k => { k with mem := storeRows k c len f w }).mems := fun len f w =>
    memsWf_modCore site (fun k hk => storeRows_wf k c len f w hk) h
  unfold transfer
  dsimp only
  split
  · exact hrows ..
  · exact hrows ..
  · exact hrows ..
  · exact memsWf_modCore site (fun _ hk => hk) h
  · exact memsWf_modCore site (fun _ hk => hk) (by rwa [mems_engPoison])
  all_goals exact h
@[simp] theorem useXl_wf {s : State} (site : Nat) (e : TlbEnt) (write : Bool) (h : MemsWf s.mems) : MemsWf (s.useXl site e write).mems := by
  unfold State.useXl
  split <;> simp (maxDischargeDepth := 12) [h]
@[simp] theorem useCopy_wf {s : State} (site : Nat) (write : Bool) (a : Option TlbEnt) (h : MemsWf s.mems) :
    MemsWf (s.useCopy site write a).mems := by
  unfold State.useCopy
  split <;> simp (maxDischargeDepth := 12) [h]
@[simp] theorem readPart_wf {s : State} (site : Nat) (c0 : Copy) (n : Nat) (h : MemsWf s.mems) : MemsWf (s.readPart site c0 n).mems := by
  unfold State.readPart
  dsimp only
  repeat' split
  all_goals simp (maxDischargeDepth := 12) [h]
@[simp] theorem locPiece_wf {s : State} (site a n data : Nat) (pz : Nat × Nat) (h : MemsWf s.mems) : MemsWf (s.locPiece site a n data pz).mems :=
  memsWf_modMem _ (fun _ hm => hm) (locStore_wf _ _ _ _ _ h)
@[simp] theorem copyFan_wf {s : State} (site : Nat) (c : Copy) (a : Nat) (j : CopyJob) (h : MemsWf s.mems) : MemsWf (s.copyFan site c a j).mems := by
  unfold copyFan
  dsimp only
  split
  · simpa using h
  · refine memsWf_foldl (fun u p hu => memsWf_ite (locPiece_wf _ _ _ _ _ hu) ?_) _ h
    simpa using hu
@[simp] theorem copyWrite_wf {s : State} (site : Nat) (c : Copy) (hm : Agent) (a : Nat) (j : CopyJob) (ten : BitVec 12) (h : MemsWf s.mems) :
    MemsWf (s.copyWrite site c hm a j ten).mems := by
  unfold copyWrite
  split <;> simp [h]
@[simp] theorem writePiece_wf {s : State} (site : Nat) (c : Copy) (j : CopyJob) (h : MemsWf s.mems) : MemsWf (s.writePiece site c j).mems := by
  unfold writePiece
  extract_lets s1
  have h1 : MemsWf s1.mems := by simpa [s1] using h
  repeat' split
  · exact copyFan_wf _ _ _ _ h1
  · simpa using h1
  · simpa using h
  · exact copyWrite_wf _ _ _ _ _ _ (useCopy_wf _ _ _ h1)
@[simp] theorem mcastAtCore_wf {u : State} (site : Nat) (m : Msg) (h : MemsWf u.mems) : MemsWf (u.mcastAtCore site m).mems := by
  unfold State.mcastAtCore
  repeat' split
  all_goals simp (maxDischargeDepth := 12) [h]
@[simp] theorem addArrival_wf {s : State} (key : Nat) (m : Msg) (kick : Bool) (spill : Option Nat) (h : MemsWf s.mems) :
    MemsWf (s.addArrival key m kick spill).mems := by
  unfold addArrival
  extract_lets site c needs a s1 s2 s3
  have h1 : MemsWf s1.mems := by simpa [s1] using h
  have h2 : MemsWf s2.mems := by
    dsimp only [s2]
    split
    · exact locStore_wf _ _ _ _ _ h1
    · exact h1
  have h3 : s3.mems = s2.mems := by
    have hi : ∀ x d, (s2.modCore site fun c => c.install x d false).mems = s2.mems := fun x d => s2.mems_modCore site fun _ => rfl
    dsimp only [s3]
    repeat' split
    · exact hi ..
    · exact s2.mems_modCore site fun c => by rw [Core.recount_mem]
    · rfl
    · exact mems_coreFetch ..
    · rfl
  rw [mems_twinCopy, mems_settle, mems_foldl (fun u x => mems_coreFetch ..), h3]
  exact h2
@[simp] theorem twinArrival_wf {s : State} (site : Nat) (m : Msg) (kick : Bool) (h : MemsWf s.mems) : MemsWf (s.twinArrival site m kick).mems := by
  unfold State.twinArrival
  dsimp only
  repeat' split
  all_goals simp (maxDischargeDepth := 12) [h]
@[simp] theorem joinQueue_wf {s : State} (key : Nat) (r : Resident) (m : Msg) (spill : Option Nat) (h : MemsWf s.mems) :
    MemsWf (s.joinQueue key r m spill).mems := by
  unfold State.joinQueue
  split <;> simp (maxDischargeDepth := 12) [h]
@[simp] theorem acceptMember_wf {s : State} (key : Nat) (r : Resident) (m : Msg) (h : MemsWf s.mems) : MemsWf (s.acceptMember key r m).mems := by
  unfold State.acceptMember
  repeat' split
  all_goals simp (maxDischargeDepth := 12) [h]
@[simp] theorem invAtCore_wf {s : State} (site : Nat) (m : Msg) (h : MemsWf s.mems) : MemsWf (s.invAtCore site m).mems := by
  unfold invAtCore
  repeat' split
  next => exact twinArrival_wf _ _ _ h
  next => exact delivered_wf _ _ (fun u hu => by simpa using hu) h
  next => exact delivered_wf _ _ (fun u hu => memsWf_ite (by simpa using hu) (by simpa using hu)) h
  all_goals simp [h]
@[simp] theorem devWrite_wf {s : State} (site sl va n v : Nat) (h : MemsWf s.mems) : MemsWf (s.devWrite site sl va n v).1.mems := by
  have hl : ∀ (f : State × Bool → Nat × Nat × Nat → State × Bool), (∀ u p, MemsWf u.1.mems → MemsWf (f u p).1.mems) →
      ∀ (l : List (Nat × Nat × Nat)) (u : State × Bool), MemsWf u.1.mems → MemsWf (l.foldl f u).1.mems := fun f hf l => by
    induction l with
    | nil => exact fun _ hu => hu
    | cons p l ih => exact fun u hu => ih _ (hf u p hu)
  unfold devWrite
  dsimp only
  split
  · exact h
  · refine hl _ (fun u p hu => ?_) _ _ h
    have hx : ∀ r t a w, MemsWf (u.1.xlDone site r t a w).mems := fun r t a w => xlDone_wf _ _ _ _ _ hu
    repeat' split
    · exact hx ..
    · exact hx ..
    next hw => exact memsWf_hbmWrite hw (by rw [mems_mendSeen]; exact hx ..)
    · simpa using hx ..
@[simp] theorem rootPut_wf {s : State} (g : Group) (off : Nat) (m : Msg) (h : MemsWf s.mems) : MemsWf (s.rootPut g off m).1.mems := by
  unfold State.rootPut
  simp (maxDischargeDepth := 12) [h]
theorem queueJoin_wf {s t : State} {g : Group} {mem : Nat} {m : Msg} {place : Option Nat} (hj : s.queueJoin g mem m place = some t)
    (h : MemsWf s.mems) : MemsWf t.mems := by
  unfold queueJoin at hj
  revert hj
  split
  · exact memsWf_some h
  · extract_lets e a x
    have ha : MemsWf a.1.mems := by
      clear_value e
      dsimp only [a]
      split
      · exact h
      · exact rootPut_wf _ _ _ h
    by_cases hb : a.2 = true
    · rw [if_pos hb]
      exact fun hj => nomatch hj
    · rw [if_neg hb]
      exact memsWf_some (by rwa [mems_modMember])
@[simp] theorem invAtRoot_wf {s : State} (g : Group) (m : Msg) (h : MemsWf s.mems) : MemsWf (s.invAtRoot g m).mems := by
  unfold invAtRoot
  extract_lets came m1 s1 ok post
  have h1 : MemsWf s1.mems := by simpa [s1] using h
  have hok : MemsWf ok.mems := by simpa [ok] using h1
  have hpost : MemsWf (post ok).mems := by
    dsimp only [post]
    split
    · simpa using hok
    · exact hok
  repeat' split
  next => simpa using hpost
  next => simpa using hpost
  next => simpa using hok
  next => simpa using hok
  next => simpa using hok
  next => simpa using h1
  next => simpa using hpost
  next hj => simpa using queueJoin_wf hj h1
@[simp] theorem invArrives_wf {s : State} (k : Nat) (typ : BitVec 6) (h : MemsWf s.mems) : MemsWf (s.invArrives k typ).mems := by
  unfold State.invArrives
  repeat' split
  all_goals simp (maxDischargeDepth := 12) [h]
@[simp] theorem startArrival_wf {s : State} (key : Nat) (r : Resident) (a : Arrival) (h : MemsWf s.mems) : MemsWf (s.startArrival key r a).mems := by
  have h1 : ∀ (p : Bool) site a n v, MemsWf (if p = true then s.locStore site a n v false else s).mems := fun p site a n v =>
    memsWf_ite (locStore_wf _ _ _ _ _ h) h
  unfold startArrival
  dsimp only
  rw [mems_settle, mems_traceStart]
  refine memsWf_ite ?_ ?_
  · rw [mems_takeArrival]
    exact h1 ..
  · rw [mems_send, mems_takeArrival]
    exact h1 ..
@[simp] theorem devSeen_wf {s : State} (site sl va n : Nat) (h : MemsWf s.mems) : MemsWf (s.devSeen site sl va n).mems := by
  unfold devSeen
  dsimp only
  split
  · exact h
  · refine memsWf_foldl (fun u p hu => ?_) _ h
    have hx : ∀ r t a w, MemsWf (u.xlDone site r t a w).mems := fun r t a w => xlDone_wf _ _ _ _ _ hu
    repeat' split
    · exact hx ..
    · simpa using hx ..
    · exact hx ..
@[simp] theorem rootSeen_wf {s : State} (g : Group) (off : Nat) (h : MemsWf s.mems) : MemsWf (s.rootSeen g off).mems := by
  unfold State.rootSeen
  simp (maxDischargeDepth := 12) [h]
@[simp] theorem releaseBench_wf {s : State} (gi n : Nat) (h : MemsWf s.mems) : MemsWf (s.releaseBench gi n).mems := by
  induction n generalizing s with
  | zero => exact h
  | succ n ih =>
    unfold releaseBench
    split
    · exact h
    split
    · exact h
    split
    · exact h
    extract_lets s0 s1
    have h1 : MemsWf s1.mems := by
      have h0 : MemsWf s0.mems := by simpa [s0] using h
      dsimp only [s1]
      split
      · exact rootSeen_wf _ _ h0
      · exact h0
    split
    · exact ih (by simpa using h1)
    split
    next hd => exact ih (by rw [mems_descend hd]; exact h1)
    next => exact h
@[simp] theorem park_wf {s : State} (gi : Nat) (m : Msg) (h : MemsWf s.mems) : MemsWf (s.park gi m).mems := by
  unfold State.park
  dsimp only
  repeat' split
  all_goals simp (maxDischargeDepth := 12) [h]
theorem rootRows_wf {s t : State} {g : Group} {m : Msg} (hr : s.rootRows g m = some t) (h : MemsWf s.mems) : MemsWf t.mems := by
  unfold rootRows at hr
  revert hr
  repeat' split
  · exact memsWf_some (by rwa [mems_breakInv])
  · exact memsWf_some (by rwa [mems_breakInv])
  · exact memsWf_some (by rwa [mems_breakInv, mems_relayRecord])
  · exact memsWf_some (park_wf _ _ h)
  · exact fun hr => nomatch hr
@[simp] theorem passAtRoot_wf {s : State} (g : Group) (m : Msg) (h : MemsWf s.mems) : MemsWf (s.passAtRoot g m).mems := by
  unfold passAtRoot
  extract_lets m1
  clear_value m1
  repeat' split
  next hr => exact rootRows_wf hr h
  next => exact park_wf _ _ h
  next hd => rw [mems_descend hd]; exact h
  next => exact park_wf _ _ h
@[simp] theorem passAtSlot_wf {u : State} (g : Group) (key : Nat) (m : Msg) (h : MemsWf u.mems) : MemsWf (u.passAtSlot g key m).mems := by
  unfold State.passAtSlot
  dsimp only
  repeat' split
  all_goals simp (maxDischargeDepth := 12) [h]
@[simp] theorem bounceAt_wf {s : State} (g : Group) (n : Nat) (m : Msg) (h : MemsWf s.mems) : MemsWf (s.bounceAt g n m).mems := by
  unfold bounceAt
  extract_lets s1
  have h1 : MemsWf s1.mems := memsWf_ite (by simpa using h) h
  split
  · split
    next hr => exact releaseBench_wf _ _ (rootRows_wf hr h1)
    next =>
      split
      next hd => exact releaseBench_wf _ _ (by rw [mems_descend hd]; exact h1)
      next => exact park_wf _ _ h1
  · split
    next hd => rw [mems_descend hd]; exact h1
    next => simpa using h1
@[simp] theorem queueSeen_wf {s : State} (g : Group) (mem : Nat) (m : Msg) (h : MemsWf s.mems) : MemsWf (s.queueSeen g mem m).mems := by
  unfold State.queueSeen
  split <;> simp (maxDischargeDepth := 12) [h]
@[simp] theorem rstvImage_wf {s : State} (g : Group) (m : Msg) (h : MemsWf s.mems) : MemsWf (s.rstvImage g m).mems := by
  unfold State.rstvImage
  dsimp only
  repeat' split
  all_goals simp (maxDischargeDepth := 12) [h]
@[simp] theorem flushRstv_wf {s : State} (gi mem n : Nat) (h : MemsWf s.mems) : MemsWf (s.flushRstv gi mem n).mems := by
  induction n generalizing s with
  | zero => exact h
  | succ n ih =>
    unfold flushRstv
    repeat' split
    iterate 4 exact h
    all_goals exact ih (by simp (maxDischargeDepth := 5) [h])
theorem rstvAtRoot_wf {s t : State} {g : Group} {m : Msg} (hr : s.rstvAtRoot g m = some t) (h : MemsWf s.mems) : MemsWf t.mems := by
  unfold rstvAtRoot at hr
  revert hr
  extract_lets came m1 s1 g1 ok mem saving first
  have h1 : MemsWf s1.mems := by simpa [s1] using h
  have hok : MemsWf ok.mems := by simpa [ok] using h1
  have hreply : ∀ n, MemsWf (ok.reply m1 n).mems := fun n => by rwa [mems_reply]
  have hretry : MemsWf (s1.retryMsg m1).mems := by rwa [mems_retryMsg]
  clear_value s1 ok g1
  dsimp only
  repeat' split
  next => exact memsWf_some (hreply 3)
  next => exact memsWf_some (hreply 2)
  next => exact memsWf_some (hreply 2)
  next => exact memsWf_some (hreply 2)
  next => exact memsWf_some hretry
  next => exact fun hr => nomatch hr
  next => exact memsWf_some (flushRstv_wf _ _ _ (rstvImage_wf _ _ hok))
  next => exact memsWf_some hretry
  next => exact memsWf_some (hreply 4)
  next hj => exact memsWf_some (queueJoin_wf hj hok)
@[simp] theorem drainFirst_wf {s : State} (g : Group) (mem key : Nat) (r : MemberRec) (m : Msg) (rest : List Msg) (h : MemsWf s.mems) :
    MemsWf (s.drainFirst g mem key r m rest).mems := by
  unfold State.drainFirst
  split <;> simp (maxDischargeDepth := 12) [h]
@[simp] theorem readMethods_wf {s : State} (site : Nat) (d : Desc) (h : MemsWf s.mems) : MemsWf (s.readMethods site d).2.mems := by
  unfold State.readMethods
  dsimp only
  split <;> simp (maxDischargeDepth := 12) [h]
@[simp] theorem rereadMethods_wf {s : State} (gi : Nat) (h : MemsWf s.mems) : MemsWf (s.rereadMethods gi).mems := by
  unfold State.rereadMethods
  split <;> simp (maxDischargeDepth := 12) [h]
@[simp] theorem rootPlace_wf {s : State} (g : Group) (m : Msg) (ts : List Team) (h : MemsWf s.mems) : MemsWf (s.rootPlace g m ts).mems := by
  unfold State.rootPlace
  dsimp only
  repeat' split
  all_goals simp (maxDischargeDepth := 12) [h]
@[simp] theorem freshImage_wf {s : State} (g : Group) (key mem acc : Nat) (twin : Bool) (h : MemsWf s.mems) :
    MemsWf (s.freshImage g key mem acc twin).mems := by
  unfold State.freshImage
  simp (maxDischargeDepth := 12) [h]
@[simp] theorem rootAdd_wf {s : State} (g : Group) (m : Msg) (ts : List Team) (h : MemsWf s.mems) : MemsWf (s.rootAdd g m ts).mems := by
  unfold rootAdd
  dsimp only
  repeat' split
  all_goals try simp (maxDischargeDepth := 5) [h]
  exact memsWf_foldl (fun u e hu => freshImage_wf _ _ _ _ _ hu) _ (by simp [h])
@[simp] theorem flushAll_wf {s : State} (gi : Nat) (h : MemsWf s.mems) : MemsWf (s.flushAll gi).mems := by
  unfold flushAll
  split
  · exact h
  · exact memsWf_foldl (fun u e hu => flushRstv_wf _ _ _ hu) _ h
@[simp] theorem finishRun_wf {s : State} (gi : Nat) (h : MemsWf s.mems) : MemsWf (s.finishRun gi).mems := by
  unfold State.finishRun
  split <;> simp (maxDischargeDepth := 12) [h]
@[simp] theorem startRun_wf {s : State} (gi : Nat) (t : Trans) (h : MemsWf s.mems) : MemsWf (s.startRun gi t).mems := by
  unfold State.startRun
  dsimp only
  repeat' split
  all_goals simp (maxDischargeDepth := 12) [h]
@[simp] theorem finishPark_wf {s : State} (gi : Nat) (h : MemsWf s.mems) : MemsWf (s.finishPark gi).mems := by
  unfold State.finishPark
  dsimp only
  repeat' split
  all_goals simp (maxDischargeDepth := 12) [h]
@[simp] theorem rootPark_wf {s : State} (g : Group) (t : Trans) (h : MemsWf s.mems) : MemsWf (s.rootPark g t).mems := by
  unfold State.rootPark
  dsimp only
  split <;> simp (maxDischargeDepth := 12) [h]
@[simp] theorem rootMove_wf {s : State} (g : Group) (m : Msg) (ts : List Team) (h : MemsWf s.mems) : MemsWf (s.rootMove g m ts).mems := by
  unfold State.rootMove
  dsimp only
  repeat' split
  all_goals simp (maxDischargeDepth := 12) [h]
@[simp] theorem ctlAtRoot_wf {s : State} (m : Msg) (h : MemsWf s.mems) : MemsWf (s.ctlAtRoot m).mems := by
  unfold ctlAtRoot
  extract_lets fn ts s1
  have h1 : MemsWf s1.mems := h
  clear_value fn s1 ts
  repeat' split
  all_goals simp [h1]
@[simp] theorem readImage_wf {s : State} (g : Group) (r : Resident) (h : MemsWf s.mems) : MemsWf (s.readImage g r).2.mems := by
  unfold State.readImage
  dsimp only
  split <;> simp (maxDischargeDepth := 12) [h]
@[simp] theorem loadMember_wf {s : State} (key : Nat) (h : MemsWf s.mems) : MemsWf (s.loadMember key).mems := by
  unfold loadMember
  dsimp only
  repeat' split
  all_goals simp (maxDischargeDepth := 5) [h]
@[simp] theorem makeResident_wf {s : State} (key : Nat) (r : Resident) (h : MemsWf s.mems) : MemsWf (s.makeResident key r).mems := by
  unfold makeResident
  exact memsWf_ite h (loadMember_wf _ h)
@[simp] theorem residence_wf {s : State} (site key : Nat) (m : Msg) (h : MemsWf s.mems) : MemsWf (s.residence site key m).mems := by
  unfold residence
  dsimp only
  repeat' split
  all_goals simp (maxDischargeDepth := 5) [h]
theorem ctlAtCore_wf {s t : State} {site : Nat} {m : Msg} (hc : s.ctlAtCore site m = some t) (h : MemsWf s.mems) : MemsWf t.mems := by
  unfold ctlAtCore at hc
  revert hc
  dsimp only
  repeat' split
  all_goals first
    | exact memsWf_some (by simp [h])
    | exact fun hc => nomatch hc
theorem reportAtRoot_wf {s t : State} {gi : Nat} {m : Msg} (hr : s.reportAtRoot gi m = some t) (h : MemsWf s.mems) : MemsWf t.mems := by
  unfold reportAtRoot at hr
  revert hr
  split
  · exact memsWf_some h
  split
  · exact memsWf_some h
  extract_lets what s1
  have h1 : MemsWf s1.mems := memsWf_ite (by simpa using h) h
  clear_value s1
  split
  · exact memsWf_some h1
  extract_lets mine
  split
  · exact memsWf_some h1
  split
  · exact memsWf_some (by rwa [mems_modGroup])
  split
  · exact fun hr => nomatch hr
  rename_i s2 _ _ _
  have h2 : MemsWf s2.mems := by simpa [s2] using h1
  clear_value s2
  refine memsWf_some ?_
  repeat' split
  all_goals simp [h2]
@[simp] theorem parkArrival_wf {v : State} (key : Nat) (r : Resident) (a : Arrival) (m : Msg) (h : MemsWf v.mems) :
    MemsWf (v.parkArrival key r a m).mems := by
  unfold parkArrival
  dsimp only
  repeat' split
  all_goals first
    | simpa using queueJoin_wf ‹_› h
    | simp [h]
@[simp] theorem kickQueued_wf {s : State} (g : Group) (m : Msg) (h : MemsWf s.mems) : MemsWf (s.kickQueued g m).mems := by
  unfold kickQueued
  dsimp only
  repeat' split
  all_goals first
    | exact queueJoin_wf ‹_› h
    | simp [h]
/-- The state that a start at a slot leaves. -/
def kickState : KickEnd → State
  | .done u => u
  | .full u => u
theorem kickMember_wf {s : State} (g : Group) (site mem : Nat) (m : Msg) (h : MemsWf s.mems) :
    MemsWf (kickState (s.kickMember g site mem m)).mems := by
  unfold kickMember
  extract_lets no on away
  have hno : MemsWf (kickState no).mems := by simpa [no, kickState] using h
  have haway : MemsWf (kickState away).mems := by
    dsimp only [away, on]
    split
    · have hd : MemsWf s.drawBool.2.mems := by simpa using h
      split
      next u hu => simpa [hu, kickState] using hd
      next u hu => simpa [hu, kickState] using hd
    · simpa [kickState] using h
  clear_value no away
  repeat' split
  next => exact hno
  next => exact hno
  next => exact haway
  next => exact haway
  next => exact hno
  next => exact haway
  next => exact h
  next => exact addArrival_wf _ _ _ _ (by simpa using h)
theorem kickSlots_wf {s : State} (g : Group) (site team : Nat) (m : Msg) (l : List Nat) (h : MemsWf s.mems) :
    MemsWf (s.kickSlots g site team m l).1.mems := by
  induction l generalizing s with
  | nil => exact h
  | cons j r ih =>
    unfold kickSlots
    split
    · exact ih (by simpa using h)
    next mem _ =>
      have hk := kickMember_wf g site mem m h
      split
      next u hu => simpa only [hu, kickState] using hk
      next u hu =>
        rw [hu] at hk
        split
        · exact hk
        · exact ih hk
/-- A reset leaves host memory and clears the others (R308). -/
@[simp] theorem packageReset_wf {s : State} (h : MemsWf s.mems) : MemsWf s.packageReset.mems :=
  ⟨Memory.wf_empty _, h.2.1, fun _ => Memory.wf_empty _⟩
@[simp] theorem diesReset_wf {s : State} (h : MemsWf s.mems) : MemsWf s.diesReset.mems :=
  ⟨h.1, (packageReset_wf h).2⟩
@[simp] theorem release_wf {s : State} (h : MemsWf s.mems) : MemsWf s.release.mems := by
  refine memsWf_foldl (fun u d hu => ?_) _ (diesReset_wf h :)
  rw [mems_flood]
  exact memsWf_modCore _ (fun _ hc => Memory.store_wf _ _ _ hc) hu
@[simp] theorem ckptUnit_wf {s : State} (c : Ckpt) (l : CkLeaf) (key : Nat) (h : MemsWf s.mems) : MemsWf (s.ckptUnit c l key).mems := by
  unfold ckptUnit
  extract_lets va off pa ten seen s1
  have hs : MemsWf seen.mems := by
    rw [show seen.mems = s.mems from mems_foldl (fun _ _ => mems_secSeen ..) _ s]
    exact h
  have h1 : MemsWf s1.mems := memsWf_host seen (Memory.store_wf _ _ _ h.2.1) hs
  split
  · rw [mems_ckptEnd]
    exact dirty_wf _ h
  · rwa [mems_modCkpt]
@[simp] theorem bar2Op_wf {s : State} (op : BarOp) (pa : Nat) (v cmp : Word) (h : MemsWf s.mems) : MemsWf (s.bar2Op op pa v cmp).mems := by
  have hm : MemsWf (s.mendSeen 0 1 pa 8).mems := by simpa using h
  unfold bar2Op
  dsimp only
  repeat' split
  next => exact h
  next => simpa using h
  next hw => exact memsWf_hbmWrite hw hm
  next => simpa using hm
@[simp] theorem useAll_wf {s : State} (site : Nat) (wr : Bool) (l : List TlbEnt) (h : MemsWf s.mems) : MemsWf (s.useAll site wr l).mems := by
  induction l generalizing s with
  | nil => exact h
  | cons e r ih => exact ih (useXl_wf _ _ _ h)

end Sys2Proof.Machine.State
end


section
/-! ### Every step keeps the memories in canonical form (O58) -/

namespace Sys2Proof.Machine
open State

/-- What a slot's body leaves keeps the memories in canonical form. -/
inductive SlotRes.Keeps : SlotRes → Prop
  | done {t : State} (h : MemsWf t.mems) : Keeps (.done t)
  | wait {ask : State → State} (h : ∀ v, MemsWf v.mems → MemsWf (ask v).mems) : Keeps (.wait ask)
  | raise (t : Trap) : Keeps (.raise t)

/-- A next state with the memories in canonical form, where there is a next state. -/
structure Keeps (o : Host.Outcome State Fault Refusal) : Prop where
  wf : ∀ t, o = .next t → MemsWf t.mems

@[simp] theorem keeps_next (t : State) : Keeps (.next t) ↔ MemsWf t.mems :=
  ⟨fun h => h.wf t rfl, fun h => ⟨fun _ he => Host.Outcome.next.inj he ▸ h⟩⟩

namespace SlotRes

@[simp] theorem keeps_done (t : State) : (done t).Keeps ↔ MemsWf t.mems := ⟨fun | .done h => h, .done⟩
@[simp] theorem keeps_wait (ask : State → State) : (wait ask).Keeps ↔ ∀ v, MemsWf v.mems → MemsWf (ask v).mems :=
  ⟨fun | .wait h => h, .wait⟩
@[simp] theorem keeps_raise (t : Trap) : (raise t).Keeps := .raise t
@[simp] theorem keeps_fault (u : State) (c : Cause) (v : Word) : (u.fault c v).Keeps := .raise _
@[simp] theorem keeps_operand (u : State) : u.operand.Keeps := .raise _
@[simp] theorem keeps_hold (u : State) : u.hold.Keeps := .wait fun _ h => h
theorem keeps_withFaults {r : SlotRes} (i : Instr) (fs : List Trap) (h : r.Keeps) : (r.withFaults i fs).Keeps := by
  unfold withFaults
  split
  · exact .raise _
  · exact h

end SlotRes

theorem slot_keeps {i : Instr} {body : State → SlotRes} {s : State} (hb : ∀ u, MemsWf u.mems → (body u).Keeps) (h : MemsWf s.mems) :
    Keeps (slot i body s) := by
  have hw := SlotRes.keeps_withFaults i (earlyFaults i s) (hb s h)
  have ho := SlotRes.keeps_withFaults i (earlyFaults i s) (hb s.openBundle (by simpa using h))
  unfold slot
  repeat' split
  all_goals simp_all

end Sys2Proof.Machine

namespace Sys2Proof.Machine.State

@[simp] theorem await_keeps {u : State} {ask : State → State} {f : Word → SlotRes} (ha : ∀ v, MemsWf v.mems → MemsWf (ask v).mems)
    (hf : ∀ a, (f a).Keeps) : (u.await ask f).Keeps := by
  unfold await
  split
  · exact hf _
  · refine .wait fun v hv => ?_
    split
    · exact hv
    · simpa using ha v hv
@[simp] theorem completion_keeps {u : State} (late : Bool) {k : SlotRes} (hk : k.Keeps) : (u.completion late k).Keeps := by
  unfold completion
  repeat' split
  · simp
  · simp
  · exact hk
@[simp] theorem fence_keeps {u : State} (kind : FenceKind) {k : SlotRes} (hk : k.Keeps) : (u.fence kind k).Keeps := by
  refine completion_keeps _ ?_
  split
  · exact hk
  all_goals
    split
    · exact hk
    · simp
@[simp] theorem readBlock_keeps {u : State} (addr : Word) (align n : Nat) {f : Nat → SlotRes} (hf : ∀ x, (f x).Keeps) :
    (u.readBlock addr align n f).Keeps := by
  unfold readBlock
  repeat' split
  all_goals simp [hf]
@[simp] theorem barForm_keeps {u : State} (xs : XReg) (arrives : Bool) {k : Resident → Nat → SlotRes} (hk : ∀ r n, (k r n).Keeps)
    (h : MemsWf u.mems) : (u.barForm xs arrives k).Keeps := by
  unfold barForm
  dsimp only
  repeat' split
  all_goals simp [h, hk]
@[simp] theorem barWait_keeps {u : State} (id : Nat) {ask : State → State} (ha : ∀ v, MemsWf v.mems → MemsWf (ask v).mems) (h : MemsWf u.mems) :
    (u.barWait id ask).Keeps := by
  unfold barWait
  dsimp only
  repeat' split
  · simpa using h
  · exact .wait fun v hv => by simpa using hv
  · exact .wait fun v hv => by simpa using ha v hv
@[simp] theorem access_keeps {u : State} (c : Acc) (h : MemsWf u.mems) : (u.access c).Keeps := by
  unfold access
  dsimp only
  repeat' split
  all_goals simp (maxDischargeDepth := 6) [h]
@[simp] theorem gather_keeps {u : State} (i : Instr) (a : AReg) (xi : BitVec 5) (sz : BitVec 3) (ok : Byte → Bool) (op : AccOp) (dst : List RegRef)
    (wr : Bool) (h : MemsWf u.mems) : (u.gather i a xi sz ok op dst wr).Keeps := by
  unfold gather
  dsimp only
  repeat' split
  all_goals simp (maxDischargeDepth := 6) [h]
@[simp] theorem atomic_keeps {u : State} (i : Instr) (d : XReg) (a : AReg) (x : XReg) (sc : Scope) (ord : BitVec 2) (op : BitVec 4)
    (h : MemsWf u.mems) : (u.atomic i d a x sc ord op).Keeps := access_keeps _ h
@[simp] theorem hwait_keeps {u : State} (i : Instr) (v : Bool) (d : BitVec 5) (xh xf : XReg) (dst : List RegRef)
    (h : MemsWf u.mems) : (u.hwait i v d xh xf dst).Keeps := by
  unfold hwait
  dsimp only
  repeat' split
  all_goals simp (maxDischargeDepth := 6) [h]
@[simp] theorem hreply_keeps {u : State} (t : Word) (r : BitVec 512) (h : MemsWf u.mems) : (u.hreply t r).Keeps := by
  have hi : ∀ a b, (u.modMyCore fun c => c.install a b true).mems = u.mems := fun a b => u.mems_modMyCore fun _ => rfl
  unfold hreply
  dsimp only
  repeat' split
  all_goals simp (maxDischargeDepth := 6) [h, hi]
@[simp] theorem inv_keeps {u : State} (d xt : XReg) (va : VReg) (tag : BitVec 6) (kind : InvKind) (sticky : Bool) (n : Nat) (h : MemsWf u.mems) :
    (u.inv d xt va tag kind sticky n).Keeps := by
  unfold inv
  dsimp only
  repeat' split
  all_goals simp (maxDischargeDepth := 6) [h]
@[simp] theorem leaving_wf {u : State} (l : Leave) {alone : State → State} (ha : ∀ v, MemsWf v.mems → MemsWf (alone v).mems) (h : MemsWf u.mems) :
    MemsWf (u.leaving l alone).mems := by
  unfold leaving
  split
  · simpa using h
  · exact ha _ h
@[simp] theorem finish_keeps {u : State} (how : Nat) (h : MemsWf u.mems) : (u.finish how).Keeps := by
  refine completion_keeps _ ?_
  dsimp only
  repeat' split
  · exact SlotRes.keeps_hold _
  · exact .done (leaving_wf _ (fun v hv => by simpa using hv) h)
  · exact SlotRes.keeps_hold _
  · exact .done (leaving_wf _ (fun v hv => by simpa using hv) h)
@[simp] theorem grpSend_keeps {u : State} (d : XReg) (fn : Nat) (name operand : Word) (tab : List Team) (h : MemsWf u.mems) :
    (u.grpSend d fn name operand tab).Keeps := by
  unfold grpSend
  dsimp only
  split
  · simp
  · simp (maxDischargeDepth := 6) [h]
@[simp] theorem grpTable_keeps {u : State} (d : XReg) (fn : Nat) (name addr : Word) (n base : Group → Nat) (more : Group → List Team → Bool)
    (h : MemsWf u.mems) : (u.grpTable d fn name addr n base more).Keeps := by
  unfold grpTable
  split
  · simp
  split
  · simp [h]
  · refine readBlock_keeps _ _ _ fun x => ?_
    repeat' split
    all_goals simp [h]
@[simp] theorem hfsend_keeps {u : State} (v : Word) {k : State → SlotRes} (hk : ∀ u, MemsWf u.mems → (k u).Keeps) (h : MemsWf u.mems) :
    (u.hfsend v k).Keeps := by
  have ask : ∀ q : State → State, (∀ v, MemsWf v.mems → MemsWf (q v).mems) →
      (u.await q fun a => if a = 1 then k u else .wait fun s => (hfQueue v s).modCur fun t => { t with answer := none }).Keeps := fun q hq => by
    refine await_keeps hq fun a => ?_
    split
    · exact hk u h
    · exact .wait fun s hs => by simpa using hs
  unfold hfsend
  dsimp only
  repeat' split
  · exact hk _ (by simpa using h)
  · exact hk _ h
  · exact ask _ fun v hv => by simpa using hv
  all_goals exact fence_keeps _ (ask _ fun v hv => by simpa using hv)
@[simp] theorem mapsetOn_keeps {u : State} (d : XReg) (op : Nat) (ten : BitVec 12) (x2 : Word) (table : Nat) (h : MemsWf u.mems) :
    (u.mapsetOn d op ten x2 table).Keeps := by
  unfold mapsetOn
  dsimp only
  repeat' split
  all_goals simp (maxDischargeDepth := 6) [h]
@[simp] theorem crWrite_keeps {u : State} (o : CrOp) (x : XReg) (cr : BitVec 12) (h : MemsWf u.mems) : (u.crWrite o x cr).Keeps := by
  unfold crWrite
  dsimp only
  repeat' split
  · simp
  · simp [h]
  · exact hfsend_keeps _ (fun _ hu => .done hu) h
  · simp [h]
end Sys2Proof.Machine.State

namespace Sys2Proof.Machine
open State

/-! #### Instructions and events -/

theorem drawBool_wf {s u : State} {b : Bool} (hd : s.drawBool = (b, u)) (h : MemsWf s.mems) : MemsWf u.mems := by
  rw [← show s.drawBool.2 = u from by rw [hd], mems_drawBool]
  exact h
/-- Device memory after a write, in any state whose memories are in canonical form. -/
theorem memsWf_written {s u : State} {b g g' : Hbm} {key a n v : Nat} {p : Bool} (hw : b.write key a n v p = some g) (hb : b.bytes = u.mems.1)
    (hg : g'.bytes = g.bytes) (hu : MemsWf u.mems) (hs : s.mems = u.mems) : MemsWf ({ s with hbm := g' } : State).mems := by
  refine memsWf_hbm s ?_ (hs ▸ hu)
  rw [hg]
  exact write_wf hw (by rw [hb]; exact hu.1)
theorem withEgress_wf {s : State} (a : Agent) (m : Msg) {go : State → State} (hgo : ∀ u, MemsWf u.mems → MemsWf (go u).mems) (h : MemsWf s.mems) :
    MemsWf (s.withEgress a m go).mems := by
  unfold State.withEgress
  split
  · split
    next hd => simpa using drawBool_wf hd h
    next hd => exact hgo _ (drawBool_wf hd h)
  · exact hgo s h
theorem coreTakes_wf {s : State} (k : Nat) (typ : BitVec 6) {f : State → Nat → Msg → State}
    (hf : ∀ u n m, MemsWf u.mems → MemsWf (f u n m).mems) (h : MemsWf s.mems) : MemsWf (s.coreTakes k typ f).mems := by
  unfold State.coreTakes
  repeat' split
  next => exact h
  next => exact h
  next => simpa using h
  next => exact hf _ _ _ (by simpa using h)
  next => simpa using h
  next => exact h
theorem bindSticky_wf {s : State} (key : Nat) (a : Word) (c : BitVec 2) {f : State → Msg → State}
    (hf : ∀ u m, MemsWf u.mems → MemsWf (f u m).mems) (h : MemsWf s.mems) : MemsWf (s.bindSticky key a c f).mems := by
  unfold State.bindSticky
  dsimp only
  split
  · exact h
  · exact memsWf_foldl (fun u m hu => hf _ _ hu) _ (by simpa using h)
theorem drainFirst_wf {s : State} (g : Group) (mem key : Nat) (r : MemberRec) (m : Msg) (rest : List Msg) (h : MemsWf s.mems) :
    MemsWf (s.drainFirst g mem key r m rest).mems := by
  unfold State.drainFirst
  extract_lets s1
  have h1 : MemsWf s1.mems := queueSeen_wf _ _ _ (by simpa using h)
  split
  · simpa using h1
  · dsimp only
    rw [mems_send]
    exact memsWf_ite h1 (by simpa using h1)
theorem freeze_mem (c : Core) (key : Nat) : (c.freeze key).mem = c.mem := by
  unfold Core.freeze
  dsimp only
  split <;> rfl
section
variable {st : State} (h : MemsWf st.mems)
include h
theorem branch_keeps (i : Instr) (s t : XReg) (off : BitVec 14) (cond : Word → Word → Bool) :
    Keeps (branch i s t off cond st) := slot_keeps (fun u hu => by simp [hu]) h
theorem aRepoint_keeps (i : Instr) (ad asrc : AReg) (n : State → ARegV → Int) : Keeps (aRepoint i ad asrc n st) := by
  refine slot_keeps (fun u hu => ?_) h
  dsimp only
  repeat' split
  all_goals simp [hu]
theorem aRead_keeps (i : Instr) (asrc : AReg) (x : XReg) (f : ARegV → Word) : Keeps (aRead i asrc x f st) := slot_keeps (fun u hu => by simp [hu]) h
theorem copyIssue_keeps (i : Instr) (kind : CopyKind) (ad asrc : AReg) (xl : XReg) (tag : BitVec 6) (sel : BitVec 2) :
    Keeps (copyIssue i kind ad asrc xl tag sel st) := by
  refine slot_keeps (fun u hu => ?_) h
  dsimp only
  repeat' split
  all_goals simp [hu]
theorem acop_keeps (i : Instr) (kind : MKind) (xp xc xl : XReg) (len : Nat) : Keeps (acop i kind xp xc xl len st) := by
  refine slot_keeps (fun u hu => ?_) h
  dsimp only
  repeat' split
  all_goals simp [hu]
theorem ready_keeps (i : Instr) (xc xn : XReg) (f : Nat → Nat → Nat) : Keeps (ready i xc xn f st) := by
  refine slot_keeps (fun u hu => ?_) h
  dsimp only
  repeat' split
  all_goals simp [hu]
theorem holdBit_keeps (i : Instr) (n : VReg) (b : Bool) : Keeps (holdBit i n b st) := by
  refine slot_keeps (fun u hu => ?_) h
  dsimp only
  repeat' split
  all_goals simp [hu]
theorem kick_keeps (i : Instr) (d s a : XReg) (fn : Bool) : Keeps (kick i d s a fn st) := by
  refine slot_keeps (fun u hu => ?_) h
  dsimp only
  repeat' split
  all_goals simp [hu]
theorem mapset_keeps (i : Instr) (d s t : XReg) : Keeps (mapset i d s t st) := by
  refine slot_keeps (fun u hu => ?_) h
  dsimp only
  repeat' split
  · simp
  · refine readBlock_keeps _ _ _ fun x => ?_
    split
    · simp
    · simp [hu]
  · simp [hu]
theorem keyslot_keeps (i : Instr) (d s : XReg) : Keeps (keyslot i d s st) := by
  refine slot_keeps (fun u hu => ?_) h
  dsimp only
  repeat' split
  all_goals simp [hu]
theorem xOp2_keeps (i : Instr) (d s t : XReg) (f : Word → Word → Word) : Keeps (xOp2 i d s t f st) := slot_keeps (fun u hu => by simp [hu]) h
theorem xOp1_keeps (i : Instr) (d s : XReg) (f : Word → Word) : Keeps (xOp1 i d s f st) := slot_keeps (fun u hu => by simp [hu]) h
theorem fOp2_keeps (i : Instr) (d s t : XReg) (fl : BitVec 2) (f : RCtl → Nat → Nat → Nat × FFlags) :
    Keeps (fOp2 i d s t fl f st) := slot_keeps (fun u hu => by simp [hu]) h
theorem fOp1_keeps (i : Instr) (d s : XReg) (fl : BitVec 2) (f : RCtl → Nat → Nat × FFlags) :
    Keeps (fOp1 i d s fl f st) := slot_keeps (fun u hu => by simp [hu]) h
theorem vOp2_keeps (i : Instr) (d s t : VReg) (ty : Ty) (mk : MReg) (f : State → Nat → Nat → Nat × FFlags) :
    Keeps (vOp2 i d s t ty mk f st) := slot_keeps (fun u hu => by simp [hu]) h
theorem vOp1_keeps (i : Instr) (d s : VReg) (ty : Ty) (mk : MReg) (f : State → Nat → Nat × FFlags) :
    Keeps (vOp1 i d s ty mk f st) := slot_keeps (fun u hu => by simp [hu]) h
theorem vWiden_keeps (i : Instr) (d s t : VReg) (ty : Ty) (mk : MReg) (f : State → Nat → Nat → Nat → Nat × FFlags) :
    Keeps (vWiden i d s t ty mk f st) := by
  refine slot_keeps (fun u hu => ?_) h
  dsimp only
  repeat' split
  all_goals simp [hu]
theorem sfuIssue_keeps (i : Instr) (d s : VReg) (mk : MReg) : Keeps (sfuIssue i d s mk st) := by
  refine slot_keeps (fun u hu => ?_) h
  dsimp only
  repeat' split
  all_goals simp [hu]
theorem mmIssue_keeps (i : Instr) (ad s t : AReg) (dOk : Byte → Bool) (fl : BitVec 2) : Keeps (mmIssue i ad s t dOk fl st) := by
  refine slot_keeps (fun u hu => ?_) h
  dsimp only
  repeat' split
  all_goals simp [hu]
theorem execAnarrow_keeps (ad asrc : AReg) (xb xr : XReg) : Keeps (execAnarrow ad asrc xb xr st) := by
  refine slot_keeps (fun u hu => ?_) h
  dsimp only
  repeat' split
  all_goals simp [hu]
theorem execAmake_keeps (ad : AReg) (xb xr : XReg) : Keeps (execAmake ad xb xr st) := by
  refine slot_keeps (fun u hu => ?_) h
  dsimp only
  repeat' split
  all_goals simp [hu]
theorem execJalr_keeps (d s : XReg) (imm : BitVec 10) : Keeps (execJalr d s imm st) := by
  refine slot_keeps (fun u hu => ?_) h
  dsimp only
  repeat' split
  all_goals simp [hu]
theorem execLdv_keeps (d : VReg) (a : AReg) (xi : BitVec 5) (la : BitVec 4) (sz mode : BitVec 3) : Keeps (execLdv d a xi la sz mode st) := by
  refine slot_keeps (fun u hu => ?_) h
  repeat' split
  all_goals simp [hu]
theorem execStv_keeps (s : VReg) (a : AReg) (xi : BitVec 5) (sz mode : BitVec 3) : Keeps (execStv s a xi sz mode st) := by
  refine slot_keeps (fun u hu => ?_) h
  repeat' split
  all_goals simp [hu]
theorem execHtest_keeps (d xh : XReg) : Keeps (execHtest d xh st) := by
  refine slot_keeps (fun u hu => ?_) h
  dsimp only
  repeat' split
  all_goals simp [hu]
theorem execHfree_keeps (xh : XReg) : Keeps (execHfree xh st) := by
  refine slot_keeps (fun u hu => ?_) h
  dsimp only
  repeat' split
  all_goals simp [hu]
theorem execHbreak_keeps (xt xc : XReg) : Keeps (execHbreak xt xc st) := by
  refine slot_keeps (fun u hu => ?_) h
  dsimp only
  repeat' split
  all_goals simp [hu]
theorem execVins_keeps (d : VReg) (s t : XReg) (ty : Ty) : Keeps (execVins d s t ty st) := by
  refine slot_keeps (fun u hu => ?_) h
  dsimp only
  repeat' split
  all_goals simp [hu]
theorem execVext_keeps (d : XReg) (s : VReg) (t : XReg) (ty : Ty) (un : Bool) : Keeps (execVext d s t ty un st) := by
  refine slot_keeps (fun u hu => ?_) h
  dsimp only
  repeat' split
  all_goals simp [hu]
theorem execVnarrow_keeps (d s : VReg) (ty : Ty) (mk : MReg) (fl : BitVec 2) : Keeps (execVnarrow d s ty mk fl st) := by
  refine slot_keeps (fun u hu => ?_) h
  repeat' split
  all_goals simp [hu]
theorem execVcvt_keeps (d s : VReg) (sty : Ty) (fl : BitVec 2) (dty : Ty) (du ds : Bool) (mk : MReg) :
    Keeps (execVcvt d s sty fl dty du ds mk st) := by
  refine slot_keeps (fun u hu => ?_) h
  dsimp only
  repeat' split
  all_goals simp [hu]
theorem execVquant_keeps (d s : VReg) (x : XReg) (ty : Ty) (mk : MReg) (un : Bool) : Keeps (execVquant d s x ty mk un st) := by
  refine slot_keeps (fun u hu => ?_) h
  dsimp only
  repeat' split
  all_goals simp [hu]
theorem execVrsum_keeps (d : XReg) (s : VReg) (ty : Ty) (mk : MReg) (fl : BitVec 2) : Keeps (execVrsum d s ty mk fl st) := by
  refine slot_keeps (fun u hu => ?_) h
  repeat' split
  all_goals simp [hu]
theorem execVrmax_keeps (d : XReg) (s : VReg) (ty : Ty) (mk : MReg) (fl : BitVec 2) : Keeps (execVrmax d s ty mk fl st) := by
  refine slot_keeps (fun u hu => ?_) h
  repeat' split
  all_goals simp [hu]
theorem execMtile_keeps (xc : XReg) (opA opB : BitVec 6) (tb ta : Bool) (mode : BitVec 2) : Keeps (execMtile xc opA opB tb ta mode st) := by
  refine slot_keeps (fun u hu => ?_) h
  dsimp only
  repeat' split
  all_goals simp [hu]
theorem execMjob_keeps (d s : XReg) : Keeps (execMjob d s st) := by
  refine slot_keeps (fun u hu => readBlock_keeps _ _ _ fun x => ?_) h
  dsimp only
  repeat' split
  all_goals simp [hu]
theorem execMwait_keeps (d s : XReg) (la : BitVec 4) : Keeps (execMwait d s la st) := by
  refine slot_keeps (fun u hu => ?_) h
  dsimp only
  repeat' split
  all_goals simp [hu]
theorem execMcancel_keeps (s : XReg) : Keeps (execMcancel s st) := by
  refine slot_keeps (fun u hu => ?_) h
  repeat' split
  all_goals simp [hu]
theorem execAczero_keeps (xc : XReg) : Keeps (execAczero xc st) := by
  refine slot_keeps (fun u hu => ?_) h
  repeat' split
  all_goals simp [hu]
theorem execTgset_keeps (s : XReg) : Keeps (execTgset s st) := by
  refine slot_keeps (fun u hu => ?_) h
  repeat' split
  all_goals simp [hu]
theorem execRdyq_keeps (d xc : XReg) (la : BitVec 4) : Keeps (execRdyq d xc la st) := by
  refine slot_keeps (fun u hu => ?_) h
  dsimp only
  repeat' split
  all_goals simp [hu]
theorem execBarr_keeps (s : XReg) : Keeps (execBarr s st) := by
  refine slot_keeps (fun u hu => barForm_keeps _ _ (fun r id => ?_) hu) h
  repeat' split
  all_goals simp [hu]
theorem execBarw_keeps (s : XReg) : Keeps (execBarw s st) := by
  refine slot_keeps (fun u hu => barForm_keeps _ _ (fun r id => ?_) hu) h
  split
  · exact .done hu
  · exact barWait_keeps _ (fun _ hv => hv) hu
theorem execBarrw_keeps (s : XReg) : Keeps (execBarrw s st) := by
  refine slot_keeps (fun u hu => barForm_keeps _ _ (fun r id => ?_) hu) h
  repeat' split
  all_goals simp [hu]
theorem execBarwd_keeps (s : XReg) : Keeps (execBarwd s st) := by
  refine slot_keeps (fun u hu => ?_) h
  repeat' split
  all_goals simp [hu]
theorem execBarq_keeps (d s : XReg) : Keeps (execBarq d s st) := by
  refine slot_keeps (fun u hu => ?_) h
  dsimp only
  repeat' split
  all_goals simp [hu]
theorem execMcast_keeps (vs : VReg) (a : AReg) (xset : XReg) (tag : BitVec 6) (size : BitVec 2) (ordered : Bool) :
    Keeps (execMcast vs a xset tag size ordered st) := by
  refine slot_keeps (fun u hu => ?_) h
  dsimp only
  repeat' split
  all_goals simp [hu]
theorem execWaitany_keeps (d s : XReg) : Keeps (execWaitany d s st) := by
  refine slot_keeps (fun u hu => ?_) h
  dsimp only
  repeat' split
  all_goals simp [hu]
theorem execWaitall_keeps (s : XReg) : Keeps (execWaitall s st) := by
  refine slot_keeps (fun u hu => ?_) h
  dsimp only
  repeat' split
  all_goals simp [hu]
theorem execEret_keeps : Keeps (execEret st) := by
  refine slot_keeps (fun u hu => ?_) h
  dsimp only
  repeat' split
  all_goals simp [hu]
theorem execFence_keeps (sc : Scope) (kind : FenceKind) : Keeps (execFence sc kind st) := by
  refine slot_keeps (fun u hu => ?_) h
  repeat' split
  all_goals simp [hu]
theorem execDrainnt_keeps (sc : Scope) : Keeps (execDrainnt sc st) := by
  refine slot_keeps (fun u hu => ?_) h
  dsimp only
  repeat' split
  all_goals simp [hu]
theorem execYield_keeps (dl : BitVec 8) (xm : XReg) : Keeps (execYield dl xm st) := by
  refine slot_keeps (fun u hu => ?_) h
  dsimp only
  repeat' split
  all_goals simp [hu]
theorem execGnew_keeps (d s : XReg) : Keeps (execGnew d s st) := by
  refine slot_keeps (fun u hu => readBlock_keeps _ _ _ fun x => ?_) h
  dsimp only
  repeat' split
  all_goals simp [hu]
theorem execGdrop_keeps (d s t : XReg) : Keeps (execGdrop d s t st) := by
  refine slot_keeps (fun u hu => ?_) h
  repeat' split
  all_goals simp [hu]
theorem execGpark_keeps (d s : XReg) : Keeps (execGpark d s st) := by
  refine slot_keeps (fun u hu => ?_) h
  repeat' split
  all_goals simp [hu]
theorem execGrun_keeps (d s : XReg) : Keeps (execGrun d s st) := by
  refine slot_keeps (fun u hu => ?_) h
  repeat' split
  all_goals simp [hu]
theorem execGend_keeps (d s t : XReg) : Keeps (execGend d s t st) := by
  refine slot_keeps (fun u hu => ?_) h
  repeat' split
  all_goals simp [hu]
theorem execBarcfg_keeps (d s t : XReg) : Keeps (execBarcfg d s t st) := by
  refine slot_keeps (fun u hu => ?_) h
  dsimp only
  split
  · simp
  split
  · simp [hu]
  refine readBlock_keeps _ _ _ fun x => ?_
  repeat' split
  · exact .raise _
  · exact await_keeps (fun v hv => by simpa using hv) fun a => .done (by simpa using hu)
  · exact .raise _
  · exact await_keeps (fun v hv => by simpa using hv) fun a => .done (by simpa using hu)
theorem execRstv_keeps (vs : VReg) (xt : XReg) (tag : BitVec 6) (n : VReg) (release : Bool) : Keeps (execRstv vs xt tag n release st) := by
  refine slot_keeps (fun u hu => ?_) h
  dsimp only
  repeat' split
  all_goals simp [hu]
theorem execTlbinv_keeps (s t : XReg) : Keeps (execTlbinv s t st) := by
  refine slot_keeps (fun u hu => ?_) h
  dsimp only
  repeat' split
  all_goals simp [hu]
theorem execErrclr_keeps (d s : XReg) : Keeps (execErrclr d s st) := by
  refine slot_keeps (fun u hu => ?_) h
  dsimp only
  repeat' split
  all_goals simp [hu]
theorem execCoreret_keeps (d s t : XReg) : Keeps (execCoreret d s t st) := by
  refine slot_keeps (fun u hu => ?_) h
  dsimp only
  repeat' split
  all_goals simp [hu]
theorem execCkpt_keeps (d s : XReg) : Keeps (execCkpt d s st) := by
  refine slot_keeps (fun u hu => readBlock_keeps _ _ _ fun x => ?_) h
  dsimp only
  repeat' split
  all_goals simp [hu]
theorem execCrr_keeps (x : XReg) (cr : BitVec 12) : Keeps (execCrr x cr st) := by
  refine slot_keeps (fun u hu => ?_) h
  repeat' split
  all_goals simp [hu]
theorem execRep_keeps (xc : XReg) (imm : BitVec 6) (ds s1s s2s : BitVec 3) : Keeps (execRep xc imm ds s1s s2s st) := by
  unfold execRep
  dsimp only
  repeat' split
  all_goals simp [h]
end
section
variable {s : State} (h : MemsWf s.mems)
include h
theorem execAccessComplete_keeps (site thr k : Nat) : Keeps (execAccessComplete site thr k s) := by
  unfold execAccessComplete
  dsimp only
  repeat' split
  all_goals simp [h]
theorem execRetryListReoffer_keeps (site k : Nat) : Keeps (execRetryListReoffer site k s) := by
  unfold execRetryListReoffer
  repeat' split
  all_goals simp [h]
theorem execLoad_keeps (msg : Nat) : Keeps (execLoad msg s) := by
  unfold execLoad
  simp [h]
theorem execStore_keeps (msg : Nat) : Keeps (execStore msg s) := by
  unfold execStore
  simp [h]
theorem execAtomic_keeps (msg : Nat) : Keeps (execAtomic msg s) := by
  unfold execAtomic
  simp [h]
theorem execLoadfe_keeps (msg : Nat) : Keeps (execLoadfe msg s) := by
  unfold execLoadfe
  simp [h]
theorem execStorefe_keeps (msg : Nat) : Keeps (execStorefe msg s) := by
  unfold execStorefe
  simp [h]
theorem execRetry_keeps (msg : Nat) : Keeps (execRetry msg s) := by
  unfold execRetry
  dsimp only
  repeat' split
  all_goals simp [h]
theorem execRetryResend_keeps (k : Nat) : Keeps (execRetryResend k s) := by
  unfold execRetryResend
  repeat' split
  all_goals simp [h]
theorem execTranslationWalk_keeps (site k : Nat) : Keeps (execTranslationWalk site k s) := by
  unfold execTranslationWalk
  dsimp only
  repeat' split
  all_goals simp [h]
theorem execUnassignedMessage_keeps (msg : Nat) : Keeps (execUnassignedMessage msg s) := by
  unfold execUnassignedMessage
  repeat' split
  all_goals simp [h]
theorem execReply_keeps (msg : Nat) : Keeps (execReply msg s) := by
  refine (keeps_next _).2 (coreTakes_wf _ _ (fun u n m hu => ?_) h)
  dsimp only
  split <;> simpa using hu
theorem execBreak_keeps (msg : Nat) : Keeps (execBreak msg s) := by
  refine (keeps_next _).2 (coreTakes_wf _ _ (fun u n m hu => ?_) h)
  dsimp only
  split <;> simpa using hu
theorem execFetch_keeps (msg : Nat) : Keeps (execFetch msg s) := by
  unfold execFetch
  split
  · simpa using h
  · dsimp only
    split
    · refine (keeps_next _).2 (delivered_wf _ _ (fun u hu => ?_) (by simpa using h))
      repeat' split
      all_goals simpa using hu
    · simpa using h
theorem execValue_keeps (msg : Nat) : Keeps (execValue msg s) := by
  refine (keeps_next _).2 (coreTakes_wf _ _ (fun u n m hu => ?_) h)
  dsimp only
  repeat' split
  all_goals simpa using hu
theorem execHrelease_keeps (msg : Nat) : Keeps (execHrelease msg s) := by
  exact (keeps_next _).2 (coreTakes_wf _ _ (fun u n m hu => memsWf_modCore _ (fun _ hc => hc) hu) h)
theorem execRelayForward_keeps (site slot : Nat) : Keeps (execRelayForward site slot s) := by
  unfold execRelayForward
  dsimp only
  repeat' split
  next hd => simpa using drawBool_wf hd h
  next hd => simpa using drawBool_wf hd h
  next => simpa using h
  next => simpa using h
theorem execInvMsg_keeps (msg : Nat) : Keeps (execInvMsg msg s) := by
  unfold execInvMsg
  simp [h]
theorem execInvxMsg_keeps (msg : Nat) : Keeps (execInvxMsg msg s) := by
  unfold execInvxMsg
  simp [h]
theorem execAcceptNotice_keeps (msg : Nat) : Keeps (execAcceptNotice msg s) := by
  refine (keeps_next _).2 (coreTakes_wf _ _ (fun u n m hu => ?_) h)
  have hb := bindSticky_wf (m.threadAt n) m.w[1] (m.w[2].setWidth 2) (fun x y hx => by simpa using hx : ∀ (x : State) (y : Msg), MemsWf x.mems →
    MemsWf (x.sendMember (m.threadAt n) m.w[1] y).mems) hu
  have h1 := memsWf_ite (p := m.w[2] = 0) hu hb
  dsimp only
  split <;> simpa using h1
theorem execMmComplete_keeps (site k : Nat) : Keeps (execMmComplete site k s) := by
  unfold execMmComplete
  dsimp only
  repeat' split
  all_goals simp [h]
theorem execSfuStart_keeps (site : Nat) : Keeps (execSfuStart site s) := by
  unfold execSfuStart
  simp [h]
theorem execSfuComplete_keeps (site : Nat) : Keeps (execSfuComplete site s) := by
  unfold execSfuComplete
  repeat' split
  all_goals simp [h]
theorem execMatrixDispatch_keeps (site : Nat) : Keeps (execMatrixDispatch site s) := by
  unfold execMatrixDispatch
  dsimp only
  split
  · exact (keeps_next _).2 (memsWf_modCore _ (fun _ hc => hc) h)
  · simpa using h
theorem execMatrixAgeing_keeps (site k : Nat) : Keeps (execMatrixAgeing site k s) := by
  unfold execMatrixAgeing
  repeat' split
  · exact (keeps_next _).2 (memsWf_modCore _ (fun _ hc => hc) h)
  all_goals simpa using h
theorem execKstepEnd_keeps (site : Nat) : Keeps (execKstepEnd site s) := by
  unfold execKstepEnd
  repeat' split
  all_goals simp [h]
theorem execMatrixCommandComplete_keeps (site : Nat) : Keeps (execMatrixCommandComplete site s) := by
  have hu : ∀ t e a p, MemsWf (s.modCore site fun k => k.applyUpd t e a p).mems := fun t e a p => memsWf_modCore _ (fun _ hc => hc) h
  unfold execMatrixCommandComplete
  dsimp only
  repeat' split
  all_goals simp [h, hu]
theorem execActivationStart_keeps (site thr : Nat) : Keeps (execActivationStart site thr s) := by
  unfold execActivationStart
  dsimp only
  repeat' split
  all_goals simp [h]
theorem execRawArrivalStart_keeps (site thr : Nat) : Keeps (execRawArrivalStart site thr s) := by
  unfold execRawArrivalStart
  dsimp only
  repeat' split
  all_goals simp [h]
theorem execKickStart_keeps (site thr : Nat) : Keeps (execKickStart site thr s) := by
  unfold execKickStart
  dsimp only
  repeat' split
  all_goals simp [h]
theorem execArrivalAgeing_keeps (site k : Nat) : Keeps (execArrivalAgeing site k s) := by
  unfold execArrivalAgeing
  dsimp only
  repeat' split
  all_goals simp [h]
theorem execPass_keeps (msg : Nat) : Keeps (execPass msg s) := by
  unfold execPass
  dsimp only
  repeat' split
  all_goals first
    | simp [h]; done
    | exact (keeps_next _).2 (withEgress_wf _ _ (fun v hv => passAtRoot_wf _ _ (by simpa using hv)) (by simpa using h))
theorem execPassForward_keeps (msg : Nat) : Keeps (execPassForward msg s) := by
  unfold execPassForward
  dsimp only
  repeat' split
  next => simpa using h
  next => simpa using h
  next => simpa using h
  next =>
    refine (keeps_next _).2 (withEgress_wf _ _ (fun v hv => ?_) (by simpa using h))
    split
    next hd => simpa [mems_descend hd] using hv
    next => simpa using hv
  all_goals simpa using h
theorem execPassAtSlot_keeps (msg : Nat) : Keeps (execPassAtSlot msg s) := by
  unfold execPassAtSlot
  dsimp only
  repeat' split
  all_goals try simp [h]
  exact withEgress_wf _ _ (fun v hv => by simp [hv]) (by simpa using h)
theorem execBounce_keeps (msg : Nat) : Keeps (execBounce msg s) := by
  unfold execBounce
  dsimp only
  repeat' split
  all_goals try simp [h]
  all_goals exact withEgress_wf _ _ (fun v hv => by simp [hv]) (by simpa using h)
theorem execReadydelta_keeps (msg : Nat) : Keeps (execReadydelta msg s) := by
  unfold execReadydelta
  dsimp only
  repeat' split
  all_goals simp [h]
theorem execRdyquery_keeps (msg : Nat) : Keeps (execRdyquery msg s) := by
  unfold execRdyquery
  dsimp only
  repeat' split
  all_goals simp [h]
theorem execRdyanswer_keeps (msg : Nat) : Keeps (execRdyanswer msg s) := by
  exact (keeps_next _).2 (coreTakes_wf _ _ (fun u n m hu => by simpa using hu) h)
theorem execKickMsg_keeps (msg : Nat) : Keeps (execKickMsg msg s) := by
  unfold execKickMsg
  dsimp only
  repeat' split
  all_goals simp [h]
theorem execKickoffFanout_keeps (msg : Nat) : Keeps (execKickoffFanout msg s) := by
  have hs : ∀ g site team m l, MemsWf (State.kickSlots (s.dropMsg msg) g site team m l).1.mems := fun g site team m l =>
    kickSlots_wf _ _ _ _ _ (by simpa using h)
  have hm : ∀ {g site mem m e}, (s.dropMsg msg).kickMember g site mem m = e → MemsWf (kickState e).mems := fun he =>
    he ▸ kickMember_wf _ _ _ _ (by simpa using h)
  unfold execKickoffFanout
  dsimp only
  repeat' split
  all_goals simp [h, hs]
  next hk => exact hm hk
  next hk => exact hm hk
theorem execKickend_keeps (msg : Nat) : Keeps (execKickend msg s) := by
  unfold execKickend
  dsimp only
  repeat' split
  all_goals simp [h]
theorem execBararrive_keeps (msg : Nat) : Keeps (execBararrive msg s) := by
  unfold execBararrive
  repeat' split
  all_goals simp [h]
theorem execBarrelease_keeps (msg : Nat) : Keeps (execBarrelease msg s) := by
  unfold execBarrelease
  dsimp only
  repeat' split
  all_goals first
    | simp [h]; done
    | exact (keeps_next _).2 (delivered_wf _ _ (fun v hv => by simpa using hv) (by simpa using h))
theorem execBarrierTimeout_keeps (site thr : Nat) : Keeps (execBarrierTimeout site thr s) := by
  unfold execBarrierTimeout
  dsimp only
  repeat' split
  all_goals simp [h]
theorem execBarbreak_keeps (msg : Nat) : Keeps (execBarbreak msg s) := by
  unfold execBarbreak
  dsimp only
  repeat' split
  all_goals first
    | simp [h]; done
    | exact (keeps_next _).2 (delivered_wf _ _ (fun v hv => by simpa using hv) (by simpa using h))
theorem execBarconfig_keeps (msg : Nat) : Keeps (execBarconfig msg s) := by
  unfold execBarconfig
  repeat' split
  all_goals simp [h]
theorem execCopyLine_keeps (site k : Nat) : Keeps (execCopyLine site k s) := by
  unfold execCopyLine
  dsimp only
  repeat' split
  all_goals simp [h]
theorem execCopyComplete_keeps (site k : Nat) : Keeps (execCopyComplete site k s) := by
  unfold execCopyComplete
  repeat' split
  all_goals simp [h]
theorem execCopydata_keeps (msg : Nat) : Keeps (execCopydata msg s) := by
  have hu : MemsWf (s.dropMsg msg).mems := by simpa using h
  unfold execCopydata
  dsimp only
  repeat' split
  next => simpa using h
  next => simpa using h
  next => exact (keeps_next _).2 (delivered_wf _ _ (fun v hv => by simp [hv]) hu)
  next => simpa using h
  next hw =>
    rw [keeps_next, mems_reply]
    exact memsWf_written hw rfl rfl (by simpa using hu) rfl
  next => simpa using h
  next =>
    rw [keeps_next, mems_reply]
    exact memsWf_host _ (Memory.store_wf _ _ _ hu.2.1) hu
  all_goals simp [h]
theorem execMcastMsg_keeps (msg : Nat) : Keeps (execMcastMsg msg s) := by
  unfold execMcastMsg
  repeat' split
  all_goals simp [h]
theorem execRegionRestart_keeps (site thr : Nat) : Keeps (execRegionRestart site thr s) := by
  unfold execRegionRestart
  dsimp only
  repeat' split
  all_goals simp [h]
theorem execTrapEntry_keeps (site thr : Nat) : Keeps (execTrapEntry site thr s) := by
  unfold execTrapEntry
  dsimp only
  repeat' split
  all_goals simp [h]
theorem execWatchdog_keeps (site thr : Nat) : Keeps (execWatchdog site thr s) := by
  unfold execWatchdog
  dsimp only
  repeat' split
  all_goals simp [h]
theorem execGrpctl_keeps (msg : Nat) : Keeps (execGrpctl msg s) := by
  unfold execGrpctl
  dsimp only
  repeat' split
  next => simp [h]
  next => simp [h]
  next => simp [h]
  next => simp [h]
  next => simp [h]
  next => simp [h]
  next hc => exact (keeps_next _).2 (ctlAtCore_wf hc (by simpa using h))
  all_goals simp [h]
theorem execGrpstat_keeps (msg : Nat) : Keeps (execGrpstat msg s) := by
  unfold execGrpstat
  dsimp only
  repeat' split
  next => simp [h]
  next hr => exact (keeps_next _).2 (reportAtRoot_wf hr (by simpa using h))
  next => simp [h]
  · exact (keeps_next _).2 (delivered_wf _ _ (fun v hv => by simp [hv]) (by simpa using h))
  · exact (keeps_next _).2 (delivered_wf _ _ (fun v hv => by simp [hv]) (by simpa using h))
  all_goals simp [h]
theorem execMemberPark_keeps (site thr : Nat) : Keeps (execMemberPark site thr s) := by
  unfold execMemberPark
  dsimp only
  split
  · simpa using h
  split
  · simpa using h
  have hf : ∀ r (u : State), MemsWf u.mems → MemsWf ((s.memberArrivals (keyAt site thr)).foldl (fun (u : State) a =>
      (u.takeArrival site a).parkArrival (keyAt site thr) r a (s.arrivalMsg (keyAt site thr) r a)) u).mems := fun r u hu =>
    memsWf_foldl (fun v a hv => parkArrival_wf _ _ _ _ (by simpa using hv)) _ hu
  split
  · simp [hf, h]
  · rw [keeps_next, mems_modThread]
    refine memsWf_modCore _ (fun c hc => ?_) (hf _ _ (by simpa using h))
    rwa [freeze_mem]
theorem execSaveImageComplete_keeps (site thr : Nat) : Keeps (execSaveImageComplete site thr s) := by
  unfold execSaveImageComplete
  dsimp only
  repeat' split
  all_goals simp [h]
theorem execGroupEnded_keeps (grp : Nat) : Keeps (execGroupEnded grp s) := by
  unfold execGroupEnded
  dsimp only
  repeat' split
  all_goals simp [h]
theorem execRstvMsg_keeps (msg : Nat) : Keeps (execRstvMsg msg s) := by
  unfold execRstvMsg
  dsimp only
  repeat' split
  all_goals try simp [h]
  next hr => exact rstvAtRoot_wf hr (by simpa using h)
theorem execRedirectQueueDrain_keeps (grp member : Nat) : Keeps (execRedirectQueueDrain grp member s) := by
  unfold execRedirectQueueDrain
  dsimp only
  repeat' split
  all_goals first
    | simp [h, drainFirst_wf]; done
    | simpa using drawBool_wf ‹_› h
    | exact (keeps_next _).2 (drainFirst_wf _ _ _ _ _ _ (drawBool_wf ‹_› h))
theorem execDirectoryAnswer_keeps (msg : Nat) : Keeps (execDirectoryAnswer msg s) := by
  unfold execDirectoryAnswer
  dsimp only
  repeat' split
  all_goals simp [h]
theorem execCtxcmdCreate_keeps : Keeps (execCtxcmdCreate s) := by
  unfold execCtxcmdCreate
  simp [h]
theorem execCtxcmdDestroy_keeps : Keeps (execCtxcmdDestroy s) := by
  unfold execCtxcmdDestroy
  simp [h]
theorem execCtxrectWrite_keeps (v : Word) : Keeps (execCtxrectWrite v s) := by
  unfold execCtxrectWrite
  simp [h]
theorem execContextBound_keeps (slot : Nat) : Keeps (execContextBound slot s) := by
  unfold execContextBound
  dsimp only
  repeat' split
  all_goals simp [h]
theorem execContextShrunk_keeps (slot : Nat) : Keeps (execContextShrunk slot s) := by
  unfold execContextShrunk
  dsimp only
  repeat' split
  all_goals simp [h]
theorem execContextDestroyed_keeps (slot : Nat) : Keeps (execContextDestroyed slot s) := by
  unfold execContextDestroyed
  dsimp only
  repeat' split
  all_goals simp [h]
theorem execScrubComplete_keeps (site : Nat) : Keeps (execScrubComplete site s) := by
  unfold execScrubComplete
  repeat' split
  · simpa using h
  · rw [keeps_next, mems_foldl fun _ _ => mems_setThread ..]
    exact memsWf_modCore _ (fun _ _ => Memory.store_wf _ _ _ (Memory.wf_empty _)) h
  · simpa using h
theorem execHfsendWrite_keeps (v : Word) : Keeps (execHfsendWrite v s) := by
  unfold execHfsendWrite
  repeat' split
  all_goals simp [h]
theorem execDeviceFrame_keeps (func : Nat) : Keeps (execDeviceFrame func s) := by
  have hh : ∀ a n v, MemsWf ({ s with host := s.host.store a n v } : State).mems := fun a n v => memsWf_host _ (Memory.store_wf _ _ _ h.2.1) h
  unfold execDeviceFrame
  dsimp only
  repeat' split
  · simpa using h
  · simpa using h
  · rw [keeps_next, mems_modThread, mems_modChan]
    exact hh ..
  · rw [keeps_next, mems_modChan]
    exact hh ..
theorem execFrameWindowWrite_keeps (func slot : Nat) (frame : BitVec 512) : Keeps (execFrameWindowWrite func slot frame s) := by
  unfold execFrameWindowWrite
  dsimp only
  repeat' split
  all_goals simp [h]
theorem execHostframeInject_keeps (func : Nat) : Keeps (execHostframeInject func s) := by
  unfold execHostframeInject
  dsimp only
  repeat' split
  all_goals simp [h]
theorem execHostframe_keeps (msg : Nat) : Keeps (execHostframe msg s) := by
  unfold execHostframe
  dsimp only
  repeat' split
  all_goals try simp [h]
  exact delivered_wf _ _ (fun v hv => by simpa using hv) (by simpa using h)
theorem execGap_keeps (func : Nat) : Keeps (execGap func s) := by
  unfold execGap
  dsimp only
  repeat' split
  all_goals simp [h]
theorem execDrheadWrite_keeps (func : Nat) (v : BitVec 32) : Keeps (execDrheadWrite func v s) := by
  unfold execDrheadWrite
  repeat' split
  all_goals simp [h]
theorem execDrbaseWrite_keeps (func : Nat) (v : Word) : Keeps (execDrbaseWrite func v s) := by
  unfold execDrbaseWrite
  repeat' split
  all_goals simp [h]
theorem execDrsizeWrite_keeps (func : Nat) (v : BitVec 5) : Keeps (execDrsizeWrite func v s) := by
  unfold execDrsizeWrite
  repeat' split
  all_goals simp [h]
theorem execBar2Access_keeps (write : Bool) (pa len : Nat) (data : List Byte) : Keeps (execBar2Access write pa len data s) := by
  unfold execBar2Access
  dsimp only
  split
  · simpa using h
  · refine (keeps_next _).2 (memsWf_foldl (fun u p hu => ?_) _ h)
    repeat' split
    next hw => exact memsWf_written hw rfl rfl hu (mems_mendSeen ..)
    all_goals simpa using hu
theorem execPackageReset_keeps : Keeps (execPackageReset s) := by
  unfold execPackageReset
  simp [h]
theorem execFunctionLevelReset_keeps (func : Nat) : Keeps (execFunctionLevelReset func s) := by
  unfold execFunctionLevelReset
  repeat' split
  all_goals simp [h]
theorem execBootctlGo_keeps (image : List Byte) : Keeps (execBootctlGo image s) := by
  unfold execBootctlGo
  repeat' split
  all_goals simp [h]
theorem execImageVerification_keeps : Keeps (execImageVerification s) := by
  unfold execImageVerification
  dsimp only
  repeat' split
  all_goals simp [h]
theorem execDiscover_keeps (msg : Nat) : Keeps (execDiscover msg s) := by
  unfold execDiscover
  repeat' split
  all_goals simp [h]
theorem execDiscoverAnswer_keeps (msg : Nat) : Keeps (execDiscoverAnswer msg s) := by
  unfold execDiscoverAnswer
  repeat' split
  all_goals simp [h]
theorem execSilentRouter_keeps (die site : Nat) : Keeps (execSilentRouter die site s) := by
  unfold execSilentRouter
  dsimp only
  repeat' split
  all_goals simp [h]
theorem execFloodEnd_keeps (die : Nat) : Keeps (execFloodEnd die s) := by
  unfold execFloodEnd
  dsimp only
  split
  · rw [keeps_next, mems_modThread]
    exact memsWf_modCore _ (fun _ hc => Memory.store_wf _ _ _ hc) (by simpa using h)
  · simpa using h
theorem execL2pdataWrite_keeps (v : Word) : Keeps (execL2pdataWrite v s) := by
  unfold execL2pdataWrite
  simp [h]
theorem execL2pUpdate_keeps (k router : Nat) : Keeps (execL2pUpdate k router s) := by
  unfold execL2pUpdate
  dsimp only
  repeat' split
  all_goals simp [h]
theorem execMeasxWrite_keeps (v : Word) : Keeps (execMeasxWrite v s) := by
  unfold execMeasxWrite
  simp [h]
theorem execAttreqWrite_keeps (nonce : BitVec 512) : Keeps (execAttreqWrite nonce s) := by
  unfold execAttreqWrite
  simp [h]
theorem execAttestationReport_keeps : Keeps (execAttestationReport s) := by
  unfold execAttestationReport
  repeat' split
  all_goals simp [h]
theorem execNodeidWrite_keeps (v : Word) : Keeps (execNodeidWrite v s) := by
  unfold execNodeidWrite
  simp [h]
theorem execPortctlWrite_keeps (port : Nat) (v : Word) : Keeps (execPortctlWrite port v s) := by
  unfold execPortctlWrite
  repeat' split
  all_goals simp [h]
theorem execTrainingBackoff_keeps (port lane : Nat) : Keeps (execTrainingBackoff port lane s) := by
  unfold execTrainingBackoff
  dsimp only
  repeat' split
  all_goals simp [h]
theorem execTrainingSequence_keeps (port lane : Nat) (seq : TrainSeq) : Keeps (execTrainingSequence port lane seq s) := by
  unfold execTrainingSequence
  dsimp only
  repeat' split
  all_goals simp [h]
theorem execLaneRetrain_keeps (port lane : Nat) (good : Bool) : Keeps (execLaneRetrain port lane good s) := by
  unfold execLaneRetrain
  dsimp only
  repeat' split
  all_goals simp [h]
theorem execLinkFlit_keeps (port : Nat) (flit : LinkFlit) : Keeps (execLinkFlit port flit s) := by
  unfold execLinkFlit
  dsimp only
  repeat' split
  all_goals simp [h]
theorem execLinkResendTimeout_keeps (port : Nat) : Keeps (execLinkResendTimeout port s) := by
  unfold execLinkResendTimeout
  dsimp only
  repeat' split
  all_goals simp [h]
theorem execPortDown_keeps (port : Nat) : Keeps (execPortDown port s) := by
  unfold execPortDown
  dsimp only
  repeat' split
  all_goals simp [h]
theorem execRtdataWrite_keeps (v : Word) : Keeps (execRtdataWrite v s) := by
  unfold execRtdataWrite
  simp [h]
theorem execMarker_keeps (msg : Nat) : Keeps (execMarker msg s) := by
  unfold execMarker
  dsimp only
  repeat' split
  all_goals simp [h]
theorem execRefereePair_keeps (k : Nat) : Keeps (execRefereePair k s) := by
  unfold execRefereePair
  repeat' split
  all_goals simp [h]
theorem execRefereeTimeout_keeps (k : Nat) : Keeps (execRefereeTimeout k s) := by
  unfold execRefereeTimeout
  repeat' split
  all_goals simp [h]
theorem execPowerLimit_keeps (watts : Nat) : Keeps (execPowerLimit watts s) := by
  unfold execPowerLimit
  simp [h]
theorem execOvertemperature_keeps : Keeps (execOvertemperature s) := by
  unfold execOvertemperature
  simp [h]
theorem execPowerGate_keeps (site : Nat) : Keeps (execPowerGate site s) := by
  unfold execPowerGate
  dsimp only
  repeat' split
  all_goals simp [h]
theorem execGateDrainTimeout_keeps (site : Nat) : Keeps (execGateDrainTimeout site s) := by
  unfold execGateDrainTimeout
  repeat' split
  all_goals simp [h]
theorem execDroop_keeps (die det : Nat) : Keeps (execDroop die det s) := by
  unfold execDroop
  dsimp only
  repeat' split
  all_goals simp [h]
theorem execDroopRearm_keeps (die det : Nat) : Keeps (execDroopRearm die det s) := by
  unfold execDroopRearm
  repeat' split
  all_goals simp [h]
theorem execTraceDrain_keeps (site : Nat) : Keeps (execTraceDrain site s) := by
  unfold execTraceDrain
  dsimp only
  repeat' split
  · simpa using h
  next hw =>
    refine (keeps_next _).2 (memsWf_modCore _ (fun c hc => ?_) (memsWf_written hw rfl rfl h (mems_mendSeen ..)))
    split <;> exact hc
  next =>
    rw [keeps_next, mems_record]
    refine memsWf_modCore _ (fun c hc => ?_) h
    split <;> exact hc
theorem execTrtailWrite_keeps (v : Word) : Keeps (execTrtailWrite v s) := by
  unfold execTrtailWrite
  simp [h]
theorem execDbgctlWrite_keeps (v : Word) : Keeps (execDbgctlWrite v s) := by
  unfold execDbgctlWrite
  simp [h]
theorem execHbmRowRepair_keeps (stack row : Nat) : Keeps (execHbmRowRepair stack row s) := by
  unfold execHbmRowRepair
  dsimp only
  split
  · simpa using h
  · rw [keeps_next, mems_record]
    exact h
theorem execCkptWalk_keeps (slot : Nat) : Keeps (execCkptWalk slot s) := by
  unfold execCkptWalk
  dsimp only
  repeat' split
  all_goals try simp [h]
  exact ⟨Memory.setByte_wf _ _ h.1, h.2⟩
theorem execAck_keeps (msg : Nat) : Keeps (execAck msg s) := by
  unfold execAck
  simp [h]
theorem execNack_keeps (msg : Nat) : Keeps (execNack msg s) := by
  unfold execNack
  simp [h]
theorem execLoadResponse_keeps (msg : Nat) : Keeps (execLoadResponse msg s) := by
  unfold execLoadResponse
  repeat' split
  · exact (keeps_next _).2 (delivered_wf _ _ (fun v hv => by simp [hv]) (by simpa using h))
  · exact (keeps_next _).2 (delivered_wf _ _ (fun v hv => by simp [hv]) (by simpa using h))
  · exact (keeps_next _).2 (delivered_wf _ _ (fun v hv => by simp [hv]) (by simpa using h))
  all_goals simp [h]
theorem execVallotWrite_keeps (v : Word) : Keeps (execVallotWrite v s) := by
  unfold execVallotWrite
  repeat' split
  all_goals simp [h]
theorem execTgenWrite_keeps (v : Word) : Keeps (execTgenWrite v s) := by
  unfold execTgenWrite
  simp [h]
theorem exec_keeps (i : Instr) : Keeps (exec i s) := by
  cases i with
  | anarrow => exact execAnarrow_keeps h ..
  | amake => exact execAmake_keeps h ..
  | jalr => exact execJalr_keeps h ..
  | ldv => exact execLdv_keeps h ..
  | stv => exact execStv_keeps h ..
  | htest => exact execHtest_keeps h ..
  | hfree => exact execHfree_keeps h ..
  | hbreak => exact execHbreak_keeps h ..
  | vins => exact execVins_keeps h ..
  | vext => exact execVext_keeps h ..
  | vnarrow => exact execVnarrow_keeps h ..
  | vcvt => exact execVcvt_keeps h ..
  | vquant => exact execVquant_keeps h ..
  | vrsum => exact execVrsum_keeps h ..
  | vrmax => exact execVrmax_keeps h ..
  | mtile => exact execMtile_keeps h ..
  | mjob => exact execMjob_keeps h ..
  | mwait => exact execMwait_keeps h ..
  | mcancel => exact execMcancel_keeps h ..
  | aczero => exact execAczero_keeps h ..
  | tgset => exact execTgset_keeps h ..
  | rdyq => exact execRdyq_keeps h ..
  | barr => exact execBarr_keeps h ..
  | barw => exact execBarw_keeps h ..
  | barrw => exact execBarrw_keeps h ..
  | barwd => exact execBarwd_keeps h ..
  | barq => exact execBarq_keeps h ..
  | mcast => exact execMcast_keeps h ..
  | waitany => exact execWaitany_keeps h ..
  | waitall => exact execWaitall_keeps h ..
  | eret => exact execEret_keeps h ..
  | fence => exact execFence_keeps h ..
  | drainnt => exact execDrainnt_keeps h ..
  | yield => exact execYield_keeps h ..
  | gnew => exact execGnew_keeps h ..
  | gdrop => exact execGdrop_keeps h ..
  | gpark => exact execGpark_keeps h ..
  | grun => exact execGrun_keeps h ..
  | gend => exact execGend_keeps h ..
  | barcfg => exact execBarcfg_keeps h ..
  | rstv => exact execRstv_keeps h ..
  | tlbinv => exact execTlbinv_keeps h ..
  | errclr => exact execErrclr_keeps h ..
  | coreret => exact execCoreret_keeps h ..
  | ckpt => exact execCkpt_keeps h ..
  | crr => exact execCrr_keeps h ..
  | accessComplete => exact execAccessComplete_keeps h ..
  | retryListReoffer => exact execRetryListReoffer_keeps h ..
  | load => exact execLoad_keeps h ..
  | store => exact execStore_keeps h ..
  | atomic => exact execAtomic_keeps h ..
  | loadfe => exact execLoadfe_keeps h ..
  | storefe => exact execStorefe_keeps h ..
  | retry => exact execRetry_keeps h ..
  | retryResend => exact execRetryResend_keeps h ..
  | translationWalk => exact execTranslationWalk_keeps h ..
  | unassignedMessage => exact execUnassignedMessage_keeps h ..
  | reply => exact execReply_keeps h ..
  | break_ => exact execBreak_keeps h ..
  | fetch => exact execFetch_keeps h ..
  | value => exact execValue_keeps h ..
  | hrelease => exact execHrelease_keeps h ..
  | relayForward => exact execRelayForward_keeps h ..
  | invMsg => exact execInvMsg_keeps h ..
  | invxMsg => exact execInvxMsg_keeps h ..
  | acceptNotice => exact execAcceptNotice_keeps h ..
  | mmComplete => exact execMmComplete_keeps h ..
  | sfuStart => exact execSfuStart_keeps h ..
  | sfuComplete => exact execSfuComplete_keeps h ..
  | matrixDispatch => exact execMatrixDispatch_keeps h ..
  | matrixAgeing => exact execMatrixAgeing_keeps h ..
  | kstepEnd => exact execKstepEnd_keeps h ..
  | matrixCommandComplete => exact execMatrixCommandComplete_keeps h ..
  | activationStart => exact execActivationStart_keeps h ..
  | rawArrivalStart => exact execRawArrivalStart_keeps h ..
  | kickStart => exact execKickStart_keeps h ..
  | arrivalAgeing => exact execArrivalAgeing_keeps h ..
  | pass => exact execPass_keeps h ..
  | passForward => exact execPassForward_keeps h ..
  | passAtSlot => exact execPassAtSlot_keeps h ..
  | bounce => exact execBounce_keeps h ..
  | readydelta => exact execReadydelta_keeps h ..
  | rdyquery => exact execRdyquery_keeps h ..
  | rdyanswer => exact execRdyanswer_keeps h ..
  | kickMsg => exact execKickMsg_keeps h ..
  | kickoffFanout => exact execKickoffFanout_keeps h ..
  | kickend => exact execKickend_keeps h ..
  | bararrive => exact execBararrive_keeps h ..
  | barrelease => exact execBarrelease_keeps h ..
  | barrierTimeout => exact execBarrierTimeout_keeps h ..
  | barbreak => exact execBarbreak_keeps h ..
  | barconfig => exact execBarconfig_keeps h ..
  | copyLine => exact execCopyLine_keeps h ..
  | copyComplete => exact execCopyComplete_keeps h ..
  | copydata => exact execCopydata_keeps h ..
  | mcastMsg => exact execMcastMsg_keeps h ..
  | regionRestart => exact execRegionRestart_keeps h ..
  | trapEntry => exact execTrapEntry_keeps h ..
  | watchdog => exact execWatchdog_keeps h ..
  | grpctl => exact execGrpctl_keeps h ..
  | grpstat => exact execGrpstat_keeps h ..
  | memberPark => exact execMemberPark_keeps h ..
  | saveImageComplete => exact execSaveImageComplete_keeps h ..
  | groupEnded => exact execGroupEnded_keeps h ..
  | rstvMsg => exact execRstvMsg_keeps h ..
  | redirectQueueDrain => exact execRedirectQueueDrain_keeps h ..
  | directoryAnswer => exact execDirectoryAnswer_keeps h ..
  | ctxcmdCreate => exact execCtxcmdCreate_keeps h ..
  | ctxcmdDestroy => exact execCtxcmdDestroy_keeps h ..
  | ctxrectWrite => exact execCtxrectWrite_keeps h ..
  | contextBound => exact execContextBound_keeps h ..
  | contextShrunk => exact execContextShrunk_keeps h ..
  | contextDestroyed => exact execContextDestroyed_keeps h ..
  | scrubComplete => exact execScrubComplete_keeps h ..
  | hfsendWrite => exact execHfsendWrite_keeps h ..
  | deviceFrame => exact execDeviceFrame_keeps h ..
  | frameWindowWrite => exact execFrameWindowWrite_keeps h ..
  | hostframeInject => exact execHostframeInject_keeps h ..
  | hostframe => exact execHostframe_keeps h ..
  | gap => exact execGap_keeps h ..
  | drheadWrite => exact execDrheadWrite_keeps h ..
  | drbaseWrite => exact execDrbaseWrite_keeps h ..
  | drsizeWrite => exact execDrsizeWrite_keeps h ..
  | bar2Access => exact execBar2Access_keeps h ..
  | packageReset => exact execPackageReset_keeps h ..
  | functionLevelReset => exact execFunctionLevelReset_keeps h ..
  | bootctlGo => exact execBootctlGo_keeps h ..
  | imageVerification => exact execImageVerification_keeps h ..
  | discover => exact execDiscover_keeps h ..
  | discoverAnswer => exact execDiscoverAnswer_keeps h ..
  | silentRouter => exact execSilentRouter_keeps h ..
  | floodEnd => exact execFloodEnd_keeps h ..
  | l2pdataWrite => exact execL2pdataWrite_keeps h ..
  | l2pUpdate => exact execL2pUpdate_keeps h ..
  | measxWrite => exact execMeasxWrite_keeps h ..
  | attreqWrite => exact execAttreqWrite_keeps h ..
  | attestationReport => exact execAttestationReport_keeps h ..
  | nodeidWrite => exact execNodeidWrite_keeps h ..
  | portctlWrite => exact execPortctlWrite_keeps h ..
  | trainingBackoff => exact execTrainingBackoff_keeps h ..
  | trainingSequence => exact execTrainingSequence_keeps h ..
  | laneRetrain => exact execLaneRetrain_keeps h ..
  | linkFlit => exact execLinkFlit_keeps h ..
  | linkResendTimeout => exact execLinkResendTimeout_keeps h ..
  | portDown => exact execPortDown_keeps h ..
  | rtdataWrite => exact execRtdataWrite_keeps h ..
  | marker => exact execMarker_keeps h ..
  | refereePair => exact execRefereePair_keeps h ..
  | refereeTimeout => exact execRefereeTimeout_keeps h ..
  | powerLimit => exact execPowerLimit_keeps h ..
  | overtemperature => exact execOvertemperature_keeps h ..
  | powerGate => exact execPowerGate_keeps h ..
  | gateDrainTimeout => exact execGateDrainTimeout_keeps h ..
  | droop => exact execDroop_keeps h ..
  | droopRearm => exact execDroopRearm_keeps h ..
  | traceDrain => exact execTraceDrain_keeps h ..
  | trtailWrite => exact execTrtailWrite_keeps h ..
  | dbgctlWrite => exact execDbgctlWrite_keeps h ..
  | hbmRowRepair => exact execHbmRowRepair_keeps h ..
  | ckptWalk => exact execCkptWalk_keeps h ..
  | ack => exact execAck_keeps h ..
  | nack => exact execNack_keeps h ..
  | loadResponse => exact execLoadResponse_keeps h ..
  | vallotWrite => exact execVallotWrite_keeps h ..
  | tgenWrite => exact execTgenWrite_keeps h ..
  | rep => exact execRep_keeps h ..
  | beq | bne | blt | bge | bltu | bgeu =>
    dsimp only [exec]
    exact branch_keeps h ..
  | aadd | asetp | aaddi =>
    dsimp only [exec]
    exact aRepoint_keeps h ..
  | agetp | agetb | agetl | aperm =>
    dsimp only [exec]
    exact aRead_keeps h ..
  | copy | copy2d | copymc | copygt =>
    dsimp only [exec]
    exact copyIssue_keeps h ..
  | acst | acstb | acld | acstsc =>
    dsimp only [exec]
    exact acop_keeps h ..
  | ready | unready =>
    dsimp only [exec]
    exact ready_keeps h ..
  | vhold | vhclr =>
    dsimp only [exec]
    exact holdBit_keeps h ..
  | kickTeam | kickGroup =>
    dsimp only [exec]
    exact kick_keeps h ..
  | mapsetStat | mapsetLoad | mapsetSwitch | mapsetOpen =>
    dsimp only [exec]
    exact mapset_keeps h ..
  | keyslotStat | keyslotGen | keyslotErase =>
    dsimp only [exec]
    exact keyslot_keeps h ..
  | add | sub | and | or | xor | sll | srl | sra | slt | sltu | mul | mulh | mulhu | div | divu | rem | remu | min | max | minu | maxu =>
    dsimp only [exec]
    exact xOp2_keeps h ..
  | clz | ctz | popc | addi | andi | ori | xori | slti | slli | srli | srai | lcat =>
    dsimp only [exec]
    exact xOp1_keeps h ..
  | fadd | fsub | fmul | fdiv | fmin | fmax | fcmp =>
    dsimp only [exec]
    exact fOp2_keeps h ..
  | fsqrt | fcvti | fcvtf =>
    dsimp only [exec]
    exact fOp1_keeps h ..
  | vadd | vsub | vmul | vmin | vmax | vand | vor | vxor | vsll | vsrl | vsra =>
    dsimp only [exec]
    exact vOp2_keeps h ..
  | vabs | vneg | vmov =>
    dsimp only [exec]
    exact vOp1_keeps h ..
  | vwadd | vwmul | vwma =>
    dsimp only [exec]
    exact vWiden_keeps h ..
  | vexp2 | vlog2 | vrcp | vrsq | vsig =>
    dsimp only [exec]
    exact sfuIssue_keeps h ..
  | mmadd | mmsub | mmmul | mmma | mmmax | mmcvt =>
    dsimp only [exec]
    exact mmIssue_keeps h ..
  | _ =>
    dsimp only [exec]
    exact slot_keeps (fun u hu => by simp [hu]) h
end
end Sys2Proof.Machine

/-! #### Bundles and turns -/

namespace Sys2Proof.Machine.State

theorem keeps_fault (f : Fault) : Keeps (.fault f) := ⟨fun _ h => nomatch h⟩
theorem keeps_refused (r : Refusal) : Keeps (.refused r) := ⟨fun _ h => nomatch h⟩

/-- The state that a fetch leaves. -/
def Fetched.after : Fetched → State
  | .word _ u => u
  | .held u => u
  | .fault _ _ u => u

theorem throughCache_wf {s : State} (site : Nat) (a : Word) (l : ICLine) (h : MemsWf s.mems) : MemsWf (Fetched.after (s.throughCache site a l)).mems := by
  unfold throughCache
  extract_lets old
  have h1 : MemsWf (oneOf (a.toNat / 4 % 32) l s old).2.mems := by simpa using h
  split
  next heq =>
    rw [heq] at h1
    have h2 := memsWf_ite (p := old.contains l = true) h1
      (memsWf_modCore site (f := fun c => { c with icache := c.icache ++ [l] }) (fun _ hc => hc) h1)
    dsimp only
    split
    · exact memsWf_ite (by rw [mems_localPoison]; exact h2) h2
    · exact h2
theorem fetchWord_wf {s : State} (a : Word) (h : MemsWf s.mems) : MemsWf (Fetched.after (s.fetchWord a)).mems := by
  unfold fetchWord
  dsimp only
  split
  · exact h
  split
  · exact throughCache_wf _ _ _ h
  · split
    · split
      · exact throughCache_wf _ _ _ (useXl_wf _ _ _ (memsWf_ite h (by simpa using h)))
      · exact h
    · simpa [Fetched.after] using h
    · exact h
    · exact h
  · exact h

section
variable {s : State} (h : MemsWf s.mems)
include h

theorem raised_keeps (t : Trap) : Keeps (s.raised t) := (keeps_next _).2 (by simpa using h)
theorem framing_keeps (w : IWord) : Keeps (s.framing w) := raised_keeps h _
theorem issueLone_keeps (w : IWord) : Keeps (s.issueLone w) := by
  unfold issueLone
  split
  · exact raised_keeps h _
  · exact exec_keeps (by simpa using h) _
theorem issuePair_keeps (c a : Instr) (wc wa : IWord) : Keeps (s.issuePair c a wc wa) := by
  have ho : MemsWf s.openBundle.mems := by simpa using h
  have lone : ∀ (i : Instr) (f : Form) (w : IWord), Keeps (exec i (s.withWord f w)) := fun i f w => exec_keeps (by simpa using h) i
  unfold issuePair
  dsimp only
  split
  next s1 hc =>
    have h1 : MemsWf s1.mems := (exec_keeps (by simpa using ho) c).wf _ hc
    have hv : MemsWf ((if s1.ctx.last = .done then s1 else s.openBundle).withWord .aslot wa).mems := by simpa using memsWf_ite h1 ho
    generalize (if s1.ctx.last = .done then s1 else s.openBundle).withWord .aslot wa = v at hv ⊢
    split
    next s2 ha =>
      have h2 : MemsWf s2.mems := (exec_keeps hv a).wf _ ha
      split
      · simpa using h
      split
      · exact lone ..
      split
      · exact lone ..
      split
      · exact raised_keeps h _
      split
      · exact lone ..
      · simpa using h2
    next => exact keeps_fault _
    next => exact keeps_refused _
  next => exact keeps_fault _
  next => exact keeps_refused _
theorem decodePair_keeps (wc wa : IWord) : Keeps (s.decodePair wc wa) := by
  unfold decodePair
  split
  · exact raised_keeps h _
  · exact raised_keeps h _
  · exact issuePair_keeps h ..
theorem issueRep_keeps (w0 w1 : IWord) : Keeps (s.issueRep w0 w1) := by
  unfold issueRep
  dsimp only
  split
  · exact raised_keeps (by simpa using h) _
  · exact exec_keeps (by simpa using h) _
theorem issueIter_keeps (r : RepUnit) : Keeps (s.issueIter r) := by
  have hw : MemsWf ((s.begun s.ctx.key r.pc 8).withWord .rep r.word2).mems := by simpa using h
  unfold issueIter
  dsimp only
  split
  · split
    · exact exec_keeps hw _
    · exact raised_keeps hw _
  · exact raised_keeps hw _
theorem second_keeps {k : State → IWord → Host.Outcome State Fault Refusal} (hk : ∀ u w, MemsWf u.mems → Keeps (k u w)) : Keeps (s.second k) := by
  have hf := fetchWord_wf (s.ctx.pc + 4) h
  unfold second
  split
  next hx => 
    rw [hx] at hf
    exact (keeps_next _).2 (by rw [mems_ended]; exact hf)
  next hx =>
    rw [hx] at hf
    exact raised_keeps hf _
  next hx =>
    rw [hx] at hf
    exact hk _ _ hf
theorem frame_keeps (w : IWord) : Keeps (s.frame w) := by
  have two : MemsWf ({ s with ctx := { s.ctx with next := s.ctx.pc + 8 } } : State).mems := h
  unfold frame
  dsimp only
  split
  · exact framing_keeps h _
  split
  · split
    · exact framing_keeps h _
    · refine second_keeps two fun u w1 hu => ?_
      split
      · exact framing_keeps hu _
      · exact issueRep_keeps hu ..
  split
  · exact issueLone_keeps h _
  split
  · exact framing_keeps h _
  · refine second_keeps two fun u w1 hu => ?_
    split
    · exact framing_keeps hu _
    · exact decodePair_keeps hu ..
theorem nextBundle_keeps (key : Nat) : Keeps (s.nextBundle key) := by
  have hb : MemsWf (s.begun key (s.thread key).pc 4).mems := by simpa using h
  have hf := fetchWord_wf (s.begun key (s.thread key).pc 4).ctx.pc hb
  unfold nextBundle
  dsimp only
  split
  next hx =>
    rw [hx] at hf
    exact (keeps_next _).2 (by rw [mems_ended]; exact hf)
  next hx =>
    rw [hx] at hf
    exact raised_keeps hf _
  next hx =>
    rw [hx] at hf
    exact frame_keeps hf _
theorem bundleTurn_keeps (key : Nat) : Keeps (s.bundleTurn key) := by
  unfold bundleTurn
  dsimp only
  split
  · exact issueIter_keeps (by simpa using h) _
  · exact nextBundle_keeps h _
theorem turnOf_keeps (key : Nat) : Keeps (s.turnOf key) := by
  have hb := bundleTurn_keeps h key
  unfold turnOf
  dsimp only
  split
  · simpa using h
  split
  · simpa using h
  split
  · exact execWatchdog_keeps h ..
  split
  · split
    next hu =>
      have hw := hb.wf _ hu
      split
      · simpa using hw
      · simpa using h
    next => exact keeps_fault _
    next => exact keeps_refused _
  · split
    next hu =>
      have hw := hb.wf _ hu
      split
      · simpa using h
      · simpa using hw
    next => exact keeps_fault _
    next => exact keeps_refused _
theorem take_keeps (d : Nat) (t : Turn) : Keeps (s.take d t) := by
  have he : MemsWf (s.elapse d).mems := by simpa using h
  cases t with
  | event e =>
    dsimp only [take]
    rw [perform_eq_exec]
    exact exec_keeps he _
  | issue site thr =>
    dsimp only [take]
    split
    · split
      next hd => exact (keeps_next _).2 (drawBool_wf hd he)
      next hd => exact turnOf_keeps (drawBool_wf hd he) _
    · exact turnOf_keeps he _
  | bar2Atomic => exact (keeps_next _).2 (bar2Op_wf _ _ _ _ he)
  | _ => exact (keeps_next _).2 (by simpa using he)
theorem turn_keeps : Keeps s.turn := by
  unfold turn
  dsimp only
  split
  · simpa using h
  next r _ => exact take_keeps (s := { s with agenda := r }) h ..

end

end Sys2Proof.Machine.State

namespace Sys2Proof

/-- Settles O58: an instruction or an event that writes a memory writes it through `Memory.store` or `Memory.setByte`, which keep the canonical form;
every other operation leaves the memories alone. -/
theorem memoryForm : Obligations.MemoryForm := fun _ t h ht => (Machine.State.turn_keeps h).wf t ht

end Sys2Proof
end


section
/-! ### The Referee, and messages with an unassigned type (O39) -/

namespace Sys2Proof.Machine

namespace State

/-- A pair that fails waits for DUPLEX at both threads. -/
theorem pairFails_duplex (s : State) (q : Pair) (v : Word) :
    ((s.pairFails q v).thread q.pkey).duplex = some v ∧ ((s.pairFails q v).thread q.tkey).duplex = some v := by
  have hrec : ∀ (u : State) k e n, (u.record k e).thread n = u.thread n := fun u k e n =>
    thread_congr (threads_of_still (still_record u k e)) n
  unfold pairFails
  dsimp only
  rw [hrec, hrec, thread_modThread, thread_modThread, thread_modThread]
  refine ⟨?_, ?_⟩
  · split
    · rfl
    · simp
  · simp

end State

/-- The Referee's step for a pair whose oldest messages have both come. -/
theorem execRefereePair_both {s : State} {k : Nat} {q : Pair} (hq : s.pairs[k]? = some q) {a b : Msg} {ta tb : Word} {l n : List (Msg × Word)}
    (hp : q.prim = (a, ta) :: l) (ht : q.twin = (b, tb) :: n) : execRefereePair k s =
      if farApart ta tb then .next (s.pairFails q 4096)
      else if a.refereeCrc = b.refereeCrc then .next (s.pairForward q a b) else .next (s.pairFails q 0) := by
  simp only [execRefereePair, hq, hp, ht]

theorem farApart_iff (a b : Word) : farApart a b = true ↔ 4096 ≤ (a - b).toNat ∧ 4096 ≤ (b - a).toNat := by
  rw [farApart, Bool.and_eq_true, decide_eq_true_eq, decide_eq_true_eq]

/-- Settles O39: by the branches of the Referee's two events; a pair that fails is `pairFails` of it. -/
theorem refereeAndUnassigned : Obligations.RefereeAndUnassigned := by
  intro s k q
  dsimp only
  have fails : ∀ v, ∃ t, Host.Outcome.next (s.pairFails q v) = (.next t : Host.Outcome State Fault Refusal) ∧
      (t.thread q.pkey).duplex = some v ∧ (t.thread q.tkey).duplex = some v := fun v => ⟨_, rfl, s.pairFails_duplex q v⟩
  refine ⟨fun hq => ⟨fun a b ta tb l n hp ht => ?_, fun a ta l hp ht hd => ?_, fun b tb l hp ht hd => ?_⟩, fun m site hm hu hd => ?_⟩
  · have he : exec (.refereePair k) s = _ := execRefereePair_both hq hp ht
    rw [← farApart_iff, he]
    refine ⟨fun hf => ?_, fun hf hc => ?_, fun hf hc => ?_⟩
    · rw [if_pos hf]
      exact fails 4096
    · rw [if_neg hf, if_pos hc]
    · rw [if_neg hf, if_neg hc]
      exact fails 0
  · have he : exec (.refereeTimeout k) s = .next (s.pairFails q 4096) := by
      show execRefereeTimeout k s = _
      simp only [execRefereeTimeout, hq, hp, ht, if_pos hd]
    rw [he]
    exact fails 4096
  · have he : exec (.refereeTimeout k) s = .next (s.pairFails q 4096) := by
      show execRefereeTimeout k s = _
      simp only [execRefereeTimeout, hq, hp, ht, if_pos hd]
    rw [he]
    exact fails 4096
  · show execUnassignedMessage k s = _
    simp only [execUnassignedMessage, hm, hu, hd, State.siteOfAgent, Bool.false_eq_true, if_false]

end Sys2Proof.Machine
end


section
/-! ### What the records of an access leave alone -/

namespace Sys2Proof.Machine.State

/-- A state without its error records and their frames, the free choices drawn so far, and the row counts of device memory. -/
def quiet (s : State) : State := { s with banks := [], chans := [], fresh := 0, hbm := { s.hbm with rowErr := [] } }

section
variable {s t : State} (h : t.quiet = s.quiet)
include h

theorem threads_of_quiet : t.threads = s.threads := (congrArg threads h :)
theorem cores_of_quiet : t.cores = s.cores := (congrArg cores h :)
theorem net_of_quiet : t.net = s.net := (congrArg net h :)
theorem shared_of_quiet : t.shared = s.shared := (congrArg shared h :)
theorem hbmBytes_of_quiet : t.hbm.bytes = s.hbm.bytes := (congrArg (fun x : State => x.hbm.bytes) h :)
theorem thread_of_quiet (k : Nat) : t.thread k = s.thread k := thread_congr (threads_of_quiet h) k
theorem core_of_quiet (c : Nat) : t.core c = s.core c := (congrArg (fun x : State => x.core c) h :)

end

theorem quiet_foldl {α : Type} {f : State → α → State} (hf : ∀ u x, (f u x).quiet = u.quiet) (l : List α) (s : State) :
    (l.foldl f s).quiet = s.quiet := by
  induction l generalizing s with
  | nil => rfl
  | cons x r ih => exact (ih _).trans (hf s x)
theorem quiet_ite {c : Prop} [Decidable c] {a b s : State} (ha : a.quiet = s.quiet) (hb : b.quiet = s.quiet) :
    (if c then a else b).quiet = s.quiet := by split <;> assumption
@[simp] theorem quiet_queueFrame (s : State) (f typ : Nat) (b : BitVec 512) : (s.queueFrame f typ b).1.quiet = s.quiet := by
  unfold queueFrame
  dsimp only
  split <;> rfl
@[simp] theorem quiet_record (s : State) (k : Nat) (e : Err) : (s.record k e).quiet = s.quiet := by
  unfold record
  extract_lets b cnt nb body
  split
  · rfl
  · have h1 : (queueFrame { s with banks := Map.put s.banks k nb } 0 0x82 body).1.quiet = s.quiet := quiet_queueFrame _ _ _ _
    generalize queueFrame { s with banks := Map.put s.banks k nb } 0 0x82 body = q at h1 ⊢
    apply quiet_ite <;> split
    · exact (quiet_queueFrame _ _ _ _).trans h1
    · exact h1
    · exact (quiet_queueFrame _ _ _ _).trans h1
    · exact h1
@[simp] theorem quiet_secRecord (s : State) (ten : BitVec 12) (a rank detail : Nat) : (s.secRecord ten a rank detail).quiet = s.quiet :=
  quiet_record _ _ _
@[simp] theorem quiet_mendSeen (s : State) (ten : BitVec 12) (key a n : Nat) (partly : Bool) : (s.mendSeen ten key a n partly).quiet = s.quiet :=
  quiet_foldl (fun u b => (quiet_secRecord { u with hbm := u.hbm.countRow b } ten b 1 1).trans rfl) _ s
@[simp] theorem quiet_flawSeen (s : State) (ten : BitVec 12) (l : List (Nat × Nat)) : (s.flawSeen ten l).quiet = s.quiet :=
  quiet_foldl (fun _ _ => quiet_secRecord _ _ _ _ _) l s
@[simp] theorem quiet_secSeen (s : State) (ten : BitVec 12) (key a n : Nat) : (s.secSeen ten key a n).quiet = s.quiet :=
  (quiet_flawSeen _ _ _).trans (quiet_mendSeen _ _ _ _ _ _)
@[simp] theorem quiet_walkSeen (s : State) (root va : Nat) : (s.walkSeen root va).quiet = s.quiet :=
  quiet_foldl (fun _ _ => quiet_secSeen _ _ _ _ _) _ s

end Sys2Proof.Machine.State
end


section
/-! ### A translation walk (O24) -/

namespace Sys2Proof.Machine

/-- The value of a key after a change of every entry that keeps the keys. -/
theorem Map.find_map {β : Type} {f : Nat × β → Nat × β} (hf : ∀ e, (f e).1 = e.1) (m : Map β) (k : Nat) :
    Map.find (m.map f) k = (Map.find m k).map fun v => (f (k, v)).2 := by
  induction m with
  | nil => rfl
  | cons e r ih =>
    rw [List.map_cons, show f e = ((f e).1, (f e).2) from rfl, hf e]
    simp only [find]
    split
    next he => rw [Option.map_some, ← he]
    next => exact ih

namespace State

/-- What the end of a walk gives the core of a site of the die: its misses of the page are gone, and the entry is in its TLB. -/
def answered (s : State) (d : Nat) (p : BitVec 6 × Nat) (res : Option TlbEnt) : State :=
  { s with cores := s.cores.map fun e =>
      if dieOf e.1 ≠ d ∨ (e.2.walks.any fun r => r.page == p) = false then e
      else (e.1, { e.2 with
        walks := e.2.walks.filter fun r => !(r.page == p)
        tlb := match res with | some x => tlbUse e.2.tlb x | none => e.2.tlb }) }
/-- The failure of a walk at the bundle or the copy that waits for it. -/
def walkFails (u : State) (r : WalkReq) : State :=
  match r.copy with
  | some id => u.modCore (r.key / 4) fun c => { c with tags := { c.tags with copies := c.tags.copies.map fun p =>
      if p.id = id then { p with xfail := p.xfail ++ [(r.slot, r.va)] } else p } }
  | none => u.modThread r.key fun t => { t with xfail := t.xfail ++ [(r.slot, r.va)] }
theorem walkEnds_some (s : State) (d : Nat) (p : BitVec 6 × Nat) (e : TlbEnt) : s.walkEnds d p (some e) = s.answered d p (some e) := rfl
theorem walkEnds_none (s : State) (d : Nat) (p : BitVec 6 × Nat) :
    s.walkEnds d p none = ((s.dieWalks d).filter fun r => r.page == p).foldl walkFails (s.answered d p none) := rfl

/-- The core of a site whose misses of the page have been answered. -/
theorem answered_core {s : State} {site k : Nat} {r : WalkReq} (hr : (s.core site).walks[k]? = some r) (res : Option TlbEnt) :
    ((s.answered (dieOf site) r.page res).core site).walks = (s.core site).walks.filter (fun x => x.page != r.page) ∧
    ((s.answered (dieOf site) r.page res).core site).tlb = match res with | some x => tlbUse (s.core site).tlb x | none => (s.core site).tlb := by
  have hany : ((s.core site).walks.any fun x => x.page == r.page) = true :=
    List.any_eq_true.2 ⟨r, List.mem_of_getElem? hr, beq_self_eq_true _⟩
  have hkeys : ∀ e : Nat × Core, (if dieOf e.1 ≠ dieOf site ∨ (e.2.walks.any fun x => x.page == r.page) = false then e
      else (e.1, { e.2 with
        walks := e.2.walks.filter fun x => !(x.page == r.page)
        tlb := match res with | some x => tlbUse e.2.tlb x | none => e.2.tlb })).1 = e.1 := fun e => by split <;> rfl
  cases hf : Map.find s.cores site with
  | none =>
    rw [core, Map.get, hf] at hany
    simp [initCore] at hany
  | some c =>
    have hc : s.core site = c := by rw [core, Map.get, hf]; rfl
    rw [hc] at hany ⊢
    unfold answered core Map.get
    dsimp only
    rw [Map.find_map hkeys, hf, Option.map_some, Option.getD_some, if_neg (by simp only [hany]; simp)]
    exact ⟨rfl, rfl⟩

theorem walkFails_core (u : State) (r : WalkReq) (c : Nat) : ((u.walkFails r).core c).walks = (u.core c).walks ∧
    ((u.walkFails r).core c).tlb = (u.core c).tlb := by
  unfold walkFails
  split
  · rw [core_modCore]
    split
    next hc => subst hc; exact ⟨rfl, rfl⟩
    next => exact ⟨rfl, rfl⟩
  · exact ⟨rfl, rfl⟩
theorem walkFails_xfail (u : State) (r : WalkReq) (key : Nat) : ((u.walkFails r).thread key).xfail =
    (u.thread key).xfail ++ ([r].filter fun x => x.key == key && x.copy == none).map fun x => (x.slot, x.va) := by
  unfold walkFails
  split
  next hc => simp [hc, show ∀ f, (u.modCore (r.key / 4) f).thread key = u.thread key from fun _ => rfl]
  next hc =>
    rw [thread_modThread]
    by_cases hk : key = r.key
    · simp [hk, hc]
    · simp [hk, hc, Ne.symm hk]
/-- The failures of a walk, at all that waits for it. -/
theorem foldl_walkFails (l : List WalkReq) (u : State) (c key : Nat) : ((l.foldl walkFails u).core c).walks = (u.core c).walks ∧
    ((l.foldl walkFails u).core c).tlb = (u.core c).tlb ∧ ((l.foldl walkFails u).thread key).xfail =
      (u.thread key).xfail ++ (l.filter fun x => x.key == key && x.copy == none).map fun x => (x.slot, x.va) := by
  induction l generalizing u with
  | nil => simp
  | cons r l ih =>
    obtain ⟨hw, ht, hx⟩ := ih (u.walkFails r)
    obtain ⟨hw', ht'⟩ := u.walkFails_core r c
    refine ⟨hw.trans hw', ht.trans ht', hx.trans ?_⟩
    rw [walkFails_xfail, List.append_assoc, ← List.map_append, ← List.filter_append, List.singleton_append]

end State

/-- A walk that finds no leaf (R328). -/
theorem execTranslationWalk_none {s : State} {site k : Nat} {r : WalkReq} (hr : (s.core site).walks[k]? = some r)
    (hw : s.walking (State.dieOf site) r = true) (hl : s.walk (s.slotOf r.slot.toNat).root.toNat r.va = none) :
    execTranslationWalk site k s = .next ((s.walkSeen (s.slotOf r.slot.toNat).root.toNat r.va).walkEnds (State.dieOf site) r.page none) := by
  simp only [execTranslationWalk, hr, hw, Bool.true_eq_false, if_false, hl]
/-- A walk that finds a leaf (R328, R329). -/
theorem execTranslationWalk_some {s : State} {site k : Nat} {r : WalkReq} {l : Leaf} (hr : (s.core site).walks[k]? = some r)
    (hw : s.walking (State.dieOf site) r = true) (hl : s.walk (s.slotOf r.slot.toNat).root.toNat r.va = some l) :
    execTranslationWalk site k s = .next ((((s.walkSeen (s.slotOf r.slot.toNat).root.toNat r.va).orLeaf l.addr aBit).addShared site
      ((tlbOf (s.slotOf r.slot.toNat).tenant r.va l).orPerm aBit)).walkEnds (State.dieOf site) r.page
      (some ((tlbOf (s.slotOf r.slot.toNat).tenant r.va l).orPerm aBit))) := by
  simp only [execTranslationWalk, hr, hw, Bool.true_eq_false, if_false, hl]

/-- Settles O24: the end of a walk answers every miss of its page, by `answered` and, where no leaf was found, `walkFails`; the records of its reads touch
neither cores nor threads. -/
theorem translationWalk : Obligations.TranslationWalk := by
  intro s site k r hr c d rest
  have hq : (s.walkSeen c.root.toNat r.va).quiet = s.quiet := State.quiet_walkSeen ..
  generalize hu : s.walkSeen c.root.toNat r.va = u at hq
  have hwalks : u.dieWalks d = s.dieWalks d := (congrArg (fun x : State => x.dieWalks d) hq :)
  have hc : u.core site = s.core site := State.core_of_quiet hq site
  have hx : ∀ key, (u.thread key).xfail = (s.thread key).xfail := fun key => congrArg Thread.xfail (State.thread_of_quiet hq key)
  have hru : (u.core site).walks[k]? = some r := by rwa [hc]
  refine ⟨fun hw => ?_, fun hw hl => ?_, fun l hw hl => ?_⟩
  · show execTranslationWalk site k s = _
    simp only [execTranslationWalk, hr, if_pos (show s.walking (State.dieOf site) r = false from hw)]
  · have he : exec (.translationWalk site k) s = .next (u.walkEnds d r.page none) := by
      rw [← hu]
      exact execTranslationWalk_none hr hw hl
    obtain ⟨hw1, ht1⟩ := State.answered_core hru none
    have hf := State.foldl_walkFails ((u.dieWalks d).filter fun x => x.page == r.page) (u.answered d r.page none) site
    refine ⟨_, he, ?_⟩
    rw [State.walkEnds_none]
    refine ⟨(hf 0).1.trans (hw1.trans (by rw [hc])), (hf 0).2.1.trans (ht1.trans (by rw [hc])), fun key => (hf key).2.2.trans ?_⟩
    rw [show (u.answered d r.page none).thread key = u.thread key from rfl, hx, hwalks, List.filter_filter]
    simp only [Bool.and_comm, Bool.and_assoc, Bool.and_left_comm]
  · intro e
    have he : exec (.translationWalk site k) s = .next (((u.orLeaf l.addr aBit).addShared site e).walkEnds d r.page (some e)) := by
      rw [← hu]
      exact execTranslationWalk_some hr hw hl
    obtain ⟨hw1, ht1⟩ := State.answered_core (s := (u.orLeaf l.addr aBit).addShared site e) hru (some e)
    refine ⟨_, he, ?_⟩
    rw [State.walkEnds_some]
    have hc' : ((u.orLeaf l.addr aBit).addShared site e).core site = s.core site := hc
    refine ⟨hw1.trans (by rw [hc']), ht1.trans (by rw [hc']), fun hd => ?_, hx⟩
    refine ⟨(((u.shared[d]?.getD []).filter fun x => !(x.ten == e.ten && x.va == e.va)).take 8191), ?_⟩
    show (u.shared.setIfInBounds d _)[d]? = _
    rw [Vector.getElem?_setIfInBounds_self_of_lt hd]
    rfl

end Sys2Proof.Machine
end


section
/-! ### A message that has been taken leaves the cores and threads as they were -/

namespace Sys2Proof.Machine.State

@[simp] theorem still_twinAnswer (s : State) (m : Msg) : (s.twinAnswer m).still = s.still := by
  unfold twinAnswer
  dsimp only
  repeat' split
  all_goals rfl
@[simp] theorem still_dropMsg (s : State) (k : Nat) : (s.dropMsg k).still = s.still := by
  unfold dropMsg
  split
  · exact (still_twinAnswer _ _).trans rfl
  · rfl
@[simp] theorem still_acceptMsg (s : State) (m : Msg) : (s.acceptMsg m).still = s.still := by
  unfold acceptMsg
  dsimp only
  repeat' split
  all_goals rfl
@[simp] theorem still_breakInv (s : State) (frm : Agent) (site : Nat) (m : Msg) (code : Nat) (origin : Word) :
    (s.breakInv frm site m code origin).still = s.still := by
  unfold breakInv
  split
  · rfl
  · exact still_send _ _
@[simp] theorem still_relayRecord (s : State) (site : Nat) (ten : BitVec 12) (names : Word) : (s.relayRecord site ten names).still = s.still :=
  still_record _ _ _
@[simp] theorem still_breakOrRecord (s : State) (frm : Agent) (site : Nat) (m : Msg) (code : Nat) (origin : Word) :
    (s.breakOrRecord frm site m code origin).still = s.still := by
  unfold breakOrRecord
  split
  · exact still_relayRecord ..
  · exact still_breakInv ..
theorem still_foldl {α : Type} {f : State → α → State} (hf : ∀ u x, (f u x).still = u.still) (l : List α) (s : State) :
    (l.foldl f s).still = s.still := by
  induction l generalizing s with
  | nil => rfl
  | cons x r ih => exact (ih _).trans (hf s x)

section
variable {s t : State} (h : t.still = s.still)
include h

theorem present_of_still (site : Nat) : t.present site = s.present site := (congrArg (fun x : State => x.present site) h :)
theorem tenantOk_of_still (site : Nat) (m : Msg) : t.tenantOk site m = s.tenantOk site m := (congrArg (fun x : State => x.tenantOk site m) h :)
theorem thread_of_still (k : Nat) : t.thread k = s.thread k := thread_congr (threads_of_still h) k
theorem hbm_of_still : t.hbm = s.hbm := (congrArg hbm h :)
theorem host_of_still : t.host = s.host := (congrArg host h :)
theorem time_of_still : t.time = s.time := (congrArg time h :)
theorem pslot_of_still (site n : Nat) : t.pslot site n = s.pslot site n := (congrArg (fun x : State => x.pslot site n) h :)
theorem grp_of_still (i : Nat) : t.grp i = s.grp i := (congrArg (fun x : State => x.grp i) h :)
theorem groupOf_of_still (g : BitVec 48) : t.groupOf g = s.groupOf g := (congrArg (fun x : State => x.groupOf g) h :)

end

/-! A message at a core that takes part and holds its tenant (R153, R320). -/

section
variable {s : State} {k site : Nat} {m : Msg} {typ : BitVec 6} (hd : s.deliver k = some m) (hs : m.dest = .core site)
include hd hs

theorem request_eq (hc : m.cls ≠ .rsp) (ht : m.typ = typ) : s.request k typ = some m := by
  simp only [request, hd, ht, hc, hs, isOutAgent, ne_eq, not_false_eq_true, and_self, if_true]
theorem coreTakes_takes (hp : s.present site = true) (hk : s.tenantOk site m = true) (ht : m.typ = typ) (f : State → Nat → Msg → State) :
    s.coreTakes k typ f = f ((s.dropMsg k).wake site) site m := by
  simp only [coreTakes, hd, ht, hs, isOutAgent, ne_eq, not_true_eq_false, Bool.false_eq_true, or_self, if_false, hp, hk, Bool.not_true, Bool.or_self]

end

/-! ### The promise slots of a Relay -/

theorem pslot_wake (s : State) (c site n : Nat) : (s.wake c).pslot site n = s.pslot site n := by
  rw [pslot, wake, core_modCore]
  split
  next h => subst h; rfl
  next => rfl
@[simp] theorem pslot_modPslot_same (s : State) (site n : Nat) (f : PSlot → PSlot) : (s.modPslot site n f).pslot site n = f (s.pslot site n) := by
  rw [pslot, modPslot, core_modCore_same]
  exact Map.get_put_same ..
theorem maybeFree_of_unmarked {s : State} {site n : Nat} (h : (s.pslot site n).freeMark = false) (like : Msg) : s.maybeFree site n like = s := by
  simp [maybeFree, h]

end Sys2Proof.Machine.State
end


section
/-! ### The messages of handles (O32) -/

namespace Sys2Proof.Machine

namespace State

/-- What a result or a break leaves in its slot, where no HFREE came before it (R263, R268). -/
theorem settleSlot_pslot {s : State} {site n : Nat} (hm : (s.pslot site n).freeMark = false) (like : Msg) (broken : Bool) (res : BitVec 512)
    (holder : Option Who) : (s.settleSlot site n like broken res holder).pslot site n =
      { s.pslot site n with
        st := if broken then .broken else .resolved, result := res, holder := holder, hsup := like.fl.sup, fetchers := [], waiters := []
        fifo := if broken then [] else (s.pslot site n).fifo } := by
  unfold settleSlot
  extract_lets p s1 s2 s3 s4
  have h1 : s1.pslot site n = { p with
      st := if broken then .broken else .resolved, result := res, holder := holder, hsup := like.fl.sup, fetchers := [], waiters := []
      fifo := if broken then [] else p.fifo } := pslot_modPslot_same _ _ _ _
  have h2 : s2.pslot site n = s1.pslot site n := pslot_of_still (still_foldl (fun _ _ => still_send _ _) _ _) _ _
  have h3 : s3.pslot site n = s2.pslot site n := by
    have hc : s3.cores = s2.cores := by
      show (List.foldl _ s2 p.waiters).cores = s2.cores
      generalize s2 = u
      induction p.waiters generalizing u with
      | nil => rfl
      | cons w l ih => exact ih _
    rw [pslot, core, hc]
    rfl
  have h4 : s4.pslot site n = s3.pslot site n := by
    dsimp only [s4]
    split
    · exact pslot_of_still (still_foldl (fun _ _ => still_breakOrRecord ..) _ _) _ _
    · rfl
  have hp : s4.pslot site n = _ := h4.trans (h3.trans (h2.trans h1))
  rw [maybeFree_of_unmarked (by rw [hp]; exact hm), hp]

end State

section
variable {s : State} {k site : Nat} {m : Msg} (hd : s.deliver k = some m) (hs : m.dest = .core site) (hp : s.present site = true)
  (hk : s.tenantOk site m = true)

/-- The slots of a Relay once a message for it has been taken. -/
theorem pslot_taken (s : State) (k site n : Nat) : ((s.dropMsg k).wake site).pslot site n = s.pslot site n :=
  (State.pslot_wake ..).trans (State.pslot_of_still (State.still_dropMsg s k) _ _)

include hd hs hp hk

theorem reply_settles (ht : m.typ = MT.reply) (ho : (s.pslot site (hSlot m.w[0])).gen = hGen m.w[0] ∧
    ((s.pslot site (hSlot m.w[0])).st = .pending ∨ (s.pslot site (hSlot m.w[0])).st = .bound)) :
    exec (.reply k) s = .next (((s.dropMsg k).wake site).settleSlot site (hSlot m.w[0]) m false (m.pay.setWidth 512)
      (if m.w[1] = 1 then some m.src else none)) := by
  show execReply k s = _
  rw [execReply, State.coreTakes_takes hd hs hp hk ht]
  dsimp only
  rw [pslot_taken, if_pos ho]
theorem break_settles (ht : m.typ = MT.brk) (ho : (s.pslot site (hSlot m.w[0])).gen = hGen m.w[0] ∧
    ((s.pslot site (hSlot m.w[0])).st = .pending ∨ (s.pslot site (hSlot m.w[0])).st = .bound)) :
    exec (.break_ k) s = .next (((s.dropMsg k).wake site).settleSlot site (hSlot m.w[0]) m true (State.breakRec m.w[1] m.w[2]) none) := by
  show execBreak k s = _
  rw [execBreak, State.coreTakes_takes hd hs hp hk ht]
  dsimp only
  rw [pslot_taken, if_pos ho]
/-- A FETCH of a result at the Relay of the handle. -/
theorem fetch_at (ht : m.typ = MT.fetch) (hc : m.cls = .req) (hr : ((s.dropMsg k).wake site).mustRefuse m = false) (h2 : m.w[1] ≠ 2) :
    exec (.fetch k) s = .next (
      let u := (s.dropMsg k).wake site
      let n := hSlot m.w[0]
      let p := s.pslot site n
      if p.gen ≠ hGen m.w[0] ∨ p.st = .free then (u.acceptMsg m).answerFetch m true (State.breakRec 7 m.w[0])
      else if p.st = .resolved ∨ p.st = .broken then (u.acceptMsg m).answerFetch m (p.st == .broken) p.result
      else if 128 ≤ ((u.core site).relay.slots.map fun e => e.2.fetchers.length).sum then u.retryMsg m
      else (u.acceptMsg m).modPslot site n fun p => { p with fetchers := p.fetchers ++ [m] }) := by
  have hp' := (State.present_of_still (State.still_dropMsg s k) site).trans hp
  have hk' := (State.tenantOk_of_still (State.still_dropMsg s k) site m).trans hk
  show execFetch k s = _
  simp only [execFetch, State.request_eq hd hs (by rw [hc]; decide) ht, hs, State.delivered_takes hp' hk', hr, h2, Bool.false_eq_true, if_false,
    pslot_taken]
theorem acceptNotice_binds (ht : m.typ = MT.accept) (h2 : m.w[2] = 0) (hg : (s.pslot site (hSlot m.w[0])).gen = hGen m.w[0])
    (hcon : (s.pslot site (hSlot m.w[0])).control = false) (hst : (s.pslot site (hSlot m.w[0])).st = .pending) :
    exec (.acceptNotice k) s = .next (((s.dropMsg k).wake site).modPslot site (hSlot m.w[0]) fun p => { p with
      st := if p.st = .pending then .bound else p.st, csup := m.fl.sup, consumer := some ⟨grpOf m.w[1], memOf m.w[1], m.src⟩ }) := by
  show execAcceptNotice k s = _
  rw [execAcceptNotice, State.coreTakes_takes hd hs hp hk ht]
  dsimp only
  rw [if_pos h2, pslot_taken, if_pos ⟨hg, hcon, .inl hst⟩]
theorem hrelease_eq (ht : m.typ = MT.hrelease) : exec (.hrelease k) s = .next (((s.dropMsg k).wake site).modCore site fun c => { c with
    relay := { c.relay with held := c.relay.held.filterMap fun e =>
      if e.handle = m.w[0] then (if e.count = 0 then none else some { e with held := false }) else some e } }) := by
  show execHrelease k s = _
  rw [execHrelease, State.coreTakes_takes hd hs hp hk ht]
/-- VALUE that answers a wait of a thread (R265). -/
theorem value_ends (ht : m.typ = MT.value) (h1 : m.w[1] = 1) : exec (.value k) s = .next ((((s.dropMsg k).wake site).modThread (m.threadAt site) fun t =>
    match t.slots[m.slot]?.getD none with
    | some q => match q.op with
      | .hwait v d f => (t.freeSlot m.slot).endWait q.id v d f (m.spec.getLsbD 11) (m.pay.setWidth 512)
      | .loadX _ _ | .loadV _ _ | .store _ | .ldfe _ _ | .stfe _ _ | .atomic _ _ _ _ => t.freeSlot m.slot
    | none => t).slotFreed (m.threadAt site) m.slot) := by
  show execValue k s = _
  rw [execValue, State.coreTakes_takes hd hs hp hk ht]
  exact congrArg Host.Outcome.next (if_pos h1)

end

theorem slotFreed_thread (s : State) (key n j : Nat) : (s.slotFreed key n).thread j = s.thread j := by
  unfold State.slotFreed
  split <;> rfl
/-- The two registers of HWAIT once its result has come (R272). -/
theorem endWait_getX (t : Thread) (id : Nat) {d f : BitVec 5} (hd : d ≠ 0) (hdf : d ≠ f) (res : BitVec 512) :
    (t.endWait id false d f false res).getX d = res.setWidth 64 ∧ (t.endWait id false d f false res).getX f = 0 := by
  have hr : ∀ r, (t.endWait id false d f false res).getX r = ((t.putX d (res.setWidth 64)).putX f 0).getX r := fun r =>
    Thread.getX_congr (Thread.complete_keeps _ id).1 r
  have hp : ∀ (u : Thread) (x r : XReg) (v : Word), (u.putX x v).getX r = (u.setX x v).getX r := fun u x r v => Thread.getX_congr (u.putX_regs x v) r
  rw [hr, hr]
  refine ⟨?_, ?_⟩
  · rw [hp, Thread.getX_setX_ne _ _ _ _ hdf, hp, Thread.getX_setX_same _ _ _ hd]
  · rw [hp, Thread.getX_setX]
    simp

theorem relayMessages : Part.RelayMessages := by
  intro s k site m hd hs hp hk n p v open_
  refine ⟨fun ht ho hf => ⟨_, reply_settles hd hs hp hk ht ho, ?_⟩, fun ht ho hf => ⟨_, break_settles hd hs hp hk ht ho, ?_⟩,
    fun ht hc hr h2 => ?_, fun ht h2 hg hcon hst => ?_, fun ht h1 q d f hq ho hd0 hdf h11 => ?_, fun ht => ?_⟩
  · rw [State.settleSlot_pslot (by rw [pslot_taken]; exact hf), pslot_taken]
    exact ⟨rfl, rfl, rfl⟩
  · rw [State.settleSlot_pslot (by rw [pslot_taken]; exact hf)]
    exact ⟨rfl, rfl, rfl⟩
  · have he := fetch_at hd hs hp hk ht hc hr h2
    refine ⟨fun hg hst => ?_, fun hg => ?_⟩
    · have hfree : ¬(p.gen ≠ hGen m.w[0] ∨ p.st = .free) := by
        rcases hst with hst | hst <;> simp [hg, hst]
      rw [he]
      exact congrArg _ ((if_neg hfree).trans (if_pos hst))
    · rw [he]
      exact congrArg _ (if_pos (.inl hg))
  · refine ⟨_, acceptNotice_binds hd hs hp hk ht h2 hg hcon hst, ?_⟩
    rw [State.pslot_modPslot_same, pslot_taken, if_pos hst]
    exact ⟨rfl, rfl⟩
  · refine ⟨_, value_ends hd hs hp hk ht h1, ?_⟩
    have hth : ((s.dropMsg k).wake site).thread (m.threadAt site) = s.thread (m.threadAt site) :=
      State.thread_of_still (State.still_dropMsg s k) _
    have hq' : (s.thread (m.threadAt site)).slots[m.slot]?.getD none = some q := hq
    show (State.thread _ (m.threadAt site)).getX d = _ ∧ (State.thread _ (m.threadAt site)).getX f = 0
    rw [slotFreed_thread, State.thread_modThread_same, hth, hq']
    dsimp only
    rw [ho]
    dsimp only
    rw [h11]
    obtain ⟨hgd, hgf⟩ := endWait_getX ((s.thread (m.threadAt site)).freeSlot m.slot) q.id hd0 hdf (m.pay.setWidth 512)
    exact ⟨hgd.trans (BitVec.setWidth_setWidth_of_le _ (by decide)), hgf⟩
  · refine ⟨_, hrelease_eq hd hs hp hk ht, fun e he hh => ?_⟩
    rw [State.core_modCore_same] at he
    obtain ⟨x, -, hx⟩ := List.mem_filterMap.1 he
    split at hx
    next hxh =>
      split at hx
      · cases hx
      next hc =>
        cases hx
        exact ⟨rfl, hc⟩
    next hxh =>
      cases hx
      exact absurd hh hxh

theorem relayForward : Part.RelayForward := by
  intro s site n m rest c hc hf hm
  have hgo : ∀ u : State, u.pslot site n = s.pslot site n →
      ((((u.forwardH site (s.pslot site n) m).modPslot site n fun p => { p with fifo := rest }).maybeFree site n m).pslot site n).fifo = rest := fun u hu => by
    have hfw : (u.forwardH site (s.pslot site n) m).pslot site n = s.pslot site n := by
      rw [State.forwardH, hc]
      exact (State.pslot_of_still (State.still_send _ _) _ _).trans hu
    rw [State.maybeFree_of_unmarked, State.pslot_modPslot_same]
    rw [State.pslot_modPslot_same, hfw]
    exact hm
  show ∃ t, execRelayForward site n s = .next t ∧ _
  simp only [execRelayForward, hc, hf]
  by_cases hw : s.fwdHeld (.core site) = true
  · cases hdr : s.drawBool with
    | mk b u =>
      have hu : u.pslot site n = s.pslot site n := by rw [← show s.drawBool.2 = u from by rw [hdr]]; rfl
      cases b with
      | true => exact ⟨u, by simp [hw], by simp [hw]⟩
      | false => exact ⟨_, by simp only [hw, if_true]; rfl, by simpa [hw] using hgo u hu⟩
  · exact ⟨_, by simp only [hw, Bool.false_eq_true, if_false]; rfl, by simpa [hw] using hgo s rfl⟩

/-- Settles O32: a message for a Relay acts on its slot alone, by `settleSlot` where it brings the end of a handle. -/
theorem relayTraffic : Obligations.RelayTraffic := ⟨relayMessages, relayForward⟩

end Sys2Proof.Machine
end


section
/-! ### A request at a core (O22) -/

namespace Sys2Proof.Machine

namespace State

/-! #### What the core's memory is when a message has been taken -/

theorem mem_wake (s : State) (site c : Nat) : ((s.wake site).core c).mem = (s.core c).mem := by
  rw [wake, core_modCore]
  split
  next h => subst h; rfl
  next => rfl
theorem mem_of_still {s t : State} (h : t.still = s.still) (c : Nat) : (t.core c).mem = (s.core c).mem := congrArg Core.mem (core_of_still h c)
theorem awaited_twinAnswer (s : State) (m : Msg) : (s.twinAnswer m).awaited = s.awaited := by
  unfold twinAnswer
  dsimp only
  repeat' split
  all_goals rfl
theorem awaited_dropMsg (s : State) (k : Nat) : (s.dropMsg k).awaited = s.awaited := by
  unfold dropMsg
  split
  · exact (awaited_twinAnswer _ _).trans rfl
  · rfl
theorem mustRefuse_congr {s t : State} (h : t.awaited = s.awaited) (m : Msg) : t.mustRefuse m = s.mustRefuse m := by rw [mustRefuse, mustRefuse, h]

/-! #### The request performed -/

section
variable {v : State} {site : Nat} {m : Msg}

theorem applyRemote_load (ht : m.typ = MT.load) (hp : poisoned (v.core site).mem.pois m.addr m.size = false) :
    v.applyRemote site m = v.send (dataMsg m m.size ((v.core site).mem.bytes.load m.addr m.size)) := by
  simp only [applyRemote, ht, if_true, LocalMem.read, hp, Bool.false_eq_true, if_false]
theorem applyRemote_store (ht : m.typ = MT.store) : v.applyRemote site m = (v.locStore site m.addr m.size m.data false).reply m 0 := by
  simp only [applyRemote, ht, show MT.store ≠ MT.load by decide, if_true, if_false]
theorem applyRemote_atomic (ht : m.typ = MT.atomic) (hp : poisoned (v.core site).mem.pois m.addr (atomicLen m.aop) = false) :
    v.applyRemote site m = (v.locStore site m.addr (atomicLen m.aop)
      (atomicNew m.aop ((v.core site).mem.bytes.load m.addr (atomicLen m.aop)) m.w[1] m.w[2]) false).send
      (dataMsg m 8 ((v.core site).mem.bytes.load m.addr (atomicLen m.aop))) := by
  simp only [applyRemote, ht, show MT.atomic ≠ MT.load by decide, show MT.atomic ≠ MT.store by decide, if_true, if_false, LocalMem.read, hp,
    Bool.false_eq_true]
theorem applyRemote_loadfe (ht : m.typ = MT.loadfe) (hm : m.mode ≠ 3) (hp : poisoned (v.core site).mem.pois m.addr 8 = false) :
    v.applyRemote site m = (v.modMem site fun l => l.setFull m.addr (ldfeBit m.mode ((v.core site).mem.full m.addr))).send
      (dataMsg m 8 ((v.core site).mem.bytes.load m.addr 8)) := by
  simp only [applyRemote, ht, show MT.loadfe ≠ MT.load by decide, show MT.loadfe ≠ MT.store by decide, show MT.loadfe ≠ MT.atomic by decide,
    if_true, if_false, hm, LocalMem.read, hp, Bool.false_eq_true]
theorem applyRemote_storefe (ht : m.typ = MT.storefe) : v.applyRemote site m =
    ((if m.mode = 2 then v else v.locStore site m.addr 8 m.w[1].toNat false).modMem site fun l => l.setFull m.addr (stfeBit m.mode)).reply m 0 := by
  simp only [applyRemote, ht, show MT.storefe ≠ MT.load by decide, show MT.storefe ≠ MT.store by decide, show MT.storefe ≠ MT.atomic by decide,
    show MT.storefe ≠ MT.loadfe by decide, if_false]

end

/-- A request that its core serves: the request is performed, and the held ones are tried again where its full-empty bit changed. -/
theorem atCore_serves {u : State} {site : Nat} {m : Msg} (hp : u.present site = true) (hk : u.tenantOk site m = true)
    (hr : (u.wake site).mustRefuse m = false) (hready : m.ready ((u.core site).mem.full m.addr) = true) :
    u.atCore site m = (((u.wake site).acceptMsg m).applyRemote site m).rescanLocal site m.addr ((u.core site).mem.full m.addr) := by
  have hf : ((u.wake site).core site).mem = (u.core site).mem := mem_wake ..
  simp only [atCore, delivered_takes hp hk, hr, hf, hready, Bool.false_eq_true, Bool.true_eq_false, if_false]

section
variable {s : State} {k site : Nat} {m : Msg} {typ : BitVec 6} (hd : s.deliver k = some m) (hc : m.cls ≠ .rsp) (hs : m.dest = .core site)
  (ht : m.typ = typ)
include hd hc hs ht

/-- A request that its core serves as a whole. -/
theorem home_core (hb : byLines m = false) : s.home k typ = (s.dropMsg k).atCore site m := by
  simp only [home, request_eq hd hs hc ht, hs, hb, Bool.false_and, Bool.false_eq_true, if_false, atHome]
/-- One that its core serves by lines (R290). -/
theorem home_line (hb : byLines m = true) (hl : m.todo ≠ none ∨ s.present site = true ∧ s.tenantOk site m = true ∧ s.mustRefuse m = false) :
    s.home k typ = s.lineAtCore k site m := by
  have hn : (m.todo.isSome || (s.present site && s.tenantOk site m && !s.mustRefuse m)) = true := by
    rcases hl with h | ⟨h1, h2, h3⟩
    · rw [Option.isSome_iff_ne_none.2 h, Bool.true_or]
    · rw [h1, h2, h3]; simp
  simp only [home, request_eq hd hs hc ht, hs, hb, hn, Bool.and_self, if_true]

end

end State


/-! #### A line of a large access (R290) -/

namespace State

section
variable {s : State} {k site : Nat} {m : Msg}

/-- The line that the next step moves: one of those that are left. -/
def nextLine (s : State) (m : Msg) : Nat :=
  (m.todo.getD (List.range (m.size / 128))).getD (s.drawWord.1.toNat % (m.todo.getD (List.range (m.size / 128))).length) 0
theorem nextLine_mem (s : State) (h : m.todo.getD (List.range (m.size / 128)) ≠ []) : s.nextLine m ∈ m.todo.getD (List.range (m.size / 128)) := by
  rw [nextLine, List.getD_eq_getElem?_getD]
  exact getD_mod_mem h _
/-- The state in which a line is moved: the message taken, where it is the first. -/
def lineFrom (s : State) (site : Nat) (m : Msg) : State :=
  if m.todo.isNone then (s.drawWord.2.wake site).acceptMsg m else s.drawWord.2.wake site
theorem lineFrom_mem (s : State) (site : Nat) (m : Msg) : ((s.lineFrom site m).core site).mem = (s.core site).mem := by
  unfold lineFrom
  split
  · exact (mem_of_still (still_acceptMsg _ _) site).trans (mem_wake ..)
  · exact mem_wake ..
theorem lineFrom_net (s : State) (site : Nat) (m : Msg) : (s.lineFrom site m).net = s.net := by
  unfold lineFrom
  split
  · unfold acceptMsg
    dsimp only
    repeat' split
    all_goals rfl
  · rfl
theorem mem_putNet (s : State) (l : List Msg) (c : Nat) : (({ s with net := l } : State).core c).mem = (s.core c).mem := rfl

/-- The line of a LOAD that is read: poisoned, the last, or one of more. -/
theorem lineAtCore_load (ht : m.typ = MT.load) : s.lineAtCore k site m =
    let a := m.addr + 128 * s.nextLine m
    let rest := (m.todo.getD (List.range (m.size / 128))).filter fun j => j != s.nextLine m
    let v := vPlace m.pay (128 * s.nextLine m) 128 ((s.core site).mem.bytes.load a 128)
    let u := s.lineFrom site m
    if poisoned (s.core site).mem.pois a 128 then ((u.dropMsg k).localPoison site a).reply m 1
    else if rest = [] then (u.dropMsg k).send (dataMsg m m.size v.toNat)
    else { u with net := u.net.set k { m with todo := some rest, pay := v } } := by
  unfold lineAtCore
  simp only [if_pos ht]
  rfl
/-- The line of a STORE that is written: the last, or one of more. -/
theorem lineAtCore_store (ht : m.typ = MT.store) : s.lineAtCore k site m =
    let rest := (m.todo.getD (List.range (m.size / 128))).filter fun j => j != s.nextLine m
    let u := (s.lineFrom site m).locStore site (m.addr + 128 * s.nextLine m) 128 (vBytes m.pay (128 * s.nextLine m) 128) false
    if rest = [] then (u.dropMsg k).reply m 0 else { u with net := u.net.set k { m with todo := some rest } } := by
  unfold lineAtCore
  simp only [if_neg (show ¬m.typ = MT.load by rw [ht]; decide)]
  rfl

theorem lineAtCore_store_bytes (ht : m.typ = MT.store) :
    ((s.lineAtCore k site m).core site).mem.bytes =
      (s.core site).mem.bytes.store (m.addr + 128 * s.nextLine m) 128 (vBytes m.pay (128 * s.nextLine m) 128) := by
  have hw : (((s.lineFrom site m).locStore site (m.addr + 128 * s.nextLine m) 128 (vBytes m.pay (128 * s.nextLine m) 128) false).core site).mem.bytes =
      (s.core site).mem.bytes.store (m.addr + 128 * s.nextLine m) 128 (vBytes m.pay (128 * s.nextLine m) 128) := by
    rw [core_locStore, if_pos rfl, lineFrom_mem]
    rfl
  rw [lineAtCore_store ht]
  dsimp only
  split
  · rw [reply, mem_of_still (still_send _ _), mem_of_still (still_dropMsg _ _)]
    exact hw
  · exact hw
theorem lineAtCore_load_bytes (ht : m.typ = MT.load) : ((s.lineAtCore k site m).core site).mem.bytes = (s.core site).mem.bytes := by
  have hw := congrArg LocalMem.bytes (s.lineFrom_mem site m)
  rw [lineAtCore_load ht]
  dsimp only
  split
  · rw [reply, mem_of_still (still_send _ _), mem_of_still (still_localPoison _ _ _), mem_of_still (still_dropMsg _ _)]
    exact hw
  split
  · rw [mem_of_still (still_send _ _), mem_of_still (still_dropMsg _ _)]
    exact hw
  · exact hw
theorem lineAtCore_load_net (ht : m.typ = MT.load) (hk : k < s.net.length)
    (hp : poisoned (s.core site).mem.pois (m.addr + 128 * s.nextLine m) 128 = false)
    (hl : (m.todo.getD (List.range (m.size / 128))).filter (fun j => j != s.nextLine m) ≠ []) : (s.lineAtCore k site m).net[k]? =
      some { m with
        todo := some ((m.todo.getD (List.range (m.size / 128))).filter fun j => j != s.nextLine m)
        pay := vPlace m.pay (128 * s.nextLine m) 128 ((s.core site).mem.bytes.load (m.addr + 128 * s.nextLine m) 128) } := by
  rw [lineAtCore_load ht]
  dsimp only
  rw [if_neg (by rw [hp]; decide), if_neg hl, lineFrom_net, List.getElem?_set_self hk]

end

end State

theorem Msg.ready_of_typ {m : Msg} (h1 : m.typ ≠ MT.loadfe) (h2 : m.typ ≠ MT.storefe) (b : Bool) : m.ready b = true := by
  simp only [ready, h1, h2, if_false]

/-- A STOREFE whose condition holds (R165). -/
theorem stfeReady_of {mode : BitVec 2} {b : Bool} (h1 : mode = 1 → b = false) (h3 : mode = 3 → b = true) : stfeReady mode b = true := by
  rw [stfeReady_eq, Bool.not_eq_true', decide_eq_false_iff_not]
  rintro (⟨hm, hb⟩ | ⟨hm, hb⟩)
  · exact Bool.false_ne_true ((h1 hm).symm.trans hb)
  · exact Bool.false_ne_true (hb.symm.trans (h3 hm))
theorem State.net_of_deliver {s : State} {k : Nat} {m : Msg} (h : s.deliver k = some m) : s.net[k]? = some m := by
  unfold deliver at h
  split at h
  · cases h
  next hk =>
    split at h
    · cases h
    · rwa [← h]

theorem requestsAtCores : Part.RequestsAtCores := by
  intro s k site m hd hc hs u v mem full here lines line
  have hu : u.still = s.still := State.still_dropMsg s k
  have hv : (v.core site).mem = mem := (State.mem_of_still (State.still_acceptMsg _ _) site).trans (State.mem_wake ..)
  -- a request that is served as a whole, whatever it leaves of the full-empty bit
  have serves : ∀ {typ}, m.typ = typ → here → State.byLines m = false → m.ready full = true →
      s.home k typ = (v.applyRemote site m).rescanLocal site m.addr full := fun ht hh hb hr =>
    (State.home_core hd hc hs ht hb).trans (State.atCore_serves hh.1 hh.2.1 hh.2.2 hr)
  have same : ∀ {t : State}, (t.core site).mem.full m.addr = full → t.rescanLocal site m.addr full = t := fun h => State.rescanLocal_same h
  have whole : ∀ {typ}, m.typ = typ → typ ≠ MT.load → typ ≠ MT.store → State.byLines m = false := fun ht h1 h2 => by
    simp [State.byLines, ht, h1, h2]
  have stores : ∀ a n x, ((v.locStore site a n x false).core site).mem = mem.write a n x false := fun a n x => by
    rw [State.core_locStore, if_pos rfl, hv]
  have storesFull : ∀ a n x o, (((v.locStore site a n x false).send o).core site).mem.full m.addr = full := fun a n x o => by
    rw [State.mem_of_still (State.still_send _ _), stores]
    rfl
  have lineHere : m.todo ≠ none ∨ here → m.todo ≠ none ∨ s.present site = true ∧ s.tenantOk site m = true ∧ s.mustRefuse m = false :=
    Or.imp_right fun ⟨h1, h2, h3⟩ => ⟨(State.present_of_still hu site).symm.trans h1, (State.tenantOk_of_still hu site m).symm.trans h2,
      (State.mustRefuse_congr (State.awaited_dropMsg s k) m).symm.trans h3⟩
  have hmem : mem = (s.core site).mem := State.mem_of_still hu site
  -- one after which nobody waits for its full-empty bit
  have performed : ∀ {typ}, m.typ = typ → here → State.byLines m = false → m.ready full = true →
      ((v.applyRemote site m).core site).mem.retry = [] → ∃ t, Host.Outcome.next (s.home k typ) = (.next t : Host.Outcome State Fault Refusal) ∧
      (t.core site).mem = ((v.applyRemote site m).core site).mem := fun ht hh hb hr hq =>
    ⟨_, congrArg _ (serves ht hh hb hr), congrArg Core.mem (State.rescanLocal_nobody hq site)⟩
  -- a STORE that its core does not serve
  have away : m.typ = MT.store → m.todo = none → u.present site = false ∨ u.tenantOk site m = false → s.home k MT.store = u.atCore site m :=
    fun ht hto hn => by
      have hline : (State.byLines m && (m.todo.isSome || (s.present site && s.tenantOk site m && !s.mustRefuse m))) = false := by
        rw [← State.present_of_still hu, ← State.tenantOk_of_still hu, hto]
        rcases hn with hn | hn <;> simp [hn]
      simp only [State.home, State.request_eq hd hs hc ht, hs, hline, Bool.false_eq_true, if_false, State.atHome]
      rfl
  refine ⟨fun ht hh hb hp => ?_, fun ht hh hb => ?_, fun ht hb hl hne => ?_, fun ht hb hl hne => ?_, fun ht hh hp => ?_,
    fun ht hh hq hm hf hp => ?_, fun ht hh hq h1 h3 => ?_, fun ht hcl hto hp => ?_, fun ht hcl hto hp hk => ?_⟩
  · show Host.Outcome.next (s.home k MT.load) = _
    rw [serves ht hh hb (Msg.ready_of_typ (by rw [ht]; decide) (by rw [ht]; decide) _), State.applyRemote_load ht (by rw [hv]; exact hp), hv,
      same (congrArg (fun x : LocalMem => x.full m.addr) ((State.mem_of_still (State.still_send _ _) site).trans hv))]
  · show Host.Outcome.next (s.home k MT.store) = _
    rw [serves ht hh hb (Msg.ready_of_typ (by rw [ht]; decide) (by rw [ht]; decide) _), State.applyRemote_store ht,
      State.reply, same (storesFull ..)]
  · refine ⟨_, s.nextLine m, s.nextLine_mem hne, rfl, ?_⟩
    rw [State.home_line hd hc hs ht hb (lineHere hl), State.lineAtCore_store_bytes ht, hmem]
  · refine ⟨_, s.nextLine m, s.nextLine_mem hne, rfl, ?_⟩
    rw [State.home_line hd hc hs ht hb (lineHere hl), hmem]
    refine ⟨State.lineAtCore_load_bytes ht, fun hp hrest => State.lineAtCore_load_net ht ?_ hp hrest⟩
    exact (List.getElem?_eq_some_iff.1 (State.net_of_deliver hd)).1
  · show Host.Outcome.next (s.home k MT.atomic) = _
    rw [serves ht hh (whole ht (by decide) (by decide)) (Msg.ready_of_typ (by rw [ht]; decide) (by rw [ht]; decide) _),
      State.applyRemote_atomic ht (by rw [hv]; exact hp), hv,
      same (storesFull ..)]
  · have hr : m.ready full = true := by
      rw [Msg.ready, if_pos ht]
      rcases hf with hf | hf <;> simp [ldfeReady, hf]
    have ha := State.applyRemote_loadfe (v := v) (site := site) ht hm (by rw [hv]; exact hp)
    have hmem' : ((v.applyRemote site m).core site).mem = mem.setFull m.addr (ldfeBit m.mode full) := by
      rw [ha, State.mem_of_still (State.still_send _ _), State.modMem, State.core_modCore_same, hv]
    obtain ⟨t, he, hm'⟩ := performed ht hh (whole ht (by decide) (by decide)) hr (by rw [hmem']; exact hq)
    exact ⟨t, he, by rw [hm', hmem', LocalMem.full_setFull]; rfl, by rw [hm', hmem']; rfl⟩
  · have hr : m.ready full = true := by
      rw [Msg.ready, if_neg (by rw [ht]; decide), if_pos ht]
      exact stfeReady_of h1 h3
    have hmem' : ((v.applyRemote site m).core site).mem =
        (if m.mode = 2 then mem else mem.write m.addr 8 m.w[1].toNat false).setFull m.addr (stfeBit m.mode) := by
      rw [State.applyRemote_storefe ht, State.reply, State.mem_of_still (State.still_send _ _), State.modMem, State.core_modCore_same]
      split
      · rw [hv]
      · rw [stores]
    obtain ⟨t, he, hm'⟩ := performed ht hh (whole ht (by decide) (by decide)) hr (by rw [hmem']; split <;> exact hq)
    refine ⟨t, he, by rw [hm', hmem', LocalMem.full_setFull, stfeBit_eq], ?_⟩
    rw [hm', hmem']
    split <;> rfl
  · show Host.Outcome.next (s.home k MT.store) = _
    rw [away ht hto (.inl hp), State.atCore, State.delivered, hp]
    rcases hcl with hcl | hcl <;> simp [State.turnAway, hcl]
  · show Host.Outcome.next (s.home k MT.store) = _
    rw [away ht hto (.inr hk), State.atCore, State.delivered, hp, hk]
    rcases hcl with hcl | hcl <;> simp [State.turnAway, hcl]

/-! ### A request at a memory slice (O22) -/

/-! #### The row counts of device memory decide nothing -/

theorem Hbm.ready_rows (h : Hbm) (r : Map Nat) (key pa n : Nat) : ({ h with rowErr := r } : Hbm).ready key pa n = h.ready key pa n := by
  induction n with
  | zero => rfl
  | succ n ih => rw [ready, ready, ih]; rfl
theorem Hbm.read_of_ready {h : Hbm} {key pa n : Nat} (hr : h.ready key pa n = true) (hp : poisoned h.pois pa n = false) :
    h.read key pa n = (h.bytes.load pa n, false) := by
  rw [read, if_pos hr, hp]

namespace State

section
variable {s t : State} (h : t.quiet = s.quiet)
include h

theorem hbm_of_quiet : t.hbm = { s.hbm with rowErr := t.hbm.rowErr } :=
  (congrArg (fun x : State => ({ x.hbm with rowErr := t.hbm.rowErr } : Hbm)) h :)
theorem ready_of_quiet (key pa n : Nat) : t.hbm.ready key pa n = s.hbm.ready key pa n := by
  rw [hbm_of_quiet h, Hbm.ready_rows]
theorem covers_of_quiet (key pa n : Nat) : t.hbm.covers key pa n = s.hbm.covers key pa n := by
  rw [hbm_of_quiet h]
  rfl
theorem read_of_quiet {key pa n : Nat} (hr : s.hbm.ready key pa n = true) (hp : poisoned s.hbm.pois pa n = false) :
    t.hbm.read key pa n = (s.hbm.bytes.load pa n, false) := by
  have hp' : poisoned t.hbm.pois pa n = false := by rw [hbm_of_quiet h]; exact hp
  rw [Hbm.read_of_ready ((ready_of_quiet h key pa n).trans hr) hp', hbmBytes_of_quiet h]
theorem hbmFull_of_quiet (a : Nat) : t.hbmFull a = s.hbmFull a := (congrArg (fun x : State => x.hbmFull a) h :)

end

end State

/-- Claiming sectors serves nobody that is held. -/
theorem claim_retry (b : Hbm) (key pa n : Nat) : (b.claim key pa n).retry = b.retry := by
  unfold Hbm.claim
  generalize List.range _ = l
  induction l generalizing b with
  | nil => rfl
  | cons i r ih =>
    rw [List.foldl_cons, ih]
    dsimp only
    repeat' split
    all_goals rfl
/-- A write that covers each uninitialised sector it touches. -/
theorem Hbm.write_covers {h : Hbm} {key pa n : Nat} (hc : h.covers key pa n = true) (v : Nat) (p : Bool) :
    ∃ g, h.write key pa n v p = some g ∧ g.bytes = h.bytes.store pa n v ∧ g.retry = h.retry :=
  ⟨_, if_pos hc, by rw [State.claim_bytes], claim_retry ..⟩

namespace State

theorem rescanSlice_same {s : State} {sl a : Nat} {old : Bool} (h : s.hbmFull a = old) : s.rescanSlice sl a old = s := if_pos h
theorem rescanSlice_nobody {s : State} (h : s.hbm.retry = []) (sl a : Nat) (old : Bool) : (s.rescanSlice sl a old).hbm.bytes = s.hbm.bytes := by
  unfold rescanSlice
  split
  · rfl
  · rw [h]
    rfl

/-- A request at a slice that takes it. -/
theorem atSlice_serves {u : State} {m : Msg} {key : Nat} (hk : u.keyOf m.tenant = some key) (hr : u.mustRefuse m = false)
    (h1 : m.typ ≠ MT.loadfe) (h2 : m.typ ≠ MT.storefe) (sl : Nat) :
    u.atSlice sl m = ((u.acceptMsg m).applySlice key m).rescanSlice sl m.addr (u.hbmFull m.addr) := by
  simp only [atSlice, hk, hr, sliceWaits, Msg.ready_of_typ h1 h2, Bool.not_true, Bool.false_and, Bool.false_eq_true, if_false]
theorem atSlice_noKey {u : State} {m : Msg} (hk : u.keyOf m.tenant = none) (sl : Nat) : u.atSlice sl m = (u.acceptMsg m).reply m 3 := by
  simp only [atSlice, hk]
theorem home_slice {s : State} {k sl : Nat} {m : Msg} {typ : BitVec 6} (hd : s.deliver k = some m) (hc : m.cls ≠ .rsp) (hs : m.dest = .slice sl)
    (ht : m.typ = typ) : s.home k typ = (s.dropMsg k).atSlice sl m := by
  simp only [home, request, hd, ht, hc, hs, isOutAgent, ne_eq, not_false_eq_true, and_self, if_true, atHome]

section
variable {s : State} {m : Msg} {key : Nat}

theorem applySlice_load (ht : m.typ = MT.load) (hr : s.hbm.ready key m.addr m.size = true) (hp : poisoned s.hbm.pois m.addr m.size = false) :
    s.applySlice key m = (s.mendSeen m.tenant key m.addr m.size).send (dataMsg m m.size (s.hbm.bytes.load m.addr m.size)) := by
  simp only [applySlice, ht, if_true, read_of_quiet (quiet_mendSeen s m.tenant key m.addr m.size false) hr hp, Bool.false_eq_true, if_false]
theorem applySlice_store (ht : m.typ = MT.store) : s.applySlice key m =
    (s.mendSeen m.tenant key m.addr m.size true).sliceWrite key m m.size m.data fun u => u.reply m 0 := by
  simp only [applySlice, ht, show MT.store ≠ MT.load by decide, if_true, if_false]
theorem applySlice_atomic (ht : m.typ = MT.atomic) (hr : s.hbm.ready key m.addr (atomicLen m.aop) = true)
    (hp : poisoned s.hbm.pois m.addr (atomicLen m.aop) = false) : s.applySlice key m =
    (s.mendSeen m.tenant key m.addr 8).sliceWrite key m (atomicLen m.aop)
      (atomicNew m.aop (s.hbm.bytes.load m.addr (atomicLen m.aop)) m.w[1] m.w[2])
      fun u => u.send (dataMsg m 8 (s.hbm.bytes.load m.addr (atomicLen m.aop))) := by
  simp only [applySlice, ht, show MT.atomic ≠ MT.load by decide, show MT.atomic ≠ MT.store by decide, if_true, if_false,
    read_of_quiet (quiet_mendSeen s m.tenant key m.addr 8 false) hr hp, Bool.false_eq_true]
/-- A write at a slice that covers its sectors stores its bytes. -/
theorem sliceWrite_covers {n v : Nat} (hc : s.hbm.covers key m.addr n = true) (f : State → State) (hf : ∀ u, (f u).hbm = u.hbm) :
    (s.sliceWrite key m n v f).hbm.bytes = s.hbm.bytes.store m.addr n v ∧ (s.sliceWrite key m n v f).hbm.retry = s.hbm.retry := by
  obtain ⟨g, hg, hb, hr⟩ := Hbm.write_covers hc v false
  simp only [sliceWrite, hg, hf]
  exact ⟨hb, hr⟩
theorem sliceWrite_uncovered {n v : Nat} (hc : s.hbm.covers key m.addr n = false) (f : State → State) :
    s.sliceWrite key m n v f = s.slicePoison key m := by
  have hw : s.hbm.write key m.addr n v false = none := if_neg (by rw [hc]; decide)
  simp only [sliceWrite, hw]

end

end State

theorem requestsAtSlices : Part.RequestsAtSlices := by
  intro s k sl m hd hc hs u
  have home : ∀ {typ}, m.typ = typ → s.home k typ = u.atSlice sl m := fun ht => State.home_slice hd hc hs ht
  refine ⟨fun hk => ⟨fun ht => ?_, fun ht => ?_, fun ht => ?_⟩, fun key hk hr => ?_⟩
  · exact congrArg Host.Outcome.next ((home ht).trans (State.atSlice_noKey hk sl))
  · exact congrArg Host.Outcome.next ((home ht).trans (State.atSlice_noKey hk sl))
  · exact congrArg Host.Outcome.next ((home ht).trans (State.atSlice_noKey hk sl))
  have hh : (u.acceptMsg m).hbm = u.hbm := State.hbm_of_still (State.still_acceptMsg u m)
  have hfull : (u.acceptMsg m).hbmFull m.addr = u.hbmFull m.addr := by rw [State.hbmFull, hh]; rfl
  have serves : ∀ {typ}, m.typ = typ → m.typ ≠ MT.loadfe → m.typ ≠ MT.storefe →
      s.home k typ = ((u.acceptMsg m).applySlice key m).rescanSlice sl m.addr (u.hbmFull m.addr) := fun ht h1 h2 =>
    (home ht).trans (State.atSlice_serves hk hr h1 h2 sl)
  have hsend : ∀ (v : State) (o : Msg), (v.send o).hbm = v.hbm := fun v o => State.hbm_of_still (State.still_send v o)
  refine ⟨fun ht hrd hp => ?_, fun ht hq hcov => ?_, fun ht hcov => ?_, fun ht hq hrd hp hcov => ?_⟩
  · show Host.Outcome.next (s.home k MT.load) = _
    rw [serves ht (by rw [ht]; decide) (by rw [ht]; decide), State.applySlice_load ht (by rw [hh]; exact hrd) (by rw [hh]; exact hp), hh,
      State.rescanSlice_same]
    rw [← hfull, State.hbmFull, hsend]
    exact State.hbmFull_of_quiet (State.quiet_mendSeen ..) m.addr
  · refine ⟨_, rfl, ?_⟩
    show (s.home k MT.store).hbm.bytes = _
    have hq' := State.quiet_mendSeen (u.acceptMsg m) m.tenant key m.addr m.size true
    obtain ⟨hb, hret⟩ := State.sliceWrite_covers (s := (u.acceptMsg m).mendSeen m.tenant key m.addr m.size true) (m := m) (v := m.data)
      (by rw [State.covers_of_quiet hq', hh]; exact hcov) (fun v => v.reply m 0) fun v => hsend ..
    rw [serves ht (by rw [ht]; decide) (by rw [ht]; decide), State.applySlice_store ht, State.rescanSlice_nobody, hb,
      State.hbmBytes_of_quiet hq', hh]
    rw [hret, State.hbm_of_quiet hq', hh]
    exact hq
  · have hq' := State.quiet_mendSeen (u.acceptMsg m) m.tenant key m.addr m.size true
    have hv : ((u.acceptMsg m).mendSeen m.tenant key m.addr m.size true).hbm.covers key m.addr m.size = false := by
      rw [State.covers_of_quiet hq', hh]
      exact hcov
    have hf := (State.quiet_flawSeen ((u.acceptMsg m).mendSeen m.tenant key m.addr m.size true) m.tenant
      (((u.acceptMsg m).mendSeen m.tenant key m.addr m.size true).badSectors key m)).trans hq'
    refine ⟨?_, ?_⟩
    · show Host.Outcome.next (s.home k MT.store) = _
      rw [serves ht (by rw [ht]; decide) (by rw [ht]; decide), State.applySlice_store ht, State.sliceWrite_uncovered hv, State.rescanSlice_same]
      · rfl
      · rw [← hfull, State.slicePoison, State.reply, State.hbmFull, hsend]
        exact State.hbmFull_of_quiet hf m.addr
    · rw [State.reply, hsend, State.hbmBytes_of_quiet hf, hh]
  · refine ⟨_, rfl, ?_⟩
    show (s.home k MT.atomic).hbm.bytes = _
    have hq' := State.quiet_mendSeen (u.acceptMsg m) m.tenant key m.addr 8 false
    rw [serves ht (by rw [ht]; decide) (by rw [ht]; decide),
      State.applySlice_atomic ht (by rw [hh]; exact hrd) (by rw [hh]; exact hp), hh]
    obtain ⟨hb, hret⟩ := State.sliceWrite_covers (s := (u.acceptMsg m).mendSeen m.tenant key m.addr 8) (m := m)
      (v := atomicNew m.aop (u.hbm.bytes.load m.addr (atomicLen m.aop)) m.w[1] m.w[2]) (by rw [State.covers_of_quiet hq', hh]; exact hcov)
      (fun v => v.send (dataMsg m 8 (u.hbm.bytes.load m.addr (atomicLen m.aop)))) fun v => hsend ..
    rw [State.rescanSlice_nobody, hb, State.hbmBytes_of_quiet hq', hh]
    rw [hret, State.hbm_of_quiet hq', hh]
    exact hq

/-! ### A request at the host bridge (O22) -/

theorem requestsAtBridge : Part.RequestsAtBridge := by
  intro s k m hd hc hs u x hr
  have home : ∀ {typ}, m.typ = typ → s.home k typ = u.atBridge m := fun ht => by
    simp only [State.home, State.request, hd, ht, hc, hs, State.isOutAgent, ne_eq, not_false_eq_true, and_self, if_true, State.atHome]
    rfl
  refine ⟨fun ht => ?_, fun ht => ?_, fun ht => ?_⟩
  · show Host.Outcome.next (s.home k MT.load) = _
    rw [home ht, State.atBridge]
    simp only [hr, ht, Bool.false_eq_true, if_true, if_false]
  · show Host.Outcome.next (s.home k MT.store) = _
    rw [home ht, State.atBridge]
    simp only [hr, ht, show MT.store ≠ MT.load by decide, Bool.false_eq_true, if_true, if_false]
  · show Host.Outcome.next (s.home k MT.atomic) = _
    rw [home ht, State.atBridge]
    simp only [hr, ht, show MT.atomic ≠ MT.load by decide, show MT.atomic ≠ MT.store by decide, Bool.false_eq_true, if_false]
    rfl

/-- Settles O22: each home performs the request on its own memory; the held requests that are tried again after it find the full-empty bit as it was, or
nobody waits. -/
theorem requestsAtHomes : Obligations.RequestsAtHomes := ⟨requestsAtCores, requestsAtSlices, requestsAtBridge⟩

end Sys2Proof.Machine
end


section
/-! ### The copy instructions and MCAST at issue (O18) -/

namespace Sys2Proof.Machine

/-! #### The checks of a copy instruction, one by one (R174, R175, R177) -/

namespace State

section
variable (kind : CopyKind) (ad asrc : AReg) (xl : XReg) (tag : BitVec 6) (sel : BitVec 2) (u : State)

/-- The word of its parameters of a copy. -/
def cpaOf : Word := u.src.ctl.cpa[sel.toNat]?.getD 0
/-- The rows that a copy of a kind moves. -/
def rowsOf : Nat := if kind = .copy2d ∨ kind = .copygt then ((u.cpaOf sel).extractLsb' 44 12).toNat + 1 else 1
/-- The set of sites of a COPYMC. -/
def rectOf : Except Cause Word :=
  if kind = .copymc then u.setRect ((u.cpaOf sel).getLsbD 43) (u.cpaOf sel &&& 0x7FFFFFFFFFF#64) else .ok 0
/-- The operand of a copy is not one that R174 and R175 allow. -/
def copyBad : Bool :=
  let cpa := u.cpaOf sel
  let n := (u.rx xl).toNat
  let r := u.rowsOf kind sel
  let dp := (cpa.extractLsb' 22 22).toNat
  let sp := (cpa.extractLsb' 0 22).toNat
  decide (2 ^ 24 < r * n) || decide (2 ^ 24 < n) || ((cpa.getLsbD 58 || cpa.getLsbD 59) && decide (12 ≤ (cpa.extractLsb' 60 4).toNat)) ||
    (kind == .copy2d && decide (1 < r) && decide (dp < n)) ||
    (kind == .copygt && (decide (sp % 8 ≠ 0) || decide (localTop < sp + 8 * r))) ||
    (kind == .copymc && cpa.extractLsb' 24 19 != 0#19) ||
    ((kind == .copy || kind == .copymc) && rangesMeet (u.ra asrc).ptr.toNat (u.ra ad).ptr.toNat n)
/-- The ranges that a copy reads and writes. -/
def copyExt : List (ARegV × Nat × Nat × (Byte → Bool)) :=
  let n := (u.rx xl).toNat
  let r := u.rowsOf kind sel
  if n = 0 then [] else
    (if kind = .copygt then [] else
      [(u.ra asrc, (u.ra asrc).ptr.toNat, if kind = .copy2d then (r - 1) * ((u.cpaOf sel).extractLsb' 0 22).toNat + n else n, permR)]) ++
    [(u.ra ad, (u.ra ad).ptr.toNat, if kind = .copy2d ∨ kind = .copygt then (r - 1) * ((u.cpaOf sel).extractLsb' 22 22).toNat + n else n, permW)]
/-- The copy that an instruction begins. -/
def copyOf (rw : Word) : Copy :=
  let cpa := u.cpaOf sel
  let n := (u.rx xl).toNat
  let r := u.rowsOf kind sel
  { id := 0, owner := u.ctx.key, kind := kind, tag := tag, src := u.ra asrc, dst := u.ra ad, len := n, rows := r
    spitch := (cpa.extractLsb' 0 22).toNat
    dpitch := if kind = .copy2d ∨ kind = .copygt then (cpa.extractLsb' 22 22).toNat else 0
    rect := rw, ordered := cpa.getLsbD 57, sup := u.src.sup, ten := u.coreTenant u.site, space := u.dataSpace u.src
    todo := if n = 0 then [] else [(0, 2 * (r * rowPieces n))]
    cpaAcq := cpa.getLsbD 58, cpaRel := cpa.getLsbD 59, acqIds := if cpa.getLsbD 58 || cpa.getLsbD 59 then u.cur.pendSet else []
    hostRead := cpa.getLsbD 59 && hostScope (cpa.extractLsb' 60 4) && windowOf (u.ra ad).ptr.toNat == 4 && kind != .copymc && n != 0 }
/-- The body of a copy instruction, in its checks. -/
def copySlot : SlotRes :=
  match u.rectOf kind sel with
  | .error .privilege => u.fault .privilege u.wordVal
  | .error _ => u.operand
  | .ok rw =>
    if u.copyBad kind ad asrc xl sel then u.operand
    else match extentFault (u.copyExt kind ad asrc xl sel)
        (if kind = .copymc ∧ (u.rx xl).toNat ≠ 0 then some ((u.ra ad).ptr.toNat, (u.rx xl).toNat) else none) with
      | some (c, v) => u.fault c v
      | none => if u.copyRoom tag = false then u.hold else .done (u.addCopy (u.copyOf kind ad asrc xl tag sel rw))
end

end State

theorem copyIssue_eq (i : Instr) (kind : CopyKind) (ad asrc : AReg) (xl : XReg) (tag : BitVec 6) (sel : BitVec 2) (st : State) :
    copyIssue i kind ad asrc xl tag sel st = slot i (State.copySlot kind ad asrc xl tag sel) st := rfl

namespace State

/-- A range lies inside its register's bounds and rights and a window (R175, R177). -/
def rangeFits (y : ARegV × Nat × Nat × (Byte → Bool)) : Prop :=
  boundOk y.1 y.2.1 y.2.2.1 = true ∧ y.2.2.2 y.1.perm = true ∧ windowOk y.2.1 y.2.2.1 = true

end State

/-- No fault of ranges that lie inside their registers' bounds, rights and windows (R175, R177). -/
theorem extentFault_eq_none {xs : List (ARegV × Nat × Nat × (Byte → Bool))} {d : Option (Nat × Nat)}
    (hx : ∀ x ∈ xs, State.rangeFits x)
    (hd : ∀ p, d = some p → windowOf p.1 = 0) : extentFault xs d = none := by
  have hb : xs.find? (fun x => !boundOk x.1 x.2.1 x.2.2.1) = none := List.find?_eq_none.2 fun x h => by simp [(hx x h).1]
  have hp : xs.find? (fun x => !x.2.2.2 x.1.perm) = none := List.find?_eq_none.2 fun x h => by simp [(hx x h).2.1]
  have hw : xs.find? (fun x => !windowOk x.2.1 x.2.2.1) = none := List.find?_eq_none.2 fun x h => by simp [(hx x h).2.2]
  simp only [extentFault, hb, hp, hw]
  cases d with
  | none => rfl
  | some p => exact if_neg (not_not.2 (hd p rfl))

namespace State

section
variable {kind : CopyKind} {ad asrc : AReg} {xl : XReg} {tag : BitVec 6} {sel : BitVec 2} {u : State}

theorem copySlot_done {rw : Word} (hr : u.rectOf kind sel = .ok rw) (hb : u.copyBad kind ad asrc xl sel = false)
    (hx : ∀ y ∈ u.copyExt kind ad asrc xl sel, rangeFits y)
    (hd : kind = .copymc → (u.rx xl).toNat ≠ 0 → windowOf (u.ra ad).ptr.toNat = 0) (hroom : u.copyRoom tag = true) :
    u.copySlot kind ad asrc xl tag sel = .done (u.addCopy (u.copyOf kind ad asrc xl tag sel rw)) := by
  have hd' : ∀ p, (if kind = .copymc ∧ (u.rx xl).toNat ≠ 0 then some ((u.ra ad).ptr.toNat, (u.rx xl).toNat) else none) = some p →
      windowOf p.1 = 0 := fun p hp => by
    split at hp
    next hk => cases hp; exact hd hk.1 hk.2
    next => cases hp
  simp only [copySlot, hr, hb, extentFault_eq_none hx hd', hroom, Bool.false_eq_true, Bool.true_eq_false, if_false]
theorem copyRoom_of (h1 : u.myCore.tags.copies.length < 96) (h2 : u.myCore.tags.cnt[tag.toNat]?.getD 0 ≠ 255) : u.copyRoom tag = true := by
  rw [copyRoom, decide_eq_true h1, Bool.true_and, bne_iff_ne]
  exact h2

end

end State

/-! The fields of the word of its parameters, as numbers (R174, R175). -/

theorem rows_toNat (w : Word) : (w.extractLsb' 44 12).toNat + 1 = w.toNat / 2 ^ 44 % 2 ^ 12 + 1 := by
  rw [BitVec.extractLsb'_toNat, Nat.shiftRight_eq_div_pow]
theorem dpitch_toNat (w : Word) : (w.extractLsb' 22 22).toNat = w.toNat / 2 ^ 22 % 2 ^ 22 := by
  rw [BitVec.extractLsb'_toNat, Nat.shiftRight_eq_div_pow]
theorem spitch_toNat (w : Word) : (w.extractLsb' 0 22).toNat = w.toNat % 2 ^ 22 := by
  rw [BitVec.extractLsb'_toNat, Nat.shiftRight_zero]
theorem scope_toNat (w : Word) : (w.extractLsb' 60 4).toNat = w.toNat / 2 ^ 60 := by
  rw [BitVec.extractLsb'_toNat, Nat.shiftRight_eq_div_pow, Nat.mod_eq_of_lt]
  exact Nat.div_lt_of_lt_mul (by have := w.isLt; omega)

/-- Two ranges apart do not meet, nor does an empty one (R174). -/
theorem rangesMeet_of_clear {a b n : Nat} (h : n = 0 ∨ a + n ≤ b ∨ b + n ≤ a) : rangesMeet a b n = false := by
  rw [rangesMeet, meets, Bool.and_eq_false_iff, Bool.and_eq_false_iff, decide_eq_false_iff_not, decide_eq_false_iff_not, decide_eq_false_iff_not]
  omega

namespace State

section
variable {kind : CopyKind} {ad asrc : AReg} {xl : XReg} {sel : BitVec 2} {u : State}

/-- The operand of a copy that R174 and R175 allow. -/
theorem copyBad_eq_false (h1 : u.rowsOf kind sel * (u.rx xl).toNat ≤ 2 ^ 24) (h2 : (u.rx xl).toNat ≤ 2 ^ 24)
    (h3 : ((u.cpaOf sel).getLsbD 58 || (u.cpaOf sel).getLsbD 59) = true → (u.cpaOf sel).toNat / 2 ^ 60 < 12)
    (h4 : kind = .copy2d → 1 < u.rowsOf kind sel → (u.rx xl).toNat ≤ ((u.cpaOf sel).extractLsb' 22 22).toNat)
    (h5 : kind = .copygt → ((u.cpaOf sel).extractLsb' 0 22).toNat % 8 = 0 ∧ ((u.cpaOf sel).extractLsb' 0 22).toNat + 8 * u.rowsOf kind sel ≤ localTop)
    (h6 : kind = .copymc → (u.cpaOf sel).extractLsb' 24 19 = 0#19)
    (h7 : kind = .copy ∨ kind = .copymc → rangesMeet (u.ra asrc).ptr.toNat (u.ra ad).ptr.toNat (u.rx xl).toNat = false) :
    u.copyBad kind ad asrc xl sel = false := by
  have hsc : ((u.cpaOf sel).getLsbD 58 || (u.cpaOf sel).getLsbD 59) = true → ((u.cpaOf sel).extractLsb' 60 4).toNat < 12 := fun h => by
    rw [scope_toNat]
    exact h3 h
  unfold copyBad
  simp only [Bool.or_eq_false_iff, Bool.and_eq_false_imp, decide_eq_false_iff_not, beq_iff_eq, Nat.not_lt, Nat.not_le, bne_eq_false_iff_eq,
    Bool.and_eq_true, decide_eq_true_eq, and_imp, Bool.or_eq_true] at hsc ⊢
  exact ⟨⟨⟨⟨⟨⟨h1, h2⟩, hsc⟩, h4⟩, fun h => ⟨not_not.2 (h5 h).1, (h5 h).2⟩⟩, h6⟩, h7⟩

end

end State

namespace State

/-- The ranges of a copy fit where those of its rows do; a copy of no bytes has none. -/
theorem copyExt_fits {kind : CopyKind} {ad asrc : AReg} {xl : XReg} {sel : BitVec 2} {u : State}
    (h : (u.rx xl).toNat ≠ 0 → (kind ≠ .copygt → rangeFits (u.ra asrc, (u.ra asrc).ptr.toNat,
        if kind = .copy2d then (u.rowsOf kind sel - 1) * ((u.cpaOf sel).extractLsb' 0 22).toNat + (u.rx xl).toNat else (u.rx xl).toNat, permR)) ∧
      rangeFits (u.ra ad, (u.ra ad).ptr.toNat, if kind = .copy2d ∨ kind = .copygt then
        (u.rowsOf kind sel - 1) * ((u.cpaOf sel).extractLsb' 22 22).toNat + (u.rx xl).toNat else (u.rx xl).toNat, permW)) :
    ∀ y ∈ u.copyExt kind ad asrc xl sel, rangeFits y := by
  intro y hy
  unfold copyExt at hy
  by_cases hn : (u.rx xl).toNat = 0
  · rw [if_pos hn] at hy
    cases hy
  · obtain ⟨hs, hd⟩ := h hn
    rw [if_neg hn, List.mem_append, List.mem_singleton] at hy
    rcases hy with hy | rfl
    · split at hy
      · cases hy
      next hk =>
        rw [List.mem_singleton] at hy
        rw [hy]
        exact hs hk
    · exact hd

end State

theorem copiesAtIssue : Part.CopyIssue := by
  intro d a x tag sel cpa n rows dp sp acq rel scope fits common clear base
  have hrows : ∀ u k, k = .copy2d ∨ k = .copygt → u.rowsOf k sel = rows u := fun u k hk => (if_pos hk).trans (rows_toNat _)
  refine ⟨?_, ?_, ?_, fun rw => ?_⟩
  · refine doesIf_of (fun s => (exec_copy ..).trans (copyIssue_eq ..)) fun u ⟨⟨h1, h2, h3, h4, h5⟩, hcl, hf⟩ => ?_
    refine (State.copySlot_done (rw := 0) rfl ?_ ?_ ?_ (State.copyRoom_of h4 h5)).trans ?_
    · exact State.copyBad_eq_false h1 h2 h3 (fun h => nomatch h) (fun h => nomatch h) (fun h => nomatch h) fun _ => rangesMeet_of_clear hcl
    · exact State.copyExt_fits fun hn => ⟨fun _ => (hf hn).1, (hf hn).2⟩
    · exact fun h => nomatch h
    · refine congrArg (fun c => SlotRes.done (u.addCopy c)) ?_
      simp only [State.copyOf, base, spitch_toNat]
      rfl
  · refine doesIf_of (fun s => (exec_copy2d ..).trans (copyIssue_eq ..)) fun u ⟨⟨h1, h2, h3, h4, h5⟩, hrow, hf⟩ => ?_
    have hr := hrows u .copy2d (.inl rfl)
    refine (State.copySlot_done (rw := 0) rfl ?_ ?_ ?_ (State.copyRoom_of h4 h5)).trans ?_
    · refine State.copyBad_eq_false (by rw [hr]; exact h1) h2 h3 (fun _ h => ?_) (fun h => nomatch h) (fun h => nomatch h)
        fun h => h.elim (fun h => nomatch h) (fun h => nomatch h)
      rw [dpitch_toNat]
      exact hrow (hr ▸ h)
    · refine State.copyExt_fits fun hn => ?_
      rw [hr, spitch_toNat, dpitch_toNat]
      exact ⟨fun _ => (hf hn).1, (hf hn).2⟩
    · exact fun h => nomatch h
    · refine congrArg (fun c => SlotRes.done (u.addCopy c)) ?_
      simp only [State.copyOf, base, spitch_toNat, dpitch_toNat, hr]
      rfl
  · refine doesIf_of (fun s => (exec_copygt ..).trans (copyIssue_eq ..)) fun u ⟨⟨h1, h2, h3, h4, h5⟩, h8, hl, hf⟩ => ?_
    have hr := hrows u .copygt (.inr rfl)
    refine (State.copySlot_done (rw := 0) rfl ?_ ?_ ?_ (State.copyRoom_of h4 h5)).trans ?_
    · refine State.copyBad_eq_false (by rw [hr]; exact h1) h2 h3 (fun h => nomatch h) (fun _ => ?_) (fun h => nomatch h)
        fun h => h.elim (fun h => nomatch h) (fun h => nomatch h)
      rw [spitch_toNat, hr]
      exact ⟨h8, hl⟩
    · refine State.copyExt_fits fun hn => ?_
      rw [hr, dpitch_toNat]
      exact ⟨fun h => absurd rfl h, hf hn⟩
    · exact fun h => nomatch h
    · refine congrArg (fun c => SlotRes.done (u.addCopy c)) ?_
      simp only [State.copyOf, base, spitch_toNat, dpitch_toNat, hr]
      rfl
  · refine doesIf_of (fun s => (exec_copymc ..).trans (copyIssue_eq ..)) fun u ⟨⟨h1, h2, h3, h4, h5⟩, hcl, hrect, h19, hf⟩ => ?_
    refine (State.copySlot_done (rw := rw) ((if_pos rfl).trans hrect) ?_ ?_ (fun _ hn => (hf hn).2.2) (State.copyRoom_of h4 h5)).trans ?_
    · refine State.copyBad_eq_false h1 h2 h3 (fun h => nomatch h) (fun h => nomatch h) (fun _ => ?_) fun _ => rangesMeet_of_clear hcl
      apply BitVec.eq_of_toNat_eq
      rw [BitVec.extractLsb'_toNat, Nat.shiftRight_eq_div_pow]
      exact h19
    · exact State.copyExt_fits fun hn => ⟨fun _ => (hf hn).1, (hf hn).2.1⟩
    · refine congrArg (fun c => SlotRes.done (u.addCopy c)) ?_
      simp only [State.copyOf, base, spitch_toNat]
      rfl

theorem multicastIssue : Part.MulticastIssue := by
  intro v a x tag size ordered rw n
  refine doesIf_of (fun s => exec_mcast ..) fun u ⟨hrect, hal, hb, hp, hw, hl, hroom⟩ => ?_
  have hn : vszBytes (size.setWidth 3) = n := by
    rw [vszBytes, BitVec.toNat_setWidth, Nat.mod_eq_of_lt (by have := size.isLt; omega)]
  have hx : extentFault [(u.ra a, (u.ra a).ptr.toNat, n, permW)] (some ((u.ra a).ptr.toNat, n)) = none :=
    extentFault_eq_none (fun y hy => by rw [List.mem_singleton] at hy; rw [hy]; exact ⟨hb, hp, hw⟩) fun p hp => by cases hp; exact hl
  simp only [hrect, hn, hal, hx, hroom]
  cases ordered <;> rfl

/-- Settles O18: a copy passes the checks of `copySlot` one by one; MCAST those of its set, its alignment and its range. -/
theorem copyInstructions : Obligations.CopyInstructions := ⟨copiesAtIssue, multicastIssue⟩

end Sys2Proof.Machine
end


section
/-! ### Invocations at issue (O27) -/

namespace Sys2Proof.Machine

/-- The three checks that an invocation that may be sent passes (R157, R218 to R220). -/
theorem inv_passes {xt : XReg} {va : VReg} {kind : InvKind} {n : Nat} {u : State} (hraw : rawForm kind (u.rx xt) = true → u.src.sup = true)
    (hl : targetOk kind (u.rx xt) = true ∧ headerOk n (u.rv va) = true) (hs : kind = .p ∨ u.freePslots u.site ≠ []) (hun : u.unaccepted u.site < 16) :
    ¬(rawForm kind (u.rx xt) = true ∧ u.src.sup = false) ∧ ¬(targetOk kind (u.rx xt) = false ∨ headerOk n (u.rv va) = false) ∧
      ¬((kind ≠ .p ∧ u.freePslots u.site = []) ∨ 16 ≤ u.unaccepted u.site) := by
  refine ⟨fun ⟨hr, hu⟩ => ?_, by rw [hl.1, hl.2]; decide, ?_⟩
  · rw [hraw hr] at hu
    cases hu
  · rintro (⟨hk, hf⟩ | hk)
    · exact hs.elim hk fun h => h hf
    · omega

/-- Settles O27: the body of the two forms, past the checks of `inv_passes`, in the branch of each kind. -/
theorem invocations : Obligations.Invocations := by
  intro d xt va tag kind sticky i n hi t key raw legal ready taken after typ msg tm g c toGroup touch
  have hexec : ∀ s, exec i s = slot i (fun u => u.inv d xt va tag kind sticky n) s := by
    rcases hi with ⟨rfl, rfl⟩ | ⟨rfl, rfl⟩
    · exact fun _ => rfl
    · exact fun _ => rfl
  refine ⟨?_, ?_, ?_, ?_, ?_, ?_, fun e a => ?_, fun e => ?_, fun l => ?_⟩
  · refine traps_of hexec fun u hp => ?_
    rw [State.inv, if_pos hp]
    rfl
  · refine traps_of hexec fun u ⟨hr, hl⟩ => ?_
    have h1 : ¬(rawForm kind (u.rx xt) = true ∧ u.src.sup = false) := fun ⟨h, hu⟩ => by rw [hr h] at hu; cases hu
    have h2 : targetOk kind (u.rx xt) = false ∨ headerOk n (u.rv va) = false := by
      simpa [legal, t, or_iff_not_imp_left] using hl
    rw [State.inv]
    simp only [if_neg h1, if_pos h2]
    rfl
  · refine doesIf_of hexec fun u ⟨⟨hr, hl, hs, hun⟩, hk⟩ => ?_
    obtain ⟨h1, h2, h3⟩ := inv_passes hr hl hs hun
    subst hk
    rw [State.inv]
    simp only [if_neg h1, if_neg h2, if_neg h3]
    rfl
  · refine doesIf_of hexec fun u ⟨⟨hr, hl, hs, hun⟩, hk, hw⟩ => ?_
    obtain ⟨h1, h2, h3⟩ := inv_passes hr hl hs hun
    rw [State.inv]
    simp only [if_neg h1, if_neg h2, if_neg h3]
    rcases hk with rfl | rfl
    · simp only [if_pos (show rawForm .m (u.rx xt) = true from hw)]
      rfl
    · simp only [if_pos (show rawForm .p (u.rx xt) = true from hw)]
      rfl
  · refine doesIf_of hexec fun u ⟨⟨hr, hl, hs, hun⟩, hk, hw, hst⟩ => ?_
    obtain ⟨h1, h2, h3⟩ := inv_passes hr hl hs hun
    have hst' : ¬u.mustStay u.ctx.key (u.rx xt &&& 0x0FFFFFFFFFFFFFFF#64) (u.memberAgent u.ctx.key (u.rx xt &&& 0x0FFFFFFFFFFFFFFF#64)).1 = true :=
      fun h => Bool.false_ne_true (hst.symm.trans h)
    rw [State.inv]
    simp only [if_neg h1, if_neg h2, if_neg h3]
    rcases hk with rfl | rfl
    · simp only [if_neg (show ¬rawForm .m (u.rx xt) = true from hw), if_neg hst']
      rfl
    · simp only [if_neg (show ¬rawForm .p (u.rx xt) = true from hw), if_neg hst']
      rfl
  · refine doesIf_of hexec fun u ⟨⟨hr, hl, hs, hun⟩, hk, hst⟩ => ?_
    obtain ⟨h1, h2, h3⟩ := inv_passes hr hl hs hun
    subst hk
    rw [State.inv]
    simp only [if_neg h1, if_neg h2, if_neg h3, if_pos hst]
    rfl
  · refine doesIf_of hexec fun u ⟨⟨hr, hl, hs, hun⟩, hk, hst, he, ha, hm⟩ => ?_
    obtain ⟨h1, h2, h3⟩ := inv_passes hr hl hs hun
    have hm' : ¬u.mustStay u.ctx.key (memberWord (grpOf (u.rx xt)) a) (u.memberAgent u.ctx.key (memberWord (grpOf (u.rx xt)) a)).1 = true :=
      fun h => Bool.false_ne_true (hm.symm.trans h)
    subst hk hst
    rw [State.inv]
    simp only [if_neg h1, if_neg h2, if_neg h3, show u.cur.stickyOf (grpOf (u.rx xt)) ((u.rx xt).extractLsb' 48 2) = some e from he, ha, if_neg hm']
    rfl
  · refine doesIf_of hexec fun u ⟨⟨hr, hl, hs, hun⟩, hk, hst, he, ha⟩ => ?_
    obtain ⟨h1, h2, h3⟩ := inv_passes hr hl hs hun
    subst hk hst
    rw [State.inv]
    simp only [if_neg h1, if_neg h2, if_neg h3, show u.cur.stickyOf (grpOf (u.rx xt)) ((u.rx xt).extractLsb' 48 2) = some e from he, ha]
    rfl
  · refine doesIf_of hexec fun u ⟨⟨hr, hl, hs, hun⟩, hk, hst, he, hroom⟩ => ?_
    obtain ⟨h1, h2, h3⟩ := inv_passes hr hl hs hun
    subst hk hst
    rw [State.inv]
    simp only [if_neg h1, if_neg h2, if_neg h3, show u.cur.stickyOf (grpOf (u.rx xt)) ((u.rx xt).extractLsb' 48 2) = none from he, hroom]
    rfl

end Sys2Proof.Machine
end


section
/-! ### The messages of passes and of readiness (O30) -/

namespace Sys2Proof.Machine

namespace State

theorem withEgress_free {s : State} {a : Agent} (h : s.fwdHeld a = false) (m : Msg) (go : State → State) : s.withEgress a m go = go s := by
  simp only [withEgress, h, Bool.false_eq_true, if_false]
/-- Beside an egress slot that is held a free choice answers RETRY or goes on (R156). -/
theorem withEgress_held {s : State} {a : Agent} (h : s.fwdHeld a = true) (m : Msg) (go : State → State) :
    s.withEgress a m go = if s.drawBool.1 then s.drawBool.2.retryMsg m else go s.drawBool.2 := by
  simp only [withEgress, h, if_true]
  cases hd : s.drawBool with
  | mk b v => cases b <;> rfl
theorem time_rootTook (s : State) (m : Msg) : (s.rootTook m).time = s.time := by
  unfold rootTook
  split
  · rfl
  · rfl
@[simp] theorem still_reply (s : State) (m : Msg) (status : Nat) : (s.reply m status).still = s.still := still_send _ _

/-- A request, or a message that another agent forwarded, whatever it goes to. -/
theorem request_of {s : State} {k : Nat} {m : Msg} {typ : BitVec 6} (hd : s.deliver k = some m) (ht : m.typ = typ) (hc : m.cls ≠ .rsp)
    (ho : isOutAgent m.dest = false) : s.request k typ = some m := by
  simp only [request, hd, ht, hc, ho, ne_eq, not_false_eq_true, and_self, if_true]
theorem answer_of {s : State} {k : Nat} {m : Msg} {typ : BitVec 6} (hd : s.deliver k = some m) (ht : m.typ = typ) (hc : m.cls = .rsp)
    (ho : isOutAgent m.dest = false) : s.answer k typ = some m := by
  simp only [answer, hd, ht, hc, ho, and_self, if_true]

/-- The rows of a root that end a pass do not apply to a running group with a pool (R236, R252, R320). -/
theorem rootRows_none {s : State} {g : Group} {m : Msg} (hd : denied g m = false) (hr : g.st = .running) (hp : g.pool.isSome = true)
    (hb : m.bounces ≠ 15) : s.rootRows g m = none := by
  have hn : g.pool.isNone = false := by
    cases hg : g.pool with
    | none => rw [hg] at hp; cases hp
    | some _ => rfl
  simp [rootRows, hd, hr, hn]
  exact hb

/-- A pass at the root of a running group with a pool: it descends, or parks (R249). -/
theorem passAtRoot_runs {s : State} {g : Group} {m : Msg} (hd : denied g m = false) (hr : g.st = .running) (hp : g.pool.isSome = true)
    (hb : m.bounces ≠ 15) (hn : ∀ b ∈ g.bench, passClass b ≠ passClass m) :
    s.passAtRoot g m = (s.descend g.idx rootNode (if m.w[5] = 0 then { m with w := m.w.set 5 s.time } else m)).getD
      (s.park g.idx (if m.w[5] = 0 then { m with w := m.w.set 5 s.time } else m)) := by
  have hany : (g.bench.any fun b => passClass b == passClass m) = false := List.any_eq_false.2 fun b hb => by simpa using hn b hb
  have hrows : ∀ m1 : Msg, denied g m1 = false → m1.bounces ≠ 15 → s.rootRows g m1 = none := fun m1 h1 h2 => rootRows_none h1 hr hp h2
  unfold passAtRoot
  simp only [hany, Bool.false_eq_true, if_false]
  rw [hrows _ (by split <;> exact hd) (by split <;> exact hb)]
  dsimp only
  cases s.descend g.idx rootNode (if m.w[5] = 0 then { m with w := m.w.set 5 s.time } else m) <;> rfl

/-- A slot with the member, readiness and room takes a pass, its readiness one lower (R248). -/
theorem passAtSlot_accepts {v : State} {g : Group} {key : Nat} {m : Msg} {r : Resident} {sp : Option Nat} (hres : (v.thread key).res = some r)
    (hg : r.grp = g.idx) (hst : r.st = .active) (hsav : r.saving = false) (hlate : r.late = false) (hd : g.st ≠ .draining)
    (hr : v.readyOf key (passClass m) ≠ 0) (hp : v.placeFor key r = some sp) (hm : methodV (method r.mtab m.rtag.toNat) = true) :
    v.passAtSlot g key m = (v.setReady key (passClass m) (v.readyOf key (passClass m) - 1)).addArrival key m false sp := by
  have hno : ¬(r.grp ≠ g.idx ∨ r.st ≠ .active ∨ r.saving ∨ r.late ∨ g.st = .draining ∨ v.readyOf key (passClass m) = 0) := by
    simp [hg, hst, hsav, hlate, hd, hr]
  unfold passAtSlot
  simp only [hres, if_neg hno, hp]
  exact if_pos hm

/-- A node below the root chooses again after a bounce, or returns the pass to its own parent (R250). -/
theorem bounceAt_node (g : Group) {n : Nat} (hn : n ≠ rootNode) (m : Msg) {s : State} :
    s.bounceAt g n m = (((if g.fromChild n m.w[4].toNat m then s.setCount g.idx n (passClass m) m.w[4].toNat 0 else s).descend g.idx n m).getD
      ((if g.fromChild n m.w[4].toNat m then s.setCount g.idx n (passClass m) m.w[4].toNat 0 else s).bounceUp (.router n) g (g.parentOf n) m)) := by
  unfold bounceAt
  dsimp only
  rw [if_neg hn]
  cases (if g.fromChild n m.w[4].toNat m then s.setCount g.idx n (passClass m) m.w[4].toNat 0 else s).descend g.idx n m <;> rfl

end State

open State

theorem passes : Part.Passes := by
  intro s k m hd u taken m0 m1 hr hf
  refine ⟨fun gi g ht hc hs hl hrun hp hb hden hn => ?_, fun site g ht hc hs hg => ?_, fun site g r sp ht hc hs hg htw href hturn => ?_,
    fun site st ht hc hs htw href => ?_, fun site g ht hc hs hg hne => ?_⟩
  · have hv : exec (.pass k) s = .next ((if m.cls = .req ∨ m.back.isSome = true then (taken.rootTook m).reply m 0 else taken).passAtRoot g m0) := by
      simp only [exec_pass, execPass, request_of hd ht hc (by rw [hs]; rfl), hs, hl]
      rw [if_neg (by rw [hr]; decide), withEgress_free (by rw [← hs]; exact hf)]
      simp only [m0, hs, taken, u]
    have htime : (if m.cls = .req ∨ m.back.isSome = true then (taken.rootTook m).reply m 0 else taken).time = u.time := by
      split
      · exact (time_of_still (still_reply _ _ _)).trans ((time_rootTook _ _).trans (time_of_still (still_acceptMsg _ _)))
      · exact time_of_still (still_acceptMsg _ _)
    intro v
    rw [passAtRoot_runs (m := m0) hden hrun hp hb hn, htime] at hv
    exact ⟨fun w hw => hv.trans (congrArg Host.Outcome.next (congrArg (Option.getD · _) hw)), fun hw => hv.trans (congrArg Host.Outcome.next (congrArg (Option.getD · _) hw))⟩
  · have hv : exec (.passForward k) s = .next ((taken.descend g.idx site m).getD (taken.bounceUp (.router site) g (g.parentOf site) m)) := by
      simp only [exec_passForward, execPassForward, request_of hd ht (by rw [hc]; decide) (by rw [hs]; rfl), hs, hc, hg]
      rw [if_neg (by rw [hr]; decide), withEgress_free (by rw [← hs]; exact hf)]
      cases taken.descend g.idx site m <;> rfl
    exact ⟨fun v h => by rw [hv, h]; rfl, fun h => by rw [hv, h]; rfl⟩
  · intro key v hres hgrp hst hsav hlate hgst hrdy hpl hmv
    have hres' : (v.thread key).res = some r := by
      rw [← hres]
      exact congrArg Thread.res (thread_of_still ((still_acceptMsg _ _).trans (still_dropMsg _ _)) key)
    have hv : exec (.passAtSlot k) s = .next (v.passAtSlot g key m) := by
      simp only [exec_passAtSlot, execPassAtSlot, request_of hd ht (by rw [hc]; decide) (by rw [hs]; rfl), hs, hc, reduceCtorEq, if_false, htw,
        Bool.false_eq_true, href, hturn, hg]
      rw [if_neg (by rw [hr]; decide), withEgress_free (by rw [← hs]; exact hf)]
    rw [hv, passAtSlot_accepts hres' hgrp hst hsav hlate hgst hrdy hpl hmv]
  · simp only [exec_passAtSlot, execPassAtSlot, request_of hd ht (by rw [hc]; decide) (by rw [hs]; rfl), hs, hc, reduceCtorEq, if_false, htw,
      Bool.false_eq_true, href]
    rfl
  · have hv : exec (.bounce k) s = .next (taken.bounceAt g site m) := by
      simp only [exec_bounce, execBounce, request_of hd ht (by rw [hc]; decide) (by rw [hs]; rfl), hs, hg]
      rw [if_neg (by rw [hr]; decide), withEgress_free (by rw [← hs]; exact hf)]
    intro v
    refine ⟨fun w hw => hv.trans (congrArg Host.Outcome.next ?_), fun hw => hv.trans (congrArg Host.Outcome.next ?_)⟩
    · exact (bounceAt_node _ hne _).trans (congrArg (Option.getD · _) hw)
    · exact (bounceAt_node _ hne _).trans (congrArg (Option.getD · _) hw)

theorem readinessMessages : Part.ReadinessMessages := by
  intro s k m hd u total cls
  refine ⟨fun g ht hc hg => ?_, fun gi g ht hc hs hl hr => ?_, fun site ht hs hp hk hx => ?_⟩
  · intro child of
    have hof : ∀ n, of n ↔ g.fromChild n child m = true := fun n => by
      simp only [of, Group.fromChild, Bool.and_eq_true, List.contains_iff_mem, beq_iff_eq, decide_eq_true_eq, and_assoc]
    refine ⟨fun site hs h => ?_, fun site hs h => ?_, fun hs h => ?_, fun hs h => ?_⟩
    all_goals
      rw [hof] at h
      simp only [exec_readydelta, execReadydelta, answer_of hd ht hc (by rw [hs]; rfl), hg, hs]
    · exact if_pos h
    · exact if_neg h
    · exact if_pos ⟨trivial, h⟩
    · exact if_neg fun x => h x.2
  · simp only [exec_rdyquery, execRdyquery, request_of hd ht (by rw [hc]; decide) (by rw [hs]; rfl), hs, hl]
    exact if_neg (by rw [hr]; decide)
  · intro key waits
    have hth : (((s.dropMsg k).wake site).thread key) = s.thread key := thread_of_still (still_dropMsg s k) key
    have hany : ((s.thread key).outst.any fun o => o.id == m.w[1].toNat && !o.fin) = true ↔ waits := by
      simp [waits, List.any_eq_true]
    have hd0 : (m.w[3].setWidth 5 : XReg) ≠ 0 := fun h => hx (by simpa using congrArg BitVec.toNat h)
    refine ⟨_, congrArg Host.Outcome.next (coreTakes_takes hd hs hp hk ht _), fun h => ?_, fun h => ?_⟩
    all_goals
      rw [show key = m.threadAt site from rfl] at *
      rw [thread_modThread_same, hth]
    · rw [if_pos (hany.2 h), Thread.getX_congr (Thread.complete_keeps _ _).1, Thread.getX_putX, if_neg hd0, if_pos rfl]
    · rw [if_neg fun x => h (hany.1 x)]

/-- Settles O30. -/
theorem passMessages : Obligations.PassMessages := ⟨passes, readinessMessages⟩

end Sys2Proof.Machine
end


section
/-! ### Kickoff (O36) -/

namespace Sys2Proof.Machine

open State

/-- A word below 2^62 has its two top bits clear. -/
theorem extractLsb'_top_eq_zero (x : Word) : x.extractLsb' 62 2 = 0#2 ↔ x.toNat < 2 ^ 62 := by
  rw [← BitVec.toNat_inj, BitVec.extractLsb'_toNat]
  simp only [Nat.shiftRight_eq_div_pow, BitVec.toNat_ofNat]
  omega
theorem and_three_eq_zero (x : Word) : x &&& 3 = 0 ↔ x.toNat % 4 = 0 := by
  rw [← BitVec.toNat_inj, toNat_and_three]
  rfl

theorem kickInstructions : Part.KickInstructions := by
  intro d s a i fn hi k legal aligned
  have hexec : ∀ v, exec i v = kick i d s a fn v := by
    rcases hi with ⟨rfl, rfl⟩ | ⟨rfl, rfl⟩
    · exact fun _ => rfl
    · exact fun _ => rfl
  have hword : ∀ {u}, legal u → ¬((u.rx d).extractLsb' 62 2 ≠ 0#2 ∨ (fn = true ∧ (u.rx d).extractLsb' 48 6 ≠ 0#6)) := by
    rintro u ⟨h1, h2, -⟩ (h | ⟨hf, h⟩)
    · exact h ((extractLsb'_top_eq_zero _).2 h1)
    · exact h (h2 hf)
  have hown : ∀ {u}, legal u → ¬(u.src.sup = false ∧ (u.src.res.isNone = true ∨ grpOf (u.rx d) ≠ u.src.ctl.gname)) := by
    rintro u ⟨-, -, hsup | ⟨hr, hg⟩⟩ ⟨hs, h⟩
    · rw [hsup] at hs
      cases hs
    · rcases h with h | h
      · rw [Option.isNone_iff_eq_none.1 h] at hr
        cases hr
      · exact h hg
  refine ⟨doesIf_of hexec fun u ⟨hl, ha, hp, hun⟩ => ?_, traps_of hexec fun u hl => ?_, traps_of hexec fun u ⟨hl, ha⟩ => ?_⟩
  · have hroom : ¬(u.freePslots u.site = [] ∨ 16 ≤ u.unaccepted u.site) := by
      rintro (h | h)
      · exact hp h
      · omega
    simp only [if_neg (hword hl), if_neg (hown hl), if_neg (not_not.2 ((and_three_eq_zero _).2 ha)), if_neg hroom]
    rfl
  · by_cases h : (u.rx d).extractLsb' 62 2 ≠ 0#2 ∨ (fn = true ∧ (u.rx d).extractLsb' 48 6 ≠ 0#6)
    · simp only [if_pos h]
      rfl
    · have hno : u.src.sup = false ∧ (u.src.res.isNone = true ∨ grpOf (u.rx d) ≠ u.src.ctl.gname) := by
        simp only [not_or, not_and, not_not, extractLsb'_top_eq_zero] at h
        have hin : ¬(u.src.sup = true ∨ (u.src.res.isSome ∧ grpOf (k u) = u.src.ctl.gname)) := fun x => hl ⟨h.1, h.2, x⟩
        simpa [k, not_or, imp_iff_not_or] using hin
      simp only [if_neg h, if_pos hno]
      rfl
  · simp only [if_neg (hword hl), if_neg (hown hl), if_pos (mt (and_three_eq_zero _).1 ha)]
    rfl

theorem State.kickAtRoot_running {s : State} {g : Group} {m : Msg} (hd : ¬denied g m = true)
    (ht : ¬(m.spec.getLsbD 17 = false ∧ g.teams.length ≤ (m.w[0].extractLsb' 48 6).toNat)) (hr : g.st = .running) :
    s.kickAtRoot g m = s.fanOut g.idx m := by
  rw [kickAtRoot, if_neg hd, if_neg (by rw [hr]; decide), if_neg ht, if_pos hr]

theorem kickMessages : Part.KickMessages := by
  intro s k m g hd u
  refine ⟨fun gi ht hc hs hb hl hr => ?_, fun site j mem key r e sp ht hc hs hg htw href hturn hbeh hj hone hseat hmem hst hres hth hract hsav hpl => ?_,
    fun site st ht hc hs hg href => ?_, fun site n ht hc hs h5 hg hgrp => ?_⟩
  · intro v brk mine calm there
    have hrt : (u.rootTakes g m).2.1 = m := by rw [rootTakes, hb]
    have hk : exec (.kickMsg k) s = .next (if g.st = .running then u.withEgress (.root gi) m
        fun w => (((w.acceptMsg m).rootTook m).reply m 0).kickAtRoot g m else v.kickAtRoot g m) := by
      simp only [exec_kickMsg, execKickMsg, request_of hd ht (by rw [hc]; decide) (by rw [hs]; rfl), hs, hl]
      rw [hrt, if_neg (by rw [hc]; exact fun h => nomatch h.1), if_neg (by rw [hr]; decide)]
    have hcalm : calm → exec (.kickMsg k) s = .next (v.kickAtRoot g m) := fun h => by
      rw [hk]
      split
      next hr => rw [withEgress_free (h hr)]
      next => rfl
    have hden : mine ↔ ¬denied g m = true := by simp [mine, denied]
    have hthere : there ↔ ¬(m.spec.getLsbD 17 = false ∧ g.teams.length ≤ (m.w[0].extractLsb' 48 6).toNat) := by
      simp [there, imp_iff_not_or]
    refine ⟨fun h hm => ?_, fun hm hdr => ?_, fun h hm hdr hth => ?_, fun hrun hh hm hth => ?_, fun h hm hth hrun => ?_, fun hm hth hdr hrun => ?_⟩
    · refine (hcalm h).trans (congrArg Host.Outcome.next ?_)
      rw [kickAtRoot, if_pos (not_not.1 (mt hden.2 hm))]
    · refine (hcalm (fun hr => (nomatch hdr.symm.trans hr))).trans (congrArg Host.Outcome.next ?_)
      rw [kickAtRoot, if_neg (hden.1 hm), if_pos hdr]
    · refine (hcalm h).trans (congrArg Host.Outcome.next ?_)
      rw [kickAtRoot, if_neg (hden.1 hm), if_neg hdr, if_pos (not_not.1 (mt hthere.2 hth))]
    · refine hk.trans (congrArg Host.Outcome.next ?_)
      rw [if_pos hrun, withEgress_held hh, kickAtRoot_running (hden.1 hm) (hthere.1 hth) hrun]
    · rw [hcalm h, kickAtRoot_running (hden.1 hm) (hthere.1 hth) hrun]
    · rw [hcalm fun hr => absurd hr hrun, kickAtRoot, if_neg (hden.1 hm), if_neg hdr, if_neg (hthere.1 hth), if_neg hrun]
  · have hkm : u.kickMember g site mem m = .done ((u.wake site).addArrival key m true sp) := by
      simp only [kickMember, hmem, hst, ne_eq, not_true_eq_false, if_false, hres, hth, hract, hsav, Bool.false_eq_true, hpl]
    have hks : u.kickSlots g site (m.w[4].toNat / 4096) m [j] = ((u.wake site).addArrival key m true sp, [], false) := by
      simp only [kickSlots, hseat, hkm]
      exact ite_self _
    simp only [exec_kickoffFanout, execKickoffFanout, request_of hd ht (by rw [hc]; decide) (by rw [hs]; rfl), hs, hc, ne_eq, not_true_eq_false,
      if_false, hg, href, hturn, htw, Bool.false_eq_true]
    rw [if_neg (by rw [hbeh]; decide), if_neg (by rw [hone]; decide), hj, hks]
    rfl
  · simp only [exec_kickoffFanout, execKickoffFanout, request_of hd ht (by rw [hc]; decide) (by rw [hs]; rfl), hs, hc, ne_eq, not_true_eq_false,
      if_false, hg, href]
    rfl
  · intro same hfind hpend
    have hk : exec (.kickend k) s = .next (u.kickDone g.idx (m.w[4].toNat / 4096) site m) := by
      simp only [exec_kickend, execKickend, answer_of hd ht hc (by rw [hs]; rfl), hs, hg, h5, ne_eq, not_true_eq_false, false_and, if_false, if_true, u]
    have hn : 0 < n.pend - 1 := by omega
    refine hk.trans (congrArg Host.Outcome.next ?_)
    simp only [same] at hfind ⊢
    simp only [kickDone, hgrp, hfind, if_pos hn]

/-- Settles O36. -/
theorem kickoff : Obligations.Kickoff := ⟨kickInstructions, kickMessages⟩

end Sys2Proof.Machine
end


section
/-! ### An invocation where it arrives (O28) -/

namespace Sys2Proof.Machine

namespace State

section
variable {s u : State} {k site key : Nat} {m : Msg} {typ : BitVec 6} {r : Resident}

/-- An invocation at a core waits for the last of its stream, or for its turn, or is looked at there (R210, R214). -/
theorem invArrives_core (hd : s.deliver k = some m) (hc : m.cls ≠ .rsp) (hs : m.dest = .core site) (ht : m.typ = typ) :
    s.invArrives k typ = if s.heldForLast m = true then s else if s.waitsTurn site m = true then s.offer site m else (s.dropMsg k).invAtCore site m := by
  simp only [invArrives, request_eq hd hs hc ht, hs]
theorem invAtCore_raw (htw : m.fl.twin = false) (hraw : m.fl.raw = true) (hp : u.present site = true) (hk : u.tenantOk site m = true) :
    u.invAtCore site m = (u.wake site).acceptRaw site m := by
  rw [invAtCore, if_neg (by rw [htw]; decide), if_pos hraw, delivered_takes hp hk]
theorem invAtCore_handle (htw : m.fl.twin = false) (hraw : m.fl.raw = false) (hh : m.kind = 2 ∧ m.cls = .req) (hp : u.present site = true)
    (hk : u.tenantOk site m = true) (hr : u.mustRefuse m = false) : u.invAtCore site m = (u.wake site).onHandle site m := by
  rw [invAtCore, if_neg (by rw [htw]; decide), if_neg (by rw [hraw]; decide), if_pos hh, delivered_takes hp hk]
  exact if_neg (by rw [mustRefuse_congr (t := u.wake site) (s := u) rfl, hr]; decide)
theorem invAtCore_absent (htw : m.fl.twin = false) (hraw : m.fl.raw = false) (hh : ¬(m.kind = 2 ∧ m.cls = .req)) (hp : u.present site = true)
    (hres : u.residentAt site m.member = none) : u.invAtCore site m = u.toRoot site m := by
  rw [invAtCore, if_neg (by rw [htw]; decide), if_neg (by rw [hraw]; decide), if_neg hh, if_neg (by rw [hp]; decide)]
  simp only [hres]

/-- At the core of its ACTIVE member an invocation joins the member's queue, but one of a DRAINING group that was not accepted before (R236). -/
theorem invAtCore_member (htw : m.fl.twin = false) (hraw : m.fl.raw = false) (hh : ¬(m.kind = 2 ∧ m.cls = .req)) (hp : u.present site = true)
    (hres : u.residentAt site m.member = some key) (hth : (u.thread key).res = some r) (hk : u.tenantOk site m = true) (ha : r.st = .active)
    (hsav : r.saving = false) (hlate : r.late = false) :
    ((∀ g, u.groupOf (grpOf m.member) = some g → g.st ≠ .draining ∨ m.kept = true) → u.invAtCore site m = (u.wake site).acceptMember key r m) ∧
    (∀ g, u.groupOf (grpOf m.member) = some g → g.st = .draining → m.kept = false →
      u.invAtCore site m = ((u.acceptMsg m).reply m 0).breakInv (.core site) site m 5 m.handle) := by
  have hsl : ¬(r.saving = true ∨ r.late = true) := by rw [hsav, hlate]; decide
  have h : u.invAtCore site m = (u.groupOf (grpOf m.member)).elim ((u.wake site).acceptMember key r m) fun g =>
      if g.st = .draining ∧ m.kept = false then ((u.acceptMsg m).reply m 0).breakInv (.core site) site m 5 m.handle
      else (u.wake site).acceptMember key r m := by
    rw [invAtCore, if_neg (by rw [htw]; decide), if_neg (by rw [hraw]; decide), if_neg hh, if_neg (by rw [hp]; decide)]
    simp only [hres, hth, hk, ha, Bool.not_true, Bool.false_eq_true, if_false, ne_eq, not_true_eq_false, if_neg hsl]
    cases u.groupOf (grpOf m.member) <;> rfl
  rw [h]
  refine ⟨fun hg => ?_, fun g hg hdr hkept => ?_⟩
  · cases hgo : u.groupOf (grpOf m.member) with
    | none => rfl
    | some g => exact if_neg fun ⟨h1, h2⟩ => (hg g hgo).elim (fun x => x h1) fun x => by rw [x] at h2; cases h2
  · rw [hg]
    exact if_pos ⟨hdr, hkept⟩

/-- A core with a buffer entry free takes a raw invocation (R224). -/
theorem acceptRaw_room (hr : u.mustRefuse m = false) (hb : bufUsed (u.core site) < 28) :
    ∃ a : Arrival, ((u.acceptRaw site m).core site).arrivals = (u.core site).arrivals ++ [a] ∧ a.msg = m ∧ a.raw = true ∧ a.key = 4 * site + m.dst.thr.toNat := by
  rw [acceptRaw, if_neg (by rw [hr]; decide), if_neg fun h => by omega]
  have ho : (((u.acceptMsg m).reply m 0).core site).arrivals = (u.core site).arrivals :=
    congrArg Core.arrivals (core_of_still ((still_reply ..).trans (still_acceptMsg ..)) site)
  have ha : ((((u.acceptMsg m).reply m 0).accepted site).core site).arrivals = (u.core site).arrivals := by
    rw [accepted, core_modCore_same]
    exact ho
  refine ⟨_, (congrArg Core.arrivals (core_modCore_same ..)).trans (congrArg (· ++ _) ha), rfl, rfl, rfl⟩
/-- A member with room takes an invocation into its queue. -/
theorem acceptMember_room (hr : u.mustRefuse m = false) (hroom : u.hasRoom (key / 4) m = true) (hlast : m.fl.last = false) {sp : Option Nat}
    (hpl : u.placeFor key r = some sp) : u.acceptMember key r m = ((u.acceptMsg m).reply m 0).joinQueue key r m sp := by
  rw [acceptMember, if_neg (by rw [hr, hroom]; decide), hpl, tookLast, if_neg (by rw [hlast]; decide)]
/-- An invocation on a slot that names its consumer, with no other waiting, is forwarded (R261). -/
theorem onHandle_forwards (hgen : (u.pslot site (hSlot m.target)).gen = hGen m.target) (hf : (u.pslot site (hSlot m.target)).st ≠ .free)
    (hbr : (u.pslot site (hSlot m.target)).st ≠ .broken) (hct : (u.pslot site (hSlot m.target)).control = false)
    (hcons : (u.pslot site (hSlot m.target)).consumer.isSome) (hfifo : (u.pslot site (hSlot m.target)).fifo = []) :
    u.onHandle site m = u.withEgress (.core site) m fun v => ((v.acceptMsg m).reply m 0).forwardH site (u.pslot site (hSlot m.target)) m := by
  rw [onHandle]
  exact (if_neg fun h => h.elim (fun x => x hgen) hf).trans ((if_neg hbr).trans ((if_neg (by rw [hct]; decide)).trans (if_pos ⟨hcons, hfifo⟩)))

end

end State

open State

/-- Settles O28: where the message stands (`invArrives_core`), then what the core does with each kind of invocation. -/
theorem invocationArrival : Obligations.InvocationArrival := by
  intro s k site m e he hd hc hs htw u v plain
  have hexec : exec e s = .next (if s.heldForLast m = true then s else if s.waitsTurn site m = true then s.offer site m else u.invAtCore site m) := by
    rcases he with ⟨ht, rfl⟩ | ⟨ht, rfl⟩
    · exact congrArg Host.Outcome.next (invArrives_core hd hc hs ht)
    · exact congrArg Host.Outcome.next (invArrives_core hd hc hs ht)
  refine ⟨fun hl => ?_, fun hl hw => ?_, fun hh href hw => ?_, fun hl hw hp => ?_⟩
  · rw [hexec, if_pos hl]
  · rw [hexec, if_neg (by rw [hl]; decide), if_pos hw]
  · have hmay : ¬m.kind = 2 ∨ ¬m.cls = .req → s.mayTake site m = true := by
      simpa [waitsTurn, href] using hw
    replace hmay := hmay (not_and_or.1 hh)
    simp only [mayTake, accepting, Bool.and_eq_true, Bool.not_eq_true', beq_eq_false_iff_ne, List.all_eq_true, Bool.or_eq_true,
      decide_eq_true_eq] at hmay
    obtain ⟨⟨hacc, -⟩, hall⟩ := hmay
    refine ⟨hacc, fun o ho hro hlo => ?_⟩
    simpa [hro, hlo] using hall o ho
  rw [if_neg (by rw [hl]; decide), if_neg (by rw [hw]; decide)] at hexec
  rw [hexec]
  refine ⟨fun key r sp ⟨hraw, hh⟩ hres hth hk ha hsav hlate hg hr hsite hroom hlast hpl => ?_,
    fun key r g ⟨hraw, hh⟩ hres hth hk ha hsav hlate hg hdr hkept => ?_, fun ⟨hraw, hh⟩ hres => ⟨?_, fun hr hf => ?_⟩,
    fun hraw hk hr hb => ?_, fun hraw hk2 hcr hk hr => ?_⟩
  · intro ok
    have hroom' : v.hasRoom (key / 4) m = true := by rw [hsite]; exact hroom
    rw [(invAtCore_member htw hraw hh hp hres hth hk ha hsav hlate).1 hg, acceptMember_room hr hroom' hlast hpl, joinQueue]
    exact ⟨fun h => congrArg Host.Outcome.next (if_pos h), fun h => by rw [if_neg (by rw [h]; decide), hsite]⟩
  · rw [(invAtCore_member htw hraw hh hp hres hth hk ha hsav hlate).2 g hg hdr hkept]
  · rw [invAtCore_absent htw hraw hh hp hres]
  · rw [toRoot, if_neg (by rw [hr]; decide), withEgress_free hf]
  · obtain ⟨a, ha⟩ := acceptRaw_room hr hb
    have hv : (v.core site).arrivals = (u.core site).arrivals := by
      rw [show v.core site = _ from core_modCore_same ..]
    rw [hv] at ha
    exact ⟨_, a, congrArg Host.Outcome.next (invAtCore_raw htw hraw hp hk), ha⟩
  · intro p go d hgen hf hbr hct hcons hfifo
    have hpv : v.pslot site (hSlot m.target) = p := pslot_wake ..
    have hon := onHandle_forwards (u := v) (m := m) (site := site) (by rw [hpv]; exact hgen) (by rw [hpv]; exact hf) (by rw [hpv]; exact hbr)
      (by rw [hpv]; exact hct) (by rw [hpv]; exact hcons) (by rw [hpv]; exact hfifo)
    rw [invAtCore_handle htw hraw ⟨hk2, hcr⟩ hp hk hr, hon, hpv]
    refine ⟨fun h => ?_, fun h => ?_⟩
    · rw [withEgress_free (s := v) h]
    · rw [withEgress_held (s := v) h]

end Sys2Proof.Machine
end


section
/-! ### Remote register stores, redirects and messages to members (O33) -/

namespace Sys2Proof.Machine

namespace State

/-- What is on its way, and the groups. -/
def posted (s : State) : List Msg × Map Group := (s.net, s.groups)

@[simp] theorem posted_walkSeen (s : State) (root va : Nat) : (s.walkSeen root va).posted = s.posted := (congrArg posted (quiet_walkSeen s root va) :)
@[simp] theorem posted_secSeen (s : State) (ten : BitVec 12) (key a n : Nat) : (s.secSeen ten key a n).posted = s.posted :=
  (congrArg posted (quiet_secSeen s ten key a n) :)
theorem posted_orLeaf (s : State) (leaf : Nat) (b : Byte) : (s.orLeaf leaf b).posted = s.posted := rfl
theorem posted_addShared (s : State) (site : Nat) (e : TlbEnt) : (s.addShared site e).posted = s.posted := rfl
theorem posted_dirtyCopies (s : State) (leaf : Nat) : (s.dirtyCopies leaf).posted = s.posted := rfl
@[simp] theorem posted_xlDone (s : State) (site root : Nat) (ten : BitVec 12) (va : Nat) (write : Bool) :
    (s.xlDone site root ten va write).posted = s.posted := by
  unfold xlDone
  split
  · split
    · exact (posted_dirtyCopies ..).trans (posted_orLeaf ..)
    · rfl
  · dsimp only
    split
    · exact posted_walkSeen ..
    next l _ =>
      have hv : ∀ e, (((s.walkSeen root va).orLeaf l.addr aBit).addShared site e).posted = s.posted := fun e =>
        (posted_addShared ..).trans ((posted_orLeaf ..).trans (posted_walkSeen ..))
      split
      · exact (posted_dirtyCopies ..).trans ((posted_orLeaf ..).trans (hv _))
      · exact hv _
/-- A read of device memory sends nothing: it leaves records, and marks of the translation. -/
@[simp] theorem posted_devSeen (s : State) (site sl va n : Nat) : (s.devSeen site sl va n).posted = s.posted := by
  have hl : ∀ (f : State → Nat × Nat × Nat → State), (∀ u p, (f u p).posted = u.posted) → ∀ (l : List (Nat × Nat × Nat)) (u : State),
      (l.foldl f u).posted = u.posted := fun f hf l => by
    induction l with
    | nil => exact fun _ => rfl
    | cons x r ih => exact fun u => (ih _).trans (hf u x)
  unfold devSeen
  dsimp only
  split
  · rfl
  · refine hl _ (fun u p => ?_) _ _
    split
    · exact posted_xlDone ..
    · split
      · exact (posted_secSeen ..).trans (posted_xlDone ..)
      · exact posted_xlDone ..
@[simp] theorem posted_queueSeen (s : State) (g : Group) (mem : Nat) (m : Msg) : (s.queueSeen g mem m).posted = s.posted := by
  unfold queueSeen
  split
  · rfl
  · exact posted_devSeen ..

theorem grp_of_posted {s t : State} (h : t.posted = s.posted) (gi : Nat) : t.grp gi = s.grp gi := by
  rw [grp, grp, show t.groups = s.groups from congrArg Prod.snd h]
theorem net_of_posted {s t : State} (h : t.posted = s.posted) : t.net = s.net := congrArg Prod.fst h
theorem grp_modGroup_same {s : State} {gi : Nat} {g : Group} (h : s.grp gi = some g) (f : Group → Group) : (s.modGroup gi f).grp gi = some (f g) := by
  rw [grp] at h
  rw [grp, modGroup, h]
  exact Map.find_put_same ..
theorem net_modGroup (s : State) (gi : Nat) (f : Group → Group) : (s.modGroup gi f).net = s.net := by
  unfold modGroup
  split <;> rfl
theorem net_acceptMsg (s : State) (m : Msg) : (s.acceptMsg m).net = s.net := by
  unfold acceptMsg
  repeat' split
  all_goals rfl

theorem net_nextSeq (s : State) (k : Agent × Agent × MClass) : (s.nextSeq k).2.net = s.net := by
  unfold nextSeq
  split <;> rfl
theorem net_emit_core {s : State} {m : Msg} {site : Nat} (hm : s.sourced m = m) (hd : m.dest = .core site) :
    (s.emit m).net = s.net ++ [{ m with seq := (s.nextSeq (m.frm, m.dest, m.cls)).1 }] := by
  unfold emit route
  simp only [hm, hd, net_nextSeq]
/-- A message that a root sends to a core of the device joins those on their way. -/
theorem net_send_root_core (s : State) {m : Msg} {gi site : Nat} (hf : m.frm = .root gi) (hd : m.dest = .core site) (hc : m.cls = .fwd) :
    ∃ q, (s.send m).net = s.net ++ [{ m with id := s.nextId, seq := q }] := by
  have hr : ∀ u : State, u.refereed { m with id := s.nextId } = none := fun u => by simp only [refereed, hf]
  have hso : ∀ u : State, u.sourced { m with id := s.nextId } = { m with id := s.nextId } := fun u => by simp only [sourced, hf, hc]
  have he : s.send m = ({ s with nextId := s.nextId + 1 } : State).emit { m with id := s.nextId } := by simp only [send, hr]
  exact ⟨_, (congrArg net he).trans (net_emit_core (hso _) hd)⟩

/-- The first message of a redirect queue goes to the core that holds the member, and the others stay in their order (R238, R240). -/
theorem drainFirst_sends {s : State} {g : Group} {mem key : Nat} {r : MemberRec} {m : Msg} {rest : List Msg} (hg : s.grp g.idx = some g)
    (hr : memberRec g mem = some r) (hget : (s.queueGet g mem m).isSome = true) : ∃ h y,
    (s.drainFirst g mem key r m rest).grp g.idx = some h ∧ (memberRec h mem).map (·.queue) = some rest ∧
      (s.drainFirst g mem key r m rest).net = s.net ++ [y] ∧ y.dest = .core (key / 4) ∧ y.cls = .fwd := by
  obtain ⟨x, hx⟩ := Option.isSome_iff_exists.1 hget
  unfold drainFirst
  simp only [hx]
  generalize hs1 : (s.modMember g.idx mem fun r => { r with queue := rest, ahead := r.ahead - 1, listed := r.listed && !rest.isEmpty }).queueSeen g mem m = s1
  have hp : s1.posted = (s.modMember g.idx mem fun r => { r with queue := rest, ahead := r.ahead - 1, listed := r.listed && !rest.isEmpty }).posted := by
    rw [← hs1, posted_queueSeen]
  have hgrp := (grp_of_posted hp g.idx).trans (grp_modGroup_same hg _)
  have hnet : s1.net = s.net := (net_of_posted hp).trans (net_modGroup ..)
  have hsend : ∀ (s2 : State) (h : Group) (f : Msg), s2.grp g.idx = some h → (memberRec h mem).map (·.queue) = some rest → s2.net = s.net →
      f.frm = .root g.idx → f.dest = .core (key / 4) → f.cls = .fwd → ∃ h y, (s2.send f).grp g.idx = some h ∧
      (memberRec h mem).map (·.queue) = some rest ∧ (s2.send f).net = s.net ++ [y] ∧ y.dest = .core (key / 4) ∧ y.cls = .fwd := by
    intro s2 h f hg2 hq hn hf hd hc
    obtain ⟨q, hsent⟩ := net_send_root_core s2 hf hd hc
    exact ⟨h, _, (grp_of_still (still_send _ _) _).trans hg2, hq, hsent.trans (congrArg (· ++ _) hn), hd, hc⟩
  have hq : ∀ h : Group, h.members = g.members.mapIdx (fun k x => if k = mem then
      { x with queue := rest, ahead := x.ahead - 1, listed := x.listed && !rest.isEmpty } else x) → (memberRec h mem).map (·.queue) = some rest := by
    intro h hm
    rw [memberRec] at hr ⊢
    rw [hm, List.getElem?_mapIdx, hr]
    simp
  split
  · exact hsend _ _ _ hgrp (hq _ rfl) hnet rfl rfl rfl
  · exact hsend _ _ _ (grp_modGroup_same hgrp _) (hq _ rfl) ((net_modGroup ..).trans hnet) rfl rfl rfl

/-- A resident with the register of a remote store takes it (R241). -/
theorem rstvResident_takes {v : State} {key : Nat} {m : Msg} {r : Resident} (hr : v.mustRefuse m = false) (hlast : m.fl.last = false)
    (hreg : rstvReg m < (v.thread key).ctl.vallot.toNat) (hres : (v.thread key).res = some r) (htwin : r.twin = none) :
    v.rstvResident key m = ((v.acceptMsg m).putRstv key m).reply m 0 := by
  have htl : v.tookLast key m = v := if_neg (by rw [hlast]; decide)
  rw [rstvResident, if_neg (by rw [hr]; decide), htl]
  simp only [if_neg (Nat.not_le.2 hreg), hres, htwin]

/-- The register of a remote store is written; its hold bit falls where RELEASE is set; the other registers stay (R239, R241). -/
theorem putRstv_thread (u : State) (key : Nat) (m : Msg) :
    ((u.putRstv key m).thread key).getV (BitVec.ofNat 5 (rstvReg m)) = m.pay ∧
      (rstvRel m = true → ((u.putRstv key m).thread key).ctl.sbhold.getLsbD (rstvReg m) = false) ∧
      ∀ n, n ≠ BitVec.ofNat 5 (rstvReg m) → ((u.putRstv key m).thread key).getV n = (u.thread key).getV n := by
  have hn : (BitVec.ofNat 5 (rstvReg m)).toNat = rstvReg m := by rw [BitVec.toNat_ofNat, rstvReg]; omega
  rw [putRstv, thread_modThread_same]
  dsimp only
  refine ⟨?_, fun h => ?_, fun n hne => ?_⟩
  · split <;> exact Thread.getV_setV_same ..
  · rw [if_pos h]
    simp [hn]
  · split <;> exact (Thread.getV_setV ..).trans (if_neg hne)

end State

open State

theorem extractLsb'_tag_eq_zero (x : Word) : x.extractLsb' 60 4 = 0#4 ↔ x.toNat / 2 ^ 60 = 0 := by
  rw [← BitVec.toNat_inj, BitVec.extractLsb'_toNat]
  simp only [Nat.shiftRight_eq_div_pow, BitVec.toNat_ofNat]
  omega

theorem remoteRegisterStore : Part.RemoteRegisterStore := by
  intro vs n xt tag rel t dst
  refine ⟨traps_of (exec_rstv vs xt tag n rel) fun u h => ?_, doesIf_of (exec_rstv vs xt tag n rel) fun u ⟨ht, hroom, hstay⟩ => ?_⟩
  · exact if_pos (mt (extractLsb'_tag_eq_zero _).1 h)
  · have hno : ¬(u.copyRoom tag = false ∨ u.mustStay u.ctx.key (u.rx xt) (u.memberAgent u.ctx.key (u.rx xt)).1 = true) := by
      rintro (h | h)
      · rw [hroom] at h
        cases h
      · exact Bool.false_ne_true (hstay.symm.trans h)
    exact (if_neg (not_not.2 ((extractLsb'_tag_eq_zero _).2 ht))).trans (if_neg hno)

theorem memberMessages : Part.MemberMessages := by
  intro s k site key m r hd
  refine ⟨fun ht hc hs hl hp htw hres hth ha hsav hlate htwin hlast hdr hk hr hn => ?_, fun gi ht hc hs hl => ?_⟩
  · have hth' : ((s.dropMsg k).thread key) = s.thread key := thread_of_still (still_dropMsg s k) key
    have hwt : ((s.dropMsg k).wake site).thread key = s.thread key := hth'
    have hdr' : ¬((s.dropMsg k).grp r.grp).map (fun g => g.st == .draining) = some true := by
      cases hg : (s.dropMsg k).grp r.grp with
      | none => exact fun h => nomatch h
      | some g => simpa using hdr g hg
    have hexec : exec (.rstvMsg k) s = .next ((((s.dropMsg k).wake site).acceptMsg m).putRstv key m |>.reply m 0) := by
      simp only [exec_rstvMsg, execRstvMsg, request_eq hd hs (by rw [hc]; decide) ht, hs, hl, hp, Bool.not_true, Bool.false_eq_true, if_false]
      refine congrArg Host.Outcome.next ?_
      rw [rstvAtCore, if_neg (by rw [htw]; decide)]
      simp only [hres, hth, hk, ha, hsav, hlate, Bool.not_true, Bool.false_eq_true, if_false, ne_eq, not_true_eq_false, false_or, or_self]
      exact (if_neg (fun h => hdr' (eq_of_beq h))).trans (rstvResident_takes hr hlast (by rw [rstvReg, hwt]; exact hn) hth htwin)
    refine ⟨_, hexec, ?_⟩
    have hthr : (((s.dropMsg k).wake site).acceptMsg m).thread key = s.thread key := (thread_of_still (still_acceptMsg _ m) key).trans hwt
    have hput : ((((((s.dropMsg k).wake site).acceptMsg m).putRstv key m).reply m 0).thread key) =
        (((((s.dropMsg k).wake site).acceptMsg m).putRstv key m).thread key) := thread_of_still (still_reply ..) key
    obtain ⟨hreg, hbit, hrest⟩ := putRstv_thread (((s.dropMsg k).wake site).acceptMsg m) key m
    rw [hput]
    refine ⟨hreg, hbit, fun n hne => (hrest n fun h => hne ?_).trans (congrArg (Thread.getV · n) hthr)⟩
    rw [h, rstvReg, BitVec.toNat_ofNat]
    omega
  · intro here id
    have hnone : ¬(s.liveRoot gi m.groupName).isSome = true := by rw [hl]; decide
    simp only [exec_directoryAnswer, execDirectoryAnswer, hd, hs]
    have hthreads : ((s.dropMsg k).acceptMsg m).threads = (s.dropMsg k).threads := threads_of_still (still_acceptMsg ..)
    refine ⟨_, (if_neg ?_).trans ((if_pos ht).trans rfl), ?_, ?_⟩
    · rw [ht]
      exact fun h => h.elim (fun x => by revert x; decide) hnone
    · repeat' split
      all_goals exact net_acceptMsg ..
    · repeat' split
      all_goals exact hthreads

theorem redirectQueue : Part.RedirectQueue := by
  intro s gi mem g r x res m rest hg hi hr hx hslot hmem hsav hlate ha hq
  have hready : (res.member.toNat == mem && !res.saving && !res.late && res.st == .active) = true := by
    rw [hmem, hsav, hlate, ha]
    simp
  refine ⟨fun hout => ?_, fun hout hf hget => ?_⟩
  · simp only [exec_redirectQueueDrain, execRedirectQueueDrain, hg, hr, hx, hslot, hready, hq, Bool.true_eq_false, if_false, if_pos hout]
  · have hexec : exec (.redirectQueueDrain gi mem) s = .next (s.drainFirst g mem x.key r m rest) := by
      simp only [exec_redirectQueueDrain, execRedirectQueueDrain, hg, hr, hx, hslot, hready, hq, Bool.true_eq_false, if_false, hout, hf,
        Bool.false_eq_true]
    obtain ⟨h, y, hgrp, hmemq, hnet, hdest, hcls⟩ := drainFirst_sends (key := x.key) (rest := rest) (by rw [hi]; exact hg) hr hget
    rw [hi] at hgrp
    exact ⟨_, h, y, hexec, hgrp, hmemq, hnet, hdest, hcls⟩

/-- Settles O33. -/
theorem memberTraffic : Obligations.MemberTraffic := ⟨remoteRegisterStore, memberMessages, redirectQueue⟩

end Sys2Proof.Machine
end


section
/-! ### A copy: a line, its end, its data at their homes (O19) -/

namespace Sys2Proof.Machine

namespace State

section
variable {s : State} {site k : Nat} {c : Copy} {f : Copy → Copy}

/-- The copies of a core after a change of the one that its number finds. -/
theorem copies_modCopy (s : State) (site id : Nat) (f : Copy → Copy) :
    ((s.modCopy site id f).core site).tags.copies = (s.core site).tags.copies.map fun p => if p.id = id then f p else p := by
  rw [modCopy, core_modCore_same]
theorem getElem_modCopy (h : (s.core site).tags.copies[k]? = some c) : ((s.modCopy site c.id f).core site).tags.copies[k]? = some (f c) := by
  rw [copies_modCopy, List.getElem?_map, h]
  exact congrArg some (if_pos rfl)
theorem mem_modCopy (s : State) (site id : Nat) (f : Copy → Copy) (p : Nat) : ((s.modCopy site id f).core p).mem = (s.core p).mem := by
  rw [modCopy, core_modCore]
  split
  next h => rw [h]
  next => rfl
theorem present_modCopy (s : State) (site id : Nat) (f : Copy → Copy) (p : Nat) : (s.modCopy site id f).present p = s.present p := by
  rw [present, present, modCopy, core_modCore]
  split
  next h => rw [h]; rfl
  next => rfl
theorem coreTenant_modCopy (s : State) (site id : Nat) (f : Copy → Copy) (p : Nat) : (s.modCopy site id f).coreTenant p = s.coreTenant p := by
  rw [coreTenant, coreTenant, modCopy, core_modCore]
  split
  next h => rw [h]; rfl
  next => rfl
/-- A copy with a number of its own is the one that its number finds. -/
theorem findCopy_eq (h : (s.core site).tags.copies[k]? = some c) (hu : ∀ j p, (s.core site).tags.copies[j]? = some p → p.id = c.id → j = k) :
    s.findCopy site c.id = some c := by
  have hm : c ∈ (s.core site).tags.copies := List.mem_of_getElem? h
  cases hf : (s.core site).tags.copies.find? fun p => p.id == c.id with
  | none => simpa using List.find?_eq_none.1 hf c hm
  | some x =>
    have hid : x.id = c.id := by simpa using List.find?_some hf
    obtain ⟨j, hj⟩ := List.mem_iff_getElem?.1 (List.mem_of_find?_eq_some hf)
    rw [hu j x hj hid] at hj
    rw [findCopy, hf, ← hj, h]
theorem findCopy_modCopy (h : s.findCopy site c.id = some c) (hf : ∀ p, (f p).id = p.id) : (s.modCopy site c.id f).findCopy site c.id = some (f c) := by
  have hid : ∀ p : Copy, (if p.id = c.id then f p else p).id = p.id := fun p => by
    split
    · exact hf p
    · rfl
  rw [findCopy] at h
  rw [findCopy, copies_modCopy, List.find?_map]
  simp only [Function.comp_def, hid, h, Option.map_some, if_true]

end

section
variable {s : State} {site k : Nat} {c : Copy}

/-- COPY_LINE of a copy whose only work is a read makes that read. -/
theorem copyLine_reads {n : Nat} (hc : (s.core site).tags.copies[k]? = some c) (hstop : c.stopped = false) (htodo : c.todo = [(n, n + 1)])
    (hacq : c.cpaAcq = true → s.copyWaits site c = false) (hgot : ∀ j ∈ c.lines, j.got ≠ j.len) :
    exec (.copyLine site k) s = .next (s.drawWord.2.readPart site c n) := by
  have hready : (c.lines.filter fun j => j.got == j.len) = [] := List.filter_eq_nil_iff.2 fun j hj => by simpa using hgot j hj
  have hwait : ¬(c.cpaAcq && s.copyWaits site c) = true := by simpa using hacq
  have hcount : countNums c.todo = 1 := by simp [countNums, htodo]
  have hnth : nthNum c.todo 0 = n := by simp [nthNum, htodo]
  simp [exec_copyLine, execCopyLine, hc, hready, hwait, hcount, hstop, Nat.mod_one, hnth]
/-- COPY_LINE of a copy whose only work is a piece that has been read writes that piece. -/
theorem copyLine_writes {j : CopyJob} (hc : (s.core site).tags.copies[k]? = some c) (hstop : c.stopped = false) (htodo : c.todo = [])
    (hlines : c.lines = [j]) (hgot : j.got = j.len) : exec (.copyLine site k) s = .next (s.drawWord.2.writePiece site c j) := by
  have hready : (c.lines.filter fun j => j.got == j.len) = [j] := by simp [hlines, hgot]
  have hcount : countNums c.todo = 0 := by simp [countNums, htodo]
  simp [exec_copyLine, execCopyLine, hc, hready, hcount, hstop, Nat.mod_one]

end

section
variable {s : State} {site k n : Nat} {c : Copy}

/-- A read takes its part off the list, and reads the entry of the gather list that it needs (R176). -/
abbrev partTaken (s : State) (site : Nat) (c : Copy) (n : Nat) (p : Copy) : Copy :=
  { p with
    todo := dropNum p.todo n
    gread := if p.kind = .copygt ∧ !(p.gread.any fun e => e.1 == (c.piece (n / 2)).1) then
        p.gread ++ [((c.piece (n / 2)).1, BitVec.ofNat 64 ((s.core site).mem.read (p.spitch + 8 * (c.piece (n / 2)).1) 8).1)]
      else p.gread }
abbrev takePart (s : State) (site : Nat) (c : Copy) (n : Nat) : State := s.modCopy site c.id (s.partTaken site c n)
/-- The last part of a copy, whose entry of the gather list has been read, leaves nothing to read. -/
theorem partTaken_last (htodo : c.todo = [(n, n + 1)])
    (hgt : c.kind = .copygt → (c.gread.any fun e => e.1 == (c.piece (n / 2)).1) = true) : s.partTaken site c n c = { c with todo := [] } := by
  have hd : dropNum c.todo n = [] := by simp [dropNum, htodo]
  have hg : ¬(c.kind = .copygt ∧ (!(c.gread.any fun e => e.1 == (c.piece (n / 2)).1)) = true) := fun ⟨h1, h2⟩ => by
    rw [hgt h1] at h2
    cases h2
  rw [partTaken, hd, if_neg hg]

/-- A read that leads to its core's own memory reads the part, whose bytes join their piece (R179). -/
theorem readPart_own {a off len loc : Nat} (hc : (s.core site).tags.copies[k]? = some c)
    (huniq : ∀ j p, (s.core site).tags.copies[j]? = some p → p.id = c.id → j = k) (htodo : c.todo = [(n, n + 1)])
    (hgt : c.kind = .copygt → (c.gread.any fun e => e.1 == (c.piece (n / 2)).1) = true ∧
      boundOk c.src (c.rowSrc (c.piece (n / 2)).1) c.len = true ∧ permR c.src.perm = true)
    (hpart : c.part n = (a, off, len)) (hlen : 0 < len) (hw : windowOk a len = true) (hpl : placeOf a = .own loc) (hp : s.present site = true)
    (hten : c.sup = true ∨ c.ten = s.coreTenant site) (hpois : poisoned (s.core site).mem.pois loc len = false) :
    s.readPart site c n = (s.takePart site c n).modCopy site c.id fun p => { p with
      lines := (p.begun n).map fun j => if j.line = n / 2 then j.fill off len ((s.core site).mem.bytes.load loc len) false else j } := by
  have hfind : (s.takePart site c n).findCopy site c.id = some { c with todo := [] } := by
    rw [takePart, findCopy_modCopy (f := s.partTaken site c n) (findCopy_eq hc huniq) fun _ => rfl,
      partTaken_last htodo fun h => (hgt h).1]
  have hhome : (s.takePart site c n).copyHome site { c with todo := [] } a len .read = .ok (.core site) loc c.ten none := by
    simp only [copyHome, hw, Bool.true_eq_false, if_false, hpl]
  have hread : (s.takePart site c n).copyRead { c with todo := [] } (.core site) loc len c.ten = some ((s.core site).mem.bytes.load loc len, false) := by
    rw [copyRead, present_modCopy, coreTenant_modCopy, mem_modCopy, hp]
    have hten' : (c.sup || c.ten == s.coreTenant site) = true := by simpa using hten
    simp only [hten', Bool.and_self, if_true, LocalMem.read, hpois]
  have hpart' : ({ c with todo := [] } : Copy).part n = (a, off, len) := hpart
  have hgather : ¬(c.kind = .copygt ∧ (c.gread.any fun e => e.1 == (c.piece (n / 2)).1) = false ∧
      ((s.core site).mem.read (c.spitch + 8 * (c.piece (n / 2)).1) 8).2 = true) := fun ⟨h, h1, _⟩ => by
    rw [(hgt h).1] at h1
    cases h1
  have hbound : ¬(c.kind = .copygt ∧ (boundOk c.src (c.rowSrc (c.piece (n / 2)).1) c.len = false ∨ permR c.src.perm = false)) := fun ⟨h, h1⟩ => by
    rw [(hgt h).2.1, (hgt h).2.2] at h1
    exact h1.elim (fun x => nomatch x) fun x => nomatch x
  rw [readPart]
  simp only [hfind, hpart', Nat.ne_of_gt hlen, if_false]
  refine (if_neg hgather).trans ((if_neg hbound).trans ?_)
  simp only [hhome, useCopy, isOutAgent, Bool.false_eq_true, if_false, hread, partRead, hpart']

end

section
variable (s : State) (site a n data : Nat) (pz : Nat × Nat)

theorem core_locPiece (p : Nat) : (s.locPiece site a n data pz).core p = if p = site then
    { s.core site with mem := { (s.core site).mem.write a n data false with pois := setPois ((s.core site).mem.write a n data false).pois (a + pz.1) true pz.2 } }
    else s.core p := by
  rw [locPiece, modMem, core_modCore]
  split
  next h => rw [core_locStore, if_pos rfl]
  next h => rw [core_locStore, if_neg h]
theorem copies_locPiece (p : Nat) : ((s.locPiece site a n data pz).core p).tags = (s.core p).tags := by
  rw [core_locPiece]
  split
  next h => rw [h]
  next => rfl
theorem byte_locPiece (p y : Nat) : ((s.locPiece site a n data pz).core p).mem.bytes.byte y =
    if p = site ∧ a ≤ y ∧ y < a + n then BitVec.ofNat 8 (data / 256 ^ (y - a)) else (s.core p).mem.bytes.byte y := by
  rw [core_locPiece]
  by_cases h : p = site
  · simp only [h, if_true, LocalMem.write, Memory.byte_store, true_and]
  · simp only [h, if_false, false_and]

end

/-- A piece whose destination is its core's own memory is written there (R179). -/
theorem writePiece_own {s : State} {site off : Nat} {c : Copy} {j : CopyJob} (hk : c.kind ≠ .copymc) (hw : windowOk j.dst j.len = true)
    (hpl : placeOf j.dst = .own off) : s.writePiece site c j =
    (s.modCopy site c.id fun p => { p with lines := p.lines.filter fun x => x.line != j.line }).locPiece site off j.len j.data j.pz := by
  simp only [writePiece, if_neg hk, copyHome, hw, Bool.true_eq_false, if_false, hpl, useCopy, copyWrite, if_true]

/-- A core that takes part in a multicast writes the bytes, where it is its tenant's (R172, R318). -/
theorem mcastAtCore_member {u : State} {site : Nat} {m : Msg} (hp : u.present site = true) (hk : u.tenantOk site m = true) :
    u.mcastAtCore site m = if m.tenant ≠ u.coreTenant site then u.reply m 3 else ((u.wake site).locPiece site m.w[0].toNat (m.w[1].toNat % 2 ^ 16)
      (m.pay.toNat % 2 ^ (8 * (m.w[1].toNat % 2 ^ 16))) (m.w[1].toNat / 2 ^ 16 % 2 ^ 16, m.w[1].toNat / 2 ^ 32 % 2 ^ 16)).reply m 0 := by
  rw [mcastAtCore]
  exact (if_neg (by rw [hp]; decide)).trans (if_neg (by rw [hk]; decide))

end State

open State

theorem copyLines : Part.CopyLines := by
  intro s site k c hc huniq hstop
  refine ⟨fun n a off len loc hacq htodo hgot hgt hpart hlen hw hpl hp hten hpois => ?_, fun j off htodo hlines hgot hkind hw hpl => ?_⟩
  · have hc' : (s.drawWord.2.core site).tags.copies[k]? = some c := hc
    refine ⟨_, (copyLine_reads hc hstop htodo hacq hgot).trans (congrArg Host.Outcome.next
      (readPart_own hc' huniq htodo hgt hpart hlen hw hpl hp hten hpois)), ?_⟩
    have htook := getElem_modCopy (f := s.drawWord.2.partTaken site c n) hc'
    rw [partTaken_last htodo fun h => (hgt h).1] at htook
    exact getElem_modCopy (c := { c with todo := [] }) htook
  · have hc' : (s.drawWord.2.core site).tags.copies[k]? = some c := hc
    refine ⟨_, (copyLine_writes hc hstop htodo hlines hgot).trans (congrArg Host.Outcome.next (writePiece_own hkind hw hpl)), ?_, fun p y => ?_⟩
    · rw [copies_locPiece, getElem_modCopy hc', hlines]
      simp
    · rw [byte_locPiece, mem_modCopy]
      rfl

theorem copyCompletion : Part.CopyCompletion := by
  intro s site k c hc hw htodo hlines hpend
  have hgo : ¬(s.copyWaits site c = true ∨ c.todo ≠ [] ∨ c.lines ≠ [] ∨ c.pend ≠ 0) := by simp [hw, htodo, hlines, hpend]
  refine ⟨fun hh => ?_, fun hh => ?_⟩
  · simp only [exec_copyComplete, execCopyComplete, hc, if_neg hgo, hh, if_true]
  · simp only [exec_copyComplete, execCopyComplete, hc, if_neg hgo, hh, Bool.false_eq_true, if_false]
    refine ⟨_, rfl, ?_⟩
    rw [core_modCore_same]
    refine ⟨rfl, ?_, fun i hi => ?_, rfl, rfl⟩
    · rw [Vector.getElem?_setIfInBounds_self_of_lt c.tag.isLt]
      rfl
    · exact Vector.getElem?_setIfInBounds_ne (Ne.symm hi)

theorem copyData : Part.CopyData := by
  intro s k m hd u a n x pz
  have hmcast : ∀ site, m.typ = MT.mcast → m.dest = .core site → exec (.mcastMsg k) s = .next (u.mcastAtCore site m) := fun site ht hs => by
    simp only [exec_mcastMsg, execMcastMsg, hd, hs]
    exact if_neg fun h => h ht
  refine ⟨fun site hs hp hk => ⟨fun ht => ?_, fun ht hten => ?_, fun ht hten => ?_⟩, fun site ht hs hp => ?_, fun sl key h ht hs hk hw => ?_,
    fun ht hs => ?_, fun r ht hs => ?_⟩
  · simp only [exec_copydata, execCopydata, hd, hs, ht]
    exact congrArg Host.Outcome.next (delivered_takes hp hk _)
  · rw [hmcast site ht hs, mcastAtCore_member hp hk, if_neg (not_not.2 hten)]
  · rw [hmcast site ht hs, mcastAtCore_member hp hk, if_pos hten]
  · rw [hmcast site ht hs, mcastAtCore]
    exact congrArg Host.Outcome.next (if_pos (by rw [hp]; rfl))
  · have hk' : (s.dropMsg k).keyOf m.tenant = some key := hk
    have hw' : ((s.dropMsg k).mendSeen m.tenant key m.copyBytes.1 m.copyBytes.2.1 true).hbm.write key m.copyBytes.1 m.copyBytes.2.1
        m.copyBytes.2.2.1 false = some h := hw
    simp only [exec_copydata, execCopydata, hd, hs, ht, hk', hw']
    rfl
  · simp only [exec_copydata, execCopydata, hd, hs, ht]
    rfl
  · simp only [exec_mcastMsg, execMcastMsg, hd, hs, ht]
    rfl

/-- Settles O19. -/
theorem copyProgress : Obligations.CopyProgress := ⟨copyLines, copyCompletion, copyData⟩

end Sys2Proof.Machine
end

section
/-! ### Tags (R183, R184) -/

namespace Sys2Proof.Machine

/-- The test of the waits: each tag of the mask has a count of 0. -/
theorem Tags.idle_iff (t : Tags) (m : Word) : t.idle m = true ↔ ∀ j, j < 64 → m.getLsbD j = true → t.cnt[j]?.getD 0 = 0 := by
  simp only [Tags.idle, List.all_eq_true, List.mem_range, Bool.or_eq_true, Bool.not_eq_true', beq_iff_eq, ← Bool.not_eq_true, ← imp_iff_not_or]

section
variable {t : Tags} {m : Word}

/-- WAITALL does not wait where the counts of its tags are 0. -/
theorem Tags.idle_ne_false (h : ∀ j, j < 64 → m.getLsbD j = true → t.cnt[j]?.getD 0 = 0) : ¬t.idle m = false :=
  Bool.not_eq_false _ ▸ (t.idle_iff m).2 h

/-- WAITANY does not wait where a tag of its mask is done, or the counts of its tags are 0. -/
theorem Tags.waitany_goes (h : m &&& t.tdone ≠ 0 ∨ ∀ j, j < 64 → m.getLsbD j = true → t.cnt[j]?.getD 0 = 0) :
    ¬(m &&& t.tdone = 0 ∧ t.idle m = false) :=
  fun ⟨hnone, hbusy⟩ => h.elim (fun hdone => hdone hnone) fun hidle => Tags.idle_ne_false hidle hbusy

end

section
variable {w : Word} {j : Nat}

/-! TFIRST looks for the first position at which a word has a 1. -/

theorem find?_getLsbD_least (hj : j < 64) (hw : w.getLsbD j = true) (hlow : ∀ i, i < j → w.getLsbD i = false) :
    (List.range 64).find? (fun i => w.getLsbD i) = some j :=
  List.find?_range_eq_some.2 ⟨hw, List.mem_range.2 hj, fun i hi => by rw [hlow i hi]; rfl⟩
theorem find?_getLsbD_none (hw : w = 0) : (List.range 64).find? (fun i => w.getLsbD i) = none :=
  List.find?_range_eq_none.2 fun i _ => by rw [hw, BitVec.ofNat_eq_ofNat, BitVec.getLsbD_zero]; rfl

end

/-- Settles O17: each wait by its two tests in order, TFIRST by the first 1 among the done tags; TCLR and TGET write what their bodies say. -/
theorem tagInstructions : Obligations.TagInstructions := by
  intro d s
  dsimp only
  refine ⟨doesIf_of (exec_waitall s) fun u ⟨hidle, hok⟩ => ?_, traps_of (exec_waitall s) fun u ⟨hidle, hbad⟩ => ?_,
    doesIf_of (exec_waitany d s) fun u ⟨hany, hok⟩ => ?_, traps_of (exec_waitany d s) fun u ⟨hany, hbad⟩ => ?_,
    fun j => doesIf_of (exec_tfirst d s) fun u ⟨hj, hset, hlow⟩ => ?_, doesIf_of (exec_tfirst d s) fun u hnone => ?_,
    does_of (exec_tclr s) fun _ => rfl, does_of (exec_tget d s) fun _ => rfl⟩
  · exact (if_neg (Tags.idle_ne_false hidle)).trans (if_neg (not_not.2 hok))
  · exact (if_neg (Tags.idle_ne_false hidle)).trans (if_pos hbad)
  · exact (if_neg (Tags.waitany_goes hany)).trans (if_neg (not_not.2 hok))
  · exact (if_neg (Tags.waitany_goes hany)).trans (if_pos hbad)
  · simp only [find?_getLsbD_least hj hset hlow]
  · simp only [find?_getLsbD_none hnone]
    rfl

end Sys2Proof.Machine
end

section
/-! ### The instructions of the matrix engine at issue (O20) -/

namespace Sys2Proof.Machine

/-! #### The checks of an issue, one by one (R35, R187, R190, R193, R195, R201) -/

namespace State

section
variable {u : State}

/-- The engine's queue takes a command where it holds fewer than eight and no acquire is pending (R170, R201). -/
theorem engWait_of_room (h : u.myCore.eng.length < 8 ∧ u.acqPending = false) : u.engWait = false := by
  obtain ⟨hlen, hacq⟩ := h
  rw [engWait, hacq, decide_eq_false (Nat.not_le.2 hlen), Bool.or_false]

/-- A block that is aligned, local, not awaited and not poisoned is read (R35, R195, R205). -/
theorem readBlock_reads {a : Word} {align n : Nat} (f : Nat → SlotRes) (hal : a.toNat % align = 0) (hin : a.toNat + n ≤ localTop)
    (hacq : u.acqPending = false) (hown : u.ownPending u.ctx.key u.nextId [(a.toNat, n)] = false)
    (hp : poisoned u.myCore.mem.pois a.toNat n = false) : u.readBlock a align n f = f (u.myCore.mem.bytes.load a.toNat n) := by
  rw [readBlock, if_neg (not_not.2 hal), if_neg (Nat.not_lt.2 hin), hacq, hown, LocalMem.read, hp]
  rfl

end

end State

section
variable {i : Instr} {kind : MKind} {xp xc xl : XReg} {len t : Nat}

/-- A transfer whose tile, pitch and address pass enters the queue of the engine (R203). -/
theorem doesIf_acop (h : ∀ s, exec i s = acop i kind xp xc xl len s) :
    DoesIf i (fun u => checkTile u.src.ctl (u.rx xc) = some t ∧ len ≤ (u.rx xp).toNat % 2 ^ 16 ∧ (u.rx xl).toNat % len = 0 ∧
        (u.rx xp).toNat % 2 ^ 16 % len = 0 ∧ (u.rx xl).toNat + 31 * ((u.rx xp).toNat % 2 ^ 16) + len ≤ 0x60000 ∧
        u.myCore.eng.length < 8 ∧ u.acqPending = false)
      (fun u => (u.track i []).2.enqueue { sampled u kind with
        id := u.nextId, tile := t, addr := (u.rx xl).toNat, pitch := (u.rx xp).toNat % 2 ^ 16, mul := (u.rx xp).extractLsb' 32 32
        xs := #v[u.rx xp, u.rx xc, u.rx xl, 0, 0] }) := by
  refine doesIf_of h fun u ⟨htile, hlen, hal, hpal, hin, hroom⟩ => ?_
  have hpitch : ((u.rx xp).extractLsb' 0 16).toNat = (u.rx xp).toNat % 2 ^ 16 := by
    rw [BitVec.extractLsb'_toNat, Nat.shiftRight_zero]
  have hshort : decide ((u.rx xp).toNat % 2 ^ 16 < len) = false := decide_eq_false (Nat.not_lt.2 hlen)
  have hmis : ¬((u.rx xl).toNat % len ≠ 0 ∨ (u.rx xp).toNat % 2 ^ 16 % len ≠ 0) := not_or.2 ⟨not_not.2 hal, not_not.2 hpal⟩
  have hout : ¬localTop < (u.rx xl).toNat + 31 * ((u.rx xp).toNat % 2 ^ 16) + len := Nat.not_lt.2 hin
  simp only [hpitch, htile, hshort, if_neg hmis, if_neg hout, State.engWait_of_room hroom]
  rfl

end

/-- At issue: where every check passes, none of the faults is in the list, and the command enters the queue. -/
theorem matrixIssue : Part.MatrixIssue := by
  intro d p c l opA opB tb ta mode la t
  dsimp only
  refine ⟨doesIf_acop (exec_acst p c l la), doesIf_acop (exec_acstb p c l la), doesIf_acop (exec_acld p c l la), doesIf_acop (exec_acstsc p c l la),
    doesIf_of (exec_aczero c) fun u ⟨htile, hroom⟩ => ?_,
    doesIf_of (exec_mtile c opA opB tb ta mode) fun u ⟨htile, hfa, hfb, hfmt, ha, hb, hscale, hroom⟩ => ?_,
    fun j => doesIf_of (exec_mjob d c) fun u ⟨hal, hin, hown, hpois, hj, hok, hroom⟩ => ?_⟩
  · simp only [htile, State.engWait_of_room hroom]
    rfl
  · have hsc : (if (u.src.ctl.fmta == 2) = true then scaleFaults u.src.ctl.scla ++ scaleFaults u.src.ctl.sclb else []) = [] := by
      split
      next hint =>
        obtain ⟨hsa, hsb⟩ := hscale (beq_iff_eq.1 hint)
        rw [hsa, hsb, List.append_nil]
      next => rfl
    simp only [hfa, hfb, htile, hfmt, ha, hb, hsc, State.engWait_of_room hroom]
    rfl
  · refine (State.readBlock_reads _ hal hin hroom.2 hown hpois).trans ?_
    simp only [← hj, hok, State.engWait_of_room hroom]
    rfl

/-! #### The status of a job (R199, R200) -/

/-- DONE, CANCELLED and UNKNOWN are the states from 3 on. -/
theorem finalStatus_iff (w : Word) : finalStatus w = true ↔ 3 ≤ w.toNat % 8 := by
  rw [finalStatus, decide_eq_true_iff, BitVec.extractLsb'_toNat, Nat.shiftRight_zero]

/-- The status of jobs: MWAIT by whether the status is final, MCANCEL by the state of the job that it finds. -/
theorem jobStatus : Part.JobStatus := by
  intro d s la
  dsimp only
  refine ⟨does_of (exec_mstat d s) fun _ => rfl, doesIf_of (exec_mwait d s la) fun u hfinal => ?_, doesIf_of (exec_mwait d s la) fun u hopen => ?_,
    fun c => ⟨doesIf_of (exec_mcancel s) fun u ⟨hjob, hst⟩ => ?_, doesIf_of (exec_mcancel s) fun u ⟨hjob, hst⟩ => ?_,
      doesIf_of (exec_mcancel s) fun u ⟨hjob, hst⟩ => ?_⟩,
    doesIf_of (exec_mcancel s) fun u hjob => ?_⟩
  · exact if_pos ((finalStatus_iff _).2 hfinal)
  · exact if_neg fun h => Nat.not_le.2 hopen ((finalStatus_iff _).1 h)
  · rcases hst with hst | hst <;> simp only [hjob, hst]
  · simp only [hjob, hst]
  · simp only [hjob, hst]
  · simp only [hjob]

/-- Settles O20: the issue of the engine's instructions, and the status of its jobs. -/
theorem matrixInstructions : Obligations.MatrixInstructions := ⟨matrixIssue, jobStatus⟩

end Sys2Proof.Machine
end

section
/-! ### Tag enables, request bits and hold bits (R215, R216, R242) -/

namespace Sys2Proof.Machine

section
variable {i : Instr} {n : VReg} {b : Bool}

/-- The hold bit of a register in the allotment is set or cleared, and REGRANGE stands for any other (R242). -/
theorem doesIf_holdBit (h : ∀ s, exec i s = holdBit i n b s) : DoesIf i (fun u => n.toNat < u.src.ctl.vallot.toNat) fun u => u.modCur fun t =>
    { t with ctl := { t.ctl with sbhold := if b then t.ctl.sbhold ||| 1#32 <<< n.toNat else t.ctl.sbhold &&& ~~~(1#32 <<< n.toNat) } } :=
  doesIf_of h fun _ hin => if_neg (Nat.not_le.2 hin)
theorem traps_holdBit (h : ∀ s, exec i s = holdBit i n b s) :
    Traps i (fun u => ¬n.toNat < u.src.ctl.vallot.toNat) .regrange fun _ => n.setWidth 64 :=
  traps_of h fun _ hout => if_pos (Nat.not_lt.1 hout)

end

/-- Settles O25: each by its slot; TGSET by whether a member is resident, the holds by whether the register lies in the allotment. -/
theorem queueControl : Obligations.QueueControl := by
  intro s d n
  dsimp only
  refine ⟨does_of (exec_tgon s) fun _ => rfl, does_of (exec_tgoff s) fun _ => rfl, fun r => doesIf_of (exec_tgset s) fun u hres => ?_,
    doesIf_of (exec_tgset s) fun u hres => ?_, does_of (exec_tgclr s) fun _ => rfl, doesIf_holdBit (b := true) (exec_vhold n),
    doesIf_holdBit (b := false) (exec_vhclr n), fun i hi => ?_, does_of (exec_vhtest d) fun _ => rfl⟩
  · simp only [hres]
  · simp only [hres]
  · rcases hi with rfl | rfl
    · exact traps_holdBit (exec_vhold n)
    · exact traps_holdBit (exec_vhclr n)

end Sys2Proof.Machine
end

section
/-! ### How waiting work begins and how arrivals age (R212, R215, R217, R223, R305) -/

namespace Sys2Proof.Machine

namespace Thread

/-- A thread without the ages of its request bits (R212, R215). -/
def unaged (t : Thread) : Thread := { t with reqs := t.reqs.map fun b => { b with cyc := 0, since := none } }

theorem tags_unaged (t : Thread) : t.unaged.reqs.map (·.tag) = t.reqs.map (·.tag) := by
  rw [unaged, List.map_map]
  rfl
theorem unaged_aged (t : Thread) (f : ReqBit → Nat × Option Word) :
    ({ t with reqs := t.reqs.map fun b : ReqBit => { b with cyc := (f b).1, since := (f b).2 } } : Thread).unaged = t.unaged := by
  simp only [unaged, List.map_map, Function.comp_def]
/-- Two threads that differ in the ages of their request bits alone (R212, R215). -/
theorem eq_of_unaged {t u : Thread} (h : u.unaged = t.unaged) : ∃ rs, u = { t with reqs := rs } ∧ rs.map (·.tag) = t.reqs.map (·.tag) :=
  ⟨u.reqs, (congrArg (fun x : Thread => { x with reqs := u.reqs }) h :), by rw [← tags_unaged, h, tags_unaged]⟩

@[simp] theorem getX_setV (t : Thread) (d : VReg) (v : VWord) (r : XReg) : (t.setV d v).getX r = t.getX r := rfl

section
variable (t : Thread) (x2 x3 x4 x5 : Word) (v0 : VWord)

/-! The registers that a start writes, and what it leaves (R217, R223). -/

theorem getX2_startRegs : (t.startRegs x2 x3 x4 x5 v0).getX 2 = x2 := by
  rw [startRegs, getX_setV, getX_setX_ne _ _ _ _ (by decide), getX_setX_ne _ _ _ _ (by decide), getX_setX_ne _ _ _ _ (by decide),
    getX_setX_same _ _ _ (by decide)]
theorem getX5_startRegs : (t.startRegs x2 x3 x4 x5 v0).getX 5 = x5 := by
  rw [startRegs, getX_setV, getX_setX_same _ _ _ (by decide)]
theorem getV0_startRegs : (t.startRegs x2 x3 x4 x5 v0).getV 0 = v0 := getV_setV_same ..
theorem sys_startRegs : (t.startRegs x2 x3 x4 x5 v0).sys = t.sys := by
  simp only [startRegs, setV_sys, setX_sys]
theorem reqs_startRegs : (t.startRegs x2 x3 x4 x5 v0).reqs = t.reqs := by
  simp only [startRegs, setV_reqs, setX_reqs]

end

theorem reqs_begin (t : Thread) (act : Activation) (pc : Word) (dl : BitVec 8) : (t.begin act pc dl).reqs = t.reqs := rfl

/-- A thread whose request bit starts: the bit is gone, the registers are written, the activation begins (R215, R217). -/
def requestStarts (t : Thread) (self : Word) (act : Activation) (e : Word) (tag : Nat) : Thread :=
  ({ t with reqs := t.reqs.filter fun x => x.tag != tag }.startRegs 0 self 0 (BitVec.ofNat 64 tag) 0).begin act (handlerPc e) (e.extractLsb' 34 8)

theorem reqs_requestStarts (t : Thread) (self : Word) (act : Activation) (e : Word) (tag : Nat) :
    (t.requestStarts self act e tag).reqs = t.reqs.filter fun x => x.tag != tag := by
  rw [requestStarts, reqs_begin, reqs_startRegs]

end Thread

namespace State

theorem unaged_modThread {s : State} {i k : Nat} {f : Thread → Thread} (h : ∀ t, (f t).unaged = t.unaged) :
    ((s.modThread i f).thread k).unaged = (s.thread k).unaged := by
  rw [thread_modThread]
  split
  next hk => rw [h, hk]
  next => rfl
/-- Bringing the ages up to date changes nothing else of a thread (R212, R215). -/
theorem unaged_settle (s : State) (site k : Nat) : ((s.settle site).thread k).unaged = (s.thread k).unaged := by
  unfold settle
  refine foldl_keeps (fun u : State => (u.thread k).unaged) (fun u i => ?_) _ _
  split
  · rfl
  · exact unaged_modThread fun t => t.unaged_aged _

theorem thread_settle (s : State) (site k : Nat) : ∃ rs, (s.settle site).thread k = { s.thread k with reqs := rs } ∧
    rs.map (·.tag) = (s.thread k).reqs.map (·.tag) := Thread.eq_of_unaged (s.unaged_settle site k)

@[simp] theorem thread_takeArrival (s : State) (site k : Nat) (a : Arrival) : (s.takeArrival site a).thread k = s.thread k := rfl
@[simp] theorem thread_traceStart (s : State) (key k : Nat) (a : Activation) : (s.traceStart key a).thread k = s.thread k := rfl

/-- The thread of a request bit that has started (R215, R217). -/
theorem thread_startRequest (s : State) (key : Nat) (r : Resident) (b : ReqBit) : ∃ self act rs,
    (s.startRequest key r b).thread key = { (s.thread key).requestStarts self act (method r.mtab b.tag) b.tag with reqs := rs } ∧
    ∀ x ∈ rs, x.tag ≠ b.tag := by
  obtain ⟨rs, hth, htags⟩ := thread_settle _ (key / 4) key
  rw [thread_traceStart, thread_modThread_same] at hth htags
  refine ⟨_, _, rs, hth, fun x hx heq => ?_⟩
  obtain ⟨y, hy, hyx⟩ := List.mem_map.1 (htags ▸ List.mem_map_of_mem hx)
  rw [← Thread.requestStarts, Thread.reqs_requestStarts] at hy
  exact bne_iff_ne.1 (List.mem_filter.1 hy).2 (hyx.trans heq)

end State

/-! Each start where nothing stands in its way (R212, R224, R305). -/

section
variable {s : State} {site thr : Nat} {r : Resident}

theorem execRawArrivalStart_starts {a : Arrival} {rest : List Arrival} (hraw : s.rawOf (keyAt site thr) = a :: rest)
    (hfree : s.freeThread (keyAt site thr) = true) (hrun : s.boot.st = .running) : ∃ t, execRawArrivalStart site thr s = .next t ∧
      t.thread (keyAt site thr) = { (s.thread (keyAt site thr)).startRegs 0 (senderWord a.msg.src true (a.msg.cls == .fwd) false) 0
        (a.msg.rtag.setWidth 64) (argArea a.msg []) with
        pc := (s.thread (keyAt site thr)).sys.tvec &&& ~~~3#64, running := true, sup := true, viaEret := false, rep := none } := by
  simp only [execRawArrivalStart, hraw, hfree, hrun, ne_eq, not_true_eq_false, Bool.true_eq_false, or_false, if_false]
  refine ⟨_, rfl, ?_⟩
  rw [State.thread_takeArrival, State.thread_modThread_same, Thread.sys_startRegs]

theorem execKickStart_starts {a : Arrival} {rest : List Arrival} (hres : (s.thread (keyAt site thr)).res = some r)
    (hfree : s.freeThread (keyAt site thr) = true) (hready : State.memberReady r = true) (hraw : s.rawOf (keyAt site thr) = [])
    (hkick : s.kickOf (keyAt site thr) = a :: rest) : execKickStart site thr s = .next (s.startKick (keyAt site thr) a) := by
  simp only [execKickStart, hres, hkick, hfree, hready, hraw, ne_eq, not_true_eq_false, Bool.true_eq_false, or_false, if_false]

theorem execActivationStart_starts {w : Work} (hres : (s.thread (keyAt site thr)).res = some r) (hfree : s.freeThread (keyAt site thr) = true)
    (hready : State.memberReady r = true) (hraw : s.rawOf (keyAt site thr) = []) (hkick : s.kickOf (keyAt site thr) = [])
    (hw : s.nextWork (keyAt site thr) r = some w) : execActivationStart site thr s = .next (match w with
      | .arr a => s.startArrival (keyAt site thr) r a
      | .req b => s.startRequest (keyAt site thr) r b) := by
  simp only [execActivationStart, hres, hfree, hready, hraw, hkick, hw, ne_eq, not_true_eq_false, Bool.true_eq_false, or_false, if_false]
  cases w <;> rfl

end

theorem activations : Part.Activations := by
  intro s site thr r key hres hfree
  refine ⟨fun a rest hraw hrun => ?_, fun hready hraw a rest hkick => execKickStart_starts hres hfree hready hraw hkick, fun hready hraw hkick b hb => ?_,
    fun hready hraw hkick a ha => execActivationStart_starts hres hfree hready hraw hkick ha⟩
  · obtain ⟨t, ht, hth⟩ := execRawArrivalStart_starts hraw hfree hrun
    refine ⟨t, ht, ?_⟩
    rw [show t.thread key = _ from hth]
    exact ⟨rfl, rfl, rfl, Thread.getX5_startRegs .., Thread.getV0_startRegs ..⟩
  · obtain ⟨self, act, rs, hth, hrs⟩ := s.thread_startRequest key r b
    refine ⟨_, execActivationStart_starts hres hfree hready hraw hkick hb, ?_⟩
    dsimp only
    rw [show (s.startRequest (keyAt site thr) r b).thread key = _ from hth]
    exact ⟨rfl, rfl, rfl, Thread.getX2_startRegs .., Thread.getX5_startRegs .., rfl, hrs⟩

theorem counted_now (now : Word) (c : Nat) : counted now c (some now) = c := by
  rw [counted, BitVec.sub_self]
  exact Nat.add_zero c
theorem ripen_eq (now : Word) (cyc : Nat) (since : Option Word) : ripen now cyc since = counted now cyc since - 65536 := rfl

/-- A level entered takes with it the 65,536 cycles that it counts (R212). -/
theorem counted_ripen {now : Word} {cyc : Nat} {since : Option Word} (h : 65536 ≤ counted now cyc since) (lvl : Nat) :
    lvl + (1 + counted now (ripen now cyc since) (some now) / 65536) = lvl + counted now cyc since / 65536 := by
  rw [counted_now, ripen_eq]
  omega

theorem arrivalAgeing : Part.ArrivalAgeing := by
  intro s site k a t0 ha hraw hkick hsince hcyc aged
  have hcounted : 65536 ≤ counted s.time a.cyc a.since := by
    rw [hsince, counted]
    exact hcyc
  have hripe : ripe s.time a.cyc a.since = true := by
    rw [ripe, decide_eq_true hcounted, hsince, Option.isSome_some, Bool.and_self]
  have hexec : exec (.arrivalAgeing site k) s = .next (s.modCore site fun c =>
      { c with arrivals := c.arrivals.map fun x => if x.ord = a.ord then aged x else x }) := by
    simp only [exec_arrivalAgeing, execArrivalAgeing, ha, hripe, hraw, hkick, Bool.not_false, Bool.and_self, if_true, aged]
  refine ⟨⟨_, hexec, congrArg Core.arrivals (State.core_modCore_same ..)⟩, fun tab => ?_⟩
  simp only [Work.eff, aged, Nat.add_assoc, counted_ripen hcounted]

/-- Settles O26: each start by its branch of the dispatch; ageing moves 65,536 counted cycles into a level. -/
theorem activationStarts : Obligations.ActivationStarts := ⟨activations, arrivalAgeing⟩

end Sys2Proof.Machine
end

section
/-! ### The instructions of groups (O34) -/

namespace Sys2Proof.Machine

namespace State

/-- The name word of a form has zero high bits where it is below 2^48 (R226). -/
theorem nameOk_eq_false_iff (w : Word) : nameOk w = false ↔ ¬w.toNat < 2 ^ 48 := by
  rw [nameOk, beq_eq_false_iff_ne, ne_eq, ← BitVec.toNat_inj, BitVec.extractLsb'_toNat]
  simp only [Nat.shiftRight_eq_div_pow, BitVec.toNat_ofNat]
  omega
theorem nameOk_ne_false {w : Word} (h : w.toNat < 2 ^ 48) : ¬nameOk w = false := fun hw => (nameOk_eq_false_iff w).1 hw h

/-- A block that a form may read from local memory at issue: aligned to 32 bytes, local, not awaited and not poisoned (R35, R195). -/
abbrev BlockReady (u : State) (a : Word) (n : Nat) : Prop :=
  a.toNat % 32 = 0 ∧ a.toNat + n ≤ 0x60000 ∧ u.acqPending = false ∧ u.ownPending u.ctx.key u.nextId [(a.toNat, n)] = false ∧
    poisoned u.myCore.mem.pois a.toNat n = false
/-- The bytes of a table of n entries, with as many twins in a duplex group (R228). -/
abbrev tableLen (g : Group) (n : Nat) : Nat := 32 * (if g.desc.duplex then 2 * n else n)
/-- The state once a transition has been asked of a group's root: the handle is written, the table kept beside it, the GRPCTL sent (R230, R243). -/
abbrev grpAsked (u : State) (d : XReg) (fn : Nat) (name operand : Word) (tab : List Team) : State :=
  let h := u.newHandle u.ctx.key true
  let v := if tab = [] then h.2 else { h.2 with tables := h.2.tables ++ [(h.1, tab)] }
  (v.wx d h.1).send { u.mineMsg with
    dest := u.rootAgent u.site (u.coreTenant u.site) (grpOf name), dst := ⟨nmDev (grpOf name), 0xFFF, 0⟩, cls := .req, typ := MT.grpctl
    spec := BitVec.ofNat 19 fn, w := #v[operand, h.1, name, 0, 0, 0] }

section
variable {u : State} {d : XReg} {fn : Nat} {name addr : Word}

theorem readBlock_ready {a : Word} {n : Nat} (h : u.BlockReady a n) (f : Nat → SlotRes) :
    u.readBlock a 32 n f = f (u.myCore.mem.bytes.load a.toNat n) := by
  obtain ⟨hal, hin, hacq, hown, hpois⟩ := h
  exact readBlock_reads f hal hin hacq hown hpois

/-- A transition is sent where a promise slot is free. -/
theorem grpSend_sends (hp : u.freePslots u.site ≠ []) (op : Word) (tab : List Team) : u.grpSend d fn name op tab = .done (u.grpAsked d fn name op tab) :=
  if_neg hp

/-! A form with a table, by its checks in order (R228, R243). -/

variable {g : Group} {n base : Group → Nat} {more : Group → List Team → Bool}

theorem grpTable_illNamed (hn : ¬name.toNat < 2 ^ 48) : u.grpTable d fn name addr n base more = u.operand :=
  if_pos ((nameOk_eq_false_iff name).2 hn)

section
variable (hn : name.toNat < 2 ^ 48)
include hn

theorem grpTable_unnamed (hg : u.namedHere name = none) (hb : u.BlockReady addr 32) (hp : u.freePslots u.site ≠ []) :
    u.grpTable d fn name addr n base more = .done (u.grpAsked d fn name addr []) := by
  rw [grpTable, if_neg (nameOk_ne_false hn)]
  simp only [hg]
  exact (readBlock_ready hb _).trans (grpSend_sends hp _ _)

section
variable (hg : u.namedHere name = some g)
include hg

theorem grpTable_misaligned (ha : addr.toNat % 32 ≠ 0) : u.grpTable d fn name addr n base more = u.fault .align addr := by
  rw [grpTable, if_neg (nameOk_ne_false hn)]
  simp only [hg]
  exact if_pos ha

variable (hb : u.BlockReady addr (tableLen g (n g)))
include hb

theorem grpTable_malformed (ht : tableOf g.desc (u.myCore.mem.bytes.load addr.toNat (tableLen g (n g))) (n g) (base g) = none) :
    u.grpTable d fn name addr n base more = u.operand := by
  rw [grpTable, if_neg (nameOk_ne_false hn)]
  simp only [hg]
  refine (readBlock_ready hb _).trans ?_
  simp only [ht]
theorem grpTable_sends {ts : List Team} (hp : u.freePslots u.site ≠ [])
    (ht : tableOf g.desc (u.myCore.mem.bytes.load addr.toNat (tableLen g (n g))) (n g) (base g) = some ts) (hm : more g ts = true) :
    u.grpTable d fn name addr n base more = .done (u.grpAsked d fn name addr ts) := by
  rw [grpTable, if_neg (nameOk_ne_false hn)]
  simp only [hg]
  refine (readBlock_ready hb _).trans ?_
  simp only [ht, hm, if_true, grpSend_sends hp]

end

end

end

end State

open State

/-- GEND's operand is FORCE alone: the words with another bit set are those from 2 on (R236). -/
theorem extractLsb'_above_one_ne_zero (x : Word) : x.extractLsb' 1 63 ≠ 0#63 ↔ 2 ≤ x.toNat := by
  rw [ne_eq, ← BitVec.toNat_inj, BitVec.extractLsb'_toNat]
  simp only [Nat.shiftRight_eq_div_pow, BitVec.toNat_ofNat]
  omega

section
variable {i : Instr} {d s : XReg} {fn : Nat} {op : State → Word}
  (h : ∀ v, exec i v = slot i (fun u => if nameOk (u.rx s) = false then u.operand else u.grpSend d fn (u.rx s) (op u) []) v)
include h

/-- A form without a table asks for its transition where its name is well formed (R230, R243). -/
theorem doesIf_grpSend : DoesIf i (fun u => (u.rx s).toNat < 2 ^ 48 ∧ u.freePslots u.site ≠ []) fun u => u.grpAsked d fn (u.rx s) (op u) [] :=
  doesIf_of h fun _ ⟨hn, hp⟩ => (if_neg (nameOk_ne_false hn)).trans (grpSend_sends hp _ _)
theorem traps_illNamed : Traps i (fun u => ¬(u.rx s).toNat < 2 ^ 48) .operand fun u => u.ctx.word.setWidth 64 :=
  traps_of h fun _ hn => if_pos ((nameOk_eq_false_iff _).2 hn)

end

/-- Settles O34: the forms with a table by their checks in order, those without by the name alone; GNEW by its descriptor, its context slot and the
free indices. -/
theorem groupInstructions : Obligations.GroupInstructions := by
  intro d s t name wellNamed word asks may block bytes tab slotLive
  have htab : ∀ {i fn n base} {more : Group → List Team → Bool} {moreP : Group → List Team → Prop},
      (∀ v, exec i v = slot i (fun u => u.grpTable d fn (u.rx s) (u.rx t) n base more) v) → (∀ g ts, moreP g ts → more g ts = true) →
      tab i fn n base moreP := fun h hmore =>
    ⟨fun _ _ => doesIf_of h fun _ ⟨⟨hn, hg, hb⟩, hp, ht, hm⟩ => grpTable_sends hn hg hb hp ht (hmore _ _ hm),
      fun _ => traps_of h fun _ ⟨⟨hn, hg, hb⟩, ht⟩ => grpTable_malformed hn hg hb ht,
      doesIf_of h fun _ ⟨hn, hg, hb, hp⟩ => grpTable_unnamed hn hg hb hp,
      fun _ => traps_of h fun _ ⟨hn, hg, ha⟩ => grpTable_misaligned hn hg ha,
      traps_of h fun _ hn => grpTable_illNamed hn⟩
  have hslot : ∀ {u e}, slotLive u e → ¬((u.slotOf e.slot.toNat).st ≠ .active ∧ (u.slotOf e.slot.toNat).st ≠ .growing ∧
      (u.slotOf e.slot.toNat).st ≠ .shrinking) := fun hl ⟨ha, hg, hs⟩ => hl.elim ha fun hl => hl.elim hg hs
  refine ⟨fun e k => doesIf_of (exec_gnew d s) fun u ⟨hb, he, hl, hk⟩ => ?_, fun e => doesIf_of (exec_gnew d s) fun u ⟨hb, he, hl, hk⟩ => ?_,
    traps_of (exec_gnew d s) fun u ⟨hb, he⟩ => ?_, htab (exec_gplace d s t) fun _ _ _ => rfl, htab (exec_gadd d s t) fun _ _ _ => rfl,
    htab (exec_gmove d s t) fun g ts hm => ?_, doesIf_grpSend (exec_gdrop d s t), doesIf_grpSend (exec_gpark d s), doesIf_grpSend (exec_grun d s),
    doesIf_of (exec_gend d s t) fun u ⟨⟨hn, hp⟩, hforce⟩ => ?_, traps_of (exec_gend d s t) fun u hbad => ?_, fun i hi => ?_,
    fun v => doesIf_of (exec_barcfg d s t) fun u ⟨hn, hv⟩ => ?_, traps_of (exec_barcfg d s t) fun u hn => ?_⟩
  · refine (readBlock_ready hb _).trans ?_
    simp only [show descOf (u.myCore.mem.bytes.load (u.rx s).toNat 64) = some e from he, if_neg (hslot hl), hk]
  · refine (readBlock_ready hb _).trans ?_
    simp only [show descOf (u.myCore.mem.bytes.load (u.rx s).toNat 64) = some e from he, if_neg (hslot hl), hk]
  · refine (readBlock_ready hb _).trans ?_
    simp only [show descOf (u.myCore.mem.bytes.load (u.rx s).toNat 64) = none from he]
    rfl
  · obtain ⟨hsum, hacc⟩ := hm
    simp only [Bool.and_eq_true, beq_iff_eq, List.all_eq_true, List.mem_range]
    exact ⟨hsum, hacc⟩
  · have hok : ¬(nameOk (u.rx s) = false ∨ (u.rx t).extractLsb' 1 63 ≠ 0#63) := by
      rw [extractLsb'_above_one_ne_zero]
      exact fun h => h.elim (nameOk_ne_false hn) (Nat.not_le.2 hforce)
    exact (if_neg hok).trans (grpSend_sends hp _ _)
  · refine if_pos ?_
    rw [extractLsb'_above_one_ne_zero, nameOk_eq_false_iff]
    exact hbad
  · rcases hi with rfl | rfl | rfl
    · exact traps_illNamed (exec_gdrop d s t)
    · exact traps_illNamed (exec_gpark d s)
    · exact traps_illNamed (exec_grun d s)
  · refine (if_neg (nameOk_ne_false hn)).trans ?_
    simp only [hv]
  · exact if_pos ((nameOk_eq_false_iff _).2 hn)

end Sys2Proof.Machine
end

section
/-! ### Transitions of groups, at the root and at the members (O35) -/

namespace Sys2Proof.Machine

namespace State

/-! #### What the writes of device memory, the redirect queues and the readiness leave alone -/

@[simp] theorem threads_modGroup (s : State) (gi : Nat) (f : Group → Group) : (s.modGroup gi f).threads = s.threads := by
  unfold modGroup
  split <;> rfl
@[simp] theorem threads_modMember (s : State) (gi i : Nat) (f : MemberRec → MemberRec) : (s.modMember gi i f).threads = s.threads := threads_modGroup ..
theorem threads_orLeaf (s : State) (leaf : Nat) (b : Byte) : (s.orLeaf leaf b).threads = s.threads := rfl
theorem threads_dirtyCopies (s : State) (leaf : Nat) : (s.dirtyCopies leaf).threads = s.threads := rfl
theorem threads_addShared (s : State) (site : Nat) (e : TlbEnt) : (s.addShared site e).threads = s.threads := rfl
@[simp] theorem threads_xlDone (s : State) (site root : Nat) (ten : BitVec 12) (va : Nat) (write : Bool) :
    (s.xlDone site root ten va write).threads = s.threads := by
  have hw : (s.walkSeen root va).threads = s.threads := threads_of_quiet (quiet_walkSeen ..)
  unfold xlDone
  split
  · exact threads_ite ((threads_dirtyCopies ..).trans (threads_orLeaf ..)) rfl
  · dsimp only
    split
    · exact hw
    next l _ =>
      have hv : ∀ e, (((s.walkSeen root va).orLeaf l.addr aBit).addShared site e).threads = s.threads := fun e =>
        (threads_addShared ..).trans ((threads_orLeaf ..).trans hw)
      exact threads_ite ((threads_dirtyCopies ..).trans ((threads_orLeaf ..).trans (hv _))) (hv _)
@[simp] theorem threads_devWrite (s : State) (site sl va n v : Nat) : (s.devWrite site sl va n v).1.threads = s.threads := by
  unfold devWrite
  dsimp only
  split
  · rfl
  · refine foldl_keeps (fun u : State × Bool => u.1.threads) (fun u p => ?_) _ _
    split
    · exact threads_xlDone ..
    · split
      · exact threads_xlDone ..
      · have hm : ∀ ten key a n, ((u.1.xlDone site (s.slotOf sl).root.toNat (s.slotOf sl).tenant (p.1 % 2 ^ 48) true).mendSeen ten key a n true).threads =
            u.1.threads := fun _ _ _ _ => (threads_of_quiet (quiet_mendSeen ..)).trans (threads_xlDone ..)
        split
        · exact hm ..
        · exact (threads_of_quiet (quiet_flawSeen ..)).trans (hm ..)
theorem threads_queueJoin {s t : State} {g : Group} {mem : Nat} {m : Msg} {place : Option Nat} (h : s.queueJoin g mem m place = some t) :
    t.threads = s.threads := by
  unfold queueJoin at h
  split at h
  · cases h
    rfl
  next r _ =>
    obtain ⟨-, ht⟩ := Option.ite_none_left_eq_some.1 h
    rw [← Option.some.inj ht]
    refine (threads_modMember ..).trans ?_
    split
    · rfl
    · exact threads_devWrite ..
@[simp] theorem still_returnPass (s : State) (frm : Agent) (gi : Nat) (m : Msg) : (s.returnPass frm gi m).still = s.still := still_send ..
@[simp] theorem still_kickReport (s : State) (site : Nat) (like : Msg) (kick node : Nat) (name : Word) (started faulted after : Nat) :
    (s.kickReport site like kick node name started faulted after).still = s.still := still_send ..
/-- A message that a root turns away is answered, and what it asked for breaks: that changes only what is on its way. -/
@[simp] theorem still_queueBreak (g : Group) (code : Nat) (s : State) (m : Msg) : (queueBreak g code s m).still = s.still := by
  unfold queueBreak
  refine still_ite (still_reply ..) (still_ite (still_ite ?_ (still_kickReport ..)) (still_ite ?_ ?_))
  · exact (still_breakInv ..).trans (still_kickReport ..)
  · exact (still_returnPass ..).trans (still_reply ..)
  · exact (still_breakInv ..).trans (still_reply ..)
@[simp] theorem still_sendReady (s : State) (key cls total : Nat) : (s.sendReady key cls total).still = s.still := by
  unfold sendReady
  split
  · rfl
  · split
    · rfl
    · dsimp only
      split
      · exact still_send ..
      · rfl
@[simp] theorem still_withdrawReady (s : State) (key : Nat) : (s.withdrawReady key).still = s.still :=
  still_foldl (fun _ _ => still_ite rfl (still_sendReady ..)) _ _

/-! #### A member that parks (R232) -/

/-- The member of a thread, its registers and where it stands: what an image of the thread keeps. -/
def standing (s : State) (key : Nat) : Option Resident × Regs × Word := ((s.thread key).res, (s.thread key).regs, (s.thread key).pc)

section
variable {s t : State} {key : Nat}

theorem standing_of_threads (h : t.threads = s.threads) : t.standing key = s.standing key := by
  rw [standing, thread_congr h, standing]
theorem standing_modThread {f : Thread → Thread} (h : ∀ t, ((f t).res, (f t).regs, (f t).pc) = (t.res, t.regs, t.pc)) :
    (s.modThread key f).standing key = s.standing key := by
  rw [standing, thread_modThread_same]
  exact h _

/-- An arrival of a member that parks goes to the root, or into the redirect queue: the thread keeps its member and stands where it stood. -/
theorem standing_parkArrival (v : State) (key : Nat) (r : Resident) (a : Arrival) (m : Msg) : (v.parkArrival key r a m).standing key = v.standing key := by
  unfold parkArrival
  dsimp only
  split
  · rfl
  · split
    · exact (standing_of_threads (threads_of_still (still_returnPass ..))).trans (standing_modThread fun _ => rfl)
    · split
      · rfl
      · split
        · rfl
        · split
          · exact standing_of_threads (threads_of_still (still_queueBreak ..))
          next hj => exact standing_of_threads ((threads_modMember ..).trans (threads_queueJoin hj))

end

/-! #### A transition at its root (R230, R231) -/

section
variable {s : State} {m : Msg} {g : Group}

/-- The state without the table that a transition brings: its root has read it. -/
abbrev untabled (s : State) (m : Msg) : State := { s with tables := s.tables.filter fun e => e.1 != m.w[1] }

theorem ctlAtRoot_nameless (h8 : m.spec.toNat % 16 ≠ 8)
    (hn : (s.untabled m).nameState (grpOf m.w[2]) = .ended ∨ (s.untabled m).nameState (grpOf m.w[2]) = .stale) :
    s.ctlAtRoot m = (s.untabled m).grpStat m 4 := by
  rcases hn with hn | hn
  · simp only [ctlAtRoot, hn, if_neg h8]
  · simp only [ctlAtRoot, hn]

theorem not_otherTenant (ht : m.tenant = 0 ∨ m.tenant = g.tenant) : ¬(m.tenant ≠ 0 ∧ m.tenant ≠ g.tenant) := fun ⟨h0, hg⟩ => ht.elim h0 hg

variable (hn : (s.untabled m).nameState (grpOf m.w[2]) = .live g) (ht : m.tenant = 0 ∨ m.tenant = g.tenant)
include hn ht

/-- A transition of a group's own tenant, or of tenant 0, is refused while another one is under way, and begins otherwise (R230). -/
theorem ctlAtRoot_busy (h8 : m.spec.toNat % 16 ≠ 8) (hb : g.trans.isSome = true) : s.ctlAtRoot m = (s.untabled m).grpStat m 1 := by
  simp only [ctlAtRoot, hn, if_neg (not_otherTenant ht), if_neg h8, hb, if_true]

variable (hfree : g.trans = none)
include hfree

theorem ctlAtRoot_park (h4 : m.spec.toNat % 16 = 4) : s.ctlAtRoot m =
    if g.st = .running then (s.untabled m).rootPark g { fn := 4, msg := some m } else (s.untabled m).grpStat m 1 := by
  simp only [ctlAtRoot, hn, if_neg (not_otherTenant ht), h4, hfree, Option.isSome_none, Bool.false_eq_true, if_false]
  rfl
theorem ctlAtRoot_run (h5 : m.spec.toNat % 16 = 5) : s.ctlAtRoot m =
    if g.st = .placed ∨ g.st = .parked then (s.untabled m).startRun g.idx { fn := 5, msg := some m } else (s.untabled m).grpStat m 1 := by
  simp only [ctlAtRoot, hn, if_neg (not_otherTenant ht), h5, hfree, Option.isSome_none, Bool.false_eq_true, if_false]
  rfl

end

end State

open State

section
variable {s : State} {k : Nat} {m : Msg}

/-- A GRPCTL reaches its root where no configuration of barriers is under way and, if a checkpoint asks, no transition (R230, R280, R338). -/
theorem grpctl_atRoot {gi : Nat} (hd : s.deliver k = some m) (ht : m.typ = MT.grpctl) (hs : m.dest = .root gi) (h8 : m.spec.toNat % 16 ≠ 8)
    (hr : (s.dropMsg k).mustRefuse m = false)
    (hcfg : m.spec.toNat % 16 = 3 ∨ m.spec.toNat % 16 = 4 ∨ m.spec.toNat % 16 = 5 ∨ m.spec.toNat % 16 = 6 →
      ((s.grp gi).map fun g => g.barcfg.isSome) ≠ some true)
    (hlater : m.frm = .bridge → ((s.grp gi).map fun g => g.trans.isSome) ≠ some true) :
    exec (.grpctl k) s = .next (((s.dropMsg k).acceptMsg m).ctlAtRoot m) := by
  have hgo : ¬(((m.spec.toNat % 16 = 3 ∨ m.spec.toNat % 16 = 4 ∨ m.spec.toNat % 16 = 5 ∨ m.spec.toNat % 16 = 6 ∨ m.spec.toNat % 16 = 8) ∧
      ((s.grp gi).map fun g => g.barcfg.isSome) = some true) ∨
      (m.frm = .bridge ∧ ((s.grp gi).map fun g => g.trans.isSome) = some true)) := by
    rintro (⟨hfn, hc⟩ | ⟨hb, hc⟩)
    · exact hcfg (by omega) hc
    · exact hlater hb hc
  simp only [exec_grpctl, execGrpctl, hd, ht, ne_eq, not_true_eq_false, if_false, hs, if_neg hgo, hr, Bool.false_eq_true]

variable {site : Nat}

/-- A park that reaches the core of its member is noted with the member (R231, R232). -/
theorem grpctl_asksPark {r : Resident} (hd : s.deliver k = some m) (ht : m.typ = MT.grpctl) (hs : m.dest = .core site) (hp : s.present site = true)
    (h4 : m.spec.toNat % 16 = 4) (hres : (s.thread (4 * site + m.w[3].toNat % 4)).res = some r) (hname : r.name = grpOf m.w[2]) :
    ∃ t, exec (.grpctl k) s = .next t ∧ (t.thread (4 * site + m.w[3].toNat % 4)).res = some { r with parkReq := true } := by
  have hth : ((s.dropMsg k).wake site).thread (4 * site + m.w[3].toNat % 4) = s.thread (4 * site + m.w[3].toNat % 4) :=
    thread_of_still (still_dropMsg s k) _
  have hslot : ((s.dropMsg k).wake site).slotHolds (4 * site + m.w[3].toNat % 4) (grpOf m.w[2]) = some r := by
    rw [slotHolds, hth]
    simp only [hres, hname, if_true]
  have hnote : ¬((4 : Nat) = 9 ∨ (4 : Nat) = 10) := by decide
  simp only [exec_grpctl, execGrpctl, hd, ht, ne_eq, not_true_eq_false, if_false, hs, hp, Bool.not_true, Bool.false_eq_true, ctlAtCore, h4, hslot,
    if_neg hnote]
  refine ⟨_, rfl, ?_⟩
  rw [thread_modThread_same, hth, hres]
  rfl

/-- The status of a transition resolves its handle (R230, R243). -/
theorem grpstat_settles (hd : s.deliver k = some m) (ht : m.typ = MT.grpstat) (hc : m.cls = .rsp) (hs : m.dest = .core site) (hp : s.present site = true)
    (hten : s.tenantOk site m = true) (hh : m.w[1] ≠ 0) (hg : (s.pslot site (hSlot m.w[1])).gen = hGen m.w[1])
    (hst : (s.pslot site (hSlot m.w[1])).st = .pending) : exec (.grpstat k) s = .next (((s.dropMsg k).wake site).settleSlot site (hSlot m.w[1]) m false
      ((BitVec.ofNat 64 m.status).setWidth 512) none) := by
  have hp' := (present_of_still (still_dropMsg s k) site).trans hp
  have hten' := (tenantOk_of_still (still_dropMsg s k) site m).trans hten
  simp only [exec_grpstat, execGrpstat, answer_eq hd hc hs ht, hs, delivered_takes hp' hten', if_neg hh, pslot_taken, if_pos (And.intro hg hst)]

/-- A status is a byte, so a result holds it as it stands. -/
theorem setWidth_status (m : Msg) : (BitVec.ofNat 64 m.status).setWidth 512 = BitVec.ofNat 512 m.status := by
  have hlt : m.status < 256 := Nat.mod_lt _ (by decide)
  apply BitVec.eq_of_toNat_eq
  simp only [BitVec.toNat_setWidth, BitVec.toNat_ofNat]
  rw [Nat.mod_eq_of_lt (a := m.status) (b := 2 ^ 64) (by omega)]

end

section
variable {s : State} {site thr : Nat} {r : Resident}

/-- A member that may park begins to save (R232). -/
theorem execMemberPark_saves (hres : (s.thread (keyAt site thr)).res = some r) (hreq : r.parkReq = true) (hsav : r.saving = false) (hact : r.st = .active)
    (hlate : r.late = false) (hpark : (s.thread (keyAt site thr)).parkable = true) : ∃ t, execMemberPark site thr s = .next t ∧
      ((t.thread (keyAt site thr)).res.map fun x => x.saving) = some true ∧ (t.thread (keyAt site thr)).regs = (s.thread (keyAt site thr)).regs ∧
      (t.thread (keyAt site thr)).pc = (s.thread (keyAt site thr)).pc := by
  have hkeep : ∀ l : List Arrival, (l.foldl (fun (u : State) a => (u.takeArrival site a).parkArrival (keyAt site thr) r a
      (s.arrivalMsg (keyAt site thr) r a)) (s.withdrawReady (keyAt site thr))).standing (keyAt site thr) = s.standing (keyAt site thr) := fun l =>
    (foldl_keeps (fun u : State => u.standing (keyAt site thr)) (fun u a => standing_parkArrival (u.takeArrival site a) ..) l _).trans
      (standing_of_threads (threads_of_still (still_withdrawReady ..)))
  obtain ⟨hr, hplace⟩ := Prod.mk.inj (hkeep (s.memberArrivals (keyAt site thr)))
  obtain ⟨hregs, hpc⟩ := Prod.mk.inj hplace
  simp only [execMemberPark, hres, hreq, hsav, hact, hlate, hpark, Bool.true_eq_false, Bool.false_eq_true, ne_eq, not_true_eq_false, and_false, or_false,
    if_false]
  refine ⟨_, rfl, ?_⟩
  rw [thread_modThread_same, thread_modCore]
  exact ⟨(congrArg (Option.map _) (congrArg (Option.map _) (hr.trans hres))).trans rfl, hregs, hpc⟩

/-- A member whose image is written leaves its slot (R232, R233). -/
theorem execSaveImageComplete_leaves {g : Group} (hres : (s.thread (keyAt site thr)).res = some r) (hsav : r.saving = true)
    (hready : s.saveReady (keyAt site thr) = true) (hg : s.grp r.grp = some g) : ∃ t, execSaveImageComplete site thr s = .next t ∧
      (t.thread (keyAt site thr)).res = none ∧ (t.thread (keyAt site thr)).running = false := by
  simp only [execSaveImageComplete, hres, hsav, hready, Bool.true_eq_false, or_self, if_false, hg]
  refine ⟨_, rfl, ?_⟩
  rw [thread_modThread_same, vacate, thread_modThread_same]
  exact ⟨rfl, rfl⟩

end

section
variable {s : State} {gi : Nat} {g : Group}

/-- The name of a group that has ended is free, its index has the next generation or is retired (R226, R236). -/
theorem endGroup_frees (hg : s.grp gi = some g) : (s.endGroup gi).grp gi = none ∧
    (s.endGroup gi).dirEnt gi = if g.gen = 0xFFFFFF then { gen := g.gen, retired := true } else { gen := g.gen + 1 } := by
  simp only [endGroup, hg]
  exact ⟨Map.find_erase_same .., Map.get_put_same ..⟩

/-- A group that drains ends once no member, queue or tree of it holds anything (R236). -/
theorem execGroupEnded_ends (hg : s.grp gi = some g) (hst : g.st = .draining) (hpend : g.trans.map (fun t => t.pend) = some 0 ∨ g.trans = none)
    (hq : ∀ x ∈ g.members, x.queue = []) (hf : g.fwds = []) (hk : g.knodes = []) (hno : ∀ e ∈ s.threads, ∀ x, e.2.res = some x → x.grp ≠ gi) :
    execGroupEnded gi s = .next (s.endGroup gi) := by
  have hzero : ((g.trans.map fun t => t.pend).getD 0 == 0) = true := by
    rcases hpend with h | h <;> rw [h] <;> rfl
  have hqueues : (g.members.all fun r => r.queue.isEmpty) = true := List.all_eq_true.2 fun x hx => by rw [hq x hx]; rfl
  simp only [execGroupEnded, hg, hzero, hqueues, hf, hk, hst, List.isEmpty_nil, Bool.and_self, true_and, and_true]
  refine if_pos (List.all_eq_true.2 fun e he => ?_)
  split
  · rfl
  next x hx => rw [bne_iff_ne.2 (hno e he x hx), Bool.true_or]

end

/-- Settles O35: at the root by what the name names and the group's state; at a core by the slot, the handle or the member that the row finds; the end
of a group by what its root forgets. -/
theorem groupEvents : Obligations.GroupEvents := by
  intro s k m gi site thr g r fn a v reach mine key
  have hroot : reach → exec (.grpctl k) s = .next (a.ctlAtRoot m) := fun ⟨hd, ht, hs, h8, hr, hcfg, hlater⟩ =>
    grpctl_atRoot hd ht hs h8 hr hcfg hlater
  have h8 : reach → fn ≠ 8 := fun ⟨_, _, _, h8, _⟩ => h8
  refine ⟨fun hr hn => ?_, fun ⟨hr, hn, ht⟩ hb => ?_, fun ⟨hr, hn, ht⟩ hfree h4 => ?_, fun ⟨hr, hn, ht⟩ hfree h5 => ?_,
    fun hd ht hs hp h4 hres hname => grpctl_asksPark hd ht hs hp h4 hres hname, fun hd ht hc hs hp hten hh hg hst hmark => ?_,
    fun hres hreq hsav hact hlate hpark => execMemberPark_saves hres hreq hsav hact hlate hpark,
    fun hres hsav hready hg => execSaveImageComplete_leaves hres hsav hready hg, fun hg hst hpend hq hf hk hno => ?_⟩
  · rw [hroot hr, ctlAtRoot_nameless (h8 hr) hn]
  · rw [hroot hr, ctlAtRoot_busy hn ht (h8 hr) hb]
  · rw [hroot hr, ctlAtRoot_park hn ht hfree h4]
  · rw [hroot hr, ctlAtRoot_run hn ht hfree h5]
  · refine ⟨_, grpstat_settles hd ht hc hs hp hten hh hg hst, ?_⟩
    rw [settleSlot_pslot (by rw [pslot_taken]; exact hmark)]
    exact ⟨rfl, setWidth_status m⟩
  · exact ⟨_, execGroupEnded_ends hg hst hpend hq hf hk hno, endGroup_frees hg⟩

end Sys2Proof.Machine
end

section
/-! ### READY, UNREADY and RDYQ (R245, R256 to R258) -/

namespace Sys2Proof.Machine

/-- A class word is zero above its class and names the thread's own group, and a member of that group is resident (R256). -/
abbrev State.NamesOwnGroup (u : State) (w : Word) : Prop :=
  w.extractLsb' 50 14 = 0#14 ∧ u.src.ctl.gname = grpOf w ∧ ∃ r, u.src.res = some r ∧ r.name = grpOf w
theorem State.classOk_iff (u : State) (w : Word) : u.classOk w = true ↔ u.NamesOwnGroup w := by
  simp only [classOk, NamesOwnGroup, Bool.and_eq_true, beq_iff_eq, and_assoc]
  cases u.src.res with
  | none => simp only [Bool.false_eq_true, reduceCtorEq, false_and, exists_const]
  | some r => simp only [beq_iff_eq, Option.some.injEq, exists_eq_left']
theorem State.classOk_ne_false {u : State} {w : Word} (h : u.NamesOwnGroup w) : ¬u.classOk w = false :=
  ne_false_of_eq_true ((u.classOk_iff w).2 h)

/-- A form that begins with the check of its class word raises OPERAND where the word does not name the thread's own group (R256). -/
theorem traps_foreignClass {i : Instr} {xc : XReg} {body : State → SlotRes}
    (h : ∀ s, exec i s = slot i (fun u => if u.classOk (u.rx xc) = false then u.operand else body u) s) :
    Traps i (fun u => ¬u.NamesOwnGroup (u.rx xc)) .operand fun u => u.ctx.word.setWidth 64 :=
  traps_of h fun u hown => if_pos (Bool.eq_false_iff.2 fun hok => hown ((u.classOk_iff _).1 hok))

section
variable {i : Instr} {xc xn : XReg} {f : Nat → Nat → Nat} (h : ∀ s, exec i s = ready i xc xn f s)
include h

/-- A count other than 0 changes the readiness of the thread's own member for the class (R245, R257). -/
theorem doesIf_ready : DoesIf i (fun u => u.NamesOwnGroup (u.rx xc) ∧ (u.rx xn).toNat ≠ 0) fun u =>
    let cls := ((u.rx xc).extractLsb' 48 2).toNat
    u.setReady u.ctx.key cls (f (u.readyOf u.ctx.key cls) (u.rx xn).toNat) :=
  doesIf_of h fun _ ⟨hown, hn⟩ => (if_neg (State.classOk_ne_false hown)).trans (if_neg hn)
/-- A count of 0 changes nothing (R257). -/
theorem doesIf_ready_zero : DoesIf i (fun u => u.NamesOwnGroup (u.rx xc) ∧ (u.rx xn).toNat = 0) fun u => u :=
  doesIf_of h fun _ ⟨hown, hn⟩ => (if_neg (State.classOk_ne_false hown)).trans (if_pos hn)
theorem traps_ready : Traps i (fun u => ¬u.NamesOwnGroup (u.rx xc)) .operand fun u => u.ctx.word.setWidth 64 :=
  traps_foreignClass h

end

/-- Settles O29: READY and UNREADY are one form with two ways to change the count; RDYQ sends its query once its class word is checked. -/
theorem readiness : Obligations.Readiness := by
  intro xc xn d la
  refine ⟨doesIf_ready (f := fun r n => min (r + n) 65535) (exec_ready xc xn),
    doesIf_ready (f := fun r n => r - n) (exec_unready xc xn), fun i hi => ?_,
    doesIf_of (exec_rdyq d xc la) fun u hown => if_neg (State.classOk_ne_false hown), traps_foreignClass (exec_rdyq d xc la)⟩
  rcases hi with rfl | rfl
  · exact ⟨doesIf_ready_zero (exec_ready xc xn), traps_ready (exec_ready xc xn)⟩
  · exact ⟨doesIf_ready_zero (exec_unready xc xn), traps_ready (exec_unready xc xn)⟩

end Sys2Proof.Machine
end

section
/-! ### Waits on handles, tests, releases and replies (O31) -/

namespace Sys2Proof.Machine

namespace State

/-- A handle names the generation that its slot holds, and the slot is in use (R261). -/
abbrev InForce (p : PSlot) (h : Word) : Prop := p.gen = hGen h ∧ p.st ≠ .free

theorem not_inForce_iff {p : PSlot} {h : Word} : ¬InForce p h ↔ p.gen ≠ hGen h ∨ p.st = .free := by
  rw [not_and_or, not_not]

section
variable {u : State} {i : Instr} {v : Bool} {r : BitVec 5} {xh xf : XReg} {dst : List RegRef}

theorem hwait_malformed (hw : ¬wellHandle (u.rx xh) = true) : u.hwait i v r xh xf dst = u.operand :=
  if_pos (Bool.eq_false_of_not_eq_true hw)

section
variable (hw : wellHandle (u.rx xh) = true)
include hw

/-- At another core's Relay: the wait takes a response slot and asks (R273). -/
theorem hwait_far {n : Nat} {l : List Nat} (ho : u.ownHandle (u.rx xh) = false) (hs : u.cur.freeSlots = n :: l) :
    u.hwait i v r xh xf dst = .done (((((u.track i dst).2.markAcq u.nextId).modCur fun t => { t with slots := t.slots.setIfInBounds n (some {
      id := u.nextId, op := .hwait v r xf, el := ⟨0, 0, 0⟩, addr := u.rx xh
      home := u.relayAgent u.site u.src.sup u.src.ctl.tenant (u.rx xh), loc := 0 }) }).askRelay (u.rx xh) 1 n)) := by
  simp only [hwait, hw, ho, hs, Bool.true_eq_false, Bool.false_eq_true, if_false]
  rfl

variable (ho : u.ownHandle (u.rx xh) = true)
include ho

/-- At the own core's Relay, by the state of the slot (R273). -/
theorem hwait_own : u.hwait i v r xh xf dst =
    let p := u.pslot u.site (hSlot (u.rx xh))
    let u1 := (u.track i dst).2
    if ¬InForce p (u.rx xh) then .done (u1.modCur fun t => t.endWait u.nextId v r xf true (breakRec 7 (u.rx xh)))
    else if p.st = .resolved ∨ p.st = .broken then .done (u1.modCur fun t => t.endWait u.nextId v r xf (p.st == .broken) p.result)
    else .done ((u1.markAcq u.nextId).modPslot u.site (hSlot (u.rx xh)) fun p =>
      { p with waiters := p.waiters ++ [(u.ctx.key, u.nextId, v, r.toNat, xf.toNat)] }) := by
  simp only [hwait, hw, ho, not_inForce_iff, Bool.true_eq_false, if_false, if_true]
  rfl

end

end

end State

open State

/-- Settles O31: a wait by where its handle's Relay is and the state of the slot there; the others by the form of the handle or token. -/
theorem handleInstructions : Obligations.HandleInstructions := by
  intro d xh xf xv vd vs la h p well own live set waits mine replies
  have hwaits : ∀ {i v r dst}, (∀ s, exec i s = slot i (fun u => u.hwait i v r xh xf dst) s) → waits i v r dst := fun h =>
    ⟨doesIf_of h fun _ ⟨⟨hw, ho⟩, hl⟩ => (hwait_own hw ho).trans (if_pos hl),
      doesIf_of h fun _ ⟨⟨hw, ho⟩, hl, hs⟩ => (hwait_own hw ho).trans ((if_neg (not_not.2 hl)).trans (if_pos hs)),
      doesIf_of h fun _ ⟨⟨hw, ho⟩, hl, hs⟩ => (hwait_own hw ho).trans ((if_neg (not_not.2 hl)).trans (if_neg hs)),
      fun _ _ => doesIf_of h fun _ ⟨hw, ho, hs⟩ => hwait_far hw ho hs,
      traps_of h fun _ hw => hwait_malformed hw⟩
  have hreplies : ∀ {i} {r : State → BitVec 512}, (∀ s, exec i s = slot i (fun u => u.hreply (u.rx xh) (r u)) s) → replies i r := fun h =>
    ⟨doesIf_of h fun u ⟨hw, hd⟩ => (if_neg (ne_false_of_eq_true hw)).trans (if_neg (ne_false_of_eq_true hd)),
      traps_of h fun u hw => if_pos hw⟩
  refine ⟨hwaits (exec_hwait d xh xf la), hwaits (exec_hwaitv vd xh xf la), doesIf_of (exec_htest d xh) fun u ⟨hw, ho⟩ => ?_,
    fun v => doesIf_of (exec_htest d xh) fun u ⟨hw, ho, ha⟩ => ?_, doesIf_of (exec_hfree xh) fun u ⟨⟨hw, ho⟩, hl⟩ => ?_,
    doesIf_of (exec_hfree xh) fun u ⟨⟨hw, ho⟩, hl⟩ => ?_, traps_of (exec_hfree xh) fun u hbad => if_pos ?_,
    hreplies (exec_hreply xh xv), hreplies (exec_hreplyv xh vs),
    doesIf_of (exec_hbreak xh xv) fun u hw => if_neg (ne_false_of_eq_true hw), traps_of (exec_hbreak xh xv) fun u hw => if_pos hw⟩
  · exact (if_neg (ne_false_of_eq_true hw)).trans (if_pos ho)
  · refine (if_neg (ne_false_of_eq_true hw)).trans ((if_neg (Bool.not_eq_true _ ▸ ho)).trans ?_)
    simp only [await, ha]
  · exact (if_neg (not_or.2 ⟨ne_false_of_eq_true hw, ne_false_of_eq_true ho⟩)).trans (if_pos (not_inForce_iff.1 hl))
  · exact (if_neg (not_or.2 ⟨ne_false_of_eq_true hw, ne_false_of_eq_true ho⟩)).trans (if_neg fun h => not_inForce_iff.2 h hl)
  · exact (not_and_or.1 hbad).imp Bool.eq_false_of_not_eq_true Bool.eq_false_of_not_eq_true

end Sys2Proof.Machine
end

section
/-! ### The barrier instructions (O37) -/

namespace Sys2Proof.Machine

theorem Thread.isMember_iff (t : Thread) : t.isMember = true ↔ ∃ r, t.res = some r ∧ r.late = false := by
  rw [isMember]
  cases t.res with
  | none => simp
  | some r => simp

namespace State

/-- The register names a barrier by its number alone, and the thread runs as a member (R282, R283). -/
abbrev BarLegal (u : State) (xs : XReg) : Prop := (u.rx xs).toNat < 16 ∧ ∃ r, u.src.res = some r ∧ r.late = false
/-- The number of the barrier that the register names. -/
abbrev barId (u : State) (xs : XReg) : Nat := (u.rx xs).toNat % 16

theorem barLegal_iff (u : State) (xs : XReg) : u.BarLegal xs ↔ ¬((u.rx xs).toNat ≠ u.barId xs ∨ u.src.isMember = false) := by
  rw [BarLegal, ← Thread.isMember_iff, not_or, not_not, Bool.not_eq_false]
  exact and_congr_left' ⟨fun h => (Nat.mod_eq_of_lt h).symm, fun h => h ▸ Nat.mod_lt _ (by decide)⟩

section
variable {u : State} {xs : XReg} {arrives : Bool} {k : Resident → Nat → SlotRes}

/-! The checks that the forms share, in their order (R283, R285, R286). -/

theorem barForm_illegal (h : ¬u.BarLegal xs) : u.barForm xs arrives k = u.operand := by
  rw [barForm]
  cases u.src.res with
  | none => rfl
  | some r => exact if_pos (not_not.1 (mt (u.barLegal_iff xs).2 h))

variable (h : u.BarLegal xs)
include h

theorem barForm_left (hl : u.src.bar.leave.getLsbD (u.barId xs) = true) : u.barForm xs arrives k = .done u := by
  obtain ⟨-, r, hr, -⟩ := id h
  simp only [barForm, hr, if_neg ((u.barLegal_iff xs).1 h), hl, if_true]

variable (hl : ¬u.src.bar.leave.getLsbD (u.barId xs) = true)
include hl

theorem barForm_cut (hc : u.src.bar.cut.getLsbD (u.barId xs) = true) : u.barForm xs arrives k = u.fault .bartime (u.rx xs) := by
  obtain ⟨-, r, hr, -⟩ := id h
  simp only [barForm, hr, if_neg ((u.barLegal_iff xs).1 h), if_neg hl, hc, if_true]

variable (hc : ¬u.src.bar.cut.getLsbD (u.barId xs) = true)
include hc

theorem barForm_outside (hp : ¬u.src.bar.part.getLsbD (u.barId xs) = true) : u.barForm xs arrives k = u.fault .barover (u.rx xs) := by
  obtain ⟨-, r, hr, -⟩ := id h
  simp only [barForm, hr, if_neg ((u.barLegal_iff xs).1 h), if_neg hl, if_neg hc, if_pos (Bool.eq_false_of_not_eq_true hp)]

variable (hp : u.src.bar.part.getLsbD (u.barId xs) = true)
include hp

theorem barForm_again (ha : arrives = true) (harr : u.src.bar.arrived.getLsbD (u.barId xs) = true)
    (hw : ¬u.src.bar.waiting.getLsbD (u.barId xs) = true) : u.barForm xs arrives k = u.fault .barover (u.rx xs) := by
  obtain ⟨-, r, hr, -⟩ := id h
  simp only [barForm, hr, if_neg ((u.barLegal_iff xs).1 h), if_neg hl, if_neg hc, if_neg (ne_false_of_eq_true hp),
    if_pos (And.intro ha (And.intro harr (Bool.eq_false_of_not_eq_true hw)))]

/-- The form does not arrive, or its member has not arrived, or it has and waits. -/
abbrev BarOnce (u : State) (xs : XReg) (arrives : Bool) : Prop :=
  arrives = true → u.src.bar.arrived.getLsbD (u.barId xs) = true → u.src.bar.waiting.getLsbD (u.barId xs) = true

variable (ho : u.BarOnce xs arrives)
include ho

omit h hl hc hp in
theorem not_again : ¬(arrives = true ∧ u.src.bar.arrived.getLsbD (u.barId xs) = true ∧ u.src.bar.waiting.getLsbD (u.barId xs) = false) :=
  fun ⟨ha, harr, hw⟩ => ne_false_of_eq_true (ho ha harr) hw

theorem barForm_broken (hb : u.src.bar.broken.getLsbD (u.barId xs) = true) : u.barForm xs arrives k = u.fault .bartime (u.rx xs) := by
  obtain ⟨-, r, hr, -⟩ := id h
  simp only [barForm, hr, if_neg ((u.barLegal_iff xs).1 h), if_neg hl, if_neg hc, if_neg (ne_false_of_eq_true hp), if_neg (not_again ho), hb, if_true]

theorem barForm_goes {r : Resident} (hr : u.src.res = some r) (hb : ¬u.src.bar.broken.getLsbD (u.barId xs) = true) :
    u.barForm xs arrives k = k r (u.barId xs) := by
  simp only [barForm, hr, if_neg ((u.barLegal_iff xs).1 h), if_neg hl, if_neg hc, if_neg (ne_false_of_eq_true hp), if_neg (not_again ho), if_neg hb]

end

section
variable {u : State} {id : Nat} {ask : State → State}

/-- A wait begins where none is under way; it ends once the member's arrival has been taken (R283). -/
theorem barWait_begins (hw : ¬u.src.bar.waiting.getLsbD id = true) : u.barWait id ask = .wait fun s => (ask s).barHeld id := if_neg hw
theorem barWait_ends (hw : u.src.bar.waiting.getLsbD id = true) (ha : ¬u.src.bar.arrived.getLsbD id = true) :
    u.barWait id ask = .done (u.modCur fun t => { t with bar := { t.bar with waiting := t.bar.waiting &&& ~~~(1#16 <<< id) } }) :=
  (if_pos hw).trans (if_pos (Bool.eq_false_of_not_eq_true ha))

end

end State

open State

section
variable {i : Instr} {xs : XReg}

/-- The forms that arrive, and those that do not, share their checks. -/
theorem exec_barForm_arrives (hi : i = .barr xs ∨ i = .barrw xs) : ∃ k : State → Resident → Nat → SlotRes,
    ∀ v, exec i v = slot i (fun u => u.barForm xs true (k u)) v := by
  rcases hi with rfl | rfl
  · exact ⟨_, exec_barr xs⟩
  · exact ⟨_, exec_barrw xs⟩
theorem exec_barForm_stays (hi : i = .barw xs ∨ i = .barwd xs) : ∃ k : State → Resident → Nat → SlotRes,
    ∀ v, exec i v = slot i (fun u => u.barForm xs false (k u)) v := by
  rcases hi with rfl | rfl
  · exact ⟨_, exec_barw xs⟩
  · exact ⟨_, exec_barwd xs⟩
theorem exec_barForm (hi : i = .barr xs ∨ i = .barw xs ∨ i = .barrw xs ∨ i = .barwd xs) :
    ∃ (arrives : Bool) (k : State → Resident → Nat → SlotRes), ∀ v, exec i v = slot i (fun u => u.barForm xs arrives (k u)) v := by
  rcases hi with rfl | rfl | rfl | rfl
  · exact ⟨true, exec_barForm_arrives (.inl rfl)⟩
  · exact ⟨false, exec_barForm_stays (.inl rfl)⟩
  · exact ⟨true, exec_barForm_arrives (.inr rfl)⟩
  · exact ⟨false, exec_barForm_stays (.inr rfl)⟩

end

/-- Settles O37: the checks that the forms share, in their order; then each form by whether its member has arrived and waits. -/
theorem barrierInstructions : Obligations.BarrierInstructions := by
  intro s d r id b legal left cut part arrived waiting broken fit calm freed
  have hnever : ∀ u : State, u.BarOnce s false := fun _ h => absurd h Bool.false_ne_true
  have hfirst : ∀ {u : State}, ¬arrived u → u.BarOnce s true := fun ha _ h => absurd h ha
  have hgo : ∀ {u : State} {arrives : Bool} {k : Resident → Nat → SlotRes}, fit u → u.BarOnce s arrives →
      u.barForm s arrives k = k r (id u) := fun ⟨hl, hr, hleft, hcut, hpart, hbroken⟩ ho => barForm_goes hl hleft hcut hpart ho hr hbroken
  refine ⟨doesIf_of (exec_barr s) fun u ⟨hf, ha, hw, hcalm⟩ => ?_, doesIf_of (exec_barw s) fun u ⟨hf, ha, hw⟩ => ?_, fun i hi => ?_,
    fun v hc hf ha hw hcalm => ?_, fun v hc hf ha hw => ?_, doesIf_of (exec_barwd s) fun u ⟨hf, hcalm⟩ => ?_,
    doesIf_of (exec_barq d s) fun u hl => if_neg ((u.barLegal_iff s).1 hl),
    traps_of (exec_barq d s) fun u hl => if_pos (not_not.1 (mt (u.barLegal_iff s).2 hl)), fun i hi => ?_, fun i hi => ?_, fun i hi => ?_⟩
  · exact (hgo hf (hfirst ha)).trans ((if_neg hw).trans (if_neg (ne_false_of_eq_true hcalm)))
  · exact (hgo hf (hnever _)).trans (if_pos ⟨Bool.eq_false_of_not_eq_true ha, Bool.eq_false_of_not_eq_true hw⟩)
  · rcases hi with rfl | rfl
    · exact doesIf_of (exec_barw s) fun u ⟨hf, ha, hw⟩ =>
        (hgo hf (hnever _)).trans ((if_neg fun h => ne_false_of_eq_true hw h.2).trans (barWait_ends hw ha))
    · exact doesIf_of (exec_barrw s) fun u ⟨hf, ha, hw⟩ =>
        (hgo hf fun _ _ => hw).trans ((if_neg fun h => ne_false_of_eq_true hw h.1).trans (barWait_ends hw ha))
  · rw [exec_barrw]
    refine slot_wait (ask := fun u => (u.barArrive r (id v.entered)).barHeld (id v.entered)) hc ((hgo hf (hfirst ha)).trans ((if_neg ?_).trans (barWait_begins hw)))
    exact fun h => ne_false_of_eq_true hcalm h.2
  · rw [exec_barw]
    refine slot_wait (ask := fun u => u.barHeld (id v.entered)) hc ((hgo hf (hnever _)).trans ((if_neg ?_).trans (barWait_begins hw)))
    exact fun h => ne_false_of_eq_true ha h.1
  · exact (hgo hf (hnever _)).trans (if_neg (ne_false_of_eq_true hcalm))
  · obtain ⟨arr, k, hx⟩ := exec_barForm hi
    exact ⟨traps_of hx fun u hl => barForm_illegal hl, doesIf_of hx fun u ⟨hl, hleft⟩ => barForm_left hl hleft,
      traps_of hx fun u ⟨hl, hleft, hcut⟩ => barForm_cut hl hleft hcut,
      traps_of hx fun u ⟨hl, hleft, hcut, hpart⟩ => barForm_outside hl hleft hcut hpart,
      traps_of hx fun u ⟨hl, hleft, hcut, hpart, ha, hbroken⟩ => barForm_broken hl hleft hcut hpart (fun _ h => absurd h ha) hbroken⟩
  · obtain ⟨k, hx⟩ := exec_barForm_arrives hi
    exact ⟨traps_of hx fun u ⟨hl, hleft, hcut, hpart, ha, hw⟩ => barForm_again hl hleft hcut hpart rfl ha hw,
      traps_of hx fun u ⟨hl, hleft, hcut, hpart, ha, hw, hbroken⟩ => barForm_broken hl hleft hcut hpart (fun _ _ => hw) hbroken⟩
  · obtain ⟨k, hx⟩ := exec_barForm_stays hi
    exact traps_of hx fun u ⟨hl, hleft, hcut, hpart, hbroken⟩ => barForm_broken hl hleft hcut hpart (hnever _) hbroken

end Sys2Proof.Machine
end

section
/-! ### Barriers at their Huddles and at the members (O38) -/

namespace Sys2Proof.Machine

/-! #### Huddles and barriers read back -/

@[simp] theorem Barrier.huddle_setHuddle_same (b : Barrier) (lvl i : Nat) (h : Huddle) : (b.setHuddle lvl i h).huddle lvl i = h := by
  match lvl with
  | 0 => exact Map.get_put_same (fun _ => {}) b.team i h
  | 1 => exact Map.get_put_same (fun _ => {}) b.die i h
  | _ + 2 => rfl

@[simp] theorem Barrier.phase_setHuddle (b : Barrier) (lvl i : Nat) (h : Huddle) : (b.setHuddle lvl i h).phase = b.phase := by
  unfold setHuddle
  split <;> rfl

@[simp] theorem Barrier.ep_setHuddle (b : Barrier) (lvl i : Nat) (h : Huddle) : (b.setHuddle lvl i h).ep = b.ep := by
  unfold setHuddle
  split <;> rfl

namespace Group

@[simp] theorem bar_setBar_same (g : Group) (id : Nat) (b : Barrier) : (g.setBar id b).bar id = b := by
  rw [bar, setBar, Vector.getElem?_setIfInBounds_self_of_lt (Nat.mod_lt _ (by decide))]
  rfl
theorem bar_setBar_ne (g : Group) {i j : Nat} (b : Barrier) (h : i % 16 ≠ j % 16) : (g.setBar i b).bar j = g.bar j := by
  rw [bar, setBar, Vector.getElem?_setIfInBounds_ne h]
  rfl
theorem bar_congr {g n : Group} (h : n.bars = g.bars) (id : Nat) : n.bar id = g.bar id := by rw [bar, h, bar]

/-- A team's Huddle takes the count of a configuration (R280). -/
def configureBar (i exp : Nat) (g : Group) (b : Nat) : Group := g.setBar b ((g.bar b).setHuddle 0 i { exp := exp, ep := (g.bar b).ep })

theorem bar_foldl_configureBar_ne (i exp : Nat) {l : List Nat} {j : Nat} (h : ∀ b ∈ l, b % 16 ≠ j % 16) (g : Group) :
    (l.foldl (configureBar i exp) g).bar j = g.bar j := by
  induction l generalizing g with
  | nil => rfl
  | cons b l ih =>
    exact (ih (fun c hc => h c (List.mem_cons_of_mem _ hc)) _).trans (bar_setBar_ne _ _ (h b List.mem_cons_self))

/-- Configuring some barriers gives each its count, under the number of its configuration (R280). -/
theorem huddle_foldl_configureBar (i exp : Nat) {l : List Nat} (hn : l.Nodup) (hl : ∀ b ∈ l, b < 16) {j : Nat} (hj : j ∈ l) (g : Group) :
    ((l.foldl (configureBar i exp) g).bar j).huddle 0 i = { exp := exp, ep := (g.bar j).ep } := by
  induction l generalizing g with
  | nil => cases hj
  | cons b l ih =>
    have hne : ∀ c ∈ l, c % 16 ≠ b % 16 := fun c hc h => by
      rw [Nat.mod_eq_of_lt (hl c (List.mem_cons_of_mem _ hc)), Nat.mod_eq_of_lt (hl b List.mem_cons_self)] at h
      exact (List.nodup_cons.1 hn).1 (h ▸ hc)
    rcases List.mem_cons.1 hj with rfl | hj
    · rw [List.foldl_cons, bar_foldl_configureBar_ne i exp hne, configureBar, bar_setBar_same, Barrier.huddle_setHuddle_same]
    · rw [List.foldl_cons, ih (List.nodup_cons.1 hn).2 (fun c hc => hl c (List.mem_cons_of_mem _ hc)) hj, configureBar,
        bar_setBar_ne _ _ (hne j hj).symm]

end Group

namespace State

/-! #### Releases and breaks on their way down (R281, R286) -/

theorem still_barMsg (s : State) (g : Group) (frm dest : Agent) (src : Who) (typ : BitVec 6) (id lvl i what ep : Nat) :
    (s.barMsg g frm dest src typ id lvl i what ep).still = s.still := still_send ..
/-- From the package a release goes to the dies: that changes only what is on its way. -/
theorem still_barDown_package (s : State) (g : Group) (id i : Nat) (typ : BitVec 6) (phase : Bool) (ep : Nat) :
    (s.barDown g id 2 i typ phase ep).still = s.still := still_foldl (fun _ _ => still_barMsg ..) _ _
theorem grp_barDown_package (s : State) (g : Group) (id i : Nat) (typ : BitVec 6) (phase : Bool) (ep gi : Nat) :
    (s.barDown g id 2 i typ phase ep).grp gi = s.grp gi := grp_of_still (still_barDown_package ..) gi

/-! #### Arrivals at a Huddle (R281) -/

section
variable {s : State} {gi id lvl i what : Nat} {g : Group} (hg : s.grp gi = some g)
include hg

theorem barCheck_waits (h : ((g.bar id).huddle lvl i).arr < ((g.bar id).huddle lvl i).exp) : s.barCheck gi id lvl i = s := by
  simp only [barCheck, hg]
  exact if_pos (.inr (.inl h))

/-- The package's Huddle with the last arrival ends the phase (R281). -/
theorem barCheck_ends (hexp : ((g.bar id).huddle 2 i).exp ≠ 0) (harr : ((g.bar id).huddle 2 i).exp ≤ ((g.bar id).huddle 2 i).arr)
    (hsent : ((g.bar id).huddle 2 i).sent = false) : ∃ n, (s.barCheck gi id 2 i).grp gi = some n ∧
      (n.bar id).phase = !(g.bar id).phase ∧ (n.bar id).pkg.arr = 0 := by
  have hgo : ¬(((g.bar id).huddle 2 i).exp = 0 ∨ ((g.bar id).huddle 2 i).arr < ((g.bar id).huddle 2 i).exp ∨ ((g.bar id).huddle 2 i).sent = true) := by
    rintro (h | h | h)
    · exact hexp h
    · omega
    · exact Bool.false_ne_true (hsent.symm.trans h)
  simp only [barCheck, hg, if_neg hgo, if_true]
  refine ⟨_, (grp_barDown_package ..).trans (grp_modGroup_same hg _), ?_⟩
  rw [Group.bar_setBar_same]
  exact ⟨rfl, rfl⟩

/-- The group once an arrival has been counted at a Huddle. -/
abbrev withArrival (g : Group) (id lvl i : Nat) : Group :=
  g.setBar id ((g.bar id).setHuddle lvl i { (g.bar id).huddle lvl i with arr := ((g.bar id).huddle lvl i).arr + 1 })

theorem barCount_arrival (hw : what.testBit 0 = false) : ∃ u : State, u.grp gi = some (withArrival g id lvl i) ∧
    s.barCount gi id lvl i what = u.barCheck gi id lvl i := by
  refine ⟨_, grp_modGroup_same hg fun x => x.setBar id ((g.bar id).setHuddle lvl i { (g.bar id).huddle lvl i with
    arr := ((g.bar id).huddle lvl i).arr + 1 }), ?_⟩
  simp only [barCount, hg, hw, if_true]

end

/-! #### The bits of the members that a core holds (R279, R287) -/

section
variable {s : State} {g : Group}

theorem holds_iff (s : State) (g : Group) (q mem : Nat) (twin : Bool) : s.holds g q mem twin = true ↔
    ∃ r, (s.thread q).res = some r ∧ r.grp = g.idx ∧ r.name = g.name ∧ r.member.toNat = mem ∧ r.isTwin = twin ∧ r.late = false := by
  rw [holds]
  cases (s.thread q).res with
  | none => simp
  | some r => simp [and_assoc]
theorem holds_congr {t : State} {q : Nat} (h : (t.thread q).res = (s.thread q).res) (mem : Nat) (twin : Bool) :
    t.holds g q mem twin = s.holds g q mem twin := by rw [holds, h, holds]
/-- A thread holds one member, as itself or as its twin. -/
theorem holds_unique {q j k : Nat} {a b : Bool} (hj : s.holds g q j a = true) (hk : s.holds g q k b = true) : j = k ∧ a = b := by
  obtain ⟨r, hr, -, -, rfl, rfl, -⟩ := (holds_iff ..).1 hj
  obtain ⟨x, hx, -, -, rfl, rfl, -⟩ := (holds_iff ..).1 hk
  cases hr.symm.trans hx
  exact ⟨rfl, rfl⟩

/-- The thread at a seat that holds a member. -/
def seatKey (s : State) (g : Group) (mem : Nat) (x : Option Seat) (twin : Bool) : Option Nat :=
  x.bind fun x => if s.holds g x.key mem twin then some x.key else none
/-- The threads that hold a member and its twin. -/
def memberThreads (s : State) (g : Group) (mem : Nat) : List Nat :=
  (s.seatKey g mem (g.seat mem) false).toList ++ (s.seatKey g mem (g.twinSeat mem) true).toList

theorem holds_of_seatKey {mem q : Nat} {x : Option Seat} {twin : Bool} (h : s.seatKey g mem x twin = some q) : s.holds g q mem twin = true := by
  obtain ⟨y, -, hy⟩ := Option.bind_eq_some_iff.1 h
  split at hy
  next hh => cases hy; exact hh
  next => cases hy
theorem holds_of_mem_memberThreads {mem q : Nat} (h : q ∈ s.memberThreads g mem) : ∃ twin, s.holds g q mem twin = true := by
  rcases List.mem_append.1 h with h | h
  · exact ⟨false, holds_of_seatKey (Option.mem_toList.1 h)⟩
  · exact ⟨true, holds_of_seatKey (Option.mem_toList.1 h)⟩
theorem nodup_memberThreads (s : State) (g : Group) (mem : Nat) : (s.memberThreads g mem).Nodup := by
  rw [memberThreads, List.nodup_append]
  refine ⟨Option.toList_nodup _, Option.toList_nodup _, fun a ha b hb hab => ?_⟩
  subst hab
  exact Bool.false_ne_true (holds_unique (holds_of_seatKey (Option.mem_toList.1 ha)) (holds_of_seatKey (Option.mem_toList.1 hb))).2
theorem mem_memberThreads {mem q : Nat} (hs : (g.seat mem).map (fun x => x.key) = some q) (hh : s.holds g q mem false = true) :
    q ∈ s.memberThreads g mem := by
  obtain ⟨x, hx, rfl⟩ := Option.map_eq_some_iff.1 hs
  refine List.mem_append_left _ (Option.mem_toList.2 ?_)
  rw [seatKey, hx, Option.bind_some, if_pos hh]

/-- A change of the threads in a list without repetitions. -/
theorem thread_foldl_modThread (f : Thread → Thread) {l : List Nat} (hn : l.Nodup) (s : State) (q : Nat) :
    (l.foldl (fun (u : State) k => u.modThread k f) s).thread q = if q ∈ l then f (s.thread q) else s.thread q := by
  induction l generalizing s with
  | nil => rfl
  | cons k l ih =>
    obtain ⟨hk, hl⟩ := List.nodup_cons.1 hn
    rw [List.foldl_cons, ih hl, thread_modThread]
    by_cases hq : q = k
    · subst hq
      rw [if_neg hk, if_pos rfl, if_pos List.mem_cons_self]
    · simp only [List.mem_cons, hq, false_or, if_false]

/-- The bits of a member change where its threads hold it, and in its record where a thread has not loaded it. -/
theorem modMemberBits_eq (s : State) (g : Group) (mem : Nat) (f : BarBits → BarBits) : ∃ s1 : State, (s1 = s ∨ s1 = s.modMember g.idx mem fun m =>
    { m with bar := f m.bar }) ∧ s.modMemberBits g mem f =
      (s.memberThreads g mem).foldl (fun (u : State) k => u.modThread k fun t => { t with bar := f t.bar }) s1 := by
  refine ⟨_, ?_, rfl⟩
  split
  · exact .inr rfl
  · exact .inl rfl

theorem thread_modMemberBits (s : State) (g : Group) (mem : Nat) (f : BarBits → BarBits) (q : Nat) : (s.modMemberBits g mem f).thread q =
    if q ∈ s.memberThreads g mem then { s.thread q with bar := f (s.thread q).bar } else s.thread q := by
  obtain ⟨s1, hs1, he⟩ := s.modMemberBits_eq g mem f
  have hth : s1.thread q = s.thread q := by
    rcases hs1 with rfl | rfl
    · rfl
    · exact thread_congr (threads_modMember ..) q
  rw [he, thread_foldl_modThread _ (nodup_memberThreads ..), hth]

theorem res_modMemberBits (s : State) (g : Group) (mem : Nat) (f : BarBits → BarBits) (q : Nat) :
    ((s.modMemberBits g mem f).thread q).res = (s.thread q).res := by
  rw [thread_modMemberBits]
  split <;> rfl

/-- Changing the bits of other members leaves a thread as it is. -/
theorem thread_foldl_modMemberBits_ne {q j : Nat} (f : Nat → BarBits → BarBits) {l : List Nat} (hl : j ∉ l) {s : State}
    (hh : s.holds g q j false = true) : (l.foldl (fun u k => u.modMemberBits g k (f k)) s).thread q = s.thread q := by
  induction l generalizing s with
  | nil => rfl
  | cons k l ih =>
    obtain ⟨hjk, hjl⟩ := not_or.1 (mt List.mem_cons.2 hl)
    have hk : q ∉ s.memberThreads g k := fun hk => by
      obtain ⟨twin, hkk⟩ := holds_of_mem_memberThreads hk
      exact hjk (holds_unique hh hkk).1
    have hth : (s.modMemberBits g k (f k)).thread q = s.thread q := by rw [thread_modMemberBits, if_neg hk]
    exact (ih hjl ((holds_congr (res_modMemberBits ..) _ _).trans hh)).trans hth

/-- Changing the bits of some members changes those of a thread once, by the member that it holds (R280, R281, R286). -/
theorem bar_foldl_modMemberBits {q j : Nat} (f : Nat → BarBits → BarBits) {l : List Nat} (hn : l.Nodup) (hj : j ∈ l) {s : State}
    (hs : (g.seat j).map (fun x => x.key) = some q) (hh : s.holds g q j false = true) :
    ((l.foldl (fun u k => u.modMemberBits g k (f k)) s).thread q).bar = f j (s.thread q).bar := by
  induction l generalizing s with
  | nil => cases hj
  | cons k l ih =>
    obtain ⟨hk, hl⟩ := List.nodup_cons.1 hn
    have hh' : (s.modMemberBits g k (f k)).holds g q j false = true := (holds_congr (res_modMemberBits ..) _ _).trans hh
    rcases List.mem_cons.1 hj with rfl | hjl
    · rw [List.foldl_cons, thread_foldl_modMemberBits_ne f hk hh', thread_modMemberBits, if_pos (mem_memberThreads hs hh)]
    · have hjk : j ≠ k := fun h => hk (h ▸ hjl)
      have hq : q ∉ s.memberThreads g k := fun hq => by
        obtain ⟨twin, hkk⟩ := holds_of_mem_memberThreads hq
        exact hjk (holds_unique hh hkk).1
      rw [List.foldl_cons, ih hl hjl hh', thread_modMemberBits, if_neg hq]

/-- The members' bits are no part of a group's barriers. -/
theorem bars_modMemberBits {x : Group} {gi : Nat} (hx : s.grp gi = some x) (mem : Nat) (f : BarBits → BarBits) :
    ∃ n, (s.modMemberBits g mem f).grp gi = some n ∧ n.bars = x.bars := by
  obtain ⟨s1, hs1, he⟩ := s.modMemberBits_eq g mem f
  have hgrp : (s.modMemberBits g mem f).grp gi = s1.grp gi := by
    rw [he]
    exact foldl_keeps (fun u : State => u.grp gi) (op := fun u k => u.modThread k fun t => { t with bar := f t.bar }) (fun _ _ => rfl) _ _
  rw [hgrp]
  rcases hs1 with rfl | rfl
  · exact ⟨x, hx, rfl⟩
  · by_cases hi : gi = g.idx
    · subst hi
      exact ⟨_, grp_modGroup_same hx _, rfl⟩
    · refine ⟨x, ?_, rfl⟩
      rw [← hx, grp, modMember, modGroup]
      split
      · exact Map.find_put_ne _ _ hi
      · rfl
theorem bars_foldl_modMemberBits {x : Group} {gi : Nat} (f : Nat → BarBits → BarBits) (l : List Nat) {s : State} (hx : s.grp gi = some x) :
    ∃ n, (l.foldl (fun u k => u.modMemberBits g k (f k)) s).grp gi = some n ∧ n.bars = x.bars := by
  induction l generalizing s x with
  | nil => exact ⟨x, hx, rfl⟩
  | cons k l ih =>
    obtain ⟨y, hy, hyx⟩ := bars_modMemberBits (g := g) hx k (f k)
    obtain ⟨n, hn, hny⟩ := ih hy
    exact ⟨n, hn, hny.trans hyx⟩

theorem nodup_membersOf (g : Group) (i : Nat) : (membersOf g i).Nodup := by
  unfold membersOf
  split
  · exact List.nodup_nil
  · exact (List.nodup_range.map fun a b h => Nat.add_left_cancel h).filter _

end

/-- What a release or a break at a core does to the bits of a member that a thread of the core holds (R281, R286). -/
theorem bar_barAtCore {v : State} {g : Group} {site q j : Nat} {m : Msg} (hj : j ∈ membersOf g m.w[3].toNat)
    (hs : (g.seat j).map (fun x => x.key) = some q) (hh : v.holds g q j false = true) (hq : q / 4 = site) :
    ((v.barAtCore g site m).thread q).bar = barEnds m.typ (m.spec.toNat % 16) (m.w[4] != 0) (v.thread q).bar := by
  refine bar_foldl_modMemberBits (fun _ => barEnds m.typ (m.spec.toNat % 16) (m.w[4] != 0)) ((nodup_membersOf ..).filter _)
    (List.mem_filter.2 ⟨hj, ?_⟩) hs hh
  obtain ⟨x, hx, hxq⟩ := Option.map_eq_some_iff.1 hs
  simp only [hx, hxq, hq, beq_self_eq_true, Bool.true_or]

end State

/-! #### The bits of a release and of a break -/

theorem getLsbD_one_shiftLeft (id j : Nat) (h : j < 16) : (1#16 <<< id).getLsbD j = decide (j = id) := by
  rw [BitVec.getLsbD_shiftLeft, BitVec.getLsbD_one]
  simp only [h, decide_true, Bool.true_and]
  by_cases hj : j < id
  · simp [hj]
    omega
  · simp [hj]
    omega

namespace State

section
variable {b : BarBits} {id : Nat} {phase : Bool} (hid : id < 16)
include hid

theorem released_due (h : b.part.getLsbD id = true ∧ b.phase.getLsbD id ≠ phase) :
    (released id phase b).arrived.getLsbD id = false ∧ (released id phase b).phase.getLsbD id = !b.phase.getLsbD id := by
  rw [released, if_pos h]
  simp [hid]
theorem broke_broken : (broke id b).broken.getLsbD id = true := by
  simp [broke, getLsbD_one_shiftLeft id id hid]

end

theorem released_same {b : BarBits} {id : Nat} {phase : Bool} (h : ¬(b.part.getLsbD id = true ∧ b.phase.getLsbD id ≠ phase)) :
    released id phase b = b := if_neg h

end State

/-! #### The messages as events -/

open State

section
variable {s : State} {k : Nat} {m : Msg} {g : Group} (hd : s.deliver k = some m) (hc : m.cls = .rsp) (ho : isOutAgent m.dest = false)
include hd hc ho

variable (hg : s.groupOf (grpOf m.w[0]) = some g)
include hg

theorem execBararrive_counts (ht : m.typ = MT.bararrive) (hn : barNow g m = true) : execBararrive k s =
    .next ((s.dropMsg k).barCount g.idx (m.spec.toNat % 16) m.w[2].toNat m.w[3].toNat m.w[4].toNat) := by
  simp only [execBararrive, answer_of hd ht hc ho, barGroup, hg, hn, if_true]

/-- A release or a break at a core that takes part (R281, R286). -/
theorem execBarrelease_core {site : Nat} (ht : m.typ = MT.barrelease) (hs : m.dest = .core site) (hp : s.present site = true)
    (hk : s.tenantOk site m = true) (hn : barNow g m = true) :
    execBarrelease k s = .next (((s.dropMsg k).wake site).barAtCore g site m) := by
  have hp' := (present_of_still (still_dropMsg s k) site).trans hp
  have hk' := (tenantOk_of_still (still_dropMsg s k) site m).trans hk
  simp only [execBarrelease, answer_of hd ht hc ho, barGroup, hg, hs, delivered_takes hp' hk', hn, if_true]
theorem execBarbreak_core {site : Nat} (ht : m.typ = MT.barbreak) (hs : m.dest = .core site) (hp : s.present site = true)
    (hk : s.tenantOk site m = true) (hn : barNow g m = true) :
    execBarbreak k s = .next (((s.dropMsg k).wake site).barAtCore g site m) := by
  have hp' := (present_of_still (still_dropMsg s k) site).trans hp
  have hk' := (tenantOk_of_still (still_dropMsg s k) site m).trans hk
  simp only [execBarbreak, answer_of hd ht hc ho, barGroup, hg, hs, delivered_takes hp' hk', hn, if_true]

/-- A message ahead of its configuration waits (R280, log 48). -/
theorem execBarrelease_early (ht : m.typ = MT.barrelease) (hs : ∀ p, m.dest ≠ .core p) (he : barEarly g m = true) :
    execBarrelease k s = .next s := by
  simp only [execBarrelease, answer_of hd ht hc ho, barGroup, hg, he, if_true]
theorem execBarbreak_early (ht : m.typ = MT.barbreak) (hs : ∀ p, m.dest ≠ .core p) (he : barEarly g m = true) :
    execBarbreak k s = .next s := by
  simp only [execBarbreak, answer_of hd ht hc ho, barGroup, hg, he, if_true]

/-- A timeout at the root breaks the barrier (R286). -/
theorem execBarbreak_root (ht : m.typ = MT.barbreak) (hs : m.dest = .root g.idx) (hn : barNow g m = true) (h2 : m.w[2] = 2)
    (hgrp : (s.dropMsg k).grp g.idx = some g) : ∃ t n, execBarbreak k s = .next t ∧ t.grp g.idx = some n ∧
      (n.bar (m.spec.toNat % 16)).broken = true := by
  have he : barEarly g m = false := by
    rw [barEarly, h2]
    rfl
  have hl : m.w[2].toNat = 2 := by rw [h2]; rfl
  simp only [execBarbreak, answer_of hd ht hc ho, barGroup, hg, hs, he, hn, hl, Bool.false_eq_true, Bool.true_eq_false, if_false, if_true]
  split
  next hb => exact ⟨_, g, rfl, hgrp, hb⟩
  next =>
    refine ⟨_, _, rfl, (grp_barDown_package ..).trans (grp_modGroup_same hgrp _), ?_⟩
    rw [Group.bar_setBar_same]

end

/-- A configuration at a team's Huddle: its count, and the bits of the members that its cores hold (R280). -/
theorem execBarconfig_configures {s : State} {k site : Nat} {m : Msg} {g : Group} (hd : s.deliver k = some m) (ht : m.typ = MT.barconfig)
    (hc : m.cls = .req) (hs : m.dest = .router site) (hg : s.groupOf (grpOf m.w[0]) = some g) (hgrp : (s.dropMsg k).grp g.idx = some g) :
    let i := m.w[3].toNat
    let mask : BitVec 16 := m.pay.extractLsb' 0 16
    let teams : BitVec 64 := m.pay.extractLsb' 64 64
    ∃ t n, execBarconfig k s = .next t ∧ t.grp g.idx = some n ∧
      (∀ j, j < 16 → mask.getLsbD j = true → (n.bar j).huddle 0 i = { exp := (m.pay.extractLsb' 128 16 : BitVec 16).toNat, ep := (g.bar j).ep }) ∧
      ∀ q j, j ∈ membersOf g i → (g.seat j).map (fun x => x.key) = some q → s.holds g q j false = true →
        (t.thread q).bar = (s.thread q).bar.configured mask (teams.getLsbD i && (g.members[j]?.map fun r => r.st == .active) == some true) := by
  intro i mask teams
  have hr : s.request k MT.barconfig = some m := by
    simp only [request, hd, ht, hc, hs, isOutAgent, reduceCtorEq, ne_eq, not_false_eq_true, and_self, if_true]
  have hu : ((s.dropMsg k).acceptMsg m).still = s.still := (still_acceptMsg ..).trans (still_dropMsg ..)
  have hgu : ((s.dropMsg k).acceptMsg m).grp g.idx = some g := (grp_of_still (still_acceptMsg ..) _).trans hgrp
  let bars := (List.range 16).filter fun b => mask.getLsbD b
  have hg1 := grp_modGroup_same hgu fun x => bars.foldl (Group.configureBar i (m.pay.extractLsb' 128 16 : BitVec 16).toNat) x
  let bits := fun (j : Nat) (b : BarBits) =>
    b.configured mask (teams.getLsbD i && (g.members[j]?.map fun r => r.st == .active) == some true)
  obtain ⟨n, hn, hbars⟩ := bars_foldl_modMemberBits (g := g) bits (membersOf g i) hg1
  refine ⟨_, n, ?_, (grp_of_still (still_send _ (statusMsg m 0)) _).trans hn, fun j hj hm => ?_, fun q j hj hseat hh => ?_⟩
  · simp only [execBarconfig, hr, hs, barGroup, hg]
    rfl
  · rw [Group.bar_congr hbars]
    exact Group.huddle_foldl_configureBar _ _ (List.nodup_range.filter _) (fun b hb => List.mem_range.1 (List.mem_filter.1 hb).1)
      (List.mem_filter.2 ⟨List.mem_range.2 hj, hm⟩) g
  · have hth : ∀ f, (((s.dropMsg k).acceptMsg m).modGroup g.idx f).thread q = s.thread q := fun f =>
      (thread_congr (threads_modGroup ..) q).trans (thread_of_still hu q)
    rw [thread_of_still (still_send _ (statusMsg m 0)) q]
    exact (bar_foldl_modMemberBits bits (nodup_membersOf ..) hj hseat ((holds_congr (congrArg Thread.res (hth _)) _ _).trans hh)).trans
      (congrArg (fun t : Thread => bits j t.bar) (hth _))

/-- Settles O38: an arrival by the count of its Huddle; a release, a break and a configuration by the bits of the one member that a thread holds. -/
theorem barrierMessages : Obligations.BarrierMessages := by
  intro s k site thr m g r u id i h key mine atCore here
  have hid : id < 16 := Nat.mod_lt _ (by decide)
  have hwake : ∀ q, ((s.dropMsg k).wake site).thread q = s.thread q := fun q => thread_of_still (still_dropMsg s k) q
  have hbit : (m.w[4] != 0) = decide (m.w[4] ≠ 0) := by
    rw [Bool.eq_iff_iff, bne_iff_ne, decide_eq_true_iff]
  -- the bits of a member at the core of a release or a break
  have hcore : ∀ q j, here q j → q / 4 = site → ((((s.dropMsg k).wake site).barAtCore g site m).thread q).bar =
      barEnds m.typ id (m.w[4] != 0) (s.thread q).bar := fun q j ⟨hj, hseat, hh⟩ hq => by
    rw [bar_barAtCore hj hseat ((holds_congr (congrArg Thread.res (hwake q)) _ _).trans hh) hq, hwake]
  have heven : m.w[4].toNat % 2 = 0 → m.w[4].toNat.testBit 0 = false := fun h => by
    rw [Nat.testBit_zero, h]
    rfl
  refine ⟨fun ⟨hd, hc, ho, hg, hu, hn⟩ ht hw hlt => ?_, fun ⟨hd, hc, ho, hg, hu, hn⟩ ht hw h2 hlast hsent => ?_,
    fun ⟨⟨hd, hc, ho, hg, hu, hn⟩, hs, hp, hk⟩ ht => ?_, ?_,
    fun ⟨hd, hc, ho, hg, hu, hn⟩ ht hs h2 => execBarbreak_root hd hc ho hg ht hs hn h2 hu,
    fun ⟨⟨hd, hc, ho, hg, hu, hn⟩, hs, hp, hk⟩ ht => ?_, fun hd hc ho hg hs h2 hep => ?_, fun hd ht hc hs hg hgrp => ?_⟩
  · obtain ⟨v, hv, hcount⟩ := barCount_arrival (id := id) (lvl := m.w[2].toNat) (i := i) hu (heven hw)
    have hwait : ((withArrival g id m.w[2].toNat i).bar id).huddle m.w[2].toNat i = { h with arr := h.arr + 1 } := by
      rw [Group.bar_setBar_same, Barrier.huddle_setHuddle_same]
    refine ⟨v, (execBararrive_counts hd hc ho hg ht hn).trans (congrArg _ (hcount.trans (barCheck_waits hv ?_))), hv⟩
    rw [hwait]
    exact hlt
  · have hl : m.w[2].toNat = 2 := by rw [h2]; rfl
    obtain ⟨v, hv, hcount⟩ := barCount_arrival (id := id) (lvl := 2) (i := i) hu (heven hw)
    have hfull : ((withArrival g id 2 i).bar id).huddle 2 i = { h with arr := h.arr + 1 } := by
      rw [Group.bar_setBar_same, Barrier.huddle_setHuddle_same, ← hl]
    obtain ⟨n, hn2, hphase, harr⟩ := barCheck_ends hv (by rw [hfull]; exact hlast ▸ Nat.succ_ne_zero _) (by rw [hfull]; exact hlast.ge)
      (by rw [hfull]; exact hsent)
    refine ⟨_, n, (execBararrive_counts hd hc ho hg ht hn).trans (congrArg _ (Eq.trans ?_ hcount)), hn2, hphase.trans ?_, harr⟩
    · rw [hl]
    rw [Group.bar_setBar_same]
    exact congrArg _ (Barrier.phase_setHuddle ..)
  · refine ⟨_, execBarrelease_core hd hc ho hg ht hs hp hk hn, fun q j hhere hq => ?_⟩
    rw [hcore q j hhere hq, ht, ← hbit]
    exact ⟨released_due hid, released_same⟩
  · intro t0 hsince hres hpark hmo htimed hdue on harr hbr hgrp
    show execBarrierTimeout site thr s = _
    have hgo : (s.thread key).park = .barrier ∧ (s.thread key).ctl.bartmo ≠ 0 ∧ (s.thread key).bar.timedOut = false ∧
        (s.thread key).bar.arrived.getLsbD on = true ∧ (s.thread key).bar.broken.getLsbD on = false ∧
        (s.thread key).ctl.bartmo.toNat ≤ ((s.thread key).bar.waited + (s.time - t0)).toNat := ⟨hpark, hmo, htimed, harr, hbr, hdue⟩
    simp only [execBarrierTimeout, show keyAt site thr = key from rfl, hsince, hres]
    refine (if_pos hgo).trans ?_
    rw [hgrp]
  · refine ⟨_, execBarbreak_core hd hc ho hg ht hs hp hk hn, fun q j hhere hq => ?_⟩
    rw [hcore q j hhere hq, ht]
    exact broke_broken hid
  · have he : barEarly g m = true := by
      rw [barEarly, h2, decide_eq_true hep]
      rfl
    exact ⟨fun ht => execBarrelease_early hd hc ho hg ht hs he, fun ht => execBarbreak_early hd hc ho hg ht hs he⟩
  · obtain ⟨t, n, hx, hn, hbars, hbits⟩ := execBarconfig_configures hd ht hc hs hg hgrp
    exact ⟨t, n, hx, hn, hbars, fun q j ⟨hj, hseat, hh⟩ => hbits q j hj hseat hh⟩

end Sys2Proof.Machine
end

section
/-! ### The state at reset (O59) -/

namespace Sys2Proof.Machine

namespace State

/-- At reset no thread and no core is listed: each reads as it is at reset (R308). -/
theorem thread_reset (k : Nat) : reset.thread k = initThread k := rfl
theorem core_reset (c : Nat) : reset.core c = {} := rfl

section
variable (key : Nat)

theorem getX_initThread (x : XReg) : (initThread key).getX x = 0 := by
  rw [Thread.getX]
  split
  · rfl
  · exact Vector.getElem_replicate ..
theorem getV_initThread (v : VReg) : (initThread key).getV v = 0 := Vector.getElem_replicate ..
theorem getM_initThread {m : MReg} (h : m ≠ 0) : (initThread key).getM m = 0 := by
  rw [Thread.getM, if_neg h]
  exact Vector.getElem_replicate ..

end

theorem memWf_reset : reset.memWf := ⟨Memory.wf_empty _, Memory.wf_empty _, fun _ => Memory.wf_empty _⟩

end State

/-- Settles O59: every thread and every core stands at its reset value. -/
theorem resetState : Obligations.ResetState := by
  refine ⟨State.memWf_reset, rfl, rfl, fun site a => ⟨rfl, rfl, rfl⟩, fun key => ?_⟩
  rw [State.thread_reset]
  exact ⟨rfl, rfl, rfl, State.getX_initThread key, State.getV_initThread key, fun _ h => State.getM_initThread key h,
    rfl, rfl, rfl, rfl, rfl, rfl, rfl, rfl⟩

end Sys2Proof.Machine
end

section
/-! ### Caches, keys, map tables, core retirement and checkpoints by instruction (O40) -/

namespace Sys2Proof.Machine

namespace State

/-! #### Translation caches (R331) -/

section
variable {u : State} {s t : XReg} (hk : (u.rx t).toNat < 3 * 4096)
include hk

/-- The kind of a TLBINV that names one. -/
theorem tlbinv_kind : (u.rx t).toNat / 4096 % 4 = (u.rx t).toNat / 4096 := Nat.mod_eq_of_lt (by omega)
theorem tlbinv_named : ¬((u.rx t).toNat / 16384 ≠ 0 ∨ (u.rx t).toNat / 4096 = 3) := by omega

omit hk in
theorem tlbinv_unnamed (h : 3 * 4096 ≤ (u.rx t).toNat) : (u.rx t).toNat / 16384 ≠ 0 ∨ (u.rx t).toNat / 4096 % 4 = 3 := by omega

end

/-! #### Key slots (R317) -/

/-- The fields of the word of KEYSLOT: operation and slot. -/
theorem keyslot_fields {w op n : Nat} (h : w = 256 * op + n) (hop : op < 3) (h0 : 0 < n) (hn : n < 64) :
    w % 64 = n ∧ w / 256 % 4 = op ∧ ¬(n = 0 ∨ op = 3 ∨ w / 1024 ≠ 0 ∨ w / 64 % 4 ≠ 0) := by omega

theorem slotOf_modSlot_same (u : State) (n : Nat) (f : CtxSlot → CtxSlot) : (u.modSlot n f).slotOf n = f (u.slotOf n) := Map.get_put_same ..

/-- The answer of KEYSLOT on the key of its slot. -/
abbrev keyHeld (u : State) (n : Nat) : Word := if (u.slotOf n).key.isSome then 0x100 else 0

/-- What KEYSLOT does to the key of a slot. -/
def keyChanged (op n : Nat) (u : State) : State :=
  if op = 1 ∧ ((u.slotOf n).st == .free) = true then { u with keyCtr := u.keyCtr + 1 }.modSlot n fun c => { c with key := some (u.keyCtr + 1) }
  else if op = 2 ∧ ((u.slotOf n).st == .free) = true then u.modSlot n fun c => { c with key := none } else u
/-- What KEYSLOT does with its register's word. -/
def keyslotBody (d s : XReg) (u : State) : SlotRes :=
  let w := (u.rx s).toNat
  if w % 64 = 0 ∨ w / 256 % 4 = 3 ∨ w / 1024 ≠ 0 ∨ w / 64 % 4 ≠ 0 then u.operand
  else .done ((keyChanged (w / 256 % 4) (w % 64) u).wx d
    ((if w / 256 % 4 ≠ 0 ∧ ((u.slotOf (w % 64)).st == .free) = false then 1 else 0) ||| (keyChanged (w / 256 % 4) (w % 64) u).keyHeld (w % 64)))
theorem keyslot_eq (i : Instr) (d s : XReg) (v : State) : keyslot i d s v = slot i (keyslotBody d s) v := rfl

theorem keyslotBody_malformed {u : State} {d s : XReg}
    (h : (u.rx s).toNat % 64 = 0 ∨ 3 * 256 ≤ (u.rx s).toNat ∨ 64 ≤ (u.rx s).toNat % 256) : keyslotBody d s u = u.operand := if_pos (by omega)

section
variable {u : State} {d s : XReg} {n : Nat} (h0 : 0 < n) (hn : n < 64)
include h0 hn

theorem keyslotBody_named {op : Nat} (h : (u.rx s).toNat = 256 * op + n) (hop : op < 3) : keyslotBody d s u =
    .done ((keyChanged op n u).wx d ((if op ≠ 0 ∧ ((u.slotOf n).st == .free) = false then 1 else 0) ||| (keyChanged op n u).keyHeld n)) := by
  obtain ⟨hslot, hfield, hok⟩ := keyslot_fields h hop h0 hn
  simp only [keyslotBody, hslot, hfield, if_neg hok]
theorem keyslotBody_stat (h : (u.rx s).toNat = n) : keyslotBody d s u = .done (u.wx d (u.keyHeld n)) := by
  rw [keyslotBody_named h0 hn (op := 0) (by omega) (by decide)]
  simp [keyChanged]
theorem keyslotBody_gen (h : (u.rx s).toNat = 256 + n) (hf : (u.slotOf n).st = .free) : keyslotBody d s u =
    .done (({ u with keyCtr := u.keyCtr + 1 }.modSlot n fun c => { c with key := some (u.keyCtr + 1) }).wx d 0x100) := by
  rw [keyslotBody_named h0 hn (op := 1) h (by decide)]
  simp [keyChanged, keyHeld, hf, slotOf_modSlot_same]
theorem keyslotBody_erase (h : (u.rx s).toNat = 512 + n) (hf : (u.slotOf n).st = .free) : keyslotBody d s u =
    .done ((u.modSlot n fun c => { c with key := none }).wx d 0) := by
  rw [keyslotBody_named h0 hn (op := 2) h (by decide)]
  simp [keyChanged, keyHeld, hf, slotOf_modSlot_same]
/-- A slot that is not FREE keeps its key. -/
theorem keyslotBody_busy (h : (u.rx s).toNat = 256 + n ∨ (u.rx s).toNat = 512 + n) (hf : (u.slotOf n).st ≠ .free) :
    keyslotBody d s u = .done (u.wx d (1 ||| u.keyHeld n)) := by
  rcases h with h | h
  · rw [keyslotBody_named h0 hn (op := 1) h (by decide)]
    simp [keyChanged, hf]
  · rw [keyslotBody_named h0 hn (op := 2) h (by decide)]
    simp [keyChanged, hf]

end

/-! #### Map tables (R358) -/

/-- The status that MAPSET writes: its own, and the state that the maps have come to. -/
def mapTold (d : XReg) (ten : BitVec 12) (u v : State) (st : Nat) : State :=
  v.wx d (BitVec.ofNat 64 (st + (if u.hasContext ten then
    (if (v.tmap ten).active then 16 else 0) + (if (v.tmap ten).st = .changing then 32 else 0) + (if (v.tmap ten).st = .loaded then 64 else 0) else 0)))

/-- What LOAD does to the maps. -/
def loadMaps (u : State) (ten : BitVec 12) (table : Nat) : State :=
  u.modMaps ten fun m => if m.active then { m with st := .loaded, ver0 := tableMap table } else { m with st := .loaded, ver1 := tableMap table }

section
variable {u : State} {d : XReg} {ten : BitVec 12} {x2 : Word} {table : Nat}

theorem mapsetOn_eq (op : Nat) : u.mapsetOn d op ten x2 table =
    if u.src.asked && op == 2 then if (u.taken ten).any fun n => u.src.xlIds.contains n then u.hold else .done (mapTold d ten u u 0)
    else if u.hasContext ten = false then .done (mapTold d ten u u 2)
    else if op = 1 ∧ (u.tmap ten).st ≠ .changing then .done (mapTold d ten u (u.loadMaps ten table) 0)
    else if op = 2 ∧ (u.tmap ten).st = .loaded then
      if (u.taken ten).isEmpty = false then .wait fun s => (s.switchMaps ten).modCur fun x => { x with asked := true, xlIds := s.taken ten }
      else .done (mapTold d ten u (u.switchMaps ten) 0)
    else if op = 3 ∧ (u.tmap ten).st = .changing ∧ u.gains (u.tmap ten) (x2.toNat % 2048) = true then
      .done (mapTold d ten u (u.openId ten (x2.toNat % 2048)) 0)
    else if op = 0 then .done (mapTold d ten u u 0)
    else .done (mapTold d ten u u 1) := rfl
theorem mapsetOn_none {op : Nat} (hop : op ≠ 2) (hc : u.hasContext ten = false) : u.mapsetOn d op ten x2 table = .done (mapTold d ten u u 2) := by
  simp only [mapsetOn_eq, beq_false_of_ne hop, Bool.and_false, Bool.false_eq_true, if_false, hc, if_true]
/-- A SWITCH that has begun ends once what the homes had taken before it is performed (log 70). -/
theorem mapsetOn_switched (ha : u.src.asked = true) (hd : ∀ n ∈ u.taken ten, n ∉ u.src.xlIds) :
    u.mapsetOn d 2 ten x2 table = .done (mapTold d ten u u 0) := by
  have hn : ¬((u.taken ten).any fun n => u.src.xlIds.contains n) = true := fun h => by
    obtain ⟨n, hn, hx⟩ := List.any_eq_true.1 h
    exact hd n hn (List.contains_iff_mem.1 hx)
  simp only [mapsetOn_eq, ha, beq_self_eq_true, Bool.and_self, if_true, if_neg hn]

variable (hc : u.hasContext ten = true)
include hc

theorem mapsetOn_stat : u.mapsetOn d 0 ten x2 table = .done (mapTold d ten u u 0) := by
  simp [mapsetOn_eq, hc]
theorem mapsetOn_load (hs : (u.tmap ten).st ≠ .changing) :
    u.mapsetOn d 1 ten x2 table = .done (mapTold d ten u (u.loadMaps ten table) 0) := by
  simp [mapsetOn_eq, hc, hs]
theorem mapsetOn_open (hs : (u.tmap ten).st = .changing) (hg : u.gains (u.tmap ten) (x2.toNat % 2048) = true) :
    u.mapsetOn d 3 ten x2 table = .done (mapTold d ten u (u.openId ten (x2.toNat % 2048)) 0) := by
  simp [mapsetOn_eq, hc, hs, hg]

variable (ha : u.src.asked = false)
include ha

theorem mapsetOn_unloaded (hs : (u.tmap ten).st ≠ .loaded) : u.mapsetOn d 2 ten x2 table = .done (mapTold d ten u u 1) := by
  simp [mapsetOn_eq, ha, hc, hs]
theorem mapsetOn_switch (hs : (u.tmap ten).st = .loaded) (he : (u.taken ten).isEmpty = true) :
    u.mapsetOn d 2 ten x2 table = .done (mapTold d ten u (u.switchMaps ten) 0) := by
  simp [mapsetOn_eq, ha, hc, hs, List.isEmpty_iff.1 he]
theorem mapsetOn_waits (hs : (u.tmap ten).st = .loaded) (he : (u.taken ten).isEmpty = false) :
    u.mapsetOn d 2 ten x2 table = .wait fun s => (s.switchMaps ten).modCur fun x => { x with asked := true, xlIds := s.taken ten } := by
  simp only [mapsetOn_eq, ha, hc, hs, he, Bool.false_and, Bool.false_eq_true, Bool.true_eq_false, if_false, OfNat.ofNat_ne_one, false_and, and_self, if_true]

end

/-- The operation of MAPSET stands above its tenant. -/
theorem mapset_op {w op : Nat} (h : w / 4096 = op) (hop : op < 4) : w / 4096 % 4 = op ∧ ¬w / 16384 ≠ 0 := by omega

section
variable {u : State} {d s t : XReg}

/-- A table that the core can read and that breaks no rule, or breaks one. -/
abbrev TableAt (u : State) (t : XReg) : Prop := (u.rx t).toNat % 64 = 0 ∧ (u.rx t).toNat + 4096 ≤ 0x60000 ∧ u.acqPending = false ∧
  u.ownPending u.ctx.key u.nextId [((u.rx t).toNat, 4096)] = false ∧ poisoned u.myCore.mem.pois (u.rx t).toNat 4096 = false

/-- What MAPSET does with its registers' words. -/
def mapsetBody (d s t : XReg) (u : State) : SlotRes :=
  if (u.rx s).toNat / 16384 ≠ 0 then u.operand
  else if (u.rx s).toNat / 4096 % 4 = 1 then
    u.readBlock (u.rx t) 64 4096 fun x =>
      if tableBad x then u.operand else u.mapsetOn d ((u.rx s).toNat / 4096 % 4) ((u.rx s).setWidth 12) (u.rx t) x
  else u.mapsetOn d ((u.rx s).toNat / 4096 % 4) ((u.rx s).setWidth 12) (u.rx t) 0
theorem mapset_eq (i : Instr) (d s t : XReg) (v : State) : mapset i d s t v = slot i (mapsetBody d s t) v := rfl

theorem mapsetBody_malformed (h : 4 * 4096 ≤ (u.rx s).toNat) : mapsetBody d s t u = u.operand := if_pos (by omega)
theorem mapsetBody_reads {op : Nat} (h : (u.rx s).toNat / 4096 = op) (hop : op < 4) (h1 : op ≠ 1) :
    mapsetBody d s t u = u.mapsetOn d op ((u.rx s).setWidth 12) (u.rx t) 0 := by
  obtain ⟨hfield, hok⟩ := mapset_op h hop
  rw [mapsetBody, if_neg hok, hfield, if_neg h1]
theorem mapsetBody_load (h : (u.rx s).toNat / 4096 = 1) (hb : u.TableAt t) : mapsetBody d s t u =
    if tableBad (u.myCore.mem.bytes.load (u.rx t).toNat 4096) then u.operand
    else u.mapsetOn d 1 ((u.rx s).setWidth 12) (u.rx t) (u.myCore.mem.bytes.load (u.rx t).toNat 4096) := by
  obtain ⟨hfield, hok⟩ := mapset_op h (by decide)
  obtain ⟨hal, hin, hacq, hown, hp⟩ := hb
  rw [mapsetBody, if_neg hok, hfield, if_pos rfl, readBlock_reads _ hal hin hacq hown hp]

end

/-! #### Core retirement and checkpoints (R335, R338, R371) -/

section
variable {u : State} {old : Nat}

/-- A core can be retired for a spare of its die that takes no other place (R371). -/
abbrev Replaceable (u : State) (a sp old : Nat) : Prop := a < 4000 ∧ sp < 4096 ∧ u.siteOf u.site a = some old ∧ dieOf sp = dieOf old ∧
  u.active sp = true ∧ idsNaming sp u.l2p.base = [] ∧ ∀ e ∈ u.l2p.upd, ¬(e.val.getLsbD 12 = true ∧ e.val.toNat % 4096 = sp)

theorem replaceable_passes {a sp : Nat} (h : u.Replaceable a sp old) : ¬(4000 ≤ a ∨ dieOf sp ≠ dieOf old ∨ u.active sp = false ∨
    (!(idsNaming sp u.l2p.base).isEmpty || u.l2p.upd.any fun x => x.val.getLsbD 12 && x.val.toNat % 4096 == sp) = true) := by
  obtain ⟨ha, -, -, hdie, hact, hids, hupd⟩ := h
  rintro (h | h | h | h)
  · exact Nat.not_le.2 ha h
  · exact h hdie
  · exact ne_false_of_eq_true hact h
  · rw [hids] at h
    obtain ⟨e, he, hx⟩ := List.any_eq_true.1 h
    exact hupd e he ((Bool.and_eq_true_iff.1 hx).imp_right eq_of_beq)

end

end State

open State

theorem exec_mapset {i : Instr} {d s t : XReg} (hi : i = .mapsetStat d s t ∨ i = .mapsetLoad d s t ∨ i = .mapsetSwitch d s t ∨ i = .mapsetOpen d s t)
    (v : State) : exec i v = slot i (mapsetBody d s t) v := by
  rcases hi with rfl | rfl | rfl | rfl
  · exact exec_mapsetStat d s t v
  · exact exec_mapsetLoad d s t v
  · exact exec_mapsetSwitch d s t v
  · exact exec_mapsetOpen d s t v
theorem exec_keyslot {i : Instr} {d s : XReg} (hi : i = .keyslotStat d s ∨ i = .keyslotGen d s ∨ i = .keyslotErase d s) (v : State) :
    exec i v = slot i (keyslotBody d s) v := by
  rcases hi with rfl | rfl | rfl
  · exact exec_keyslotStat d s v
  · exact exec_keyslotGen d s v
  · exact exec_keyslotErase d s v

theorem cacheKeyMap : Part.CacheKeyMap := by
  intro d s t x y word pick last ten map tell table block through calm
  have hcalm : ∀ {u : State} (k : SlotRes), calm u → u.fence .rel k = k := fun k ⟨_, hq, herr, hlate, hdr⟩ =>
    fence_clear hq (pendingErrors_nil herr hlate true) (.inr hdr) k
  refine ⟨doesIf_of (exec_tlbinv s t) fun u ⟨hc, ha, hw⟩ => ?_, fun v hcl hc ha hw => ?_, doesIf_of (exec_tlbinv s t) fun u ⟨hc, ha, hw⟩ => ?_,
    traps_of (exec_tlbinv s t) fun u h => if_pos (tlbinv_unnamed h), does_of (exec_icinv s t) fun u => rfl, doesIf_of (exec_errclr d s) fun u h => ?_,
    traps_of (exec_errclr d s) fun u h => if_pos (Nat.div_pos h (by decide)).ne', fun i n hi h0 hn => ?_, fun i hi => ?_⟩
  · simp only [tlbinv_kind hc.1, if_neg (tlbinv_named hc.1), hcalm _ hc, ha, Bool.false_eq_true, if_false]
    exact if_pos hw
  · rw [exec_tlbinv]
    refine slot_wait (ask := fun z => (z.tlbDrop (pick v.entered)).modCur fun x => { x with asked := true, xlIds := through v.entered }) hcl ?_
    simp only [tlbinv_kind hc.1, if_neg (tlbinv_named hc.1), hcalm _ hc, ha, Bool.false_eq_true, if_false]
    exact if_neg hw
  · simp only [tlbinv_kind hc.1, if_neg (tlbinv_named hc.1), hcalm _ hc, ha, hw, Bool.false_eq_true, if_false, if_true]
  · have hok : ¬(u.rx s).toNat / 64 ≠ 0 := not_not.2 (Nat.div_eq_of_lt h)
    have hall : (u.rx s).toNat / 32 % 2 = (u.rx s).toNat / 32 := Nat.mod_eq_of_lt (by omega)
    by_cases h1 : (u.rx s).toNat / 32 = 1
    · simp only [if_neg hok, h1, decide_true, if_true, x, last]
    · have hone : (u.rx s).toNat % 32 = (u.rx s).toNat := Nat.mod_eq_of_lt (by omega)
      simp only [if_neg hok, hall, h1, hone, decide_false, Bool.false_eq_true, if_false, x, last]
  · have hx := exec_keyslot hi
    exact ⟨doesIf_of hx fun u h => keyslotBody_stat h0 hn h, doesIf_of hx fun u ⟨h, hf⟩ => keyslotBody_gen h0 hn h hf,
      doesIf_of hx fun u ⟨h, hf⟩ => keyslotBody_erase h0 hn h hf, doesIf_of hx fun u ⟨h, hf⟩ => keyslotBody_busy h0 hn h hf,
      traps_of hx fun u h => keyslotBody_malformed h⟩
  · have hx := exec_mapset hi
    refine ⟨doesIf_of hx fun u ⟨hop, hc⟩ => (mapsetBody_reads hop (by decide) (by decide)).trans (mapsetOn_stat hc),
      doesIf_of hx fun u ⟨hop, hc⟩ => ?_, doesIf_of hx fun u ⟨hop, hb, hbad, hc, hs⟩ => ?_,
      doesIf_of hx fun u ⟨hop, ha, hc, hs, he⟩ => (mapsetBody_reads hop (by decide) (by decide)).trans (mapsetOn_switch hc ha hs he),
      fun v hcl hop ha hc hs he => ?_,
      doesIf_of hx fun u ⟨hop, ha, hd⟩ => (mapsetBody_reads hop (by decide) (by decide)).trans (mapsetOn_switched ha hd),
      doesIf_of hx fun u ⟨hop, hc, hs, hg⟩ => (mapsetBody_reads hop (by decide) (by decide)).trans (mapsetOn_open hc hs hg),
      doesIf_of hx fun u ⟨hop, ha, hc, hs⟩ => (mapsetBody_reads hop (by decide) (by decide)).trans (mapsetOn_unloaded hc ha hs),
      traps_of hx fun u ⟨hop, hb, hbad⟩ => (mapsetBody_load hop hb).trans (if_pos hbad), traps_of hx fun u h => mapsetBody_malformed h⟩
    · rcases hop with hop | hop
      · exact (mapsetBody_reads hop (by decide) (by decide)).trans (mapsetOn_none (by decide) hc)
      · exact (mapsetBody_reads hop (by decide) (by decide)).trans (mapsetOn_none (by decide) hc)
    · exact (mapsetBody_load hop hb).trans ((if_neg (Bool.not_eq_true _ ▸ hbad)).trans (mapsetOn_load hc hs))
    · rw [hx]
      exact slot_wait hcl ((mapsetBody_reads hop (by decide) (by decide)).trans (mapsetOn_waits hc ha hs he))

theorem coresAndCheckpoints : Part.CoresAndCheckpoints := by
  intro d s t a sp word good block desc live busy h mine
  have hread : ∀ {u : State} {f : Nat → SlotRes}, block u → u.readBlock (u.rx s) 16 48 f = f (u.myCore.mem.bytes.load (u.rx s).toNat 48) :=
    fun ⟨hal, hin, hacq, hown, hp⟩ => readBlock_reads _ hal hin hacq hown hp
  have hlive : ∀ {u : State} {c : Ckpt}, live u c → ¬((u.slotOf c.slot).st ≠ .active ∧ (u.slotOf c.slot).st ≠ .growing ∧ (u.slotOf c.slot).st ≠ .shrinking) :=
    fun hl ⟨ha, hg, hs⟩ => hl.elim ha fun hl => hl.elim hg hs
  refine ⟨doesIf_of (exec_coreret d s t) fun u ⟨ha, hid, hsp, hnone⟩ => ?_, fun old => doesIf_of (exec_coreret d s t) fun u ⟨ha, hg, huse⟩ => ?_,
    fun old v hcl ha hg huse => ?_, doesIf_of (exec_coreret d s t) fun u ⟨ha, hid, hsp, hscrub, hupd⟩ => ?_,
    traps_of (exec_coreret d s t) fun u h => if_pos h, fun c => ⟨doesIf_of (exec_ckpt d s) fun u ⟨hb, hd, hf, hl⟩ => ?_,
      doesIf_of (exec_ckpt d s) fun u ⟨hb, hd, hf, hl, hbusy⟩ => ?_, doesIf_of (exec_ckpt d s) fun u ⟨hb, hd, hf, hl, hbusy, hm⟩ => ?_⟩,
    traps_of (exec_ckpt d s) fun u ⟨hb, hd⟩ => ?_⟩
  · refine (if_neg (not_or.2 ⟨Nat.not_le.2 hid, Nat.not_le.2 hsp⟩)).trans ((if_neg (ne_true_of_eq_false ha)).trans ?_)
    rw [hnone]
  · obtain ⟨hid, hsp, hsite, -⟩ := id hg
    refine (if_neg (not_or.2 ⟨Nat.not_le.2 (hid.trans (by decide : 4000 < 4096)), Nat.not_le.2 hsp⟩)).trans ((if_neg (ne_true_of_eq_false ha)).trans ?_)
    rw [hsite]
    exact (if_neg (replaceable_passes hg)).trans (if_pos huse)
  · obtain ⟨hid, hsp, hsite, -⟩ := id hg
    rw [exec_coreret]
    refine slot_wait (ask := fun z => (z.replaceCore z.site old (sp v.entered) (a v.entered)).modCur fun x => { x with asked := true }) hcl ?_
    refine (if_neg (not_or.2 ⟨Nat.not_le.2 (hid.trans (by decide : 4000 < 4096)), Nat.not_le.2 hsp⟩)).trans ((if_neg (ne_true_of_eq_false ha)).trans ?_)
    rw [hsite]
    exact (if_neg (replaceable_passes hg)).trans (if_neg (ne_true_of_eq_false huse))
  · have hupd' : (u.l2p.upd.any fun x => x.idx == a u && decide (x.got.length < 4096)) = false := by
      refine List.any_eq_false.2 fun e he hx => ?_
      obtain ⟨hi, hl⟩ := Bool.and_eq_true_iff.1 hx
      exact Nat.not_lt.2 (hupd e he (eq_of_beq hi)) (of_decide_eq_true hl)
    refine (if_neg (not_or.2 ⟨Nat.not_le.2 hid, Nat.not_le.2 hsp⟩)).trans ((if_pos ha).trans (if_neg ?_))
    rw [hscrub, hupd']
    exact Bool.false_ne_true
  · refine (hread hb).trans ?_
    rw [show ckptOf (u.myCore.mem.bytes.load (u.rx s).toNat 48) = some c from hd]
    refine (if_neg hf).trans (if_pos ?_)
    exact ⟨fun h => hl (.inl h), fun h => hl (.inr (.inl h)), fun h => hl (.inr (.inr h))⟩
  · refine (hread hb).trans ?_
    rw [show ckptOf (u.myCore.mem.bytes.load (u.rx s).toNat 48) = some c from hd]
    refine (if_neg hf).trans ((if_neg (hlive hl)).trans (if_pos ?_))
    obtain ⟨o, ho, hslot⟩ := hbusy
    exact List.any_eq_true.2 ⟨o, ho, beq_iff_eq.2 hslot⟩
  · refine (hread hb).trans ?_
    rw [show ckptOf (u.myCore.mem.bytes.load (u.rx s).toNat 48) = some c from hd]
    refine (if_neg hf).trans ((if_neg (hlive hl)).trans ((if_neg ?_).trans ?_))
    · exact fun h => hbusy ((List.any_eq_true.1 h).imp fun o ho => ho.imp_right eq_of_beq)
    · simp only [if_neg hm]
      rfl
  · refine (hread hb).trans ?_
    rw [show ckptOf (u.myCore.mem.bytes.load (u.rx s).toNat 48) = none from hd]
    rfl

/-- Settles O40: each SYSP instruction by its operation and the state that it reads. -/
theorem maintenanceInstructions : Obligations.MaintenanceInstructions := ⟨cacheKeyMap, coresAndCheckpoints⟩

end Sys2Proof.Machine
end

section
/-! ### The host channel and BAR2 (O44) -/

namespace Sys2Proof.Machine

namespace State

/-! #### Channels read back -/

@[simp] theorem chan_modChan_same (s : State) (f : Nat) (g : Chan → Chan) : (s.modChan f g).chan f = g (s.chan f) := Map.get_put_same ..
theorem chan_congr {s t : State} (h : t.chans = s.chans) (f : Nat) : t.chan f = s.chan f := by rw [chan, h, chan]

@[simp] theorem got_gapCheck (s : State) (f : Nat) : ((s.gapCheck f).chan f).got = (s.chan f).got := by
  rw [gapCheck, chan_modChan_same]
  split <;> rfl
@[simp] theorem hseqack_gapCheck (s : State) (f : Nat) : ((s.gapCheck f).chan f).hseqack = (s.chan f).hseqack := by
  rw [gapCheck, chan_modChan_same]
  split <;> rfl
@[simp] theorem hseqack_queueFrame (s : State) (f typ : Nat) (b : BitVec 512) : ((s.queueFrame f typ b).1.chan f).hseqack = (s.chan f).hseqack := by
  rw [queueFrame]
  dsimp only
  split
  · dsimp only
    rw [chan_modChan_same]
  · dsimp only
    rw [chan_modChan_same]
@[simp] theorem hseqack_refuseFrame (s : State) (f : Nat) (frame : BitVec 512) (code : Nat) :
    ((s.refuseFrame f frame code).chan f).hseqack = (s.chan f).hseqack := hseqack_queueFrame ..
theorem hseqack_frameTaken (s : State) (f : Nat) : ((s.frameTaken f).chan f).hseqack = (s.chan f).hseqack + 1 := by
  rw [frameTaken, hseqack_gapCheck, chan_modChan_same]

@[simp] theorem chans_nextSeq (s : State) (k : Agent × Agent × MClass) : (s.nextSeq k).2.chans = s.chans := by
  unfold nextSeq
  split <;> rfl
@[simp] theorem dest_sourced (s : State) (m : Msg) : (s.sourced m).dest = m.dest := by
  unfold sourced
  split
  · split <;> rfl
  · rfl

/-- What the bridge sends passes no Referee (R368). -/
theorem send_of_bridge {m : Msg} (hf : m.frm = .bridge) (s : State) : s.send m = { s with nextId := s.nextId + 1 }.emit { m with id := s.nextId } := by
  have hr : ∀ u : State, u.refereed { m with id := s.nextId } = none := fun u => by simp only [refereed, hf]
  rw [send, hr]

section
variable {m : Msg} {p : Nat} (hd : m.dest = .core p) (s : State)
include hd

theorem chans_route_core : (s.route m).chans = s.chans := by
  simp only [route, hd]
theorem chans_emit_core : (s.emit m).chans = s.chans := by
  rw [emit]
  refine (chans_route_core (p := p) ?_ _).trans (chans_nextSeq ..)
  exact (dest_sourced s m).trans hd
/-- What the bridge sends to a core changes no channel. -/
theorem chans_send_core (hf : m.frm = .bridge) : (s.send m).chans = s.chans := by
  rw [send_of_bridge hf]
  refine (chans_emit_core (p := p) ?_ _).trans rfl
  exact hd

end

end State

open State

/-! #### Frames of the device (R324) -/

theorem hfOk_of {v : Word} (ha : v.toNat % 64 = 0) (hin : v.toNat % 2 ^ 19 + 64 ≤ 0x60000) (hf : v.toNat / 2 ^ 19 % 128 ≤ 64) : hfOk v = true := by
  rw [hfOk, decide_eq_true ha, decide_eq_true (show _ ≤ localTop from hin), decide_eq_true hf]
  rfl

/-- A frame has been written to the ring in host memory; its sender is told (R324). -/
def State.ringFrame (s : State) (f : Nat) (q : DevFrame) (rest : List DevFrame) (n : BitVec 32) (host : Memory) : State :=
  let s1 := { s with host := host }.modChan f fun c => { c with queue := rest, dseq := n, irqs := c.irqs ++ [c.msixv] }
  match q.sender with
  | some k => s1.modThread k fun t => if t.asked then { t with answer := some 1 } else t
  | none => s1

section
variable (s : State) (f : Nat) (q : DevFrame) (rest : List DevFrame) (n : BitVec 32) (host : Memory)

theorem State.chans_ringFrame : (s.ringFrame f q rest n host).chans =
    (s.modChan f fun c => { c with queue := rest, dseq := n, irqs := c.irqs ++ [c.msixv] }).chans := by
  unfold ringFrame
  split <;> rfl
theorem State.chan_ringFrame : (s.ringFrame f q rest n host).chan f =
    { s.chan f with queue := rest, dseq := n, irqs := (s.chan f).irqs ++ [(s.chan f).msixv] } := by
  rw [chan_congr (chans_ringFrame ..), chan_modChan_same]
theorem State.host_ringFrame : (s.ringFrame f q rest n host).host = host := by
  unfold ringFrame
  split <;> rfl

end

/-- The oldest frame leaves for the ring when that has room (R324). -/
theorem execDeviceFrame_writes {s : State} {f : Nat} {q : DevFrame} {rest : List DevFrame} (hq : (s.chan f).queue = q :: rest)
    (hroom : ((s.chan f).dseq + 1 - (s.chan f).drhead).toNat ≤ 2 ^ (s.chan f).drsize.toNat) :
    let c := s.chan f
    let d := c.dseq + 1
    execDeviceFrame f s = .next (s.ringFrame f q rest d (s.host.store (c.drbase.toNat / 64 * 64 + 64 * (d.toNat % 2 ^ c.drsize.toNat)) 64
      (frameField (frameField (q.body &&& ~~~(0xFFFF0000FFFFFFFF#512)) 0 4 d.toNat) 6 2 f).toNat)) := by
  intro c d
  simp only [execDeviceFrame, hq]
  exact if_neg (Nat.not_lt.2 hroom)

/-! #### Frames of the host (R300, R301, R321 to R323) -/

section
variable {s : State} {f : Nat} {x : CtxSlot} {frame : BitVec 512} (ho : s.openSlot f = some x)
include ho

/-- A frame of the window that is in order is kept (R323). -/
theorem execFrameWindowWrite_takes {slot : Nat} (hslot : (frameSeq frame).toNat % 64 = slot % 64)
    (habove : seqAbove (frameSeq frame) (s.chan f).hseqack = true) (hnear : seqAbove (frameSeq frame) ((s.chan f).hseqack + 64) = false) :
    ∃ t, execFrameWindowWrite f slot frame s = .next t ∧
      (t.chan f).got = ((s.chan f).got.filter fun y => frameSeq y != frameSeq frame) ++ [frame] := by
  have hok : ¬((frameSeq frame).toNat % 64 ≠ slot % 64 ∨ seqAbove (frameSeq frame) (s.chan f).hseqack = false) :=
    not_or.2 ⟨not_not.2 hslot, ne_false_of_eq_true habove⟩
  simp only [execFrameWindowWrite, ho, chan_modChan_same, if_neg hok, hnear, Bool.false_eq_true, if_false]
  refine ⟨_, rfl, ?_⟩
  rw [got_gapCheck, chan_modChan_same, chan_modChan_same]

variable (hfind : (s.chan f).got.find? (fun x => frameSeq x == (s.chan f).hseqack + 1) = some frame) (hinj : (s.chan f).injected = false)
  (hrun : s.boot.st = .running)
include hfind hinj hrun

/-- A frame of an unknown type is refused (R322). -/
theorem execHostframeInject_refuses (ht : frameGet frame 4 1 = 0 ∨ 3 < frameGet frame 4 1) :
    ∃ t, execHostframeInject f s = .next t ∧ (t.chan f).hseqack = (s.chan f).hseqack + 1 := by
  have hgo : ¬((s.chan f).injected = true ∨ s.boot.st ≠ .running) := not_or.2 ⟨ne_true_of_eq_false hinj, not_not.2 hrun⟩
  have hunknown : frameGet frame 4 1 ≠ 1 ∧ frameGet frame 4 1 ≠ 2 ∧ frameGet frame 4 1 ≠ 3 := by omega
  refine ⟨(s.refuseFrame f frame 1).frameTaken f, ?_, ?_⟩
  · simp only [execHostframeInject, ho, hfind]
    exact (if_neg hgo).trans (if_pos hunknown)
  · rw [hseqack_frameTaken, hseqack_refuseFrame]
/-- A frame of type 2 or 3 goes to the core of its channel (R301). -/
theorem execHostframeInject_sends (hx : x.st ≠ .destroying) (ht : frameGet frame 4 1 = 2 ∨ frameGet frame 4 1 = 3) :
    ∃ t, execHostframeInject f s = .next t ∧ (t.chan f).injected = true := by
  have hgo : ¬((s.chan f).injected = true ∨ s.boot.st ≠ .running) := not_or.2 ⟨ne_true_of_eq_false hinj, not_not.2 hrun⟩
  have hknown : ¬(frameGet frame 4 1 ≠ 1 ∧ frameGet frame 4 1 ≠ 2 ∧ frameGet frame 4 1 ≠ 3) := by omega
  have h1 : frameGet frame 4 1 ≠ 1 := by omega
  simp only [execHostframeInject, ho, hfind]
  refine ⟨_, (if_neg hgo).trans ((if_neg hknown).trans ((if_neg hx).trans (if_neg h1))), ?_⟩
  rw [chan_congr (chans_send_core rfl _ rfl), chan_modChan_same]

end

/-- A host frame at its core waits its turn, or is accepted as a raw arrival, or turned away (R210, R223, R301). -/
theorem execHostframe_core {s : State} {k site : Nat} {m : Msg} (hd : s.deliver k = some m) (ht : m.typ = MT.hostframe) (hc : m.cls = .req)
    (hs : m.dest = .core site) (hrun : s.boot.st = .running) : execHostframe k s =
      if s.waitsTurn site m then .next (s.offer site m) else .next ((s.dropMsg k).delivered site m fun v => v.acceptRaw site m) := by
  simp only [execHostframe, request_of hd ht (by rw [hc]; decide) (by rw [hs]; rfl), hs]
  exact if_neg (not_not.2 hrun)

/-- A request that is delivered, or turned away (R153). -/
theorem State.delivered_req {s : State} {site : Nat} {m : Msg} (hc : m.cls = .req) (go : State → State) : s.delivered site m go =
    if s.present site = false then (s.acceptMsg m).reply m 2
    else if s.tenantOk site m = false then (s.acceptMsg m).reply m 3 else go (s.wake site) := by
  simp only [delivered, turnAway, hc, Bool.not_eq_true']

/-! #### BAR2 (R333, R334, R383) -/

section
variable {s : State} {pa len : Nat} {data : List Byte}

theorem State.mendSeen_nothing {ten : BitVec 12} {key n : Nat} (h : s.hbm.mended key pa n = []) : s.mendSeen ten key pa n = s := by
  simp only [mendSeen, h, List.foldl_nil]
theorem State.secSeen_nothing {ten : BitVec 12} {key n : Nat} (hf : s.hbm.flaws key pa n false = []) (hm : s.hbm.mended key pa n = []) :
    s.secSeen ten key pa n = s := by
  rw [secSeen, mendSeen_nothing hm, hf]
  rfl

theorem execBar2Access_beyond (h : 2 ^ (30 + s.boot.bar2) < pa + len) (wr : Bool) : execBar2Access wr pa len data s = .next s :=
  if_pos (decide_eq_false (Nat.not_le.2 h))

variable (hin : pa + len ≤ 2 ^ (30 + s.boot.bar2)) (hl : linesOf pa len = [(pa, 0, len)])
include hin hl

theorem execBar2Access_reads : execBar2Access false pa len data s = .next (s.secSeen 0 1 pa len) := by
  refine (if_neg (ne_false_of_eq_true (decide_eq_true hin))).trans ?_
  rw [hl]
  rfl
theorem execBar2Access_writes {h : Hbm} (hput : s.hbm.write 1 pa len (bytesNat (data.take len) % 2 ^ (8 * len)) false = some h) :
    execBar2Access true pa len data s =
      .next { s.mendSeen 0 1 pa len true with hbm := { h with rowErr := (s.mendSeen 0 1 pa len true).hbm.rowErr } } := by
  refine (if_neg (ne_false_of_eq_true (decide_eq_true hin))).trans ?_
  rw [hl]
  simp only [List.foldl_cons, List.foldl_nil, Nat.mul_zero, Nat.pow_zero, Nat.div_one, if_true, hput]
theorem execBar2Access_fails (hput : s.hbm.write 1 pa len (bytesNat (data.take len) % 2 ^ (8 * len)) false = none) :
    execBar2Access true pa len data s = .next (s.writeSeen 0 1 pa len) := by
  refine (if_neg (ne_false_of_eq_true (decide_eq_true hin))).trans ?_
  rw [hl]
  simp only [List.foldl_cons, List.foldl_nil, Nat.mul_zero, Nat.pow_zero, Nat.div_one, if_true, hput]

end

/-- Settles O44: the channel of the function after each event, and what BAR2 does in one line. -/
theorem hostEvents : Obligations.HostEvents := by
  intro s k f slot pa len m v w z frame x data c n found
  refine ⟨fun ha hin hf hle ho => ⟨s.hfQueue v, ?_, ?_⟩, fun q rest hq hroom => ?_, fun ho hs ha hn => execFrameWindowWrite_takes ho hs ha hn,
    fun ⟨ho, hfind, hinj, hrun⟩ hx ht => execHostframeInject_sends ho hfind hinj hrun hx ht,
    fun ⟨ho, hfind, hinj, hrun⟩ ht => execHostframeInject_refuses ho hfind hinj hrun ht,
    fun site hd ht hc hs hrun hw => (execHostframe_core hd ht hc hs hrun).trans (if_pos hw), fun site hd ht hc hs hrun hw => ?_,
    fun t0 hsince hsent hdue => ?_, fun hfun => ⟨⟨_, if_pos hfun, ?_⟩, fun heq => ⟨_, if_pos ⟨hfun, heq⟩, ?_⟩,
      fun heq hlo hhi => ⟨_, if_pos ⟨hfun, heq, hlo, hhi⟩, ?_⟩, fun hne => ⟨if_neg fun h => hne h.2, if_neg fun h => hne h.2.1⟩⟩,
    fun hnone => ?_, fun hlt wr => execBar2Access_beyond hlt wr, fun hin hl => ⟨execBar2Access_reads hin hl, fun hf hm => ?_,
      fun hput => execBar2Access_fails hin hl hput, fun h hput => execBar2Access_writes hin hl hput⟩⟩
  · refine (if_neg (ne_false_of_eq_true (hfOk_of ha hin (hf ▸ hle)))).trans (if_neg ?_)
    rw [hf, ho]
    exact Bool.false_ne_true
  · rw [hfQueue, hf, chan_modChan_same]
  · refine ⟨_, execDeviceFrame_writes hq hroom, ?_, ?_, ?_, host_ringFrame ..⟩
    · rw [chan_ringFrame]
    · rw [chan_ringFrame]
    · rw [chan_ringFrame]
  · exact (execHostframe_core hd ht hc hs hrun).trans ((if_neg (ne_true_of_eq_false hw)).trans (congrArg _ (delivered_req hc _)))
  · show ∃ t, execGap f s = .next t ∧ _
    simp only [execGap, show (s.chan f).gapSince = some t0 from hsince]
    exact ⟨_, if_pos ⟨hsent, hdue⟩, congrArg Chan.gapSent (chan_modChan_same ..)⟩
  · exact congrArg Chan.drhead (chan_modChan_same ..)
  · exact congrArg Chan.drbase (chan_modChan_same ..)
  · exact congrArg Chan.drsize (chan_modChan_same ..)
  · have hno : ¬(s.funcSlot f).isSome := fun h => by rw [Option.isNone_iff_eq_none.1 hnone] at h; cases h
    exact ⟨if_neg hno, if_neg fun h => hno h.1, if_neg fun h => hno h.1⟩
  · exact (execBar2Access_reads hin hl).trans (congrArg _ (secSeen_nothing hf hm))

end Sys2Proof.Machine
end

section
/-! ### Power, droop, trace, debug, repair and the walk of a checkpoint (O46) -/

namespace Sys2Proof.Machine

namespace State

/-! #### Droop (R378) -/

theorem die_congr {s t : State} (h : t.dies = s.dies) (d : Nat) : t.die d = s.die d := by rw [die, h, die]
theorem die_modDie_same (s : State) (d : Nat) (f : Die → Die) : (s.modDie d f).die d = f (s.die d) := by
  rw [die, modDie]
  exact Vector.getElem_setIfInBounds_self ..
/-- The records of a droop are written to the cores' buffers alone. -/
theorem dies_droopRecord (s : State) (site det : Nat) (stamp : Word) : (s.droopRecord site det stamp).dies = s.dies := by
  rw [droopRecord]
  cases (s.thread (4 * site + (s.core site).lastThr % 4)).act with
  | none => rfl
  | some a => rfl
theorem dies_takeDroops (s : State) (site : Nat) : (s.takeDroops site).dies = s.dies := by
  unfold takeDroops
  split
  · exact foldl_keeps State.dies (fun u (e : Nat × Word) => dies_droopRecord u site e.1 e.2) _ _
  · rfl
theorem dies_droopAt (s : State) (site det : Nat) : (s.droopAt site det).dies = s.dies := dies_takeDroops ..

end State

open State

theorem execDroop_fires {s : State} {die det : Nat} (hd : die < 4) (ht : det < 16) (he : (s.die die).drpctl.getLsbD 8 = true)
    (hn : Map.find (s.die die).fired det = none) (hlow : (s.die die).drpctl.toNat % 256 < (Map.find (s.die die).supply det).getD 0) :
    ∃ t, execDroop die det s = .next t ∧ Map.find (t.die die).fired det = some s.time := by
  have hgo : ¬(4 ≤ die ∨ 16 ≤ det ∨ (s.die die).drpctl.getLsbD 8 = false ∨ (Map.find (s.die die).supply det).getD 0 ≤ (s.die die).drpctl.toNat % 256 ∨
      (Map.find (s.die die).fired det).isSome = true) := by
    simp [Nat.not_le.2 hd, Nat.not_le.2 ht, he, hn, Nat.not_le.2 hlow]
  refine ⟨_, if_neg hgo, ?_⟩
  rw [die_congr (foldl_keeps State.dies (fun u p => dies_droopAt u p det) _ _), die_modDie_same]
  exact Map.find_put_same ..
theorem execDroopRearm_rearms {s : State} {die det : Nat} {t0 : Word} (hf : Map.find (s.die die).fired det = some t0) (hdue : t0 + 65536 ≤ s.time) :
    ∃ t, execDroopRearm die det s = .next t ∧ Map.find (t.die die).fired det = none := by
  simp only [execDroopRearm, hf, if_pos hdue]
  refine ⟨_, rfl, ?_⟩
  rw [die_modDie_same]
  exact Map.find_erase_same ..

/-! #### Power gating (R377, R390) -/

theorem execPowerGate_gates {s : State} {k : Nat} (ha : s.active k = true) (hg : (s.core k).gated = false) (hh : (s.core k).gateHold = none)
    (hc : (s.core k).ctx = 0) (hm : s.hasMember k = false) (hran : (s.core k).ran + 65536 ≤ s.time) : execPowerGate k s =
      if (s.core k).trace.buf = [] then .next (s.modCore k fun c => { c with gated := true })
      else .next (s.modCore k fun c => { c with gateHold := some (s.time + 2048) }) := by
  refine if_neg ?_
  simp [ha, hg, hh, hc, hm]
  exact hran

/-! #### The trace ring (R376) -/

/-- A drained core is gated where a gate waited for it: that leaves its trace as it is. -/
def drained (c : Core) : Core := if c.trace.buf.isEmpty && c.gateHold.isSome then { c with gated := true, gateHold := none } else c
@[simp] theorem trace_drained (c : Core) : (drained c).trace = c.trace := by
  unfold drained
  split <;> rfl

/-- An empty buffer takes the LOST record, if one is due. -/
theorem Trace.recover_empty {t : Trace} (h : t.buf = []) (site : Nat) (now : Word) : (t.lost = 0 → (t.recover site now).buf = []) ∧
    (t.recover site now).lost = 0 ∧ (t.recover site now).trhead = t.trhead := by
  unfold recover
  split
  next hl => exact ⟨fun h0 => absurd h0 hl.1.ne', rfl, rfl⟩
  next hl =>
    refine ⟨fun _ => h, ?_, rfl⟩
    rw [h] at hl
    exact Nat.eq_zero_of_not_pos fun h0 => hl ⟨h0, by decide⟩

/-- A trace whose one record has left for the ring. -/
def Trace.emptied (t : Trace) (site : Nat) (now : Word) : Trace :=
  Trace.recover { t with buf := t.buf.drop 1, trhead := BitVec.ofNat 64 ((t.trhead.toNat + 32) % 2 ^ 32) } site now

/-- One record in the buffer and room for it in the ring: it is written (R376). -/
theorem execTraceDrain_one {s : State} {k : Nat} {r : BitVec 256} {h : Hbm} (hb : (s.core k).trace.buf = [r])
    (hroom : 32 ≤ (s.core k).trace.ringSize - (s.core k).trace.inRing)
    (hw : s.hbm.write 1 ((s.core k).trace.trbase.toNat + (s.core k).trace.trhead.toNat % (s.core k).trace.ringSize) 32 r.toNat false = some h) :
    ∃ t, execTraceDrain k s = .next t ∧ t.hbm = { h with rowErr :=
        (s.mendSeen 0 1 ((s.core k).trace.trbase.toNat + (s.core k).trace.trhead.toNat % (s.core k).trace.ringSize) 32 true).hbm.rowErr } ∧
      (t.core k).trace = (s.core k).trace.emptied k s.time := by
  have hn : min (min [r].length (4 - (s.core k).trace.trhead.toNat / 32 % 4)) (((s.core k).trace.ringSize - (s.core k).trace.inRing) / 32) = 1 := by
    rw [List.length_singleton]
    omega
  simp only [execTraceDrain, hb, hn, List.take_succ_cons, List.take_zero, List.zipIdx_cons, List.zipIdx_nil, List.foldl_cons, List.foldl_nil,
    Nat.mul_zero, Nat.pow_zero, Nat.mul_one, Nat.zero_add, one_ne_zero, if_false, hw]
  refine ⟨{ s.mendSeen 0 1 ((s.core k).trace.trbase.toNat + (s.core k).trace.trhead.toNat % (s.core k).trace.ringSize) 32 true with hbm := _ }.modCore k
    fun c => drained { c with trace := c.trace.emptied k s.time }, rfl, rfl, ?_⟩
  rw [core_modCore_same, trace_drained]
  exact congrArg (fun c : Core => c.trace.emptied k s.time) (core_of_quiet (quiet_mendSeen ..) k)
theorem Trace.emptied_one {t : Trace} {r : BitVec 256} (h : t.buf = [r]) (site : Nat) (now : Word) : (t.lost = 0 → (t.emptied site now).buf = []) ∧
    (t.emptied site now).lost = 0 ∧ (t.emptied site now).trhead = BitVec.ofNat 64 ((t.trhead.toNat + 32) % 2 ^ 32) := by
  have hb : t.buf.drop 1 = [] := by
    rw [h]
    rfl
  rw [emptied]
  exact recover_empty (t := { t with buf := t.buf.drop 1, trhead := BitVec.ofNat 64 ((t.trhead.toNat + 32) % 2 ^ 32) }) hb site now

/-! #### Registers of the trace and of the stop (R372, R376, R382) -/

section
variable (s : State) (site : Nat) (v : Word) {new : Trace} (hn : { (s.core site).trace with trtail := v &&& 0xFFFFFFE0 } = new)
include hn

theorem core_writeTrtail : (s.writeTrtail site v).core site =
    if new.ringSize < new.inRing then s.core site else { s.core site with trace := new } := by
  subst hn
  exact core_modCore_same ..
/-- TRTAIL takes a value that leaves no more than the ring unconsumed. -/
theorem trace_writeTrtail : ((s.writeTrtail site v).core site).trace = if new.inRing ≤ new.ringSize then new else (s.core site).trace := by
  refine (congrArg Core.trace (core_writeTrtail s site v hn)).trans ?_
  by_cases h : new.inRing ≤ new.ringSize
  · rw [if_pos h, if_neg (Nat.not_lt.2 h)]
  · rw [if_neg h, if_pos (Nat.not_le.1 h)]

end

section
variable (s : State) (site : Nat) (stop wphit : Bool)

theorem dbgctl_writeDbgctl : ((s.writeDbgctl site stop wphit).core site).trace.dbgctl =
    (if stop then 1 else 0) ||| (if wphit then 0 else (s.core site).trace.dbgctl &&& 4) := by
  rw [writeDbgctl, core_modCore_same]
/-- STOP takes the value; WPHIT is cleared by a one. -/
theorem stop_writeDbgctl : ((s.writeDbgctl site stop wphit).core site).trace.dbgctl.getLsbD 0 = stop := by
  rw [dbgctl_writeDbgctl]
  cases stop <;> cases wphit <;> simp
theorem wphit_writeDbgctl : ((s.writeDbgctl site stop wphit).core site).trace.dbgctl.getLsbD 2 = ((s.core site).trace.dbgctl.getLsbD 2 && !wphit) := by
  rw [dbgctl_writeDbgctl]
  cases stop <;> cases wphit <;> simp

end

/-! #### The walk of a checkpoint (R336) -/

section
variable {s : State} {k : Nat} {x : Ckpt} (hx : s.ckpts.find? (fun x => x.slot == k) = some x) (ha : x.await = 0)
include hx ha

theorem execCkptWalk_ended {st : Nat} (he : x.ending = some st) : execCkptWalk k s = .next ((s.ckptResolve x st).dropCkpt k) := by
  simp only [execCkptWalk, hx, ha, he, Nat.lt_irrefl, if_false]

variable (he : x.ending = none)
include he

theorem execCkptWalk_keyless (hk : s.keyOf (s.slotOf k).tenant = none) : execCkptWalk k s = .next (s.ckptEnd x 1) := by
  simp only [execCkptWalk, hx, ha, he, hk, Nat.lt_irrefl, if_false]

variable {key : Nat} (hk : s.keyOf (s.slotOf k).tenant = some key)
include hk

theorem execCkptWalk_unit {l : CkLeaf} (hc : x.cur = some l) (hl : l.clear = true) : execCkptWalk k s = .next (s.ckptUnit x l key) := by
  simp only [execCkptWalk, hx, ha, he, hk, hc, hl, Nat.lt_irrefl, if_false, if_true]
theorem execCkptWalk_over (hc : x.cur = none)
    (hn : s.nextLeaf (s.slotOf k).root.toNat x.upto (x.mode == 2) ((x.upto - x.va) / 65536 + 1) x.va = none) :
    execCkptWalk k s = .next (s.ckptEnd x 0) := by
  simp only [execCkptWalk, hx, ha, he, hk, hc, hn, Nat.lt_irrefl, if_false]

end

/-- Settles O46: each event by the state that it finds. -/
theorem powerAndDebugEvents : Obligations.PowerAndDebugEvents := by
  intro s k die det v c
  refine ⟨⟨_, rfl, rfl⟩, fun ha hg hh hc hm hran => ?_, fun due hdue hle => ?_, fun hd ht he hn hlow => execDroop_fires hd ht he hn hlow, fun hle => ?_,
    fun t0 _ hf hdue => execDroopRearm_rearms hf hdue, fun r h hb hroom hw => ?_, ⟨_, rfl, ?_⟩, ⟨_, rfl, ?_, ?_⟩, fun hd hrow => ?_, fun hrow => ?_,
    fun x hx ha => ⟨fun st he => execCkptWalk_ended hx ha he, fun he hk => execCkptWalk_keyless hx ha he hk,
      fun key l he hk hc hl => execCkptWalk_unit hx ha he hk hc hl, fun key he hk hc hn => execCkptWalk_over hx ha he hk hc hn⟩⟩
  · by_cases hb : c.trace.buf = []
    · refine ⟨_, (execPowerGate_gates ha hg hh hc hm hran).trans (if_pos hb), fun _ => ?_, fun h => absurd hb h⟩
      rw [core_modCore_same]
    · refine ⟨_, (execPowerGate_gates ha hg hh hc hm hran).trans (if_neg hb), fun h => absurd h hb, fun _ => ?_⟩
      rw [core_modCore_same]
      exact ⟨hg, rfl⟩
  · show ∃ t, execGateDrainTimeout k s = .next t ∧ _
    simp only [execGateDrainTimeout, show (s.core k).gateHold = some due from hdue, if_pos hle]
    refine ⟨_, rfl, ?_⟩
    rw [core_modCore_same]
    exact ⟨rfl, rfl, rfl⟩
  · exact if_pos (.inr (.inr (.inr (.inl hle))))
  · obtain ⟨t, ht, hhbm, htrace⟩ := execTraceDrain_one hb hroom hw
    refine ⟨t, ht, fun hm => ?_, ?_⟩
    · rw [hhbm, mendSeen, hm]
      rfl
    · rw [htrace]
      exact Trace.emptied_one hb k s.time
  · exact trace_writeTrtail s s.site v rfl
  · exact stop_writeDbgctl s s.site (v.getLsbD 0) (v.getLsbD 2)
  · exact wphit_writeDbgctl s s.site (v.getLsbD 0) (v.getLsbD 2)
  · refine ⟨_, if_neg (not_or.2 ⟨Nat.not_le.2 hd, Nat.not_lt.2 hrow⟩), ?_, ?_⟩
    · exact (congrArg State.rows (still_record ..) :)
    · exact hbm_of_still (still_record ..)
  · exact if_pos (.inr hrow)

end Sys2Proof.Machine
end

section
/-! ### Contexts: create, resize, destroy, scrub (O43) -/

namespace Sys2Proof.Machine

namespace State

/-- What a step establishes for its own element, and every step keeps, holds at the end for each element of the list. -/
theorem foldl_reaches {α β : Type} {op : β → α → β} {P : α → β → Prop} (hset : ∀ b a, P a (op b a)) (hkeep : ∀ b a c, P a b → P a (op b c))
    {l : List α} {a : α} {b : β} (h : a ∈ l ∨ P a b) : P a (l.foldl op b) := by
  induction l generalizing b with
  | nil => exact h.resolve_left List.not_mem_nil
  | cons c l ih =>
    refine ih ?_
    rcases h with h | h
    · rcases List.mem_cons.1 h with rfl | h
      · exact .inr (hset b a)
      · exact .inl h
    · exact .inr (hkeep b a c h)

/-! #### Slots and cores read back -/

/-- Binding cores to a slot gives each its context, and changes no slot (R316). -/
def bindCore (slot : Nat) (s : State) (p : Nat) : State := s.modCore p fun x => { x with ctx := BitVec.ofNat 6 slot }
theorem ctx_bindCore_same (slot : Nat) (s : State) (p : Nat) : ((bindCore slot s p).core p).ctx = BitVec.ofNat 6 slot := by
  rw [bindCore, core_modCore_same]
theorem ctx_bindCore {slot : Nat} {s : State} {p q : Nat} (h : (s.core p).ctx = BitVec.ofNat 6 slot) :
    ((bindCore slot s q).core p).ctx = BitVec.ofNat 6 slot := by
  rw [bindCore, core_modCore]
  split
  · rfl
  · exact h
theorem ctx_foldl_bindCore (slot : Nat) {l : List Nat} {p : Nat} (hp : p ∈ l) (s : State) :
    ((l.foldl (bindCore slot) s).core p).ctx = BitVec.ofNat 6 slot :=
  foldl_reaches (P := fun p u => (State.core u p).ctx = BitVec.ofNat 6 slot) (fun u p => ctx_bindCore_same slot u p) (fun _ _ _ h => ctx_bindCore h) (.inl hp)
theorem slotOf_foldl_bindCore (slot : Nat) (l : List Nat) (s : State) (n : Nat) : (l.foldl (bindCore slot) s).slotOf n = s.slotOf n :=
  foldl_keeps (fun u : State => u.slotOf n) (op := bindCore slot) (fun _ _ => rfl) l s

/-- A core that begins to be scrubbed belongs to no context (R319). -/
theorem ctx_startScrub (s : State) (p q : Nat) : ((s.startScrub q).core p).ctx = if p = q then 0 else (s.core p).ctx := by
  unfold startScrub
  split
  · rw [core_modCore]
    split
    next h => rfl
    next h => rfl
  · rw [core_modCore]
    split
    next h => rfl
    next h => rfl
theorem ctx_foldl_startScrub {l : List Nat} {p : Nat} (hp : p ∈ l) (s : State) : ((l.foldl (fun u p => u.startScrub p) s).core p).ctx = 0 := by
  refine foldl_reaches (P := fun p u => (State.core u p).ctx = 0) (fun u p => ?_) (fun u p q h => ?_) (.inl hp)
  · exact (ctx_startScrub u p p).trans (if_pos rfl)
  · rw [ctx_startScrub]
    split
    · rfl
    · exact h
theorem slotOf_foldl_startScrub (l : List Nat) (s : State) (n : Nat) : (l.foldl (fun u p => u.startScrub p) s).slotOf n = s.slotOf n := by
  refine foldl_keeps (fun u : State => u.slotOf n) (fun u p => ?_) l s
  unfold startScrub
  split <;> rfl

/-- A channel is no part of a slot. -/
@[simp] theorem slotOf_unbind (s : State) (f n : Nat) : (s.unbind f).slotOf n = s.slotOf n := by
  unfold unbind
  split <;> rfl

/-! #### Commands (R316) -/

/-- A rectangle lies in itself. -/
theorem rectIn_self (r : BitVec 24) : rectIn r r = true := by
  simp [rectIn]

section
variable {s : State} {n : Nat} (hn : n ≠ 0)
include hn

theorem ctxCreate_begins (hf : (s.slotOf n).st = .free) (he : s.rectErr n (s.slotOf n).rect (ctxSites (s.slotOf n).rect) = 0)
    (ht : (s.slotOf n).tenant ≠ 0) (hu : s.tenantUsed n (s.slotOf n).tenant = false) (hk : (s.slotOf n).key.isSome) :
    s.ctxCreate n = s.modSlot n fun c => { c with st := .creating, newRect := c.rect, err := 0 } := by
  have hkey : (s.slotOf n).key ≠ none := Option.isSome_iff_ne_none.1 hk
  have hten : ¬((s.slotOf n).tenant = 0 ∨ s.tenantUsed n (s.slotOf n).tenant = true) := not_or.2 ⟨ht, ne_true_of_eq_false hu⟩
  rw [ctxCreate]
  exact (if_neg hn).trans ((if_neg (not_not.2 hf)).trans ((if_neg (not_not.2 he)).trans ((if_neg hten).trans (if_neg hkey))))
theorem ctxCreate_busy (hf : (s.slotOf n).st ≠ .free) : s.ctxCreate n = s.modSlot n fun c => { c with err := 1 } := by
  rw [ctxCreate]
  exact (if_neg hn).trans (if_pos hf)
theorem ctxDestroy_begins (ha : (s.slotOf n).st = .active) :
    s.ctxDestroy n = (s.modSlot n fun c => { c with st := .destroying, err := 0 }).endGroups n := by
  rw [ctxDestroy]
  exact (if_neg hn).trans (if_neg (not_not.2 ha))
theorem ctxDestroy_busy (ha : (s.slotOf n).st ≠ .active) : s.ctxDestroy n = s.modSlot n fun c => { c with err := 1 } := by
  rw [ctxDestroy]
  exact (if_neg hn).trans (if_pos ha)

variable {r : BitVec 24}

theorem ctxRect_free (hf : (s.slotOf n).st = .free) : s.ctxRect n r = s.modSlot n fun c => { c with rect := r, err := if rectOk (r.setWidth 64) then 0 else 3 } := by
  simp only [ctxRect, if_neg hn, hf]

section
variable (ha : (s.slotOf n).st = .active)
include ha

theorem ctxRect_active : s.ctxRect n r =
    if r = (s.slotOf n).rect then s.modSlot n fun c => { c with err := 0 }
    else if rectIn (s.slotOf n).rect r then
      if s.rectErr n r ((ctxSites r).filter fun p => !(ctxSites (s.slotOf n).rect).contains p) ≠ 0 then
        s.modSlot n fun c => { c with err := s.rectErr n r ((ctxSites r).filter fun p => !(ctxSites (s.slotOf n).rect).contains p) }
      else s.modSlot n fun c => { c with st := .growing, newRect := r, err := 0 }
    else if rectIn r (s.slotOf n).rect then s.modSlot n fun c => { c with st := .shrinking, newRect := r, err := 0 }
    else s.modSlot n fun c => { c with err := 3 } := by
  simp only [ctxRect, if_neg hn, ha]
theorem ctxRect_grows (hr : r ≠ (s.slotOf n).rect) (hin : rectIn (s.slotOf n).rect r = true)
    (he : s.rectErr n r ((ctxSites r).filter fun p => !(ctxSites (s.slotOf n).rect).contains p) = 0) :
    s.ctxRect n r = s.modSlot n fun c => { c with st := .growing, newRect := r, err := 0 } :=
  (ctxRect_active hn ha).trans ((if_neg hr).trans ((if_pos hin).trans (if_neg (not_not.2 he))))
theorem ctxRect_shrinks (hr : r ≠ (s.slotOf n).rect) (hout : rectIn (s.slotOf n).rect r = false) (hin : rectIn r (s.slotOf n).rect = true) :
    s.ctxRect n r = s.modSlot n fun c => { c with st := .shrinking, newRect := r, err := 0 } :=
  (ctxRect_active hn ha).trans ((if_neg hr).trans ((if_neg (ne_true_of_eq_false hout)).trans (if_pos hin)))
/-- A rectangle that neither holds the old one nor lies in it is another one. -/
theorem ctxRect_neither (hout : rectIn (s.slotOf n).rect r = false) (hin : rectIn r (s.slotOf n).rect = false) :
    s.ctxRect n r = s.modSlot n fun c => { c with err := 3 } := by
  have hr : r ≠ (s.slotOf n).rect := fun h => Bool.false_ne_true (hin.symm.trans (h ▸ rectIn_self r))
  exact (ctxRect_active hn ha).trans ((if_neg hr).trans ((if_neg (ne_true_of_eq_false hout)).trans (if_neg (ne_true_of_eq_false hin))))

end

end

/-! #### Scrubbing (R319) -/

/-- Zeros over the copy of the boot ROM; above it local memory reads as zero. -/
theorem byte_zeroed (a : Nat) : ((Memory.empty .localMem).store 0 0x1000 0).byte a = 0 := by
  rw [Memory.byte_store]
  split
  · rw [Nat.zero_div]
    rfl
  next h => exact if_neg fun ha : a < 0x1000 => h ⟨Nat.zero_le a, by omega⟩
theorem byte_scrubbed (c : Core) (a : Nat) : (scrubbed c).mem.bytes.byte a = 0 := by
  have h : (scrubbed c).mem.bytes = (Memory.empty .localMem).store 0 0x1000 0 := by dsimp only [scrubbed]
  rw [h, byte_zeroed]

/-- The threads of a scrubbed core are as at reset (R319). -/
def resetThread (site : Nat) (s : State) (i : Nat) : State := s.setThread (4 * site + i) (initThread (4 * site + i))
theorem thread_foldl_resetThread (site : Nat) {l : List Nat} {i : Nat} (hi : i ∈ l) (s : State) :
    (l.foldl (resetThread site) s).thread (4 * site + i) = initThread (4 * site + i) := by
  refine foldl_reaches (P := fun i u => State.thread u (4 * site + i) = initThread (4 * site + i)) (fun u i => thread_setThread_same ..)
    (fun u i j h => ?_) (.inl hi)
  show (u.setThread (4 * site + j) (initThread (4 * site + j))).thread (4 * site + i) = _
  rw [thread_setThread]
  split
  next hij => rw [hij]
  next => exact h
theorem core_foldl_resetThread (site : Nat) (l : List Nat) (s : State) (p : Nat) : (l.foldl (resetThread site) s).core p = s.core p :=
  foldl_keeps (fun u : State => u.core p) (op := resetThread site) (fun _ _ => rfl) l s

theorem execScrubComplete_scrubs {s : State} {site : Nat} {due : Word} (hs : (s.core site).scrub = some due) (hdue : due ≤ s.time) :
    execScrubComplete site s = .next ((List.range 4).foldl (resetThread site) (s.modCore site scrubbed)) := by
  simp only [execScrubComplete, hs]
  exact if_pos hdue

/-! #### Contexts bound, shrunk and destroyed (R316) -/

section
variable {s : State} {slot : Nat} (hn : slot ≠ 0)
include hn

theorem execContextBound_binds (hst : (s.slotOf slot).st = .creating ∨ (s.slotOf slot).st = .growing)
    (hs : ∀ p ∈ ctxSites (s.slotOf slot).newRect, (s.core p).scrub = none) : execContextBound slot s =
      .next (((ctxSites (s.slotOf slot).newRect).foldl (bindCore slot) s).modSlot slot fun c => { c with st := .active, rect := c.newRect }) := by
  have hscrub : ¬((ctxSites (s.slotOf slot).newRect).any fun p => (s.core p).scrub.isSome) = true := fun h => by
    obtain ⟨p, hp, hx⟩ := List.any_eq_true.1 h
    rw [hs p hp] at hx
    cases hx
  rw [execContextBound]
  exact if_neg (not_or.2 ⟨hn, not_or.2 ⟨fun h => hst.elim h.1 h.2, hscrub⟩⟩)

/-- No copy and no job of a member is left on some cores. -/
abbrev CoresIdle (s : State) (l : List Nat) : Prop := ∀ p ∈ l, (s.core p).tags.copies = [] ∧ (s.core p).eng = []

omit hn in
theorem coresIdle_any {l : List Nat} (h : CoresIdle s l) : (l.any fun p => !(s.core p).tags.copies.isEmpty || !(s.core p).eng.isEmpty) = false := by
  refine List.any_eq_false.2 fun p hp => ?_
  obtain ⟨hc, he⟩ := h p hp
  rw [hc, he]
  exact Bool.false_ne_true

variable (hg : s.groups = [])
include hg

/-- The cores that leave a context when it shrinks. -/
def leavingCores (c : CtxSlot) : List Nat := (ctxSites c.rect).filter fun p => !(ctxSites c.newRect).contains p

theorem execContextShrunk_shrinks (hst : (s.slotOf slot).st = .shrinking) (hi : CoresIdle s (leavingCores (s.slotOf slot))) : execContextShrunk slot s =
    .next (((leavingCores (s.slotOf slot)).foldl (fun u p => u.startScrub p) s).modSlot slot fun c => { c with st := .active, rect := c.newRect }) := by
  rw [execContextShrunk]
  refine if_neg (not_or.2 ⟨hn, not_or.2 ⟨not_not.2 hst, not_or.2 ⟨?_, ne_true_of_eq_false (coresIdle_any hi)⟩⟩⟩)
  rw [hg]
  exact Bool.false_ne_true

variable (hst : (s.slotOf slot).st = .destroying) (hi : CoresIdle s (ctxSites (s.slotOf slot).rect))
  (hq : (s.chan (s.slotOf slot).func.toNat).queue = []) (hj : (s.chan (s.slotOf slot).func.toNat).injected = false)
include hi hq hj

omit hn in
/-- Nothing of a context is left: no group, copy, job or frame (R316). -/
theorem nothingLeft (h : Chan) (hh : h = if (s.slotOf slot).func = 0 then {} else s.chan (s.slotOf slot).func.toNat) :
    (s.groups.any (fun e => e.2.desc.slot.toNat == slot) ||
      (ctxSites (s.slotOf slot).rect).any (fun p => !(s.core p).tags.copies.isEmpty || !(s.core p).eng.isEmpty) || !h.queue.isEmpty || h.injected) = false := by
  have hnone : h.queue = [] ∧ h.injected = false := by
    rw [hh]
    split
    · exact ⟨rfl, rfl⟩
    · exact ⟨hq, hj⟩
  rw [hg, coresIdle_any hi, hnone.1, hnone.2]
  rfl

include hst

theorem execContextDestroyed_erases (hk : (s.slotOf slot).key.isSome) : execContextDestroyed slot s =
    .next (((ctxSites (s.slotOf slot).rect).foldl (fun u p => u.startScrub p) s).modSlot slot fun c => { c with key := none }) := by
  rw [execContextDestroyed]
  exact (if_neg (not_or.2 ⟨hn, not_not.2 hst⟩)).trans ((if_pos hk).trans (if_neg (ne_true_of_eq_false (nothingLeft hg hi hq hj _ rfl))))
theorem execContextDestroyed_frees (hk : (s.slotOf slot).key = none) (hs : ∀ p ∈ ctxSites (s.slotOf slot).rect, (s.core p).scrub = none) :
    execContextDestroyed slot s = .next (({ s with maps := Map.erase s.maps (s.slotOf slot).tenant.toNat }.modSlot slot fun c =>
      { c with st := .free, newRect := 0, unbound := false }).unbind (s.slotOf slot).func.toNat) := by
  have hkey : ¬(s.slotOf slot).key.isSome = true := by
    rw [hk]
    exact Bool.false_ne_true
  have hscrub : ¬((ctxSites (s.slotOf slot).rect).any fun p => (s.core p).scrub.isSome) = true := fun h => by
    obtain ⟨p, hp, hx⟩ := List.any_eq_true.1 h
    rw [hs p hp] at hx
    cases hx
  rw [execContextDestroyed]
  exact (if_neg (not_or.2 ⟨hn, not_not.2 hst⟩)).trans ((if_neg hkey).trans
    (if_neg (not_or.2 ⟨ne_true_of_eq_false (nothingLeft hg hi hq hj _ rfl), hscrub⟩)))

end

end State

open State

/-- Settles O43: a command by the state of its slot and the check that its rectangle meets; the end of an operation by its cores. -/
theorem contextEvents : Obligations.ContextEvents := by
  intro s slot site v n c e new r
  refine ⟨fun hn hf he ht hu hk => ⟨_, congrArg Host.Outcome.next (ctxCreate_begins hn hf he ht hu hk), slotOf_modSlot_same ..⟩,
    fun hn hf => ⟨_, congrArg Host.Outcome.next (ctxCreate_busy hn hf), slotOf_modSlot_same ..⟩, fun hn ha => congrArg Host.Outcome.next (ctxDestroy_begins hn ha),
    fun hn ha => ⟨_, congrArg Host.Outcome.next (ctxDestroy_busy hn ha), slotOf_modSlot_same ..⟩, fun hn hf => ⟨_, congrArg Host.Outcome.next (ctxRect_free hn hf), slotOf_modSlot_same ..⟩,
    fun hn ha hr hin he => ⟨_, congrArg Host.Outcome.next (ctxRect_grows hn ha hr hin he), slotOf_modSlot_same ..⟩,
    fun hn ha hr hout hin => ⟨_, congrArg Host.Outcome.next (ctxRect_shrinks hn ha hr hout hin), slotOf_modSlot_same ..⟩,
    fun hn ha hout hin => ⟨_, congrArg Host.Outcome.next (ctxRect_neither hn ha hout hin), slotOf_modSlot_same ..⟩,
    fun hn hst hs => ⟨_, execContextBound_binds hn hst hs, ?_⟩, fun hn hst hg hi => ?_,
    fun hn hst hk hg hi hq hj => ⟨_, execContextDestroyed_erases hn hg hst hi hq hj hk, ?_⟩, fun hn hst hk hg hi hq hj => ?_,
    fun due hdue hle => ⟨_, execScrubComplete_scrubs hdue hle, ?_⟩⟩
  · rw [slotOf_modSlot_same, slotOf_foldl_bindCore]
    exact ⟨rfl, rfl, fun p hp => ctx_foldl_bindCore slot hp s⟩
  · have hleave : ∀ {p}, p ∈ leavingCores e ↔ p ∈ ctxSites e.rect ∧ p ∉ new := by simp [leavingCores, new]
    refine ⟨_, execContextShrunk_shrinks hn hg hst fun p hp => (hleave.1 hp).elim (hi p), ?_⟩
    rw [slotOf_modSlot_same, slotOf_foldl_startScrub]
    exact ⟨rfl, rfl, fun p hp hout => ctx_foldl_startScrub (hleave.2 ⟨hp, hout⟩) s⟩
  · rw [slotOf_modSlot_same]
    exact ⟨rfl, fun p hp => ctx_foldl_startScrub hp s⟩
  · refine ⟨_, execContextDestroyed_frees hn hg hst (fun p hp => (hi p hp).2) hq hj hk fun p hp => (hi p hp).1, ?_⟩
    rw [slotOf_unbind, slotOf_modSlot_same]
    exact ⟨rfl, rfl, rfl, rfl, rfl⟩
  · rw [core_foldl_resetThread, core_modCore_same]
    exact ⟨rfl, byte_scrubbed _, fun i hi => thread_foldl_resetThread site (List.mem_range.2 hi) _⟩

end Sys2Proof.Machine
end

section
/-! ### Boot, the flood, reset and attestation (O42) -/

namespace Sys2Proof.Machine

namespace State

section
variable {s t : State} (h : t.still = s.still)
include h

theorem boot_of_still : t.boot = s.boot := (congrArg State.boot h :)
theorem dies_of_still : t.dies = s.dies := (congrArg State.dies h :)

end

theorem core_modDie (s : State) (d : Nat) (f : Die → Die) (c : Nat) : (s.modDie d f).core c = s.core c := rfl

/-! #### STAGE and the release (R385 to R387) -/

/-- Bytes written from the first one on stand over what STAGE held (log 83). -/
theorem getD_stageWrite {s : State} (hw : s.boot.st = .wait) (data : List Byte) {i : Nat} (hi : i < 16512) :
    (s.stageWrite 0 data).boot.stage.getD i 0 = if i < data.length then data.getD i 0 else s.boot.stage.getD i 0 := by
  simp only [stageWrite, hw, Nat.not_lt_zero, if_false, Nat.sub_zero, Nat.zero_add]
  by_cases hin : i < min 16512 (max s.boot.stage.length data.length)
  · rw [List.getD_eq_getElem?_getD, List.getElem?_map, List.getElem?_range hin, Option.map_some, Option.getD_some]
    by_cases hd : i < data.length
    · rw [if_pos hd, List.getElem?_eq_getElem hd, Option.getD_some, List.getD_eq_getElem _ _ hd]
    · rw [if_neg hd, List.getElem?_eq_none (Nat.not_lt.1 hd), Option.getD_none]
  · have hout : s.boot.stage.length ≤ i ∧ data.length ≤ i := by omega
    rw [if_neg (Nat.not_lt.2 hout.2), List.getD_eq_default _ _ hout.1, List.getD_eq_default]
    rw [List.length_map, List.length_range]
    exact Nat.not_lt.1 hin

/-- The flood changes the die, and what is on its way (R309). -/
theorem still_flood (s : State) (d : Nat) : (s.flood d).still = (s.modDie d fun x => { x with floodAt := some s.time }).still :=
  still_foldl (fun _ _ => still_send ..) _ _
theorem core_flood (s : State) (d c : Nat) : (s.flood d).core c = s.core c := core_of_still (still_flood s d) c
theorem boot_flood (s : State) (d : Nat) : (s.flood d).boot = s.boot := (boot_of_still (still_flood s d) :)

/-- A corner takes n bytes of the image, and its die is flooded (R309, R387). -/
def startDie (a n v : Nat) (s : State) (d : Nat) : State :=
  (s.modCore (corner d) fun c => { c with mem := { c.mem with bytes := c.mem.bytes.store a n v } }).flood d

section
variable (a n v : Nat)

theorem core_startDie (s : State) (d c : Nat) : (startDie a n v s d).core c =
    if c = corner d then { s.core (corner d) with mem := { (s.core (corner d)).mem with bytes := (s.core (corner d)).mem.bytes.store a n v } } else s.core c := by
  rw [startDie, core_flood, core_modCore]
theorem boot_startDie (s : State) (d : Nat) : (startDie a n v s d).boot = s.boot := boot_flood _ d
/-- A corner whose die has been started holds the bytes. -/
theorem load_foldl_startDie {l : List Nat} {d : Nat} (hd : d ∈ l) (s : State) :
    ((l.foldl (startDie a n v) s).core (corner d)).mem.bytes.load a n = v % 256 ^ n := by
  refine foldl_reaches (P := fun d u => (State.core u (corner d)).mem.bytes.load a n = v % 256 ^ n) (fun u d => ?_) (fun u d e h => ?_) (.inl hd)
  · rw [core_startDie, if_pos rfl]
    exact Memory.load_store ..
  · rw [core_startDie]
    split
    · exact Memory.load_store ..
    · exact h

end

/-- The package once its image has passed, before the corners start (R387). -/
def verified (s : State) : State :=
  { s.diesReset with boot := { s.boot with
      st := .running, code := 0, svn := BitVec.ofNat 16 (bytesNat (stageBytes s.boot.stage 4 2))
      meas := Config.sha512 (bytesOf 0 64 ++ bytesOf (Config.sha512 (stageBytes s.boot.stage 0 128 ++ stageBytes s.boot.stage 128 16384)).toNat 64) } }

theorem release_eq (s : State) : s.release =
    (List.range 4).foldl (startDie 0x10000 16384 (bytesNat (stageBytes s.boot.stage 128 16384))) s.verified := rfl
theorem boot_release (s : State) : s.release.boot = s.verified.boot := by
  rw [release_eq]
  exact foldl_keeps State.boot (boot_startDie _ _ _) _ _
theorem load_release (s : State) {d : Nat} (hd : d < 4) : (s.release.core (corner d)).mem.bytes.load 0x10000 16384 =
    bytesNat (stageBytes s.boot.stage 128 16384) % 256 ^ 16384 := by
  rw [release_eq]
  exact load_foldl_startDie _ _ _ (List.mem_range.2 hd) _

/-! #### The flood (R309, R310) -/

theorem absorbed_absorb {s : State} {d i : Nat} (hi : i ∉ (s.die d).absorbed) : ((s.absorb d i false).die d).absorbed = (s.die d).absorbed ++ [i] ∧
    ((s.absorb d i false).die d).good = (s.die d).good := by
  have hc : ¬(s.die d).absorbed.contains i = true := mt List.contains_iff_mem.1 hi
  rw [absorb, die_modDie_same, if_neg hc]
  exact ⟨rfl, rfl⟩

/-! #### The L2P map (R311) -/

/-- A write of the map is in force in its writer's router, where earlier ones of the same entry are not any more. -/
theorem l2pArrive_last (l : List L2pUpd) (u : L2pUpd) (router : Nat) : l2pArrive (l ++ [u]) l.length router =
    (l.map fun o => if o.idx = u.idx then { o with held := o.held.filter fun r => r != router } else o) ++
      [{ u with got := u.got ++ [router], held := u.held ++ [router] }] := by
  have hidx : ((l ++ [u])[l.length]?.map fun o => o.idx).getD 4096 = u.idx := by
    rw [List.getElem?_concat_length]
    rfl
  rw [l2pArrive, hidx, List.mapIdx_append]
  refine congrArg₂ (· ++ ·) (List.ext_getElem (by simp) fun n h1 h2 => ?_) ?_
  · rw [List.getElem_mapIdx, List.getElem_map, if_neg]
    rw [List.length_mapIdx] at h1
    exact Nat.ne_of_lt h1
  · simp

/-- One write on its way either stays on its way or joins the map. -/
theorem l2pMerge_one (m : Map (BitVec 13)) {u : L2pUpd} (h : u.held ≠ []) :
    l2pMerge m [u] = { base := m, upd := [u] } ∨ l2pMerge m [u] = { base := Map.put m u.idx u.val, upd := [] } := by
  simp only [l2pMerge, if_neg h]
  split
  · exact .inl rfl
  · split
    · exact .inr rfl
    · exact .inl rfl

/-- One write on its way that reaches a router is in force there (R311). -/
theorem l2pAt_arrived {s : State} {e : L2pUpd} {router : Nat} (hu : s.l2p.upd = [e]) :
    ({ s with l2p := l2pMerge s.l2p.base (l2pArrive s.l2p.upd 0 router) } : State).l2pAt router e.idx = e.val := by
  have harr : l2pArrive s.l2p.upd 0 router = [{ e with got := e.got ++ [router], held := e.held ++ [router] }] := by
    rw [hu]
    exact l2pArrive_last [] e router
  have hheld : ({ e with got := e.got ++ [router], held := e.held ++ [router] } : L2pUpd).held ≠ [] := by simp
  rw [l2pAt, harr]
  rcases l2pMerge_one s.l2p.base hheld with h | h
  · simp [h]
  · simp only [h, List.find?_nil]
    exact Map.get_put_same ..

/-- A write of L2PDATA moves the index on, and sends the entry on its way from the writer's router (R311). -/
theorem l2pWrite_upd (s : State) (site : Nat) (v : Word) : ((s.l2pWrite site v).core site).sel.l2pidx = (s.core site).sel.l2pidx + 1 ∧
    (s.l2pWrite site v).l2p.base = s.l2p.base ∧ (s.l2pWrite site v).l2p.upd =
      if (s.core site).sel.l2pidx.toNat < 4000 then
        (s.l2p.upd.map fun u => if u.idx = (s.core site).sel.l2pidx.toNat then { u with held := u.held.filter fun r => r != site } else u) ++
          [{ writer := site, idx := (s.core site).sel.l2pidx.toNat, val := v.setWidth 13, got := [site], held := [site] }]
      else s.l2p.upd := by
  have hcore : (s.modCore site fun c => { c with sel := { c.sel with l2pidx := (s.core site).sel.l2pidx + 1 } }).core site =
      { s.core site with sel := { (s.core site).sel with l2pidx := (s.core site).sel.l2pidx + 1 } } := core_modCore_same ..
  rw [l2pWrite]
  by_cases h : (s.core site).sel.l2pidx.toNat < 4000
  · simp only [if_neg (Nat.not_le.2 h), if_pos h]
    exact ⟨congrArg (fun c : Core => c.sel.l2pidx) hcore, rfl, l2pArrive_last ..⟩
  · simp only [if_pos (Nat.not_lt.1 h), if_neg h]
    exact ⟨congrArg (fun c : Core => c.sel.l2pidx) hcore, rfl, rfl⟩

theorem site_l2pWrite (s : State) (site : Nat) (v : Word) : (s.l2pWrite site v).site = s.site := by
  rw [l2pWrite]
  dsimp only
  split <;> rfl

/-! #### Measurement (R388) -/

theorem meas_measx_last (s : State) (site : Nat) (v : Word) : (s.measx site 7 v).boot.meas = Config.sha512 (bytesOf s.boot.meas.toNat 64 ++
    bytesOf (fieldsAt 0 8 (((s.core site).sel.meas.set 7 v).toList.map fun w => w.toNat)) 64) := by
  have hset : (s.core site).sel.meas.setIfInBounds 7 v = (s.core site).sel.meas.set 7 v :=
    Vector.ext fun i hi => by rw [Vector.getElem_setIfInBounds, Vector.getElem_set]
  simp only [measx, hset, if_true]
  rfl

end State

open State

section
variable {s : State} {k : Nat} {m : Msg}

/-- A router answers DISCOVER by its site (R309). -/
theorem execDiscover_answers {site : Nat} (hd : s.deliver k = some m) (ht : m.typ = MT.discover) (hc : m.cls = .req) (hs : m.dest = .router site) :
    execDiscover k s = .next ((s.dropMsg k).reply m (if s.active site = true ∧ site ∉ s.failedTest then 0 else 2)) := by
  simp only [execDiscover, request_of hd ht (by rw [hc]; decide) (by rw [hs]; rfl), hs, Bool.and_eq_true, Bool.not_eq_true', List.contains_eq_mem,
    decide_eq_false_iff_not]
theorem isFlood_of (ht : m.typ = MT.ack ∨ m.typ = MT.nack) (hw : m.w[4] = MT.discover.setWidth 64) : m.isFlood = true := by
  rw [Msg.isFlood, hw]
  rcases ht with ht | ht
  · rw [ht]
    rfl
  · rw [ht]
    rfl
theorem execDiscoverAnswer_absorbs {c p : Nat} (hd : s.deliver k = some m) (hf : m.isFlood = true) (hs : m.dest = .router c) (hp : m.frm = .router p) :
    execDiscoverAnswer k s = .next ((s.dropMsg k).absorb (dieOf c) (dieIndex p) (m.typ == MT.ack)) := by
  simp only [execDiscoverAnswer, hd, hf, hs, hp]

variable {d : Nat} (hd : d < 4)
include hd

theorem execSilentRouter_absorbs {site : Nat} {t0 : Word} (hf : (s.die d).floodAt = some t0) (hdue : t0 + 4096 ≤ s.time) (hdie : dieOf site = d)
    (hi : dieIndex site ≠ 0) (ha : dieIndex site ∉ (s.die d).absorbed) : ∃ t, execSilentRouter d site s = .next t ∧
      t.dies = (s.absorb d (dieIndex site) false).dies := by
  have hgo : t0 + 4096 ≤ s.time ∧ dieOf site = d % 4 ∧ dieIndex site ≠ 0 ∧ (s.die d).absorbed.contains (dieIndex site) = false :=
    ⟨hdue, hdie.trans (Nat.mod_eq_of_lt hd).symm, hi, Bool.eq_false_of_not_eq_true (mt List.contains_iff_mem.1 ha)⟩
  simp only [execSilentRouter, hf]
  exact ⟨_, if_pos hgo, dies_of_still (still_record ..)⟩
/-- The site map is written and the corner's thread 0 starts (R308 to R310). -/
theorem execFloodEnd_starts (hr : s.boot.st = .running) (hf : (s.die d).floodDone = false) (hl : (s.die d).absorbed.length = 1023) :
    ∃ t, execFloodEnd d s = .next t ∧ (t.die d).floodDone = true ∧
      (t.core (corner d)).mem.bytes = (s.core (corner d)).mem.bytes.store 0x2000 128 (siteMap (s.die d)) ∧
      (t.thread (4 * corner d)).running = true ∧ (t.thread (4 * corner d)).sup = true ∧ (t.thread (4 * corner d)).pc = 0 := by
  rw [execFloodEnd, Nat.mod_eq_of_lt hd]
  refine ⟨_, if_pos ⟨hr, hf, hl⟩, ?_, ?_, ?_⟩
  · rw [die_congr (modThread_dies ..), die_congr (modCore_dies ..), die_modDie_same]
  · rw [core_modThread, core_modCore_same, core_modDie]
  · rw [thread_modThread_same]
    exact ⟨rfl, rfl, rfl⟩

end

theorem execBootctlGo_stages {s : State} (hw : s.boot.st = .wait) (image : List Byte) : execBootctlGo image s =
    .next { s.stageWrite 0 image with boot := { (s.stageWrite 0 image).boot with st := .checking } } := by
  simp only [execBootctlGo, hw]
theorem execImageVerification_checking {s : State} (hc : s.boot.st = .checking) : execImageVerification s =
    if imageCode s.boot.stage = 0 then .next s.release
    else .next { s with boot := { s.boot with st := .failed, code := imageCode s.boot.stage } } := by
  simp only [execImageVerification, hc]
theorem execL2pUpdate_arrives {s : State} {e : L2pUpd} {router : Nat} (hu : s.l2p.upd = [e]) (hr : router < 4096) (hg : router ∉ e.got) :
    execL2pUpdate 0 router s = .next { s with l2p := l2pMerge s.l2p.base (l2pArrive s.l2p.upd 0 router) } := by
  have hgo : ¬(4096 ≤ router ∨ e.got.contains router = true ∨ (s.l2p.upd.take 0).any (fun o => o.writer == e.writer && !o.got.contains router) = true) := by
    rintro (h | h | h)
    · exact Nat.not_le.2 hr h
    · exact hg (List.contains_iff_mem.1 h)
    · exact Bool.false_ne_true h
  have hfirst : s.l2p.upd[0]? = some e := by
    rw [hu]
    rfl
  simp only [execL2pUpdate, hfirst]
  exact if_neg hgo
theorem execAttestationReport_reports {s : State} {nonce : BitVec 512} (hp : s.boot.pending = some nonce) :
    execAttestationReport s = .next { s with boot := { s.boot with attrep := s.report nonce, pending := none } } := by
  simp only [execAttestationReport, hp]

/-- Settles O42: each event of the boot by what it writes. -/
theorem bootEvents : Obligations.BootEvents := by
  intro s k d m image v nonce hd c
  refine ⟨fun hw => ⟨_, execBootctlGo_stages hw image, rfl, fun i hi => getD_stageWrite hw image hi⟩, fun hc hcode => ?_, fun hc hcode => ?_,
    fun site hdel ht hcls hs => execDiscover_answers hdel ht hcls hs,
    fun p hdel ht hw hs hp => execDiscoverAnswer_absorbs hdel (isFlood_of ht hw) hs hp, fun t0 site hf hdue hdie hi ha => ?_, fun hr hf hl => ?_,
    ⟨_, rfl, ?_⟩, fun e router hu hrouter hgot => ?_, ⟨_, rfl, meas_measx_last s s.site v⟩, ⟨_, rfl, rfl, rfl⟩, fun hp => ?_,
    fun e he => ?_, fun f n h0 hf hn => ?_, fun f off hn => if_pos hn⟩
  · exact ⟨_, (execImageVerification_checking hc).trans (if_neg hcode), rfl, rfl⟩
  · refine ⟨_, (execImageVerification_checking hc).trans (if_pos hcode), ?_, ?_, ?_⟩
    · rw [boot_release]
      rfl
    · rw [boot_release]
      rfl
    · rw [load_release s hd]
  · obtain ⟨t, ht, hdies⟩ := execSilentRouter_absorbs hd hf hdue hdie hi ha
    obtain ⟨habs, hgood⟩ := absorbed_absorb ha
    exact ⟨t, ht, (congrArg Die.absorbed (die_congr hdies d)).trans habs, (congrArg Die.good (die_congr hdies d)).trans hgood⟩
  · obtain ⟨t, ht, hdone, hmem, hthr⟩ := execFloodEnd_starts hd hr hf hl
    refine ⟨t, ht, hdone, ?_, hthr⟩
    rw [hmem]
    exact Memory.load_store ..
  · rw [myCore, site_l2pWrite]
    exact l2pWrite_upd s s.site v
  · exact ⟨_, execL2pUpdate_arrives hu hrouter hgot, l2pAt_arrived hu⟩
  · refine ⟨_, execAttestationReport_reports hp, rfl, rfl⟩
  · refine ⟨s.packageReset, ?_, rfl, rfl, rfl, rfl, rfl, rfl, rfl, rfl⟩
    rcases he with rfl | rfl | rfl
    · exact exec_packageReset s
    · exact exec_overtemperature s
    · exact exec_functionLevelReset 0 s
  · rw [exec_functionLevelReset, execFunctionLevelReset, if_neg h0.ne', if_neg (Nat.not_lt.2 hf), hn]

end Sys2Proof.Machine
end

section
/-! ### Ports, lanes, link flits, routes and remaps (O45) -/

namespace Sys2Proof.Machine

/-! #### What the operations of a port leave alone -/

namespace Port

section
variable {α : Type} {g : Port → α} (hg : ∀ (now : Word) (p : Port), g (p.sendOne now) = g p) (now : Word)
include hg

/-- What one flit sent leaves alone, sending all that waits leaves alone. -/
theorem pump_keeps (n : Nat) (p : Port) : g (p.pump now n) = g p := by
  induction n generalizing p with
  | zero => rfl
  | succ n ih =>
    rw [pump]
    split
    · exact (ih _).trans (hg now p)
    · rfl
theorem flush_keeps (p : Port) : g (p.flush now) = g p := pump_keeps hg now 128 p

end

@[simp] theorem expect_flush (now : Word) (p : Port) : (p.flush now).expect = p.expect := flush_keeps (g := Port.expect) (fun _ _ => rfl) now p
@[simp] theorem expect_acked (now : Word) (a : BitVec 16) (p : Port) : (p.acked now a).expect = p.expect := by
  unfold acked
  split <;> rfl
/-- The lanes that work, that have failed, and that are turned. -/
def lanes (p : Port) : BitVec 8 × BitVec 8 × BitVec 8 := (p.work, p.fail, p.turning)
@[simp] theorem lanes_flush (now : Word) (p : Port) : (p.flush now).lanes = p.lanes := flush_keeps (g := lanes) (fun _ _ => rfl) now p

/-- A training sequence at a port: the first one fixes the peer and the directions, each makes its lane draw again (R341). -/
def hears (node : BitVec 11) (l : Nat) (seq : TrainSeq) (due : Word) (q : Port) : Port :=
  if q.heard then { q with draws := Map.put q.draws l due }
  else
    let q1 := { q with peer := seq.node, peerEn := seq.en, heard := true, draws := Map.put q.draws l due, turning := q.turning &&& seq.en }
    { q1 with dir := if node.toNat < seq.node.toNat then q1.dir else q1.follow seq.dir }.settle

section
variable (node : BitVec 11) (l : Nat) (seq : TrainSeq) (due : Word) {q : Port}

theorem hears_first (h : q.heard = false) : (q.hears node l seq due).heard = true ∧ (q.hears node l seq due).agreed = q.agreed ∧
    (q.hears node l seq due).peer = seq.node ∧
    (q.hears node l seq due).dir = if node.toNat < seq.node.toNat then q.dir else ~~~seq.dir &&& q.en &&& seq.en := by
  rw [hears, if_neg (ne_true_of_eq_false h)]
  exact ⟨rfl, rfl, rfl, rfl⟩
theorem hears_later (h : q.heard = true) : q.hears node l seq due = { q with draws := Map.put q.draws l due } := if_pos h

end

/-- A lane has trained, or has failed (R342). -/
def laneEnds (b : BitVec 8) (good : Bool) (q : Port) : Port :=
  if good then { q with work := q.work ||| b, fail := q.fail &&& ~~~b } else { q with work := q.work &&& ~~~b, fail := q.fail ||| b }
/-- A lane is no longer turned. -/
def unturned (b : BitVec 8) (q : Port) : Port :=
  { q with turning := q.turning &&& ~~~b, first := q.first &&& ~~~b, carried := if q.turning = b then [] else q.carried }

theorem lanes_laneEnds (b : BitVec 8) (good : Bool) (q : Port) : ((q.unturned b).laneEnds b good).settle.lanes =
    if good then (q.work ||| b, q.fail &&& ~~~b, q.turning &&& ~~~b) else (q.work &&& ~~~b, q.fail ||| b, q.turning &&& ~~~b) := by
  cases good <;> rfl

section
variable {l : Nat} (hl : l < 8)
include hl

theorem getLsbD_lane : (1#8 <<< l).getLsbD l = true := by
  simp [hl]
theorem and_lane_ne_zero {b : BitVec 8} (hb : b.getLsbD l = true) : b &&& (1#8 <<< l) ≠ 0 := fun h => by
  have hbit := congrArg (BitVec.getLsbD · l) h
  rw [BitVec.getLsbD_and, hb, getLsbD_lane hl] at hbit
  simp at hbit
/-- The lane's own bit, once it has ended. -/
theorem lanes_end_at {p q : Port} {good : Bool} (h : p.lanes = ((q.unturned (1#8 <<< l)).laneEnds (1#8 <<< l) good).settle.lanes) :
    p.work.getLsbD l = good ∧ p.fail.getLsbD l = !good ∧ p.turning.getLsbD l = false := by
  have hlane := getLsbD_lane hl
  rw [lanes_laneEnds] at h
  cases good with
  | true =>
    obtain ⟨hwork, hfail, hturn⟩ : p.work = q.work ||| 1#8 <<< l ∧ p.fail = q.fail &&& ~~~(1#8 <<< l) ∧ p.turning = q.turning &&& ~~~(1#8 <<< l) := by
      simpa [lanes] using h
    rw [hwork, hfail, hturn, BitVec.getLsbD_or, BitVec.getLsbD_and, BitVec.getLsbD_and, BitVec.getLsbD_not, hlane]
    simp
  | false =>
    obtain ⟨hwork, hfail, hturn⟩ : p.work = q.work &&& ~~~(1#8 <<< l) ∧ p.fail = q.fail ||| 1#8 <<< l ∧ p.turning = q.turning &&& ~~~(1#8 <<< l) := by
      simpa [lanes] using h
    rw [hwork, hfail, hturn, BitVec.getLsbD_or, BitVec.getLsbD_and, BitVec.getLsbD_and, BitVec.getLsbD_not, hlane]
    simp

end

theorem st_stop (q : Port) : q.stop.st = .down := by
  simp [stop, settle]

end Port

namespace State

@[simp] theorem port_modPort_same (s : State) (p : Nat) (f : Port → Port) : (s.modPort p f).port p = f (s.port p) := Map.get_put_same ..
theorem port_congr {s t : State} (h : t.ports = s.ports) (p : Nat) : t.port p = s.port p := by rw [port, h, port]
theorem ports_of_quiet {s t : State} (h : t.quiet = s.quiet) : t.ports = s.ports := (congrArg State.ports h :)
theorem port_portRecord (s : State) (q : Nat) (ten : BitVec 12) (p : Nat) : (s.portRecord q ten).port p = s.port p :=
  port_congr (ports_of_quiet (quiet_record ..)) p

section
variable (c : Prop) [Decidable c] (s : State) (p : Nat)

theorem port_ite_portRecord (ten : BitVec 12) : (if c then s else s.portRecord p ten).port p = s.port p := by
  split
  · rfl
  · exact port_portRecord ..
theorem lanes_ite_resend (now : Word) : ((if c then s.modPort p fun x => x.resend now else s).port p).lanes = (s.port p).lanes := by
  split
  · rw [port_modPort_same]
    rfl
  · rfl

end

/-! #### Routes and NODEID (R340, R348) -/

theorem nodeId_of_still {s t : State} (h : t.still = s.still) : t.nodeId = s.nodeId := (congrArg State.nodeId h :)

theorem site_writeRtdata (s : State) (site : Nat) (v : Word) : (s.writeRtdata site v).site = s.site := by
  rw [writeRtdata]
  dsimp only
  split <;> rfl
theorem rtidx_writeRtdata (s : State) (site : Nat) (v : Word) :
    ((s.writeRtdata site v).core site).sel.rtidx = (s.core site).sel.rtidx + 1 := by
  rw [writeRtdata, core_modCore_same]
theorem routes_writeRtdata (s : State) (site : Nat) (v : Word) : (s.writeRtdata site v).routes =
    if (s.core site).sel.rtidx.toNat < 1057 then Map.set (fun _ => 0) s.routes (s.core site).sel.rtidx.toNat (v.setWidth 14) else s.routes := by
  rw [writeRtdata]
  exact apply_ite State.routes ..

section
variable (s : State)

/-! No step of a detour and of the training of a port changes the node. -/

theorem nodeId_portRecord (p : Nat) (ten : BitVec 12) : (s.portRecord p ten).nodeId = s.nodeId := nodeId_of_still (still_record ..)
theorem nodeId_noWay (tag : BitVec 128) (f : BitVec 512) : (s.noWay tag f).nodeId = s.nodeId := by
  unfold noWay
  dsimp only
  split
  · split
    · exact nodeId_of_still (still_unreachable ..)
    · split
      · exact nodeId_of_still (still_unreachable ..)
      · exact nodeId_of_still (still_unreachable ..)
  · split
    · exact nodeId_portRecord ..
    all_goals
      cases hs : s.sendFlits (tagSrc tag) [(slotTag (tagSrc tag) (tagDest tag) 0 .rsp true true, (statusMsg (fromFlits tag f []) 6).firstFlit)] with
      | none => exact nodeId_portRecord ..
      | some t => exact nodeId_of_still (still_sendFlits hs)
theorem nodeId_noPath (tag : BitVec 128) (f : BitVec 512) : (s.noPath tag f).nodeId = s.nodeId := by
  unfold noPath
  split
  · exact nodeId_noWay ..
  · split
    · split
      · exact nodeId_noWay ..
      · rfl
    · rfl
/-- One flit of a DOWN port leaves by a detour, or is answered (R350). -/
def detourFlit (s : State) (e : BitVec 128 × BitVec 512) : State :=
  match s.sendFlits (tagDest e.1) [e] with
  | some v => v
  | none => s.noPath e.1 e.2
theorem nodeId_detourFlit (e : BitVec 128 × BitVec 512) : (s.detourFlit e).nodeId = s.nodeId := by
  unfold detourFlit
  split
  next v hv => exact nodeId_of_still (still_sendFlits hv)
  next => exact nodeId_noPath ..
theorem detour_eq (p : Nat) : s.detour p = (((s.port p).buf.flatMap fun e => Wire.slots e.1) ++ (s.port p).toSend.map fun e => (e.1, e.2.1)).foldl detourFlit
    (s.modPort p Port.emptied) := rfl
theorem nodeId_detour (p : Nat) : (s.detour p).nodeId = s.nodeId := by
  rw [detour_eq]
  exact foldl_keeps State.nodeId nodeId_detourFlit _ _
theorem nodeId_drawLanes (n : Nat) : (s.drawLanes n).2.nodeId = s.nodeId := by
  induction n with
  | zero => rfl
  | succ n ih => exact ih
theorem nodeId_beginTraining (p : Nat) : (s.beginTraining p).nodeId = s.nodeId := by
  rw [beginTraining]
  refine (nodeId_drawLanes (if (s.port p).loaded then s.detour p else s) 8).trans ?_
  split
  · exact nodeId_detour ..
  · rfl
theorem nodeId_writeNodeId (v : Word) : (s.writeNodeId v).nodeId = v.setWidth 11 := by
  rw [writeNodeId]
  refine (foldl_keeps State.nodeId (fun u p => ?_) _ _).trans rfl
  dsimp only
  split
  · split
    · exact nodeId_beginTraining ..
    · rfl
  · split <;> rfl

end

/-! #### Lanes (R340 to R342) -/

section
variable {s : State} {p : Nat} {v : Word}

/-- A port that is switched off stops (R340, R342). -/
theorem writePortctl_stops (hrole : v.extractLsb' 34 2 = 2) (ha : (s.port p).agreed = false) : (s.writePortctl p v).port p =
    ({ s.port p with role := 2, en := v.extractLsb' 8 8, dir := v.extractLsb' 0 8 } : Port).stop := by
  have h3 : ¬(2 : BitVec 2) = 3 := by decide
  simp only [writePortctl, hrole, if_neg h3, ha, Bool.false_eq_true, false_and, if_false, if_true, port_modPort_same]
/-- A write that would leave a direction without a lane is ignored (R342). -/
theorem writePortctl_ignored (ha : (s.port p).agreed = true) (hd : v.extractLsb' 8 8 ≠ (s.port p).en ∨ v.extractLsb' 0 8 ≠ (s.port p).dir)
    (hz : (s.port p).work &&& v.extractLsb' 8 8 &&& v.extractLsb' 0 8 = 0) : s.writePortctl p v = s := by
  rw [writePortctl]
  exact if_pos ⟨ha, hd, .inl hz⟩

end

/-- A port that has taken the expected flit, before it acts on what the flit asks for (R345). -/
def tookFlit (s : State) (p : Nat) (flit : LinkFlit) : State :=
  (s.modPort p fun x => { x with expect := x.expect + 1, nak := false }.acked s.time (Wire.ack flit)).passed
    (((s.port p).covered (Wire.ack flit)).flatMap Wire.slots)
theorem expect_tookFlit (s : State) (p : Nat) (flit : LinkFlit) : ((s.tookFlit p flit).port p).expect = (s.port p).expect + 1 := by
  refine (congrArg Port.expect (port_modPort_same s p fun x => { x with expect := x.expect + 1, nak := false }.acked s.time (Wire.ack flit))).trans ?_
  rw [Port.expect_acked]

end State

open State

section
variable {s : State} {p l : Nat} (hp : p < 36)
include hp

/-- A lane whose silence is over transmits; once the peer has been heard, both ends agree (R341, log 100). -/
theorem execTrainingBackoff_sends {due : Word} (hdraw : Map.find (s.port p).draws l = some due) (ha : (s.port p).agreed = false)
    (ht : (s.port p).turning.getLsbD l = true) (hdue : due ≤ s.time) : ∃ t, execTrainingBackoff p l s = .next t ∧
      Map.find (t.port p).trained l = some ⟨s.nodeId, (s.port p).en, (s.port p).dir⟩ ∧ (t.port p).agreed = (s.port p).heard := by
  have hgo : ¬(36 ≤ p ∨ (s.port p).agreed = true ∨ (s.port p).turning.getLsbD l = false ∨ s.time < due) := by
    simp [Nat.not_le.2 hp, ha, ht]
    exact hdue
  simp only [execTrainingBackoff, hdraw, if_neg hgo]
  refine ⟨_, rfl, ?_⟩
  rw [port_modPort_same]
  exact ⟨Map.find_put_same .., rfl⟩
theorem execTrainingSequence_hears {seq : TrainSeq} (ha : (s.port p).agreed = false) (ht : (s.port p).turning.getLsbD l = true)
    (hn : seq.node.toNat < 1057) : ∃ t due, execTrainingSequence p l seq s = .next t ∧ t.port p = (s.port p).hears s.nodeId l seq due := by
  have hgo : ¬(36 ≤ p ∨ (s.port p).agreed = true ∨ (s.port p).turning.getLsbD l = false ∨ 1057 ≤ seq.node.toNat) := by
    simp [Nat.not_le.2 hp, ha, ht, hn]
  exact ⟨s.drawWord.2.modPort p (Port.hears s.nodeId l seq (s.time + Port.interval s.drawWord.1)), _, if_neg hgo, port_modPort_same ..⟩

/-- A lane that trains ends with the other lanes as they are (R342, R345). -/
theorem execLaneRetrain_ends {good : Bool} (hl : l < 8) (hn : s.nodeId.toNat < 1057) (ha : (s.port p).agreed = true)
    (ht : (s.port p).turning &&& (1#8 <<< l) ≠ 0) (hc : (s.port p).carried = []) : ∃ t, execLaneRetrain p l good s = .next t ∧
      (t.port p).lanes = (((s.port p).unturned (1#8 <<< l)).laneEnds (1#8 <<< l) good).settle.lanes := by
  have hgo : ¬(36 ≤ p ∨ 8 ≤ l ∨ (s.port p).agreed = false ∨ 1057 ≤ s.nodeId.toNat) := by
    simp [Nat.not_le.2 hp, Nat.not_le.2 hl, ha, hn]
  have hfree : ¬((s.port p).carried ≠ [] ∧ (s.port p).tx ≠ 0 ∧ (s.port p).rx ≠ 0) := fun h => h.1 hc
  refine ⟨_, (if_neg hgo).trans ((if_pos ht).trans (if_neg hfree)), ?_⟩
  rw [port_modPort_same, Port.lanes_flush]
  refine (lanes_ite_resend ..).trans ?_
  rw [port_modPort_same, port_ite_portRecord]
  rfl

/-! #### Link flits (R344, R345, R350) -/

section
variable {flit : LinkFlit} (ha : (s.port p).agreed = true) (hrx : (s.port p).rx ≠ 0)
include ha hrx

theorem receives : ¬(36 ≤ p ∨ (s.port p).agreed = false ∨ (s.port p).rx = 0) := by
  simp [Nat.not_le.2 hp, ha]
  exact hrx
theorem execLinkFlit_discards (hbad : Wire.good flit = false ∨ Wire.seq flit ≠ (s.port p).expect) : ∃ t, execLinkFlit p flit s = .next t ∧
    (t.port p).expect = (s.port p).expect ∧ t.net = s.net := by
  refine ⟨_, (if_neg (receives hp ha hrx)).trans (if_pos hbad), ?_, rfl⟩
  rw [port_modPort_same]
  dsimp only
  split <;> rfl

/-- The expected flit, without slots, is accepted (R345). -/
theorem execLinkFlit_accepts (hgood : Wire.good flit = true) (hseq : Wire.seq flit = (s.port p).expect) (hused : Wire.used flit = 0)
    (hnak : Wire.nak flit = false) : ∃ t, execLinkFlit p flit s = .next t ∧ (t.port p).expect = (s.port p).expect + 1 := by
  have hok : ¬(Wire.good flit = false ∨ Wire.seq flit ≠ (s.port p).expect) := not_or.2 ⟨ne_false_of_eq_true hgood, not_not.2 hseq⟩
  have hslots : Wire.slots flit = [] := by
    rw [Wire.slots, hused]
    rfl
  refine ⟨_, (if_neg (receives hp ha hrx)).trans (if_neg hok), ?_⟩
  rw [hslots, hnak, List.foldl_nil, port_modPort_same]
  refine (congrArg Port.expect (if_neg fun h => h.1 hused)).trans ((Port.expect_flush ..).trans ?_)
  let r := s.tookFlit p flit
  have hplain : ((if false = true ∧ (r.port p).st = .up ∧ (r.port p).buf ≠ [] then r.replay p else r).port p).expect = (s.port p).expect + 1 := by
    rw [if_neg fun h => Bool.false_ne_true h.1]
    exact expect_tookFlit s p flit
  cases Wire.turn flit with
  | none => exact hplain
  | some d => exact (congrArg Port.expect (port_modPort_same ..)).trans hplain

end

end

/-! #### Replays, detours and markers (R345, R350, R356) -/

theorem execLinkResendTimeout_replays {s : State} {p : Nat} (hp : p < 36) (hst : (s.port p).st = .up) (hb : (s.port p).buf ≠ [])
    (hdue : (s.port p).progress + 4096 ≤ s.time) : execLinkResendTimeout p s = .next (s.replay p) := by
  refine if_neg ?_
  simp [Nat.not_le.2 hp, hst, hb]
  exact hdue
theorem execPortDown_detours {s : State} {p : Nat} (hp : p < 36) (hst : (s.port p).st = .down)
    (hl : (s.port p).toSend ≠ [] ∨ ∃ e ∈ (s.port p).buf, Wire.used e.1 ≠ 0) : execPortDown p s = .next (s.detour p) := by
  have hloaded : (s.port p).loaded = true := by
    rw [Port.loaded, Bool.or_eq_true]
    rcases hl with h | ⟨e, he, hu⟩
    · left
      simpa using h
    · exact .inr (List.any_eq_true.2 ⟨e, he, decide_eq_true hu⟩)
  exact if_neg (not_or.2 ⟨Nat.not_le.2 hp, not_or.2 ⟨not_not.2 hst, ne_false_of_eq_true hloaded⟩⟩)

/-- A marker that nothing of its source comes before any more is counted (R356). -/
theorem execMarker_counts {s : State} {k : Nat} {m : Msg} (hdel : s.deliver k = some m) (ht : m.typ = MT.marker) (hdest : m.dest = .gate)
    (hr : s.mustRefuse m = false) (hc : s.stillComing m = false) :
    let u := (s.dropMsg k).acceptMsg m
    let t := u.tmap m.tenant
    let lost := Map.find (State.oldVer t) (m.spec.toNat % 2048) == some u.nodeId
    let mk := ((Map.find (State.oldVer t) m.src.dev.toNat).getD 0x7FF, State.drains m lost, m.spec.toNat % 2048)
    execMarker k s = .next (if t.st = .stable then u
      else ((u.modMaps m.tenant fun x => { x with got := x.got ++ [mk] }).releaseHeld m.tenant 0).settleMaps m.tenant) := by
  have hgo : ¬(m.typ ≠ MT.marker ∨ m.dest ≠ .gate) := not_or.2 ⟨not_not.2 ht, not_not.2 hdest⟩
  simp only [execMarker, hdel, if_neg hgo, hr, hc, Bool.false_eq_true, if_false]
  exact (apply_ite Host.Outcome.next ..).symm

/-- Settles O45: a port after each event by its own fields, the node by the steps of a detour and of training. -/
theorem linkEvents : Obligations.LinkEvents := by
  intro s k p l m v seq good flit hp q
  refine ⟨⟨_, rfl, ?_, fun hi => ?_, fun j hj => ?_⟩, ⟨_, rfl, nodeId_writeNodeId s v⟩, fun hrole ha => ⟨_, if_pos hp, ?_⟩, fun ha hd hz => ?_,
    fun due hdraw ha ht hdue => execTrainingBackoff_sends hp hdraw ha ht hdue, fun ha hh ht hn => ?_, fun ha hh ht hn => ?_, fun hl hn ha ht hc => ?_,
    fun ha hrx hbad => execLinkFlit_discards hp ha hrx hbad, fun ha hrx hgood hseq hused hnak => execLinkFlit_accepts hp ha hrx hgood hseq hused hnak,
    fun hst hb hdue => execLinkResendTimeout_replays hp hst hb hdue, fun hst hl => execPortDown_detours hp hst hl, fun hdel ht hdest hr hc => ?_⟩
  · rw [myCore, site_writeRtdata]
    exact rtidx_writeRtdata ..
  · rw [routes_writeRtdata]
    exact (congrArg (fun r => Map.get (fun _ => 0) r _) (if_pos hi)).trans (Map.get_set_same ..)
  · rw [routes_writeRtdata]
    split
    · exact Map.get_set_ne _ _ _ hj
    · rfl
  · rw [writePortctl_stops hrole ha]
    exact ⟨Port.st_stop _, rfl, rfl, rfl⟩
  · exact (if_pos hp).trans (congrArg Host.Outcome.next (writePortctl_ignored ha hd hz))
  · obtain ⟨t, due, hx, hport⟩ := execTrainingSequence_hears hp ha ht hn
    obtain ⟨hheard, hagreed, hpeer, hdir⟩ := Port.hears_first s.nodeId l seq due hh
    rw [← hport] at hheard hagreed hpeer hdir
    exact ⟨t, hx, hheard, hagreed.trans ha, hpeer, hdir⟩
  · obtain ⟨t, due, hx, hport⟩ := execTrainingSequence_hears hp ha ht hn
    refine ⟨t, hx, ?_⟩
    rw [hport, Port.hears_later _ _ _ _ hh]
    exact ⟨rfl, rfl, due, Map.find_put_same ..⟩
  · obtain ⟨t, hx, hlanes⟩ := execLaneRetrain_ends (good := good) hp hl hn ha (Port.and_lane_ne_zero hl ht) hc
    obtain ⟨hwork, hfail, hturn⟩ := Port.lanes_end_at hl hlanes
    exact ⟨t, hx, hwork, hfail, hturn⟩
  · exact execMarker_counts hdel ht hdest hr hc

end Sys2Proof.Machine
end
